-- ==== Sys2Proof/Word.lean ====
section
/-! DEFINITION. The word types: what the engine's registers, payload bytes and memory cells are made of. -/

namespace Sys2Proof

/-- One byte of a payload, a sheet or a memory. Every multi-byte value is little-endian (R6). -/
abbrev Byte := BitVec 8

/-- A 32-bit register word. -/
abbrev Word := BitVec 32

/-- A binary32 value as the pins and Ligature carry it, by its bits (R272). -/
abbrev F32 := BitVec 32

/-- A run of bytes, lowest address first. -/
abbrev Bytes := List Byte

end Sys2Proof
end

