-- ==== Sys2Proof/Types.lean ====
section
/-! DEFINITION. The operand types of the commands: variants, transports, requests and the records that
packets, frames and events carry. They are here so that Syntax.lean holds the one inductive Instr. -/

namespace Sys2Proof

/-- The three production variants (R1, R2). -/
inductive Variant where
  | zl9600 | zl9400 | zl9200
  deriving DecidableEq, Repr

/-- The host transports of an access (R170). -/
inductive Via where
  | pcie | hspi
  deriving DecidableEq, Repr

/-- One Sprinile request as Scribe takes it (chapter 06, request slot): the header fields, the inline
payload and, on a session, the sheet bytes that came in the frame. `length` and `sheetLen` are the
header's LENGTH and SHEET_LEN; `payload` holds the inline bytes. `rsv` gathers the reserved header
bytes 12 to 15 and 24 to 31. -/
structure Request where
  client   : Nat
  seq      : Nat
  flags    : Nat := 0
  length   : Nat := 0
  sheet    : Nat := 0
  sheetLen : Nat := 0
  rsv12    : Nat := 0
  applySsi : Nat := 0
  rsv24    : Nat := 0
  payload  : Bytes := []
  netSheet : Bytes := []
  deriving DecidableEq, Repr

/-- The head of a request that waits in a request ring: what the Inkwell hardware echoes in NOT_READY. `misfit` is the engine's own mark
on a session's frame whose SIZE or SHEET is not what R198 asks for. -/
structure Head where
  opcode   : Nat := 0
  seq      : Nat := 0
  sheet    : Nat := 0
  sheetLen : Nat := 0
  misfit   : Bool := false
  deriving DecidableEq, Repr

/-- A PTP dataset as Announce carries it (R417, R418), with currentUtcOffset and whether it is marked valid, and timeSource. -/
structure PtpData where
  prio1 : Nat := 128
  cls   : Nat := 248
  acc   : Nat := 0xFE
  prio2 : Nat := 128
  gmId  : Nat := 0
  steps : Nat := 0
  utc      : Nat := 37
  utcValid : Bool := false
  source   : Nat := 0xA0
  deriving DecidableEq, Repr

/-- A received Ethernet frame as the admission filter sees it (R411, R415): its length, whether its FCS is right, the VIDs of
its tags, its EtherType and its destination and source MAC, the IPv4 fields (with `frag` for a fragment; of an ARP message the sender's and
the target's address), the UDP or TCP port, the ICMP or IGMP type (of an ARP message its operation), and the bytes after the UDP header, after
the IPv4 header of an IGMP message, or after the EtherType of another frame. -/
structure Frame where
  port  : Nat
  len   : Nat := 64
  fcs   : Bool := true
  tags  : List Nat := []
  ether : Nat := 0x0800
  mac   : Nat := 0
  smac  : Nat := 0
  proto : Nat := 17
  frag  : Bool := false
  src   : Nat := 0
  dst   : Nat := 0
  udp   : Nat := 0
  icmp  : Nat := 0
  data  : Bytes := []
  deriving DecidableEq, Repr

/-- A stream packet that the filter has admitted (R423 to R442): the stream, the port that received it, its destination
and UDP port, its arrival in ns after the present sample's grid instant, the RTP header's version, payload type, sequence
number and timestamp, its header extension (profile, length in words, bytes), whether the extension overruns the packet,
and the payload. -/
structure MediaPacket where
  stream  : Nat
  port    : Nat
  dst     : Nat
  udp     : Nat
  ns      : Nat := 0
  ver     : Nat := 2
  pt      : Nat
  seq     : Nat
  ts      : Nat
  ext     : Option (Nat × Nat × Bytes) := none
  over_   : Bool := false
  payload : Bytes := []
  deriving DecidableEq, Repr

/-- A PTP message with what the port's hardware measured (R416, R417): `kind` is 0 Sync (with its Follow_Up), 1 Announce, 2
Delay_Req, 3 any other. A Sync gives the offset and mean path in ps, and the frequency offset in ppb and build-out in ps
that Baseline takes. -/
structure PtpMsg where
  port   : Nat
  kind   : Nat
  domain : Nat
  iface  : Nat := 0
  data   : PtpData := {}
  offset : Int := 0
  path   : Nat := 0
  fofs   : Int := 0
  build  : Int := 0
  dev    : Int := 0
  deriving DecidableEq, Repr

/-- What ts-refclk of an SDP names: a PTP grandmaster with its domain, or the sender's own MAC (R421). -/
inductive RefClk where
  | ptp (gmId domain : Nat)
  | localMac (mac : Nat)
  deriving DecidableEq, Repr

/-- One m-line of an SDP with the attributes that R421 names: destination and port, payload type, encoding (0 L16, 1 L24), sample rate in
Hz, channels, ptime in µs, ts-refclk, and the N of mediaclk:direct=N where it has one. -/
structure SdpLeg where
  dst      : Nat
  udp      : Nat
  pt       : Nat
  enc      : Nat
  rate     : Nat
  channels : Nat
  ptime    : Nat
  refClk   : RefClk
  mediaClk : Option Nat
  deriving DecidableEq, Repr

/-- An SDP: its m-lines, two of them under a=group:DUP (R421). -/
structure Sdp where
  legs : List SdpLeg
  dup  : Bool
  deriving DecidableEq, Repr

/-- The parameters of an IS-05 activation: the stream entry, and the SDP that a receiver is given (R421, R446). -/
structure Is05Params where
  entry : Bytes
  sdp   : Option Sdp := none
  deriving DecidableEq, Repr

/-- A pin of the boundary register that the engine can drive (R613, R690): the clocks and data of a Serif port, the host lines, a
pulse output (0 WCLK_OUT, 1 PPS_OUT, 2 FRAME_OUT, 3 LTC_OUT), a GPIO, HUSH_OUT, TWIN_CLAIM_OUT and XMIn_RESET_N. -/
inductive Pin where
  | serClock (n : Nat)
  | serSdo (n : Nat)
  | hspiIrqN
  | wakeN
  | pulse (m : Nat)
  | gpio (n : Nat)
  | hushOut
  | claimOut
  | xmiResetN (n : Nat)
  deriving DecidableEq, Repr

/-- How a pin is driven: not at all, at a level, or with the data of its unit. -/
inductive PinDrive where
  | highZ
  | level (high : Bool)
  | data
  deriving DecidableEq, Repr

/-- The boundary-scan instruction that is loaded: one of the three that hand the pins over (R613), or another. -/
inductive JtagInstr where
  | other
  | extest
  | clamp
  | highz
  deriving DecidableEq, Repr

/-- A boundary-scan instruction loaded over JTAG, and what its boundary register drives (R613). -/
structure JtagLoad where
  instr : JtagInstr
  cells : List (Pin × PinDrive) := []
  deriving DecidableEq, Repr

/-- The end of a class A dispatch: `whole` says that it is the last of its period, and `t` is then the completion time in NIB_CLK cycles
from the start of the period's window (R260, R263). -/
structure DispatchEnd where
  whole : Bool := true
  t     : Nat
  deriving DecidableEq, Repr

/-- What a run of one Copybook test came to (R620, R621): the failing words or instances, the signature of a logic test, and
the fail records that a DIAGNOSE run lists, 16 bytes each. -/
structure CbOutcome where
  test    : Nat
  fails   : Nat := 0
  sig     : Nat := 0
  records : List Bytes := []
  deriving DecidableEq, Repr

/-- What the partner's HELLO says of it (R476): whether its signature is right, and the facts that pairing compares. -/
structure TwinPeer where
  keyHash : Nat := 0
  sigOk   : Bool := false
  pair    : Nat := 0
  unit    : Nat := 0
  claim   : Nat := 0
  aligned : Bool := false
  gm      : Nat := 0
  family  : Nat := 0
  mult    : Nat := 1
  sw      : Nat := 1
  patch   : Nat := 1
  part    : Nat := 0
  deriving DecidableEq, Repr

/-- The head of a Twin link frame as it arrives (R480): whether its CRC is right, and its PAIR. -/
structure TwinHead where
  crcOk : Bool := true
  pair  : Nat
  deriving DecidableEq, Repr

/-- A STATUS frame (R480). -/
structure TwinStatus where
  head   : TwinHead
  period : Nat
  digest : Nat
  state  : Nat
  claim  : Nat
  flags  : Nat := 0
  cause  : Nat := 0
  ip     : Nat := 0
  gm     : Nat := 0
  held   : Nat := 0
  deriving DecidableEq, Repr

/-- A JOURNAL frame (R480, R482): the request that it carries, with the outcome's lane. -/
structure TwinEntry where
  head     : TwinHead
  jsn      : Nat
  applySsi : Nat
  client   : Nat
  status   : Nat := 0
  opcode   : Nat
  seq      : Nat := 0
  flags    : Nat := 0
  payload  : Bytes := []
  sheet    : Bytes := []
  lane     : Option Nat := none
  deriving DecidableEq, Repr

/-- A peer's HELLO (R451, R453): its fields, whether the sender is READY, whether its roster holds this engine, whether
another READY member holds this engine's MEMBER_ID, and whether the sender asks to be included. -/
structure MsHello where
  sender   : Nat
  keyHash  : Nat := 0
  rate     : Nat := 0
  sw       : Nat := 1
  patch    : Nat := 1
  linkOfs  : Nat := 1000
  lead     : Nat := 20
  gm       : Nat := 0
  ready    : Bool := true
  inRoster : Bool := true
  dup      : Bool := false
  asks     : Bool := false
  deriving DecidableEq, Repr

/-- A PREPARE (R461): the view that it carries and its fields. -/
structure MsPrepare where
  origin : Nat
  number : Nat
  view   : Nat
  scene  : Nat
  flags  : Nat := 0
  scope  : Nat := 0
  apply  : Nat
  deriving DecidableEq, Repr

/-- An sACN data packet (R330): the port, the universe, the source's CID and priority, the sequence number, the Preview_Data
and Stream_Terminated options, the start code, and the slot values from slot 1. -/
structure SacnPacket where
  port       : Nat
  univ       : Nat
  cid        : Nat
  prio       : Nat := 100
  seq        : Nat
  preview    : Bool := false
  terminated : Bool := false
  start      : Nat := 0
  slots      : Bytes := []
  deriving DecidableEq, Repr

/-- A decoded LTC frame (R675): whether its sync word is valid, its rate code, its time address (hours, minutes, seconds,
frames, one byte each), the drop-frame and colour-frame flags and the user bits. -/
structure LtcFrame where
  valid : Bool := true
  rate  : Nat := 1
  time  : Nat
  df    : Bool := false
  cf    : Bool := false
  user  : Nat := 0
  deriving DecidableEq, Repr

/-- An access of a Feed master (R528 to R534): the master, whether it writes, the address, the length in bytes, the bytes
written with their enables, the words (address ÷ 8) that are read with a single-bit and with an uncorrectable error, the
Exchange words whose port 1 write, or whose read, meets a port 0 write, each with the 64 bits that port 0 writes (R547, R548), the cycles that it
waited at the head of its queue, and whether a bulk grant was forced (R539). -/
structure FeedReq where
  master : Nat
  write  : Bool
  addr   : Nat
  len    : Nat
  data   : Bytes := []
  en     : List Bool := []
  single : List Nat := []
  uncorr : List Nat := []
  collide : List (Nat × Nat) := []
  rdOld  : List (Nat × Nat) := []
  wait   : Nat := 0
  forced : Bool := false
  deriving DecidableEq, Repr

/-- A Feed atomic (R535): `kind` is 0 SWAP, 1 CAS, 2 ADD on the 8 bytes at `addr`, with its operands.
`uncorr` says that its read meets an uncorrectable error, `collide` is what port 0 writes to the word in its write cycle (R549). -/
structure FeedAtomic where
  master : Nat
  kind   : Nat
  addr   : Nat
  a      : Nat
  b      : Nat := 0
  uncorr : Bool := false
  collide : Option Nat := none
  deriving DecidableEq, Repr

end Sys2Proof
end

