-- ==== Sys2Proof/Syntax.lean ====
section
/-! DEFINITION. The commands of the engine: one constructor for each row of spec/opcode_table.json, with its
operands. The 146 Sprinile commands take the request as Scribe takes it; the other rows are register
accesses, host and board transactions, pins, packets, timers and events inside the engine. -/

namespace Sys2Proof

/-- The commands. Each docstring names the row and the rule that the table gives it. -/
inductive Instr where
  /-- SYS_IDENTITY_GET (R9) -/
  | sysIdentityGet (r : Request)
  /-- SYS_CAPS_GET (R235) -/
  | sysCapsGet (r : Request)
  /-- SYS_ROLE_SET (R225) -/
  | sysRoleSet (r : Request)
  /-- SYS_GRANT_GET (R223) -/
  | sysGrantGet (r : Request)
  /-- SYS_GRANT_SET (R228) -/
  | sysGrantSet (r : Request)
  /-- SYS_CLOCK_GET (R52) -/
  | sysClockGet (r : Request)
  /-- SYS_RATE_SET (R53) -/
  | sysRateSet (r : Request)
  /-- SYS_SSI_REALIGN (R46) -/
  | sysSsiRealign (r : Request)
  /-- SYS_BOOT_INFO (R111) -/
  | sysBootInfo (r : Request)
  /-- SYS_RESTART (R130) -/
  | sysRestart (r : Request)
  /-- SYS_FW_WRITE (R131) -/
  | sysFwWrite (r : Request)
  /-- SYS_FW_SELECT (R132) -/
  | sysFwSelect (r : Request)
  /-- SYS_FW_COMMIT (R114) -/
  | sysFwCommit (r : Request)
  /-- SYS_RESUME_SET (R128) -/
  | sysResumeSet (r : Request)
  /-- SYS_RESUME_SAVE (R127) -/
  | sysResumeSave (r : Request)
  /-- SYS_INK_GET (R204) -/
  | sysInkGet (r : Request)
  /-- SYS_INK_CLOSE (R205) -/
  | sysInkClose (r : Request)
  /-- SYS_SUBSCRIBE (R237) -/
  | sysSubscribe (r : Request)
  /-- SYS_WARN_GET (R238) -/
  | sysWarnGet (r : Request)
  /-- SYS_ARMED_GET (R214) -/
  | sysArmedGet (r : Request)
  /-- SYS_ARMED_CANCEL (R240) -/
  | sysArmedCancel (r : Request)
  /-- SYS_MEM_STATUS_GET (R543) -/
  | sysMemStatusGet (r : Request)
  /-- SYS_CART_STATUS_GET (R553) -/
  | sysCartStatusGet (r : Request)
  /-- LC_STATUS_GET (R601) -/
  | lcStatusGet (r : Request)
  /-- LC_NONCE_GET (R606) -/
  | lcNonceGet (r : Request)
  /-- LC_PROVISION (R608) -/
  | lcProvision (r : Request)
  /-- LC_DEPLOY (R609) -/
  | lcDeploy (r : Request)
  /-- LC_RETURN (R610) -/
  | lcReturn (r : Request)
  /-- LC_DEBUG_UNLOCK (R611) -/
  | lcDebugUnlock (r : Request)
  /-- LC_ATTEST (R605) -/
  | lcAttest (r : Request)
  /-- SYS_BOARD_GET (R666) -/
  | sysBoardGet (r : Request)
  /-- SYS_BOARD_SET (R677) -/
  | sysBoardSet (r : Request)
  /-- SYS_GPIO_CONFIG (R678) -/
  | sysGpioConfig (r : Request)
  /-- SYS_GPIO_GET (R673) -/
  | sysGpioGet (r : Request)
  /-- SYS_GPIO_SET (R679) -/
  | sysGpioSet (r : Request)
  /-- SYS_LTC_CONFIG (R676) -/
  | sysLtcConfig (r : Request)
  /-- SYS_LTC_STATUS_GET (R675) -/
  | sysLtcStatusGet (r : Request)
  /-- SYS_LINK_GET (R654) -/
  | sysLinkGet (r : Request)
  /-- BL_STATUS_GET (R89) -/
  | blStatusGet (r : Request)
  /-- BL_REF_CONFIG (R90) -/
  | blRefConfig (r : Request)
  /-- BL_SELECT (R91) -/
  | blSelect (r : Request)
  /-- BL_STEER (R92) -/
  | blSteer (r : Request)
  /-- BL_PHASE_STEP (R93) -/
  | blPhaseStep (r : Request)
  /-- BL_OUT_CONFIG (R85) -/
  | blOutConfig (r : Request)
  /-- BL_POLICY_SET (R94) -/
  | blPolicySet (r : Request)
  /-- BL_REF_CLEAR (R61) -/
  | blRefClear (r : Request)
  /-- MODE_GET (R135) -/
  | modeGet (r : Request)
  /-- MODE_SET (R165) -/
  | modeSet (r : Request)
  /-- MODE_WAKE_CONFIG (R168) -/
  | modeWakeConfig (r : Request)
  /-- NET_PORT_CONFIG (R447) -/
  | netPortConfig (r : Request)
  /-- NET_PORT_STATUS_GET (R410) -/
  | netPortStatusGet (r : Request)
  /-- NET_PTP_CONFIG (R417) -/
  | netPtpConfig (r : Request)
  /-- NET_PTP_STATUS_GET (R416) -/
  | netPtpStatusGet (r : Request)
  /-- NET_QUILL_CONFIG (R414) -/
  | netQuillConfig (r : Request)
  /-- NET_RX_SET (R448) -/
  | netRxSet (r : Request)
  /-- NET_RX_GET (R422) -/
  | netRxGet (r : Request)
  /-- NET_TX_SET (R443) -/
  | netTxSet (r : Request)
  /-- NET_TX_GET (R434) -/
  | netTxGet (r : Request)
  /-- NET_STATUS_GET (R429) -/
  | netStatusGet (r : Request)
  /-- NET_NMOS_CONFIG (R445) -/
  | netNmosConfig (r : Request)
  /-- SER_CONFIG (R407) -/
  | serConfig (r : Request)
  /-- SER_CONFIG_GET (R382) -/
  | serConfigGet (r : Request)
  /-- SER_STATUS_GET (R402) -/
  | serStatusGet (r : Request)
  /-- SER_COUNTERS_GET (R395) -/
  | serCountersGet (r : Request)
  /-- LIG_ROUTE_SET (R362) -/
  | ligRouteSet (r : Request)
  /-- LIG_ROUTE_GET (R346) -/
  | ligRouteGet (r : Request)
  /-- LIG_SINK_CONFIG (R364) -/
  | ligSinkConfig (r : Request)
  /-- LIG_GAIN_SET (R359) -/
  | ligGainSet (r : Request)
  /-- LIG_FALLBACK (R358) -/
  | ligFallback (r : Request)
  /-- LIG_PATCH_SET (R349) -/
  | ligPatchSet (r : Request)
  /-- LIG_STATUS_GET (R342) -/
  | ligStatusGet (r : Request)
  /-- INST_CREATE (R297) -/
  | instCreate (r : Request)
  /-- INST_DELETE (R298) -/
  | instDelete (r : Request)
  /-- INST_SET (R300) -/
  | instSet (r : Request)
  /-- INST_GET (R29) -/
  | instGet (r : Request)
  /-- INST_LIST (R271) -/
  | instList (r : Request)
  /-- INST_RENAME (R271) -/
  | instRename (r : Request)
  /-- PROG_LIST (R270) -/
  | progList (r : Request)
  /-- INST_COEF_SET (R302) -/
  | instCoefSet (r : Request)
  /-- INST_COEF_GET (R302) -/
  | instCoefGet (r : Request)
  /-- DX_LOAD_GET (R250) -/
  | dxLoadGet (r : Request)
  /-- DX_NIB_GET (R243) -/
  | dxNibGet (r : Request)
  /-- DX_CONFIG (R265) -/
  | dxConfig (r : Request)
  /-- SCENE_STORE (R337) -/
  | sceneStore (r : Request)
  /-- SCENE_RECALL (R336) -/
  | sceneRecall (r : Request)
  /-- SCENE_DELETE (R327) -/
  | sceneDelete (r : Request)
  /-- SCENE_LIST (R341) -/
  | sceneList (r : Request)
  /-- SCENE_EXPORT (R327) -/
  | sceneExport (r : Request)
  /-- SCENE_IMPORT (R338) -/
  | sceneImport (r : Request)
  /-- SCENE_SAFE_SET (R320) -/
  | sceneSafeSet (r : Request)
  /-- SCENE_SAFE_GET (R320) -/
  | sceneSafeGet (r : Request)
  /-- CUE_CONFIG (R329) -/
  | cueConfig (r : Request)
  /-- CUE_MAP_SET (R339) -/
  | cueMapSet (r : Request)
  /-- CUE_MAP_GET (R333) -/
  | cueMapGet (r : Request)
  /-- CUE_STATUS_GET (R330) -/
  | cueStatusGet (r : Request)
  /-- FOLIO_MAP (R340) -/
  | folioMap (r : Request)
  /-- FOLIO_READ (R303) -/
  | folioRead (r : Request)
  /-- FOLIO_WRITE (R340) -/
  | folioWrite (r : Request)
  /-- SHEEN_CONFIG (R523) -/
  | sheenConfig (r : Request)
  /-- SHEEN_LOUD_RESET (R518) -/
  | sheenLoudReset (r : Request)
  /-- SHEEN_SET_DEFINE (R524) -/
  | sheenSetDefine (r : Request)
  /-- SHEEN_SET_DELETE (R519) -/
  | sheenSetDelete (r : Request)
  /-- SHEEN_SET_READ (R521) -/
  | sheenSetRead (r : Request)
  /-- SHEEN_STATUS_GET (R515) -/
  | sheenStatusGet (r : Request)
  /-- SHEEN_CONFIG_GET (R517) -/
  | sheenConfigGet (r : Request)
  /-- HUSH_STATUS_GET (R369) -/
  | hushStatusGet (r : Request)
  /-- HUSH_CLEAR (R386) -/
  | hushClear (r : Request)
  /-- HUSH_CONFIG (R387) -/
  | hushConfig (r : Request)
  /-- HUSH_CONFIG_GET (R388) -/
  | hushConfigGet (r : Request)
  /-- TWIN_STATUS_GET (R477) -/
  | twinStatusGet (r : Request)
  /-- TWIN_CONFIG (R503) -/
  | twinConfig (r : Request)
  /-- TWIN_PROMOTE (R504) -/
  | twinPromote (r : Request)
  /-- TWIN_RESYNC (R500) -/
  | twinResync (r : Request)
  /-- TWIN_DISSOLVE (R506) -/
  | twinDissolve (r : Request)
  /-- MS_STATUS_GET (R454) -/
  | msStatusGet (r : Request)
  /-- MS_CONFIG (R469) -/
  | msConfig (r : Request)
  /-- MS_ROSTER_SET (R451) -/
  | msRosterSet (r : Request)
  /-- MS_JOIN (R471) -/
  | msJoin (r : Request)
  /-- MS_LEAVE (R474) -/
  | msLeave (r : Request)
  /-- MS_FLOURISH (R475) -/
  | msFlourish (r : Request)
  /-- MS_XBUS_SET (R458) -/
  | msXbusSet (r : Request)
  /-- MS_MEMBERS_GET (R454) -/
  | msMembersGet (r : Request)
  /-- SEAL_RUN (R570) -/
  | sealRun (r : Request)
  /-- SEAL_STATUS_GET (R561) -/
  | sealStatusGet (r : Request)
  /-- SEAL_DIGEST_GET (R568) -/
  | sealDigestGet (r : Request)
  /-- SEAL_REGION_RUN (R572) -/
  | sealRegionRun (r : Request)
  /-- RT_STATUS_GET (R581) -/
  | rtStatusGet (r : Request)
  /-- RT_CONFIG (R580) -/
  | rtConfig (r : Request)
  /-- RT_NIB_TEST (R597) -/
  | rtNibTest (r : Request)
  /-- RT_MIGRATE (R598) -/
  | rtMigrate (r : Request)
  /-- RT_SHED_SET (R588) -/
  | rtShedSet (r : Request)
  /-- RT_SHED_GET (R588) -/
  | rtShedGet (r : Request)
  /-- RT_REPAIR_GET (R593) -/
  | rtRepairGet (r : Request)
  /-- BT_STATUS_GET (R577) -/
  | btStatusGet (r : Request)
  /-- RT_ROW_RETIRE (R592) -/
  | rtRowRetire (r : Request)
  /-- BT_INJECT (R600) -/
  | btInject (r : Request)
  /-- CB_LIST (R615) -/
  | cbList (r : Request)
  /-- CB_RUN (R626) -/
  | cbRun (r : Request)
  /-- CB_ABORT (R627) -/
  | cbAbort (r : Request)
  /-- CB_RESULT_GET (R622) -/
  | cbResultGet (r : Request)
  /-- VL_STATUS_GET (R637) -/
  | vlStatusGet (r : Request)
  /-- VL_READ (R647) -/
  | vlRead (r : Request)
  /-- VL_EXPORT (R644) -/
  | vlExport (r : Request)
  /-- VL_SAVE (R645) -/
  | vlSave (r : Request)
  /-- EXP_REG_READ (R241) -/
  | expRegRead (r : Request)
  /-- EXP_REG_WRITE (R242) -/
  | expRegWrite (r : Request)
  /-- REGISTER_WRITE (R4) -/
  | registerWrite (via : Via) (off : Nat) (data : Bytes)
  /-- CLK_CTRL_APPLY (R725) -/
  | clkCtrlApply
  /-- CLK_CTRL_REALIGN (R725) -/
  | clkCtrlRealign
  /-- BOOT_CTRL_GO (R115) -/
  | bootCtrlGo (via : Via)
  /-- RESET_CAUSE_WRITE (R134) -/
  | resetCauseWrite (via : Via) (w : Word)
  /-- INK_CTRL_OPEN (R206) -/
  | inkCtrlOpen (via : Via) (n : Nat)
  /-- INK_CTRL_CLOSE (R206) -/
  | inkCtrlClose (via : Via) (n : Nat)
  /-- INK_CTRL_RESYNC (R206) -/
  | inkCtrlResync (via : Via) (n : Nat)
  /-- DOORBELL (R174) -/
  | doorbell (via : Via) (n : Nat) (v : Nat) (heads : List Head)
  /-- REP_CONS_WRITE (R178) -/
  | repConsWrite (via : Via) (n : Nat) (v : Nat)
  /-- EVT_CONS_WRITE (R178) -/
  | evtConsWrite (via : Via) (n : Nat) (v : Nat)
  /-- SHEET_ALLOC (R186) -/
  | sheetAlloc (reads : List (Via × Nat))
  /-- SHEET_FREE (R184) -/
  | sheetFree (via : Via) (n : Nat) (h : Nat)
  /-- BL_SELECT_WRITE (R96) -/
  | blSelectWrite (w : Word)
  /-- BL_STEP_WRITE (R96) -/
  | blStepWrite (w : Word)
  /-- BL_STEER_WRITE (R78) -/
  | blSteerWrite (w : Word)
  /-- PW_MODE_REQ (R165) -/
  | pwModeReq (w : Word)
  /-- PW_WAKE_AT_HI_WRITE (R169) -/
  | pwWakeAtHiWrite (w : Word)
  /-- DX_CTRL_WRITE (R268) -/
  | dxCtrlWrite (w : Word)
  /-- LG_ARM_HI_WRITE (R366) -/
  | lgArmHiWrite (n : Nat) (w : Word)
  /-- LG_SINK_CFG_WRITE (R735) -/
  | lgSinkCfgWrite (n : Nat) (w : Word)
  /-- LG_GAIN_WRITE (R735) -/
  | lgGainWrite (n : Nat) (w : Word)
  /-- LG_SHADE_WRITE (R735) -/
  | lgShadeWrite (n : Nat) (w : Word)
  /-- SR_CTRL_APPLY (R409) -/
  | srCtrlApply (n : Nat)
  /-- QL_APPLY (R450) -/
  | qlApply (w : Word)
  /-- SN_BALL0_WRITE (R526) -/
  | snBall0Write (w : Word)
  /-- SN_BALL1_WRITE (R526) -/
  | snBall1Write (w : Word)
  /-- SN_SRC_PEAK_READ (R4) -/
  | snSrcPeakRead (n : Nat)
  /-- SN_SNK_PEAK_READ (R4) -/
  | snSnkPeakRead (n : Nat)
  /-- SSI_LO_READ (R55) -/
  | ssiLoRead
  /-- DX_ARMED_SSI_LO_READ (R269) -/
  | dxArmedSsiLoRead
  /-- HS_LAST_SSI_LO_READ (R389) -/
  | hsLastSsiLoRead
  /-- SN_EPOCH_SSI_LO_READ (R527) -/
  | snEpochSsiLoRead
  /-- FD_LAST_ADDR_LO_READ (R559) -/
  | fdLastAddrLoRead
  /-- SL_BYTES_LO_READ (R573) -/
  | slBytesLoRead (c : Nat)
  /-- SL_DIGEST_SSI_LO_READ (R573) -/
  | slDigestSsiLoRead
  /-- VL_AON_LO_READ (R647) -/
  | vlAonLoRead
  /-- WAKE_CAUSE_READ (R161) -/
  | wakeCauseRead (via : Via)
  /-- SL_CTRL_GO (R573) -/
  | slCtrlGo (c : Nat)
  /-- SL_CTRL_ABORT (R573) -/
  | slCtrlAbort (c : Nat)
  /-- CB_CTRL_GO (R626) -/
  | cbCtrlGo
  /-- CB_CTRL_ABORT (R627) -/
  | cbCtrlAbort
  /-- CB_FIFO_READ (R628) -/
  | cbFifoRead
  /-- HSPI_WRITE (R661) -/
  | hspiWrite (addr : Nat) (data : Bytes)
  /-- HSPI_WRITE_COMMIT (R661) -/
  | hspiWriteCommit
  /-- HSPI_READ (R660) -/
  | hspiRead (addr : Nat) (n : Nat) (onTime : Bool)
  /-- HSPI_STATUS (R658) -/
  | hspiStatus
  /-- HSPI_UNKNOWN_COMMAND (R658) -/
  | hspiUnknownCommand
  /-- I2C_WRITE (R667) -/
  | i2cWrite (ptr : Nat) (data : Bytes)
  /-- I2C_READ (R667) -/
  | i2cRead (ptr : Nat) (n : Nat)
  /-- BMC_CTRL_WRITE (R669) -/
  | bmcCtrlWrite (on : Bool)
  /-- MSIX_ENABLE (R731) -/
  | msixEnable (on : Bool) (fnMask : Bool)
  /-- POR_N_ASSERT (R100) -/
  | porNAssert
  /-- POR_N_RELEASE (R99) -/
  | porNRelease (xo : Bool)
  /-- PWR_FAIL_ASSERT (R102) -/
  | pwrFailAssert
  /-- PWR_FAIL_DEASSERT (R104) -/
  | pwrFailDeassert
  /-- XO_LOSS (R39) -/
  | xoLoss
  /-- XO_RETURN (R39) -/
  | xoReturn
  /-- PERST_ASSERT (R105) -/
  | perstAssert
  /-- PCIE_LINK_TRAINED (R108) -/
  | pcieLinkTrained (gen : Nat) (lanes : Nat)
  /-- PCIE_LINK_DROP (R654) -/
  | pcieLinkDrop
  /-- D3HOT_TO_D0 (R651) -/
  | d3hotToD0
  /-- JTAG_TRST (R105) -/
  | jtagTrst
  /-- JTAG_BOUNDARY_INSTRUCTION (R613) -/
  | jtagBoundaryInstruction (load : JtagLoad)
  /-- JTAG_INTERNAL_SCAN (R614) -/
  | jtagInternalScan
  /-- AON_TICK (R369) -/
  | aonTick (hushA : Bool) (hushB : Bool) (pins : Nat)
  /-- HUSH_CHANNEL_DEBOUNCED (R371) -/
  | hushChannelDebounced (chB : Bool) (alarm : Bool)
  /-- HUSH_FAULT (R370) -/
  | hushFault
  /-- HUSH_RELEASE (R372) -/
  | hushRelease
  /-- HUSH_OUT_TOGGLE (R368) -/
  | hushOutToggle
  /-- PWR_FAIL_N_FILTER (R674) -/
  | pwrFailNFilter
  /-- STEM_LOCK (R44) -/
  | stemLock
  /-- STEM_RELOCK (R51) -/
  | stemRelock
  /-- SAMPLE_TICK (R20) -/
  | sampleTick
  /-- PERIOD_BOUNDARY (R40) -/
  | periodBoundary (claimEdge : Bool)
  /-- CLASS_A_COMPLETION (R260) -/
  | classACompletion (d : DispatchEnd)
  /-- DUCTUS_WDT (R263) -/
  | ductusWdt
  /-- TIMED_ACTION_APPLY (R20) -/
  | timedActionApply
  /-- READINESS_DEADLINE (R341) -/
  | readinessDeadline (unready : List (Nat × Nat)) (corrupt : List (Nat × Nat))
  /-- LATE_RECALL_APPLY (R341) -/
  | lateRecallApply (client : Nat) (seq : Nat)
  /-- BACKUP_FALLBACK (R357) -/
  | backupFallback (n : Nat)
  /-- BACKUP_RETURN (R358) -/
  | backupReturn (n : Nat)
  /-- ROUTE_CROSSFADE_END (R353) -/
  | routeCrossfadeEnd
  /-- STAGE_CROSSFADE_END (R316) -/
  | stageCrossfadeEnd
  /-- REPORT_INTERVAL_CLOSE (R520) -/
  | reportIntervalClose
  /-- SHEEN_RECORD_WRITTEN (R521) -/
  | sheenRecordWritten
  /-- REPEAT_LIMIT_EXPIRY (R427) -/
  | repeatLimitExpiry (n : Nat)
  /-- CANDIDATE_QUALIFIED (R58) -/
  | candidateQualified (n : Nat) (build : Int) (fofs : Int)
  /-- REF_DISQUAL (R59) -/
  | refDisqual (n : Nat) (cause : Nat)
  /-- BAR_EXPIRY (R61) -/
  | barExpiry (n : Nat)
  /-- REF_REVERT (R63) -/
  | refRevert
  /-- REF_PULSE_EDGE (R726) -/
  | refPulseEdge (n : Nat) (dev : Int) (fofs : Int) (build : Int)
  /-- LOCK (R66) -/
  | lock (err : Int)
  /-- HO_VALID_SET (R68) -/
  | hoValidSet
  /-- HOLDOVER_EXPIRED (R69) -/
  | holdoverExpired
  /-- HOLDOVER_NVS_WRITE (R71) -/
  | holdoverNvsWrite
  /-- FIRST_LOCK (R77) -/
  | firstLock (theta : Int) (delta : Int)
  /-- ALIGNMENT_COMPLETE (R77) -/
  | alignmentComplete
  /-- SLEW_COMPLETE (R76) -/
  | slewComplete
  /-- STEER_RAMP_DONE (R78) -/
  | steerRampDone
  /-- BOOT_SOURCE_READ (R113) -/
  | bootSourceRead (readOk : Bool)
  /-- HOST_FIRST_WAIT_EXPIRY (R110) -/
  | hostFirstWaitExpiry
  /-- BOOT_WATCHDOG (R112) -/
  | bootWatchdog
  /-- FW_RUNNING_SIGNAL (R112) -/
  | fwRunningSignal
  /-- INKWELLS_SERVE_BASIC (R122) -/
  | inkwellsServeBasic
  /-- READY (R128) -/
  | ready
  /-- ZEROISATION (R610) -/
  | zeroisation
  /-- SCRIBE_WATCHDOG (R106) -/
  | scribeWatchdog
  /-- LOCKSTEP_MISMATCH (R105) -/
  | lockstepMismatch
  /-- SCRIBE_RESTART_DONE (R729) -/
  | scribeRestartDone
  /-- STANDBY_ENTRY_COMPLETE (R147) -/
  | standbyEntryComplete
  /-- WAKE_INKWELLS_READY (R157) -/
  | wakeInkwellsReady
  /-- WAKE_COMPLETE (R158) -/
  | wakeComplete (bad : List Nat)
  /-- DEFERRED_STANDBY (R164) -/
  | deferredStandby
  /-- WAKE_AT_REACHED (R156) -/
  | wakeAtReached
  /-- AUTOSAVE (R127) -/
  | autosave
  /-- TLS_CONNECT (R124) -/
  | tlsConnect (cert : Bool)
  /-- SESSION_OPEN (R200) -/
  | sessionOpen (key : Nat)
  /-- SESSION_RESUME (R202) -/
  | sessionResume (key : Nat) (token : Nat) (lastEvt : Nat)
  /-- SESSION_KEEPALIVE (R201) -/
  | sessionKeepalive (n : Nat)
  /-- SESSION_CLOSE (R203) -/
  | sessionClose (n : Nat)
  /-- SESSION_REQUEST_FRAME (R198) -/
  | sessionRequestFrame (n : Nat) (size : Nat) (length : Nat) (h : Head)
  /-- SESSION_BAD_FRAME (R198) -/
  | sessionBadFrame (n : Nat)
  /-- SESSION_REPLY_SENT (R199) -/
  | sessionReplySent (n : Nat)
  /-- SESSION_DROP (R201) -/
  | sessionDrop (n : Nat) (closed : Bool)
  /-- SESSION_EXPIRE (R203) -/
  | sessionExpire (n : Nat)
  /-- FRAME_RX (R415) -/
  | frameRx (f : Frame)
  /-- PTP_MESSAGE_RX (R416) -/
  | ptpMessageRx (m : PtpMsg)
  /-- PTP_SYNC_TX (R418) -/
  | ptpSyncTx (n : Nat)
  /-- MEDIA_PACKET_RX (R423) -/
  | mediaPacketRx (p : MediaPacket)
  /-- LEG_DOWN (R431) -/
  | legDown (n : Nat) (leg : Nat)
  /-- NET_LINK (R431) -/
  | netLink (n : Nat) (up : Bool)
  /-- OFFSET_ERROR (R429) -/
  | offsetError (n : Nat)
  /-- TX_PACKET_SEND (R435) -/
  | txPacketSend (n : Nat)
  /-- ARP_RETRY (R436) -/
  | arpRetry (n : Nat) (answer : Option Nat)
  /-- IS05_ACTIVATION (R446) -/
  | is05Activation (tx : Bool) (e : Is05Params) (mode : Nat) (ns : Nat)
  /-- IS04_HEARTBEAT (R445) -/
  | is04Heartbeat
  /-- SACN_PACKET_RX (R330) -/
  | sacnPacketRx (p : SacnPacket)
  /-- SACN_SOURCE_LOST (R330) -/
  | sacnSourceLost (univ : Nat) (cid : Nat)
  /-- OSC_MESSAGE_RX (R331) -/
  | oscMessageRx (net : Nat) (port : Nat) (data : Bytes)
  /-- LTC_FRAME_DECODED (R675) -/
  | ltcFrameDecoded (f : LtcFrame) (start : Nat)
  /-- LTC_IN_LOST (R675) -/
  | ltcInLost
  /-- TIMECODE_TRIGGER (R332) -/
  | timecodeTrigger (n : Nat) (k : Nat)
  /-- LTC_OUT_FRAME (R676) -/
  | ltcOutFrame (k : Nat)
  /-- SERIF_FRAME_REFERENCE (R404) -/
  | serifFrameReference (n : Nat)
  /-- SERIF_FRAME_RX (R397) -/
  | serifFrameRx (n : Nat) (len : Nat) (bits : Nat)
  /-- RATE_MEASUREMENT (R400) -/
  | rateMeasurement (n : Nat) (rate : Int)
  /-- NO_CLOCK (R401) -/
  | noClock (n : Nat)
  /-- FRAME_ERROR (R401) -/
  | frameError (n : Nat)
  /-- PORT_RUNNING (R403) -/
  | portRunning (n : Nat)
  /-- TWIN_HELLO_RX (R476) -/
  | twinHelloRx (h : TwinHead) (nonce : Nat) (peer : TwinPeer)
  /-- TWIN_STATUS_RX (R485) -/
  | twinStatusRx (f : TwinStatus)
  /-- TWIN_JOURNAL_RX (R483) -/
  | twinJournalRx (e : TwinEntry)
  /-- TWIN_J_ACK_RX (R483) -/
  | twinJAckRx (h : TwinHead) (jsn : Nat)
  /-- JOURNAL_RESEND (R483) -/
  | journalResend
  /-- GIVEUP_CAUSE (R488) -/
  | giveupCause (cause : Nat) (ns : Nat)
  /-- TWIN_GIVEUP_RX (R489) -/
  | twinGiveupRx (h : TwinHead) (cause : Nat) (stop : Nat)
  /-- TWIN_HANDOVER_RX (R497) -/
  | twinHandoverRx (h : TwinHead) (point : Nat) (claim : Nat)
  /-- HANDOVER_POINT (R497) -/
  | handoverPoint
  /-- HANDOVER_END (R497) -/
  | handoverEnd
  /-- TWIN_CHECK_RX (R486) -/
  | twinCheckRx (h : TwinHead) (period : Nat) (result : Nat)
  /-- MISMATCH_CHECK_DONE (R486) -/
  | mismatchCheckDone (passed : Bool)
  /-- TWIN_SNAP_RX (R500) -/
  | twinSnapRx (h : TwinHead) (at_ : Nat) (offset : Nat) (total : Nat) (data : Bytes) (moved : Bool)
  /-- TWIN_LINK_DOWN (R481) -/
  | twinLinkDown
  /-- SILENT_DEATH (R493) -/
  | silentDeath
  /-- FORM_WAIT_EXPIRY (R478) -/
  | formWaitExpiry
  /-- PAIRING_RETRY (R476) -/
  | pairingRetry
  /-- GIVEUP_CAUSE_CLEARED (R491) -/
  | giveupCauseCleared
  /-- MS_PEER_CONNECT (R451) -/
  | msPeerConnect (member : Nat) (key : Nat) (msId : Nat) (ip : Nat)
  /-- MS_HELLO_RX (R453) -/
  | msHelloRx (h : MsHello)
  /-- MS_VIEW_RX (R454) -/
  | msViewRx (via : Nat) (view : Nat) (members : List Nat) (scene : Option (Nat × Nat × Nat))
  /-- MS_PREPARE_RX (R461) -/
  | msPrepareRx (via : Nat) (p : MsPrepare)
  /-- MS_VOTE_RX (R461) -/
  | msVoteRx (via : Nat) (origin : Nat) (number : Nat) (count : Nat) (st : Nat) (refuser : Nat)
  /-- MS_COMMIT_RX (R463) -/
  | msCommitRx (via : Nat) (origin : Nat) (number : Nat)
  /-- MS_ABORT_RX (R461) -/
  | msAbortRx (via : Nat) (origin : Nat) (number : Nat) (st : Nat)
  /-- MS_ACK_RX (R464) -/
  | msAckRx (via : Nat) (member : Nat) (origin : Nat) (number : Nat) (st : Nat)
  /-- MS_HEARTBEAT_RX (R455) -/
  | msHeartbeatRx (member : Nat)
  /-- MS_HEARTBEAT_TIMER (R455) -/
  | msHeartbeatTimer
  /-- MS_MEMBER_GONE (R455) -/
  | msMemberGone (member : Nat)
  /-- MS_VOTE_DEADLINE (R461) -/
  | msVoteDeadline (number : Nat)
  /-- MS_COMMIT_RESEND (R464) -/
  | msCommitResend (number : Nat)
  /-- MS_REJOIN (R473) -/
  | msRejoin
  /-- BLOTTER_DISPATCH_DONE (R579) -/
  | blotterDispatchDone (n : Nat) (good : Bool)
  /-- DISPATCH_TIMEOUT (R579) -/
  | dispatchTimeout (n : Nat)
  /-- MIGRATION_COPY (R583) -/
  | migrationCopy (n : Nat)
  /-- MIGRATION_SWAP (R583) -/
  | migrationSwap (n : Nat) (same : Bool)
  /-- NIB_READMIT (R595) -/
  | nibReadmit (n : Nat)
  /-- COVERAGE (R599) -/
  | coverage (n : Nat)
  /-- WATCH_LIST_EXPIRY (R578) -/
  | watchListExpiry
  /-- REPAIR_TABLE_WRITE (R593) -/
  | repairTableWrite
  /-- FEED_ACCESS (R534) -/
  | feedAccess (q : FeedReq)
  /-- FEED_ATOMIC (R538) -/
  | feedAtomic (q : FeedAtomic)
  /-- CARTRIDGE_WRITE (R554) -/
  | cartridgeWrite (n : Nat) (words : List (Bytes × Bool))
  /-- CARTRIDGE_READ (R552) -/
  | cartridgeRead (n : Nat) (single : Bool) (bad : Bool)
  /-- SEAL_JOB_DONE (R571) -/
  | sealJobDone (c : Nat) (bad : Option (Nat × Nat))
  /-- SEAL_DIGEST_READY (R568) -/
  | sealDigestReady
  /-- COPYBOOK_DONE (R618) -/
  | copybookDone (outs : List CbOutcome)
  /-- VELLUM_PERIODIC_WRITE (R636) -/
  | vellumPeriodicWrite
  /-- VELLUM_WRITE_DONE (R639) -/
  | vellumWriteDone (good : Bool)
  /-- AVS_STEP (R671) -/
  | avsStep (ack : Bool) (mv : Nat)
  /-- AVS_RETRY (R672) -/
  | avsRetry (ack : Bool) (mv : Nat)
  /-- GPIO_EDGE (R673) -/
  | gpioEdge (pin : Nat) (level : Bool)
  /-- UNKNOWN_OPCODE_REQUEST (R714) -/
  | unknownOpcodeRequest (op : Nat) (r : Request)
  /-- BAR2_WRITE (R185) -/
  | bar2Write (via : Via) (off : Nat) (data : Bytes)
  /-- D3HOT_ENTRY (R651) -/
  | d3hotEntry
  /-- PME_EN_WRITE (R161) -/
  | pmeEnWrite (on : Bool)
  /-- L1_ENTRY (R653) -/
  | l1Entry
  /-- ANNOUNCE_RECEIPT_TIMEOUT (R58) -/
  | announceReceiptTimeout (n : Nat)
  /-- TEMP_ALERT (R673) -/
  | tempAlert (temp : Int)
  /-- NIB_UNCORRECTABLE_ERROR (R579) -/
  | nibUncorrectableError (n : Nat) (kind : Nat) (word : Nat) (key : Nat)
  /-- COMMAND_COMPLETES (R179) -/
  | commandCompletes (client : Nat) (seq : Nat)
  /-- AON_ORDER_RESEND (R557) -/
  | aonOrderResend
  deriving DecidableEq, Repr

end Sys2Proof
end

