-- ==== Sys2Proof/Machine/Unit/Base.lean ====
section
/-! DEFINITION. The types that the units of the state share: the sparse table, the modes, statuses,
roles, replies, events and armed actions. -/

namespace Sys2Proof.Machine

/-- A sparse table by number: keys strictly rise, and no entry equals what an unlisted number reads as. -/
abbrev Tab (α : Type) := List (Nat × α)

/-- The eight operating modes by name (R135). -/
inductive Mode where
  | held | booting | standby | commission | showing | shadow | degraded | maintenance
  deriving DecidableEq, Repr

/-- The status codes that are returned (R718, R719). -/
inductive Status where
  | ok | okWarn | duplicate | notReady | unitAbsent | capacity | role | lifecycle | mode | seqConflict
  | badLength | badOpcode | badParam | late | busy | poolEmpty | locked | twinFollower | notLocked
  | hushActive
  deriving DecidableEq, Repr

/-- One entry of a warning list (R216): CODE, GROUP, ITEM, REQUESTED and APPLIED. -/
structure Warning where
  code      : Nat
  group     : Nat
  item      : Nat := 0xFFFFFFFF
  requested : Int := 0
  applied   : Int := 0
  deriving DecidableEq, Repr

/-- One reply slot (chapter 06): SHEET holds the reply sheet's handle when `sheetLen` is not zero. -/
structure Reply where
  opcode    : Nat
  seq       : Nat
  status    : Status
  dup       : Bool := false
  warn      : Bool := false
  sheetGone : Bool := false
  data      : Bytes := []
  sheet     : Nat := 0
  sheetLen  : Nat := 0
  deriving DecidableEq, Repr

/-- One event slot (chapter 06). -/
structure EventRec where
  type    : Nat
  evtSeq  : Nat
  ssi     : Nat
  payload : Bytes
  deriving DecidableEq, Repr

/-- One entry of the reply cache (R190): `reply` is none while the request is still executing. The
whole warning list is kept with it for SYS.WARN_GET (R238). -/
structure CacheEntry where
  seq   : Nat
  crc   : Word
  reply : Option Reply
  warns : List Warning := []
  deriving DecidableEq, Repr

/-- A command that has been taken and whose reply is not yet written: `result` is its reply once the
work that it waits for is done (R179), and `warns` its warning list. `sheet` is the request's sheet,
which Scribe frees when the command completes (R182), and `events` the events (SSI, TYPE, payload) that its execution
caused, which follow its reply (R179). -/
structure Running where
  client  : Nat
  seq     : Nat
  opcode  : Nat
  sheet   : Option Nat := none
  params  : Bytes := []
  result  : Option Reply := none
  warns   : List Warning := []
  events  : List (Nat × Nat × Bytes) := []
  deriving DecidableEq, Repr

/-- An ink-tagged sample inside Ligature (R25): `tag` is 0 VALID, 1 REPEATED, 2 ABSENT, 3 FORCED. -/
structure Sample where
  v   : F32 := 0
  tag : Nat := 2
  deriving DecidableEq, Repr

/-- A crossfade of one stage of an instance, planned or running (R315): from the SSI `start` until the SSI
`stop`, at `cost` cycles per period. Stages are 0 HPF, 1 LPF, 2 to 9 EQ bands 0 to 7, 10 delay, 11 insert, 12
order; an ALIGN.DELAY output o has stage 16 + o. -/
structure Fade where
  stage : Nat
  start : Nat
  stop  : Nat
  cost  : Nat
  deriving DecidableEq, Repr

/-- What a turn changes in one instance (R304, R305): parameters, expert coefficient sets by coefficient
stage, its name, and the crossfades planned for it. `atomic` says that admission converted its crossfades
(R254), `disable` that it disables the instance (R252). -/
structure Change where
  key    : Nat
  params : List (Nat × Int) := []
  coefs  : List (Nat × List F32) := []
  name   : Option Bytes := none
  expert : List Nat := []
  fades  : List Fade := []
  atomic : Bool := false
  disable : Bool := false
  deriving DecidableEq, Repr

/-- The contents of an armed change: the turns of instances, the route words of sinks, and for a recall the
scene number, its flags and the Sheen settings it brings (R304, R317, R351). `remove` marks INST.DELETE, `merged` the sinks whose word a later
change of the same SSI replaces (R352). -/
structure Turn where
  changes : List Change := []
  routes  : List (Nat × Nat) := []
  scene   : Nat := 0
  flags   : Nat := 0
  sheen   : Option (List (Nat × Nat)) := none
  remove  : Option Nat := none
  silent  : Bool := false
  merged  : List Nat := []
  deriving DecidableEq, Repr, Inhabited

/-- An armed action (R213, R214): identified by client and SEQ. `params` are the payload bytes that its
execution reads; `fit` is the FIT flag; `ready` says that what the action must have loaded before its apply SSI
is in place (R341), `late` that a recall missed its deadline and executes when it can. `order` is Scribe's
execution order (R29's ordering). -/
structure Armed where
  client   : Nat
  seq      : Nat
  opcode   : Nat
  applySsi : Nat
  params   : Bytes := []
  fit      : Bool := false
  ready    : Bool := true
  late     : Bool := false
  order    : Nat := 0
  turn     : Turn := {}
  deriving DecidableEq, Repr, Inhabited

end Sys2Proof.Machine
end

