-- ==== Sys2Proof/Machine/Unit/Prog.lean ====
section
/-! DEFINITION. Instances of stroke programs, scenes, safe masks and the cue bridge (chapters 09 and 10). -/

namespace Sys2Proof.Machine

/-- A gain ramp under Shading (R310): from `g0` at sample `start` to `g1` over `len` samples. -/
structure Ramp where
  g0    : F32
  g1    : F32
  start : Nat
  len   : Nat
  shape : Nat
  deriving DecidableEq, Repr

/-- A change that waits for the end of its stage's running crossfade (R316). -/
structure Held where
  stage  : Nat
  params : List (Nat × Int) := []
  coefs  : List (Nat × List F32) := []
  deriving DecidableEq, Repr

/-- The memory of a second-order section: its last two inputs and outputs. -/
structure Sect where
  x1 : F32 := 0
  x2 : F32 := 0
  y1 : F32 := 0
  y2 : F32 := 0
  deriving DecidableEq, Repr

/-- The state of an instance's gate, compressor and limiter (R275, R276, R280): whether the gate is open, the samples of hold left, the
samples since it opened or closed and its gain; the compressor's envelope, RMS windows by channel, newest first, and gain; and the limiter's gain. -/
structure Dyn where
  gateOpen : Bool := false
  gateHold : Nat := 0
  gateAge  : Nat := 0
  gateGain : F32 := 0x3F800000
  compEnv  : F32 := 0
  windows  : Tab (List F32) := []
  compGain : F32 := 0x3F800000
  limGain  : F32 := 0x3F800000
  deriving DecidableEq, Repr

/-- The old form of a stage while it crossfades (R315): the parameters and coefficients before the turn, and the state that it goes on
with: of the sections for a filter, of the whole chain for ORDER. -/
structure OldForm where
  params : Tab Int := []
  coefs  : Tab (List F32) := []
  sects  : Tab Sect := []
  dyn    : Dyn := {}
  lines  : Tab (List F32) := []
  insert : Tab (List F32) := []
  deriving DecidableEq, Repr

/-- One instance (R270, R271). `params` lists the LIVE folio's parameters that differ from their defaults, `coefs`
the expert coefficient sets by stage (R302), `expert` the parameters that FOLIO.WRITE wrote. `lane` is 0xFFFF for
ANALYZE. `fadeEnd` is the SSI at which a deleted instance is removed (R298). `pool` are the first pool source and
first pool sink of an ALIGN.DELAY (R343). `lines` hold the delay lines by output, newest sample first (R282);
`insert` the samples sent to the insert, by channel. `sects` are the memories of the sections, at 32 × channel + section (0 to 11 as in
INST.COEF_SET, 12 the compressor's key filter), `dyn` the dynamics, `olds` the old forms of the stages that crossfade. The channels are a
strip's two, or the members of a group at its first bus. `lost` says that it was shed because a Nib failed with no spare left (R142).
`unfinite` says that state must be cleared at the next boundary (R292). -/
structure Inst where
  prog      : Nat
  name      : Bytes := []
  params    : Tab Int := []
  coefs     : Tab (List F32) := []
  expert    : List Nat := []
  lane      : Nat := 0xFFFF
  shed      : Bool := false
  lost      : Bool := false
  disabled  : Bool := false
  fadeEnd   : Option Nat := none
  ramps     : Tab (Option Ramp) := []
  fades     : List Fade := []
  held      : List Held := []
  pool      : Option (Nat × Nat) := none
  nonfinite : Nat := 0
  unfinite  : Bool := false
  lines     : Tab (List F32) := []
  insert    : Tab (List F32) := []
  sects     : Tab Sect := []
  dyn       : Dyn := {}
  olds      : Tab OldForm := []
  deriving DecidableEq, Repr

/-- A folio as a scene holds it: instance key, program, the parameters and the expert coefficients. -/
structure Folio where
  key    : Nat
  prog   : Nat
  params : List (Nat × Int) := []
  coefs  : List (Nat × List F32) := []
  deriving DecidableEq, Repr, Inhabited

/-- What a scene holds beside its header (R317). -/
structure SceneBody where
  folios : List Folio := []
  routes : List (Nat × Nat) := []
  sheen  : Option (List (Nat × Nat)) := none
  names  : List (Nat × Bytes) := []
  deriving DecidableEq, Repr, Inhabited

/-- One scene of the store (R317, R323, R327, R328). `part` is the storing engine's SYS_ID.PART. `image` keeps the
bytes beyond the header as they were imported. -/
structure Scene where
  name    : Bytes := []
  scope   : Nat := 0
  part    : Nat := 0x9600
  fsOp    : Nat := 48000
  bytes   : Nat := 64
  crc     : Nat := 0
  ssi     : Nat := 0
  corrupt : Bool := false
  body    : SceneBody := {}
  image   : Option Bytes := none
  counts  : List Nat := []
  deriving DecidableEq, Repr

/-- One cue map entry (chapter 10, 64 bytes). -/
structure CueEntry where
  source   : Nat := 0
  action   : Nat := 0
  flags    : Nat := 0
  scene    : Nat := 0
  ofs      : Int := 0
  scope    : Nat := 0
  univ     : Nat := 0
  slot     : Nat := 0
  lo       : Nat := 0
  hi       : Nat := 0
  tc       : Nat := 0
  address  : Bytes := []
  deriving DecidableEq, Repr

/-- The settings of CUE.CONFIG at their defaults. -/
structure CueCfg where
  sacnPorts : Nat := 0
  tcSource  : Nat := 0
  oscPort   : Nat := 0
  tcRate    : Nat := 1
  lead      : Nat := 20
  holdoff   : Nat := 500
  tzOfs     : Int := 0
  deriving DecidableEq, Repr

/-- One sACN source of a universe (R330): its CID, priority, last sequence number, the instant of its last data,
and the order in which it was first received. -/
structure SacnSource where
  cid    : Nat
  prio   : Nat
  seq    : Nat
  ms     : Nat
  order  : Nat
  deriving DecidableEq, Repr

/-- One universe: its sources, the one followed (0 is none), and the slot values last received from it. -/
structure Universe where
  sources : List SacnSource := []
  follow  : Nat := 0
  slots   : Tab Nat := []
  started : Bool := false
  deriving DecidableEq, Repr

/-- Per cue source: packets received and discarded, firings and refusals. -/
structure CueCount where
  received  : Nat := 0
  discarded : Nat := 0
  fired     : Nat := 0
  refused   : Nat := 0
  deriving DecidableEq, Repr

/-- The cue bridge (R329 to R335). `lastMs` holds the instant of an entry's last firing plus one; `values` the last
OSC or sACN value of an entry plus one; `tcNow` the timecode now, `tcArmed` the entries armed from LTC. -/
structure Cue where
  cfg       : CueCfg := {}
  nvs       : CueCfg := {}
  map       : Tab CueEntry := []
  universes : Tab Universe := []
  counts    : Tab CueCount := []
  lastMs    : Tab Nat := []
  values    : Tab Nat := []
  seq       : Nat := 0
  deriving DecidableEq, Repr

/-- A SCENE.STORE that waits for its boundary (R328): the request that waits, and its fields. -/
structure StoreJob where
  client : Nat
  seq    : Nat
  scene  : Nat
  scope  : Nat
  name   : Bytes
  flags  : Nat
  deriving DecidableEq, Repr

/-- The scene image parts held aside (R338): the scene, the parts announced, the next part, the bytes so far. -/
structure ImportJob where
  scene : Nat
  total : Nat
  next  : Nat
  bytes : Bytes
  deriving DecidableEq, Repr

/-- Instances by key (KIND × 65,536 + INDEX), scenes by number, safe masks by key (kind 4 is a sink), the scene
image held aside, and the stores that wait. -/
structure Progs where
  insts  : List (Nat × Inst) := []
  scenes : List (Nat × Scene) := []
  safes  : Tab Nat := []
  inbound : Option ImportJob := none
  storing : List StoreJob := []
  cue    : Cue := {}
  deriving DecidableEq, Repr

end Sys2Proof.Machine
end

