-- ==== Sys2Proof/Machine/Unit/Lig.lean ====
section
/-! DEFINITION. Ligature: sinks, routes, crossfades, gains and the samples inside it (chapter 11). -/

namespace Sys2Proof.Machine

/-- The settings of one sink (R359, chapter 11). -/
structure SinkCfg where
  thresh : Nat := 96
  ret    : Nat := 1
  hold   : Nat := 50
  gain   : Int := 0
  shape  : Nat := 2
  shade  : Nat := 1000
  deriving DecidableEq, Repr

/-- One sink (R345 to R360). `live` and `next` are route words, `arm` the switch SSI register, `held` a word that
waits for the running crossfade, and `cmd` an ACTION of LIG.FALLBACK that waits for it. `moving` is a move whose crossfade runs, by
direction (0 to the backup) and cause. `sel` is 1 on the backup, `cmdHold` a commanded hold there, `absCount` and
`bakCount` the consecutive ABSENT samples of the primary and of the backup, `want` that the count has been reached,
`good` the samples since the primary's last ABSENT one. `fadeLen` and `fadePos` are the running crossfade, `oldWord`
and `oldSel` what it leaves. `cfgDue` are settings that wait for the boundary (R364, R735). `out` is the sample that
the sink delivered last, `pre` the one before the Hush override (R484). -/
structure Sink where
  live     : Nat := 0
  next     : Nat := 0
  arm      : Nat := 0
  held     : Option Nat := none
  sel      : Nat := 0
  cmdHold  : Bool := false
  absCount : Nat := 0
  bakCount : Nat := 0
  want     : Bool := false
  good     : Nat := 0
  fadeLen  : Nat := 0
  fadePos  : Nat := 0
  oldWord  : Nat := 0
  oldSel   : Nat := 0
  cmd      : Option Nat := none
  moving   : Option (Nat × Nat) := none
  cfg      : SinkCfg := {}
  cfgDue   : Option SinkCfg := none
  ramp     : Option Ramp := none
  out      : Sample := {}
  pre      : Sample := {}
  deriving DecidableEq, Repr

/-- The state of Ligature. `patch` is the code of P (0: 16, 1: 24, 2: 32) and `patchHole` the SSI up to which input
routes carry ABSENT after a rise of P (R349). `srcOwner` and `snkOwner` are the owners of pool numbers, 0 when free: an
ALIGN.DELAY's key plus 1, or 0x1000000 plus a stream (R343). `fifo` holds, by program source, the samples computed and not yet
released, oldest first; `now` the present sample of each source; `hist` the earlier samples of the input sources,
newest first. `gains` are the gain changes that wait for their SSI: (SSI, sink, count, gain). `moves` gathers the
period's FALLBACK events by direction: (count, lowest, highest, cause) (R365). -/
structure Lig where
  sinks     : Tab Sink := []
  patch     : Nat := 1
  nvsPatch  : Nat := 1
  patchDue  : Option Nat := none
  patchHole : Nat := 0
  srcOwner  : Tab Nat := []
  snkOwner  : Tab Nat := []
  fifo      : Tab (List Sample) := []
  now       : Tab Sample := []
  hist      : Tab (List Sample) := []
  fallbacks : Nat := 0
  returns   : Nat := 0
  heldCount : Nat := 0
  switches  : Nat := 0
  toBackup  : Option (Nat × Nat × Nat × Nat × Nat) := none
  toPrimary : Option (Nat × Nat × Nat × Nat × Nat) := none
  deriving DecidableEq, Repr

end Sys2Proof.Machine
end

