-- ==== Sys2Proof/Machine/Unit/Serif.lean ====
section
/-! DEFINITION. Serif: port configurations, states, elastic buffers and counters (chapter 13). -/

namespace Sys2Proof.Machine

/-- A port configuration record as its four words (chapter 13). -/
structure SerCfg where
  cfg0 : Nat := 0
  cfg1 : Nat := 0
  rxEn : Nat := 0
  txEn : Nat := 0
  deriving DecidableEq, Repr

/-- One Serif port (R397 to R405). `state` is the code of the port states table. `due` is a configuration that waits for
the next frame reference. `held` are the register words that wait for APPLY. `rxBuf` and `txBuf` are the elastic buffers,
oldest first, `rxLast` and `txLast` the frames delivered last, `rxNow` the frame that the sources present now. `sdo` is
the frame sent last: each slot's integer, or none where SDO is high-impedance. `good` and `wrong` count consecutive good
and wrong-length frames, `calm` the consecutive measurements within ±80 ppm, `measured` a first measurement in range.
`gate` is the drive gate that the claim comparison gives and `driving` the gate in force (R405). `slipU` and `slipO` are
the slips of each direction since the last SER_SLIP, at `slipMs`. -/
structure SerPort where
  state    : Nat := 0
  cfg      : SerCfg := {}
  nvs      : SerCfg := {}
  held     : Option SerCfg := none
  due      : Option SerCfg := none
  rate     : Int := 0
  rxBuf    : List (List Sample) := []
  txBuf    : List (List Sample) := []
  rxLast   : List Sample := []
  txLast   : List Sample := []
  rxNow    : List Sample := []
  sdo      : List (Option Int) := []
  good     : Nat := 0
  wrong    : Nat := 0
  calm     : Nat := 0
  measured : Bool := false
  gate     : Bool := true
  driving  : Bool := false
  events   : Nat := 0
  since    : Nat := 0
  rxUnder  : Nat := 0
  rxOver   : Nat := 0
  txUnder  : Nat := 0
  txOver   : Nat := 0
  frameErr : Nat := 0
  mismatch : Nat := 0
  noClock  : Nat := 0
  txRep    : Nat := 0
  txAbs    : Nat := 0
  clips    : Nat := 0
  handover : Nat := 0
  slotClip : Tab Nat := []
  slipMs   : Option Nat := none
  slipU    : Nat := 0
  slipO    : Nat := 0
  deriving DecidableEq, Repr

/-- The Serif ports by number. -/
structure Serif where
  ports : Tab SerPort := []
  deriving DecidableEq, Repr

end Sys2Proof.Machine
end

