-- ==== Sys2Proof/Machine/Unit/Resume.lean ====
section
/-! DEFINITION. The resume record (chapter 04). -/

namespace Sys2Proof.Machine

/-- What the resume record holds (R127): the Serif ports, the stream tables, routes, Sheen's settings, the instances with
their LIVE folios and names, the sinks' settings and gains, the shed priorities, the pool numbers, and the safe masks (R320). -/
structure ResumeRec where
  serif  : List (Nat × SerCfg) := []
  rx     : List (Nat × List (BitVec 8)) := []
  tx     : List (Nat × List (BitVec 8)) := []
  sinks  : List (Nat × Nat × SinkCfg) := []
  sheen  : Tab Nat := []
  insts  : List (Nat × Inst) := []
  prio   : Tab Nat := []
  srcOwn : Tab Nat := []
  snkOwn : Tab Nat := []
  xbus   : Tab (Nat × Nat × Nat × Nat) := []
  safes  : Tab Nat := []
  deriving DecidableEq, Repr, Inhabited

/-- What the active unit captures for a rejoining shadow (R500): the JSN last applied, its configuration with the LIVE folios, the armed
actions with their NEXT folios, and the receive and transmit buffer fills of each slave Serif port. -/
structure Snapshot where
  jsn   : Nat := 0
  rec_  : ResumeRec := {}
  armed : List Armed := []
  fills : Tab (Nat × Nat) := []
  deriving DecidableEq, Repr, Inhabited

/-- The signal state that moves at one boundary of a rejoin (R500): of instances, and of sinks. -/
structure Signals where
  insts : List (Nat × Inst) := []
  sinks : Tab Sink := []
  deriving DecidableEq, Repr, Inhabited

/-- What the engine held when it entered MAINTENANCE (R627): its record and its slack window. -/
structure MaintEntry where
  rec_ : ResumeRec := {}
  sw   : Nat := 1
  deriving DecidableEq, Repr

end Sys2Proof.Machine
end

