-- ==== Sys2Proof/Config.lean ====
section
/-! DEFINITION. What the manual leaves open: the free values. Each is a constant with no body, so that
nothing can be proved of its value. A function of a number is applied to the state's counter of draws,
`State.draws`, which the step advances at every draw (log 2). -/

namespace Sys2Proof.Config

/-- The estimate that a NOT_READY reply carries in RETRY_MS, before its floor of 10 ms (R120, R122). -/
opaque retryEstimate : Nat → Nat

/-- Whether a failing word of barrel memory holds a LIVE or NEXT folio: the manual gives the folios no place there (R245). -/
opaque holdsFolio : Nat → Bool

/-- Which of the free sheets an allocation gives: the manual names no order among them (R183). -/
opaque sheetPick : Nat → Nat

/-- A session's resume token (R200, R202). -/
opaque token : Nat → Nat

/-- The Stem offset in ppt that the DPLL reaches after a measurement: the loop's course is not stated (R66). -/
opaque loopFreq : Nat → Int

/-- The phase error in ps after a measurement has been applied (R66). -/
opaque phaseError : Nat → Int

/-- Which of the neighbouring binary32 values a function takes, for the function's number and its arguments: how it is rounded is not stated,
or only within how many units in the last place (R244, R277, R288, R310). -/
opaque ulps : List Nat → Nat

/-- Coefficient `i` (b0, b1, b2, a1, a2) of a section designed from basic values: the form of the design with its frequency, gain, Q and
Fs_op. The designs are named, their formulas and rounding are not (R275). -/
opaque design : List Int → Nat → BitVec 32

/-- The gate's gain one sample on, from its settings, the gain that it moves to and the present gain: the course of attack and release is
not stated (R275). -/
opaque gateStep : List Int → BitVec 32 → BitVec 32 → BitVec 32

/-- The compressor's envelope one sample on, from its settings, the envelope and the level (R275). -/
opaque compStep : List Int → BitVec 32 → BitVec 32 → BitVec 32

/-- The compressor's gain before make-up within its knee, for its settings and the envelope: the knee's curve is not stated (R275). -/
opaque compGain : List Int → BitVec 32 → BitVec 32

/-- The limiter's gain as it is released by a sample, from its settings and the present gain (R275). -/
opaque limRelease : List Int → BitVec 32 → BitVec 32

/-- Sample `i` of a logarithmic sweep over Q samples, for FREQ, FREQ_END, Q and Fs_op (R288). -/
opaque sweep : List Nat → Nat → BitVec 32

/-- White noise of a SEED at an SSI, at RMS 1: the generator is counter-based, and not named (R288). -/
opaque whiteNoise : Nat → Nat → BitVec 32

/-- Pink noise of a SEED at an SSI and a rate: that white noise filtered (R288). -/
opaque pinkNoise : Nat → Nat → Nat → BitVec 32

/-- The value of a basic parameter that is nearest to what expert words represent, for the parameter and the words (R29). -/
opaque nearestParam : Nat → List (BitVec 32) → Int

/-- The state of an analyser's filters and averaging one sample on, for its settings, the state and the sample: the filters are named, and
their realisation is not stated (R289, R513). -/
opaque bankStep : List Int → Nat → BitVec 32 → Nat

/-- A level of an analyser's band, for its resolution and rate, the band and the state of its filters (R513). -/
opaque bandLevel : List Int → Nat → Nat → Nat

/-- Tap `i` of phase `j` of the true-peak interpolation: it meets BS.1770-4 Annex 2, and its coefficients are not stated (R510). -/
opaque truePeakTap : Nat → Nat → BitVec 32

/-- Coefficient `i` (b0, b1, b2, a1, a2 of each of two sections) of the K-weighting at a rate in Hz: BS.1770-4 states it at 48 kHz alone
(R511). -/
opaque kWeight : Nat → Nat → BitVec 32

/-- The bytes of a scene image beyond its header, for what the scene holds: the layout of the folios is not stated
(R327, R328). The contents are numbered by the model's own list of numbers. -/
opaque sceneBytes : List Nat → List (BitVec 8)

/-- What an imported image holds, as the same list of numbers (R338). -/
opaque sceneNumbers : List (BitVec 8) → List Nat

/-- A signature that the identity key makes: 64 bytes, of which the nonce of the scheme leaves every value open
(R603, R642, LC.ATTEST). -/
opaque signature : Nat → List (BitVec 8)

/-- The public key of an identity key pair that the random number generator gives (R604). -/
opaque keyPub : Nat → List (BitVec 8)

/-- The nonce that LC.NONCE_GET, a HELLO or a session draws (R606, R480, R451). -/
opaque nonceBytes : Nat → List (BitVec 8)

/-- A byte of the boot ROM, by its address (R528). -/
opaque romByte : Nat → BitVec 8

/-- A byte of NVS as Feed reads it: its layout is not stated (R528). -/
opaque nvsByte : Nat → BitVec 8

/-- The estimated power of VDD_CORE and VDD_SRAM in mW (R668). -/
opaque powerMw : Nat → Nat

/-- The exemplar of a Copybook logic test, by test number: it is part of the firmware image (R620). -/
opaque exemplar : Nat → Nat

/-- The address that DHCP or the link-local rule gives an interface, by 8 × port + interface (R411). -/
opaque leasedAddr : Nat → Nat

/-- The SSRC that Scribe chooses at random for a transmit stream (NET.TX_SET). -/
opaque ssrc : Nat → Nat

/-- What a snapshot of the active unit holds, from its bytes: their layout is not stated (R500). -/
opaque snapshotOf : List (BitVec 8) → Machine.Snapshot

/-- The bytes of a snapshot for what it holds (R500). -/
opaque snapshotBytes : Machine.Snapshot → List (BitVec 8)

/-- The signal state that a frame of a rejoin moves, from its bytes: their layout is not stated (R500). -/
opaque signalsOf : List (BitVec 8) → Machine.Signals

/-- The bytes of the signal state that a frame of a rejoin moves (R500). -/
opaque signalBytes : Machine.Signals → List (BitVec 8)

/-- The bytes of the resume record for what it holds, up to its CRC: the layout is not stated (R127). -/
opaque resumeBytes : Machine.ResumeRec → List (BitVec 8)

end Sys2Proof.Config
end

