-- ==== Sys2Proof/Machine/Bits.lean ====
section
/-! DEFINITION. Bit fields, little-endian bytes and rounding: the helpers that every family uses. -/

namespace Sys2Proof.Machine

/-- Bits `lo` to `lo + n - 1` of `v`, as a number. -/
def fld (v lo n : Nat) : Nat := (v >>> lo) % 2 ^ n

/-- Bit `i` of `v`. -/
def bit (v i : Nat) : Bool := v.testBit i

/-- The number of a Boolean bit. -/
def b2n (b : Bool) : Nat := if b then 1 else 0

/-- `v` with bit `i` set. -/
def setBit (v i : Nat) : Nat := v ||| (1 <<< i)

/-- `v` with bit `i` clear. -/
def clrBit (v i : Nat) : Nat := if v.testBit i then v - (1 <<< i) else v

/-- `v` with bit `i` at `b`. -/
def putBit (v i : Nat) (b : Bool) : Nat := if b then setBit v i else clrBit v i

/-- The W1C access (R4): every bit of `w` that is 1 clears that bit of `v`. -/
def w1c (v w : Nat) : Nat := v - (v &&& w)

/-- The signed reading of an `n`-bit number. -/
def sgn (n v : Nat) : Int := if v % 2 ^ n < 2 ^ (n - 1) then (v % 2 ^ n : Nat) else (v % 2 ^ n : Nat) - (2 ^ n : Nat)

/-- The `n`-bit number of a signed value (two's complement). -/
def unsgn (n : Nat) (v : Int) : Nat := (v % (2 ^ n : Nat)).toNat

/-- `x` clamped to `lo` to `hi` (R723). -/
def clampN (lo hi x : Nat) : Nat := if x < lo then lo else if hi < x then hi else x

/-- `x` clamped to `lo` to `hi`. -/
def clampI (lo hi x : Int) : Int := if x < lo then lo else if hi < x then hi else x

/-- A signed value saturated to 32 bits, as every picosecond field of Baseline is (R727). -/
def sat32 (x : Int) : Int := clampI (-2147483648) 2147483647 x

/-- `a ÷ b` rounded to the nearest integer, halves upwards (R721). -/
def roundDiv (a b : Int) : Int := (2 * a + b).fdiv (2 * b)

/-- `a ÷ b` on naturals, rounded to the nearest, halves upwards (R721). -/
def roundDivN (a b : Nat) : Nat := (2 * a + b) / (2 * b)

/-- `x` rounded down to a multiple of 8. -/
def down8 (x : Nat) : Nat := x / 8 * 8

/-- `x` rounded up to a multiple of 8. -/
def up8 (x : Nat) : Nat := (x + 7) / 8 * 8

/-- `n` bytes of `v`, least significant first (R6). -/
def le : Nat → Nat → Bytes
  | 0, _ => []
  | n + 1, v => BitVec.ofNat 8 v :: le n (v / 256)

/-- `n` bytes of a signed value (R6). -/
def leI (n : Nat) (v : Int) : Bytes := le n (unsgn (8 * n) v)

/-- The number that bytes spell, least significant first. -/
def ofLe : Bytes → Nat
  | [] => 0
  | b :: bs => b.toNat + 256 * ofLe bs

/-- `n` bytes at offset `o`; a missing byte reads 0. -/
def slice (p : Bytes) (o n : Nat) : Bytes := (p.drop o).take n

/-- The unsigned fields of a payload at offset `o`. -/
def u8 (p : Bytes) (o : Nat) : Nat := ofLe (slice p o 1)
/-- A 16-bit field. -/
def u16 (p : Bytes) (o : Nat) : Nat := ofLe (slice p o 2)
/-- A 24-bit field. -/
def u24 (p : Bytes) (o : Nat) : Nat := ofLe (slice p o 3)
/-- A 32-bit field. -/
def u32 (p : Bytes) (o : Nat) : Nat := ofLe (slice p o 4)
/-- A 64-bit field. -/
def u64 (p : Bytes) (o : Nat) : Nat := ofLe (slice p o 8)
/-- Signed fields of a payload. -/
def i8 (p : Bytes) (o : Nat) : Int := sgn 8 (u8 p o)
/-- A signed 16-bit field. -/
def i16 (p : Bytes) (o : Nat) : Int := sgn 16 (u16 p o)
/-- A signed 32-bit field. -/
def i32 (p : Bytes) (o : Nat) : Int := sgn 32 (u32 p o)
/-- A signed 64-bit field. -/
def i64 (p : Bytes) (o : Nat) : Int := sgn 64 (u64 p o)

/-- `n` zero bytes: a reserved field. -/
def zeros (n : Nat) : Bytes := List.replicate n 0

/-- `b` padded with zeros to `n` bytes, or cut to `n`. -/
def padTo (n : Nat) (b : Bytes) : Bytes := b.take n ++ zeros (n - b.length)

/-- Records of `n` bytes each, cut from the front: at most `fuel` of them. -/
def chunks (n : Nat) : Nat → Bytes → List Bytes
  | 0, _ => []
  | fuel + 1, b => if b.isEmpty then [] else b.take n :: chunks n fuel (b.drop n)

/-- The sum of a list of numbers. -/
def sumN (l : List Nat) : Nat := l.foldl (· + ·) 0

end Sys2Proof.Machine
end

