-- ==== Sys2Proof/Machine/Crc.lean ====
section
/-! DEFINITION. The check values of chapters 06 and 19: reflected CRCs over bytes. -/

namespace Sys2Proof.Machine

/-- `n` steps of a reflected CRC register with polynomial `poly` (reflected). -/
def crcShift (poly : Nat) : Nat → Nat → Nat
  | 0, r => r
  | n + 1, r => crcShift poly n (if r % 2 = 1 then (r / 2) ^^^ poly else r / 2)

/-- A reflected CRC over bytes from register value `r`. -/
def crcRun (poly : Nat) (r : Nat) : Bytes → Nat
  | [] => r
  | b :: bs => crcRun poly (crcShift poly 8 (r ^^^ b.toNat)) bs

/-- CRC-32C (R189): polynomial 0x1EDC_6F41 reflected, initial value and final XOR all ones. -/
def crc32c (b : Bytes) : Word := BitVec.ofNat 32 (crcRun 0x82F63B78 0xFFFFFFFF b ^^^ 0xFFFFFFFF)

/-- The reflected polynomial of ALG 0 CRC-32C, 1 CRC-32 and 2 CRC-64 (R560). -/
def algPoly : Nat → Nat
  | 0 => 0x82F63B78 | 1 => 0xEDB88320 | _ => 0xC96C5795D7870F42

/-- The bytes of a CRC by ALG. -/
def algWidth : Nat → Nat
  | 2 => 8 | _ => 4

/-- The initial value and final XOR of a CRC by ALG: all ones. -/
def algOnes (alg : Nat) : Nat := 2 ^ (8 * algWidth alg) - 1

/-- CRC-64 of bytes (R560). -/
def crc64 (b : Bytes) : Nat := crcRun (algPoly 2) (algOnes 2) b ^^^ algOnes 2

end Sys2Proof.Machine
end

