-- ==== Sys2Proof/Machine/Unit/Baseline.lean ====
section
/-! DEFINITION. Baseline: candidates, selection, the DPLL, steering, steps and pulse outputs (chapter 03). -/

namespace Sys2Proof.Machine

/-- The states of Baseline (R65). -/
inductive BlState where
  | free | acquiring | locked | holdover
  deriving DecidableEq, Repr

/-- The configuration of one candidate (R90, BL_REF_CFG0 and BL_REF_CFG1). -/
structure RefCfg where
  prio  : Nat := 0
  bw    : Nat := 0
  qualT : Nat := 5
  param : Nat := 0
  pol   : Nat := 0
  deriving DecidableEq, Repr

/-- The status of one candidate (R58 to R61, BL_REF_ST). `flapMs` holds the instants of the
disqualifications inside FLAP_WINDOW, `qualMs` the instant at which the present qualification began,
`buildout` the build-out that taking it would need, in ps, `hits` the consecutive deviating phase
measurements (R726), `dev` the latest deviation in ps, `hitDue` a PHASE_HIT that
waits for its boundary, `gm` the grandmaster identity of a PTP candidate, and `causeIdx` the period index at which `cause`
was recorded. -/
structure RefSt where
  qual     : Bool := false
  bar      : Bool := false
  barUntil : Option Nat := none
  los      : Bool := false
  cause    : Nat := 0
  flapMs   : List Nat := []
  fofs     : Int := 0
  qualMs   : Nat := 0
  buildout : Int := 0
  hits     : Nat := 0
  dev      : Int := 0
  hitDue   : Bool := false
  gm       : Nat := 0
  causeIdx : Nat := 0
  deriving DecidableEq, Repr

/-- The policy of BL.POLICY_SET, at its defaults. -/
structure BlPolicy where
  revert     : Nat := 1
  startHo    : Nat := 0
  wtr        : Nat := 10
  hoLimit    : Nat := 600
  slewRate   : Nat := 100
  firstPull  : Nat := 50
  flapLimit  : Nat := 3
  flapWindow : Nat := 60
  barTime    : Nat := 300
  steerRate  : Nat := 1000000
  boMax      : Nat := 1000
  deriving DecidableEq, Repr

/-- One pulse output: 0 WCLK_OUT, 1 PPS_OUT, 2 FRAME_OUT, 3 LTC_OUT (BL_OUT_CFG, BL_OUT_OFS and
BL_OUT_FRAME). `mult` is the code of WCLK_MULT, `ofs` the OFFSET asked for, `now` the OFFSET reached
while it slews (R86), both in ps; `level` is the pin's level. -/
structure BlOut where
  en     : Bool := false
  always : Bool := false
  pol    : Bool := false
  mult   : Nat := 0
  ofs    : Int := 0
  now    : Int := 0
  frame  : Nat := 0
  level  : Bool := false
  deriving DecidableEq, Repr

/-- A written phase step that is pending (R83): in ps, with the boundary it is stated for and the
request that waits for it, when an untimed command sent it. -/
structure StepPending where
  step  : Int
  atSsi : Nat
  cmd   : Option (Nat × Nat) := none
  deriving DecidableEq, Repr

/-- The state of Baseline. `sel` is SEL of BL.STATUS_GET; `steer` is the steering word, `freq` the
Stem's present offset, both in ppt. `nvsPolicy`, `nvsRefs` and `nvsOuts` are the stored settings (R94).
`theta` is the first-lock offset being removed, by a pull (`aligning`) or by one step (`thetaStep`),
`ptpDelta` the PTP-derived SSI less the local one, and `jamDue` the jam at the next boundary (R77). The
steering ramp runs from `rampFrom` since `rampMs` (R78). `selWant` is a written BL_SELECT that waits for its boundary (R96), `need`
the frequency that following the reference takes, without slew and pull, `inMs` the instant since which the phase error has
stayed within the threshold (R66), `hist` the frequencies needed while LOCKED, newest first, with their instants (R68), `nvsMs`
the instant of the last periodic write (R71), `hoWait` that the holdover limit waits for the Stem's lock (R72), and `captSsi` the
boundary at which the last switch captured its build-out (R84). -/
structure Baseline where
  state     : BlState := .free
  sel       : Nat := 24
  selmode   : Nat := 0
  forced    : Nat := 0
  refs      : Tab RefCfg := []
  refSt     : Tab RefSt := []
  policy    : BlPolicy := {}
  outs      : Tab BlOut := []
  nvsPolicy : BlPolicy := {}
  nvsRefs   : Tab RefCfg := []
  nvsOuts   : Tab BlOut := []
  steer     : Int := 0
  freq      : Int := 0
  hoFreq    : Int := 0
  nvsFreq   : Option Int := none
  hoValid   : Bool := false
  hoMs      : Nat := 0
  phaseErr  : Int := 0
  buildout  : Int := 0
  phaseOfs  : Int := 0
  aligning  : Bool := false
  theta     : Int := 0
  thetaStep : Bool := false
  jamDue    : Bool := false
  ptpDelta  : Int := 0
  lockMs    : Nat := 0
  rampFrom  : Int := 0
  rampMs    : Nat := 0
  stepPend  : Option StepPending := none
  switches  : Nat := 0
  hoEntries : Nat := 0
  hoSeconds : Nat := 0
  events    : Nat := 0
  selWant   : Option (Nat × Nat) := none
  need      : Int := 0
  inMs      : Option Nat := none
  hist      : List (Nat × Int) := []
  nvsMs     : Nat := 0
  hoWait    : Bool := false
  captSsi   : Option Nat := none
  deriving DecidableEq, Repr

end Sys2Proof.Machine
end

