-- ==== Sys2Proof/Machine/Unit/Boot.lean ====
section
/-! DEFINITION. Reset, boot, firmware slots and the resume settings (chapter 04). -/

namespace Sys2Proof.Machine

/-- The codes of HOST_STATUS.STAGE by name (chapter 04). -/
inductive Stage where
  | rom | header | verifying | fwInit | restoring | ready | scribeRestart | waitHost | standby | waking
  deriving DecidableEq, Repr

/-- What of the boot and reset state is held outside the resume record. `flash` is the QSPI flash by
byte address, `loadArea` the host image load area (R114); an unlisted byte of the flash reads 0xFF
(erased) and one of the load area 0. `tried` lists the sources already tried at this boot, newest
first, `running` whether the image started has signalled (R112). `wdtArmed` is the Scribe watchdog's
arming (R729), `porMs` the instant at which POR_N was released (R728), `resumeStage` the stage that a Scribe restart interrupted, `resumeBad` that the resume record in NVS fails its
check. `saving` are the SYS.RESUME_SAVE commands that wait. `waitMs` is the instant at which the present step of the boot began. -/
structure Boot where
  stage       : Stage := .rom
  inkBasic    : Bool := false
  netUp       : Bool := false
  retryMs     : Nat := 250
  slot        : Nat := 0
  fallback    : Bool := false
  unverified  : Bool := false
  failA       : Nat := 0
  failB       : Nat := 0
  failHost    : Nat := 0
  svnOtp      : Nat := 0
  svnImg      : Nat := 0
  fwVer       : Nat := 0
  resetCause  : Nat := 1
  readyMs     : Nat := 0
  bootMs      : Nat := 0
  pref        : Nat := 0
  source      : Nat := 0
  tried       : List Nat := []
  running     : Bool := false
  flash       : List Host.Cell := []
  loadArea    : List Host.Cell := []
  resumeMode  : Nat := 0
  autosave    : Nat := 60
  autoMs      : Nat := 0
  autoRec     : ResumeRec := {}
  pwrFail     : Bool := false
  pwrFlush    : Bool := false
  wdtArmed    : Bool := false
  resumeStage : Option Stage := none
  restartDue  : Bool := false
  resumeBad   : Bool := false
  saving      : List (Nat × Nat) := []
  waitMs      : Nat := 0
  porMs       : Nat := 0
  deriving DecidableEq, Repr

end Sys2Proof.Machine
end

