-- ==== Sys2Proof/Machine/Unit/Ductus.lean ====
section
/-! DEFINITION. Ductus: Nibs, lanes, the schedule, catch-up and the watchdog (chapter 08). -/

namespace Sys2Proof.Machine

/-- The state of Ductus. `nibs` holds the state code of each Nib that differs from its state as shipped, `lanes`
the Nib of each lane that a migration has moved (a value of 144 is no Nib). `swDue` is a slack window that
applies at the next boundary (R266). `open_` are the periods whose compute window has started and whose class A
work is not complete, oldest first; `carried` says that the oldest of them started late (R260). `repeatTo` is the
SSI up to which Nib-fed sinks repeat their sample (R261). `stall` counts the boundaries without progress and
`progress` marks progress in the present period (R263). `done` holds (ms, cycles) of the completions of the last
second. `planNext` says that the present period is a planned-shed one; it becomes `planned` at its window start (R253, R260). `splitAt` is the
SSI of the last splits with the instances split there (R256). `acc` holds the accumulator files as binary64 words by lane × 2,048 +
bus × 8 + place in the period (R244, R273). `missCount` and `missMax` gather the misses since the last DEADLINE_MISS event, whose instant is `missMs`. -/
structure Ductus where
  nibs      : Tab Nat := []
  lanes     : Tab Nat := []
  sw        : Nat := 1
  nvsSw     : Nat := 1
  swDue     : Option (Nat × Option (Nat × Nat)) := none
  level     : Nat := 0
  eff       : Nat := 0
  planned   : Bool := false
  carried   : Bool := false
  open_     : List Nat := []
  repeatTo  : Nat := 0
  stall     : Nat := 0
  progress  : Bool := false
  halted    : Bool := false
  wdtLast   : Nat := 0
  events    : Nat := 0
  lastDone  : Nat := 0
  done      : List (Nat × Nat) := []
  carryMax  : Nat := 0
  late      : Nat := 0
  missed    : Nat := 0
  recovered : Nat := 0
  wdt       : Nat := 0
  splits    : Nat := 0
  pshed     : Nat := 0
  missMs    : Option Nat := none
  missCount : Nat := 0
  missMax   : Nat := 0
  armedHi   : Nat := 0
  planNext  : Bool := false
  splitAt   : Nat × List Nat := (0, [])
  acc       : Tab Nat := []
  deriving DecidableEq, Repr

end Sys2Proof.Machine
end

