-- ==== Sys2Proof/Machine/Unit/Feed.lean ====
section
/-! DEFINITION. Feed, Reservoir, the Exchange window, XMI and Cartridges (chapter 18). -/

namespace Sys2Proof.Machine

/-- A Cartridge word as its consumer reads it (R551). -/
structure CartWord where
  data : List (BitVec 8) := []
  v    : Bool := false
  e    : Bool := false
  p    : Bool := false
  len  : Nat := 0
  deriving DecidableEq, Repr

/-- One Cartridge (R552 to R555): the words held, oldest first, its counts, the word read last, and whether the consumer
is discarding the rest of a poisoned packet. -/
structure Cart where
  words   : List CartWord := []
  ce      : Nat := 0
  poison  : Nat := 0
  drop    : Nat := 0
  out     : CartWord := {}
  discard : Bool := false
  deriving DecidableEq, Repr

/-- The state of Feed and the memories. The memories are by offset in their region: `tcm`, `res` (Reservoir beyond the
sheet pool, whose first 8 MiB are the sheet pool's), `exch`, `barrel`, `store` (Nib stores) and `xmi`. An unlisted byte reads
0. `poison` are the poisoned words by their address ÷ 8. `resp` and `data` are the last access's response and data.
`cols` are the redundant columns in use by bank, from fuses. `memCount` and `memMs` are, by KIND of MEM_FAULT, the events not
yet reported and the instant of the last MEM_FAULT plus one. `order` is an order on AON_DOWN that AON has not
acknowledged: the word and the instant it was sent. `rtRun` counts by target port the real-time grants since the last bulk one, at most
7, and `latency` is the unloaded read latency of the last access's path in FEED_CLK cycles (R532, R539). -/
structure Feed where
  xmiMib      : Nat := 4096
  tcm         : List Host.Cell := []
  res         : List Host.Cell := []
  exch        : List Host.Cell := []
  barrel      : List Host.Cell := []
  store       : List Host.Cell := []
  xmi         : List Host.Cell := []
  poison      : List Nat := []
  decode      : Nat := 0
  access      : Nat := 0
  ecc         : Nat := 0
  atomic      : Nat := 0
  lastResp    : Nat := 0
  lastMaster  : Nat := 0
  lastTarget  : Nat := 0
  lastAddr    : Nat := 0
  addrHi      : Nat := 0
  bulkForced  : Nat := 0
  bulkWaitMax : Nat := 0
  collide     : Nat := 0
  exWord      : Nat := 0
  exMaster    : Nat := 0
  rdOld       : Nat := 0
  ce          : Tab Nat := []
  ue          : Tab Nat := []
  ueOfs       : Tab Nat := []
  tapUe       : Tab Nat := []
  cols        : Tab (List Nat) := []
  carts       : Tab Cart := []
  resp        : Nat := 0
  data        : List (BitVec 8) := []
  memCount    : Tab Nat := []
  memMs       : Tab Nat := []
  order       : Option (CartWord × Nat) := none
  rtRun       : Tab Nat := []
  latency     : Nat := 0
  deriving DecidableEq, Repr

end Sys2Proof.Machine
end

