-- ==== Sys2Proof/Machine/Unit/Host.lean ====
section
/-! DEFINITION. The PCIe endpoint, HSPI, I2C, AVSBus, GPIO, LTC and the board record (chapter 23). -/

namespace Sys2Proof.Machine

/-- The PCIe endpoint (R648 to R654, R731). `vecMask` marks masked vectors (all of them after a reset of the
endpoint, as PCI Express Base 4.0 has it, log 70), `pending` the vectors whose
pending bit is set, `sent` counts the messages sent per vector, and `stale` says that MSI-X has not been
enabled again since PERST#. `dstate` is 0 (D0) or 3 (D3hot). `gen` and `lanes` are the trained speed and width. -/
structure Pcie where
  trained   : Bool := false
  linkL0    : Bool := false
  perst     : Bool := false
  dstate    : Nat := 0
  l1En      : Bool := false
  inL1      : Bool := false
  pmeEn     : Bool := false
  pmeStatus : Bool := false
  msixEn    : Bool := false
  fnMask    : Bool := false
  vecMask   : List Nat := List.range 72
  vecTable  : Tab Word := []
  pending   : List Nat := []
  stale     : Bool := false
  sent      : Tab Nat := []
  persts    : Nat := 0
  surprise  : Nat := 0
  aerCorr   : Nat := 0
  aerUncorr : Nat := 0
  gen       : Nat := 0
  lanes     : Nat := 0
  deriving DecidableEq, Repr

/-- The identity fields of the function's configuration header (R648). -/
structure PciHeader where
  vendor    : Nat
  device    : Nat
  revision  : Nat
  cls       : Nat
  subVendor : Nat
  subsystem : Nat
  intPin    : Nat
  deriving DecidableEq, Repr

/-- The capabilities the PCIe function offers (R650): MSI-X with its table and pending bits in BAR0, the link's greatest generation and
width, payload and read request sizes, ASPM L1 and the D3hot state of power management, PME from D3hot and D3cold, Advanced Error
Reporting, and the Device Serial Number. No other capability is offered. -/
structure PciCaps where
  vectors  : Nat
  tableAt  : Nat
  pbaAt    : Nat
  maxGen   : Nat
  maxWidth : Nat
  payload  : Nat
  readReq  : Nat
  aspmL1   : Bool
  d3hot    : Bool
  pme      : Bool
  aer      : Bool
  serial   : Nat
  deriving DecidableEq, Repr

/-- One GPIO pin (R673): function, initial level, pull-up and event enable. -/
structure GpioPin where
  func   : Nat := 0
  init   : Bool := false
  pullup : Bool := false
  event  : Bool := false
  deriving DecidableEq, Repr

/-- The settings of SYS.LTC_CONFIG at their defaults (chapter 23). -/
structure LtcCfg where
  rate  : Nat := 1
  flags : Nat := 0
  tzOfs : Int := 0
  user  : Nat := 0
  deriving DecidableEq, Repr

/-- A frame of LTC_OUT: its 80 bits, its rate code, its time address, and its boundary in 1 ÷ (10^12 × Fs_op) s of the SSI's time. -/
structure LtcSent where
  bits  : Nat
  rate  : Nat
  time  : Nat
  start : Int
  deriving DecidableEq, Repr

/-- The LTC decoder and generator (R675, R676). `sent` holds the last two frames of LTC_OUT, newest first. `good` and `bad` count the consecutive frames in and
out of sequence; `time` is hours, minutes, seconds and frames, one byte each from the top. -/
structure Ltc where
  cfg     : LtcCfg := {}
  next    : Option LtcCfg := none
  nvs     : LtcCfg := {}
  state   : Nat := 0
  rate    : Nat := 0
  df      : Bool := false
  cf      : Bool := false
  time    : Nat := 0
  user    : Nat := 0
  errors  : Nat := 0
  good    : Nat := 0
  bad     : Nat := 0
  outTime : Nat := 0
  sent    : List LtcSent := []
  deriving DecidableEq, Repr

/-- The AVSBus master (R670 to R672): the set point requested last, the fault, the request it stands for, and the instant of the last
request in ms. -/
structure Avs where
  setMv    : Nat := 800
  fault    : Bool := false
  faultReq : Nat := 0
  faultMs  : Nat := 0
  deriving DecidableEq, Repr

/-- The host and board interfaces. `board` is the record in force, 256 bytes, and `fromFlash` whether it
came from the flash (R666). `pins` are the levels at GPIO0 to GPIO15, `out` the levels of the GPIO_OUT
pins, `gpioAcc` the edges since the last GPIO_CHANGE and `gpioMs` its instant. `hspiBuf` is the WRITE
buffer while WR_BUSY (R661). `lowRun` and `highRun` count the samples of PWR_FAIL_N (R674). `i2cLatch`
holds the 4 bytes latched with a register's first byte (R667). `temp` is in 0.125 °C units. `readData` is what the last
register read of a host returned. -/
structure HostIf where
  pcie      : Pcie := {}
  hostErr   : Nat := 0
  hspiUp    : Bool := false
  hspiIrq   : Nat := 0
  hspiIrqEn : Nat := 0x3FFF
  hspiBuf   : Option (Nat × Bytes) := none
  hspiOut   : Bytes := []
  i2cOut    : Bytes := []
  board     : Bytes := []
  fromFlash : Bool := false
  gpio      : Tab GpioPin := [(0, { func := 2 })]
  pins      : Nat := 0xFFFF
  out       : Nat := 0
  gpioAcc   : Nat := 0
  gpioMs    : Option Nat := none
  gpioPend  : List (Nat × Nat) := []
  ltc       : Ltc := {}
  avs       : Avs := {}
  temp      : Int := 0
  tempMax   : Int := 0
  tempAlert : Bool := false
  uptime    : Nat := 0
  heartbeat : Nat := 0
  bmcWarn   : Bool := false
  flushDone : Bool := false
  pwrLow    : Bool := false
  lowRun    : Nat := 0
  highRun   : Nat := 0
  i2cLatch  : Option (Nat × Bytes) := none
  readData  : Nat := 0
  deriving DecidableEq, Repr

end Sys2Proof.Machine
end

