-- ==== Sys2Proof/Machine/Unit/Hush.lean ====
section
/-! DEFINITION. Hush: the supervision, the record and the override (chapter 12). -/

namespace Sys2Proof.Machine

/-- One contact channel (R369): the pin's level, the latest sample, its run and the debounced state; true is alarm. -/
structure HushCh where
  pin  : Bool := true
  last : Bool := true
  run  : Nat := 0
  deb  : Bool := true
  deriving DecidableEq, Repr

/-- An announcement entry: sink, source, gain. -/
structure HushEntry where
  sink : Nat
  src  : Nat
  gain : Int
  deriving DecidableEq, Repr

/-- The loaded record, at the built-in defaults (R381): times in ticks. `ports` holds the PORT_CFG of each Hush port. -/
structure HushCfg where
  polA    : Bool := false
  polB    : Bool := false
  tDisc   : Nat := 500
  release : Nat := 2000
  mute    : Nat := 20
  ports   : List (Nat × SerCfg) := []
  entries : List HushEntry := []
  deriving DecidableEq, Repr

/-- The state of Hush. `nvs` are the bytes of the record in NVS, if one is there. `record` are the loaded bytes, empty
with the built-in defaults (`defaults`). `clearDue` are the HUSH.CLEAR commands that wait for the next AON tick, `loadDue`
the HUSH.CONFIG whose record loads then (R374, R388). `hold` counts the quiet ticks. The override's weight runs from
`ovFrom` over `ovLen` samples, of which `ovDone` are done, towards 1 with `ovUp` and 0 without (R376, R379); `forced`
says that sinks are tagged FORCED (R378). `lastSsi` is that of the last change of STATE and `hidden` the events that a
Scribe restart hides, at most one per kind (R384). `wasOn` is when Hush asserted. -/
structure Hush where
  a        : HushCh := {}
  b        : HushCh := {}
  asserted : Bool := true
  fault    : Bool := false
  cause    : Nat := 0
  disc     : Nat := 0
  quiet    : Bool := false
  hold     : Nat := 0
  cfg      : HushCfg := {}
  record   : List (BitVec 8) := []
  nvs      : Option (List (BitVec 8)) := none
  defaults : Bool := true
  clearDue : List (Nat × Nat) := []
  loadDue  : Option (Nat × Nat) := none
  out      : Bool := false
  asserts  : Nat := 0
  faults   : Nat := 0
  disagree : Nat := 0
  wasOn    : Nat := 0
  lastSsi  : Nat := 0
  lastHi   : Nat := 0
  hidden   : List (Nat × Nat × List (BitVec 8)) := []
  ovUp     : Bool := true
  ovDone   : Nat := 0
  ovLen    : Nat := 0
  ovFrom   : F32 := 0
  deriving DecidableEq, Repr

end Sys2Proof.Machine
end

