-- ==== Sys2Proof/Machine/Unit/Ink.lean ====
section
/-! DEFINITION. Inkwells, the sheet pool, sessions, grants and armed actions (chapters 06 and 07). -/

namespace Sys2Proof.Machine

/-- The transport that an Inkwell is bound to (R170), coded 0 to 3 as BIND. -/
inductive Bind where
  | unbound | pcie | hspi | net
  deriving DecidableEq, Repr

/-- One Inkwell (R172 to R207). `waiting` holds the requests between REQ_CONS and REQ_PROD, oldest
first; `replies` those between REP_CONS and REP_PROD; `events` those between EVT_CONS and EVT_PROD.
`lost` counts the discarded events not yet reported (R194). For a session: `keyHash` is the identity,
`lastMs` the instant of the last message, `connected` whether the connection stands, `dropMs` the
instant at which the session dropped, `unanswered` the requests read and not yet answered (R199). `reqMem` are the bytes of the
request ring by offset, `repSlots` and `evtSlots` the record written last into each slot of the other rings (R172, R173), and `out` the frames that
the engine wrote last to a session's connection (R197). -/
structure Inkwell where
  bind       : Bind := .unbound
  role       : Nat := 0
  reqProd    : Nat := 0
  reqCons    : Nat := 0
  repProd    : Nat := 0
  repCons    : Nat := 0
  evtProd    : Nat := 0
  evtCons    : Nat := 0
  irqEn      : Nat := 3
  err        : Nat := 0
  lastSeq    : Nat := 0
  fresh      : Bool := true
  evtLost    : Nat := 0
  lost       : Nat := 0
  evtSeq     : Nat := 0
  executed   : Nat := 0
  dups       : Nat := 0
  conflicts  : Nat := 0
  notReady   : Nat := 0
  resumes    : Nat := 0
  mask       : Nat := 0
  waiting    : List Head := []
  replies    : List Reply := []
  events     : List EventRec := []
  cache      : List CacheEntry := []
  token      : Nat := 0
  keyHash    : Nat := 0
  connected  : Bool := false
  lastMs     : Nat := 0
  dropped    : Bool := false
  dropMs     : Nat := 0
  unanswered : Nat := 0
  reqMem     : List Host.Cell := []
  repSlots   : Tab (Option Reply) := []
  evtSlots   : Tab (Option EventRec) := []
  out        : List Bytes := []
  deriving DecidableEq, Repr

/-- The party that holds a sheet (R182). -/
inductive Holder where
  | free
  | client (n : Nat)
  | scribe (n : Nat)
  deriving DecidableEq, Repr

/-- Inkwells, sheets, sessions and grants as one. `sheetMem` is the sheet pool's memory by byte offset
(sheet h at h × 0x1000). `hostGrants` lists the role codes of Inkwells 0 to 7, `certs` the certificate
entries (key hash, role), `anonRole` ANON_ROLE (R222). `running` are the commands in execution, `tls`
and `tlsQueue` the handshakes running and queued (R124). `sched` are the changes of untimed
commands that wait for their boundary, which are no armed actions (R300, R361). `order` counts the armings, `deferred` holds
the events of armed actions dropped while no command is served (R151). `presented` is the certificate (common name and key) that the last handshake presented (R604, R605). `allocRead` is the word that
client n's last read of SHEET_ALLOC returned, `control` the frame of the last session control message sent. The pass in progress
visited `visitFirst` first and is at `visitAt`, of which it has taken `visitTaken` requests (R125). -/
structure Inks where
  wells      : Tab Inkwell := []
  holders    : Tab Holder := []
  sheetMem   : List Host.Cell := []
  ptr        : Nat := 0
  wrRej      : Bool := false
  contended  : Nat := 0
  running    : List Running := []
  armed      : List Armed := []
  sched      : List Armed := []
  order      : Nat := 0
  hostGrants : List Nat := [5, 3, 2, 2, 2, 2, 2, 2]
  certs      : List (Nat × Nat) := []
  anonRole   : Nat := 1
  tls        : Nat := 0
  tlsQueue   : Nat := 0
  tlsRefused : Nat := 0
  badFrames  : Nat := 0
  deferred   : List (Nat × EventRec) := []
  allocRead  : Tab Nat := []
  control    : Bytes := []
  presented  : Option (Bytes × Bytes) := none
  visitFirst : Nat := 0
  visitAt    : Nat := 0
  visitTaken : Nat := 0
  deriving DecidableEq, Repr

end Sys2Proof.Machine
end

