-- ==== Sys2Proof/Machine/Unit/Life.lean ====
section
/-! DEFINITION. The life-cycle fuses, keys and the production record; Copybook and its results (chapter 21). -/

namespace Sys2Proof.Machine

/-- The fuses, keys and authorisations (R601 to R611, R624). `state` is the life-cycle code, `retPending` the fuse
RET_PENDING. `fwKeyHash` and `ownerHash` are the OTP hashes, absent until blown. `idKey` numbers the identity key pair, none
without one, and `idPub` is its public key; `idKeyHash` the hash of it as a little-endian number. `nonces` are the
outstanding nonces (bytes, instant of issue), oldest first, `invalid` the invalid authorisations since POR_N. `finalDone`
says that the final export has been written. `jtag` is the JTAG instruction in force: 0 none, 1 a boundary instruction, 2
internal scan; `tap` is the test data register selected, 0 IDCODE and 1 BYPASS, and `boundary` what the boundary register drives while
`jtag` is 1, the pins that it leaves out high-impedance (R612, R613). `ephemeral` numbers the key pair generated at POR_N, with which an
engine without an identity key serves TLS (R605). -/
structure Life where
  state      : Nat := 2
  retPending : Bool := false
  serial     : Nat := 0
  fwKeyHash  : Option (List (BitVec 8)) := some (List.replicate 32 0)
  ownerHash  : Option (List (BitVec 8)) := some (List.replicate 32 0)
  idKey      : Option Nat := some 0
  idPub      : List (BitVec 8) := List.replicate 64 0
  idKeyHash  : Nat := 0
  nonces     : List (List (BitVec 8) × Nat) := []
  invalid    : Nat := 0
  debugOpen  : Bool := false
  tpRev      : Nat := 0
  year       : Nat := 0
  week       : Nat := 1
  colsUsed   : Nat := 0
  avsBin     : Nat := 0
  grade      : Nat := 0
  finalDone  : Bool := false
  jtag       : Nat := 0
  tap        : Nat := 0
  boundary   : List (Pin × PinDrive) := []
  ephemeral  : Nat := 0
  deriving DecidableEq, Repr

/-- One Copybook test record (R622): RESULT, FAILS, SIG and EXEMPLAR. -/
structure CbTest where
  result   : Nat := 4
  fails    : Nat := 0
  sig      : Nat := 0
  exemplar : Nat := 0
  deriving DecidableEq, Repr

/-- Copybook (R615 to R628). `sel` is CB_SEL; `busy` and `aborting` describe the run in progress,
`startMs` its start; `runNo`, `mode`, `state`, `tests`, `results`, `records` and `elapsed` are the result sheet of the last
run; `fifo` holds the words of the fail records not yet read. -/
structure Copybook where
  sel      : Nat := 0
  busy     : Bool := false
  aborting : Bool := false
  rej      : Bool := false
  startMs  : Nat := 0
  runNo    : Nat := 0
  mode     : Nat := 0
  state    : Nat := 0
  tests    : Nat := 0
  results  : Tab CbTest := []
  records  : List (List (BitVec 8)) := []
  elapsed  : Nat := 0
  fifo     : List (List (BitVec 8)) := []
  deriving DecidableEq, Repr

end Sys2Proof.Machine
end

