-- ==== Sys2Proof/Machine/Unit/Ms.lean ====
section
/-! DEFINITION. Manuscript: membership, Flourishes and cross-engine buses (chapter 15). -/

namespace Sys2Proof.Machine

/-- The settings of MS.CONFIG at their defaults; LINK_OFS in µs, LEAD in ms, SEEDS as their 16 bytes. -/
structure MsCfg where
  msId     : Nat := 0
  memberId : Nat := 0
  domain   : Nat := 127
  autoJoin : Bool := false
  linkOfs  : Nat := 1000
  lead     : Nat := 20
  seeds    : Bytes := []
  deriving DecidableEq, Repr

/-- A peer session with a member: its address, the instant of its last message, and whether its HELLO has been checked. -/
structure Peer where
  member : Nat
  ip     : Nat := 0
  lastMs : Nat := 0
  hello  : Bool := false
  deriving DecidableEq, Repr

/-- One Flourish that this member knows (R461 to R467). `ready` counts the READY votes gathered of this member and those
beyond it, `votes` the sessions that have voted, `refusal` the first refusal (status code, member). `voted` is this
member's own vote once cast. `phase` is 0 preparing, 1 committed, 2 aborted; `acked` are the members whose ACK arrived,
`late` those that answered LATE; `ack` is the status of this member's own ACK; `missed` that it lacked COMMIT at its
deadline, `cast` that the combined vote has gone on. `client` and `cseq` are those of MS.FLOURISH on the originator. -/
structure Flourish where
  origin  : Nat
  number  : Nat
  view    : Nat
  scene   : Nat
  flags   : Nat
  scope   : Nat
  apply   : Nat
  from_   : Option Nat := none
  voted   : Option Nat := none
  ready   : Nat := 0
  votes   : List Nat := []
  refusal : Option (Nat × Nat) := none
  phase   : Nat := 0
  ack     : Option Nat := none
  acked   : List Nat := []
  lateBy  : List Nat := []
  missed  : Bool := false
  done    : Bool := false
  cast    : Bool := false
  sentMs  : Nat := 0
  client  : Nat := 0xFC
  cseq    : Nat := 0
  deriving DecidableEq, Repr

/-- The role of a bus in a cross-engine bus (R457, R458): 1 contributor, 2 owner. `sink` is the first remote input. -/
structure Xbus where
  role     : Nat
  headroom : Nat
  remotes  : Nat
  sink     : Nat
  deriving DecidableEq, Repr

/-- A peer message as this engine sends it: to which member, the MSG code, and the frame of TYPE 4 with its header and fields (R197). -/
structure PeerMsg where
  dest  : Nat
  msg   : Nat
  bytes : Bytes
  deriving DecidableEq, Repr

/-- The state of the manuscript unit. `member` is MODE.MSCRIPT, `state` 0 NONE, 1 JOINING, 2 READY, 3 LOST. `roster` holds
(MEMBER_ID, key hash) by entry number, `members` the present view in rank order. `sent` are the peer messages that the
latest command sent. `current` is the manuscript's current scene: scene, scope, apply SSI. `absent` says that
the member was LOST, so that it recalls the current scene only if a Flourish was committed meanwhile (R473). `joinAt` and
`leaveAt` are the boundaries at which a join completes and MS.LEAVE acts, `joinView` the view in which the member became
READY (R466), `retryMs` the instant of the last attempt to rejoin and `tries` the number of attempts since the member became LOST. `delays` hold an owner bus's
own sums over its lanes as binary64 words, newest first (R458). -/
structure Ms where
  cfg        : MsCfg := {}
  nvs        : MsCfg := {}
  roster     : Tab (Nat × Nat) := []
  state      : Nat := 0
  member     : Bool := false
  view       : Nat := 0
  members    : List Nat := []
  peers      : List Peer := []
  number     : Nat := 0
  flourishes : List Flourish := []
  current    : Option (Nat × Nat × Nat) := none
  lastOrigin : Nat := 0
  lastScene  : Nat := 0
  lastNumber : Nat := 0
  lastApply  : Nat := 0
  count      : Nat := 0
  aborts     : Nat := 0
  missed     : Nat := 0
  lateCount  : Nat := 0
  xbusAbsent : Nat := 0
  xbusOffset : Nat := 0
  xbus       : Tab Xbus := []
  beatMs     : Nat := 0
  retryMs    : Nat := 0
  tries      : Nat := 0
  joinAt     : Option Nat := none
  leaveAt    : Option Nat := none
  joinView   : Nat := 0
  absent     : Bool := false
  sent       : List PeerMsg := []
  delays     : Tab (List Nat) := []
  deriving DecidableEq, Repr

end Sys2Proof.Machine
end

