-- ==== Sys2Proof/Machine/Unit/Power.lean ====
section
/-! DEFINITION. The mode, standby, wake and the Power and wake block (chapter 05). -/

namespace Sys2Proof.Machine

/-- A mode change accepted and waiting for its boundary (R138, R167): the target, the first SSI at which
it may apply, the CAUSE of MODE_CHANGE, and the request that asked for it. -/
structure ModePending where
  target : Mode
  atSsi  : Nat
  cause  : Nat
  cmd    : Option (Nat × Nat) := none
  deriving DecidableEq, Repr

/-- A step that takes effect at the next period boundary, since it changes the mode (R138): READY, the end of STANDBY entry, or the end
of a wake with the Nibs that failed its check. -/
inductive ModeStep where
  | ready
  | standby
  | wake (bad : List Nat)
  deriving DecidableEq, Repr

/-- A mode fade of 20 ms (R139): `done` of `len` samples towards full (`up`) or silence, from the weight `from_`. -/
structure ModeFade where
  up    : Bool := false
  done  : Nat := 0
  len   : Nat := 0
  from_ : F32 := 0
  deriving DecidableEq, Repr

/-- The mode and wake state. `wakeEn`, `stbyPort`, `wakeAt` and `wakeCause` are AON state (R732).
`fade` is the mode fade of the program sinks (R139): the number of samples done of `fadeLen` towards
full (`fadeUp`) or silence, from the weight the last fade had reached, `fadeFrom`; `gen` holds the same of the sinks fed by GEN, which
COMMISSION does not silence. `steps` are the steps that wait for a boundary. `wakeMs0` is the
instant of the first cause, `wakeHeld` a cause latched while entry ran (R155). `pulse` is WAKE#. -/
structure Power where
  mode        : Mode := .booting
  sinceSsi    : Nat := 0
  pending     : List ModePending := []
  entering    : Bool := false
  enterFrom   : Mode := .commission
  waking      : Bool := false
  stbyDefer   : Option (Nat × Nat) := none
  causes      : Nat := 0
  first       : Nat := 7
  hostRead    : Bool := false
  wakeMs      : Nat := 0
  wakeMs0     : Nat := 0
  wakeHeld    : Option Nat := none
  wakeEn      : Nat := 0x0F
  stbyPort    : Nat := 0
  nvsWakeEn   : Nat := 0x0F
  nvsStbyPort : Nat := 0
  wakeAt      : Nat := 0
  wakeAtLo    : Nat := 0
  wakePin     : Bool := false
  events      : Nat := 0
  stbyEntries : Nat := 0
  wakeMaxMs   : Nat := 0
  refLost     : Bool := false
  wdtTripMs   : Option Nat := none
  fadeUp      : Bool := false
  fadeDone    : Nat := 0
  fadeLen     : Nat := 0
  fadeFrom    : F32 := 0
  gen         : ModeFade := {}
  steps       : List ModeStep := []
  deriving DecidableEq, Repr

end Sys2Proof.Machine
end

