-- ==== Sys2Proof/Machine/Unit/Quill.lean ====
section
/-! DEFINITION. Quill: network ports, PTP, receive and transmit streams (chapter 14). -/

namespace Sys2Proof.Machine

/-- The last event of one type that a stream or port raised (R449): its instant, and the old state that a waiting event
reports. -/
structure Notice where
  ms  : Option Nat := none
  old : Option Nat := none
  deriving DecidableEq, Repr

/-- One interface of a port (R413). -/
structure Iface where
  vid     : Nat := 0
  pcp     : Nat := 0
  mode    : Nat := 0
  addr    : Nat := 0
  plen    : Nat := 0
  gateway : Nat := 0
  deriving DecidableEq, Repr

/-- The settings of NET.PORT_CONFIG. -/
structure PortCfg where
  speed  : Nat := 0
  fec    : Nat := 0
  ifaces : List Iface := [{}]
  deriving DecidableEq, Repr

/-- A frame that Quill or Scribe sends beside the media: a PTP message, an ARP answer, question or announcement, an echo reply, or an IGMP
report of groups with their sources, in version 2 without (R411, R415, R418). -/
inductive NetMsg where
  | ptpSync (originPs : Nat)
  | delayResp
  | arpReply (dst : Nat)
  | arpRequest (addr : Nat)
  | arpAnnounce (addr : Nat)
  | echoReply (dst : Nat)
  | igmpReport (v2 : Bool) (groups : List (Nat × List Nat))
  deriving DecidableEq, Repr

/-- A frame of the PTP queue (0) or the control queue (2) as it was sent: the DSCP of an IPv4 frame and the PCP of its tag (R414). -/
structure NetSent where
  queue : Nat
  dscp  : Option Nat
  pcp   : Option Nat
  msg   : NetMsg
  deriving DecidableEq, Repr

/-- The leg on which a packet left (R414, R438): its port, addresses, UDP ports, TTL, and the PCP of its tag. -/
structure SentLeg where
  port   : Nat
  src    : Nat
  dst    : Nat
  udp    : Nat
  srcUdp : Nat
  ttl    : Nat
  pcp    : Option Nat
  deriving DecidableEq, Repr

/-- One network port. `arp` is the ARP cache, newest first, `igmpV2` that an IGMPv2 querier has been heard, and `sent` the last frame of the
PTP and control queues (R411, R414). `sec` is the second in which `scribe`, `arps` and `echoes` count its frames (R123, R415);
`dropped` gathers drops by class since the last NET_DROP, at `dropMs`. `note` is its last NET_LINK. -/
structure NetPort where
  cfg        : PortCfg := {}
  nvs        : PortCfg := {}
  link       : Bool := false
  linkDowns  : Nat := 0
  fcsErr     : Nat := 0
  pause      : Nat := 0
  unconf     : Nat := 0
  unaligned  : Nat := 0
  scribeDrop : Nat := 0
  otherDrop  : Nat := 0
  answerDrop : Nat := 0
  rxFrames   : Nat := 0
  txFrames   : Nat := 0
  sec        : Nat := 0
  scribe     : Nat := 0
  arps       : Nat := 0
  echoes     : Nat := 0
  dropped    : Tab Nat := []
  dropMs     : Option Nat := none
  arp        : List (Nat × Nat) := []
  igmpV2     : Bool := false
  sent       : Option NetSent := none
  note       : Notice := {}
  deriving DecidableEq, Repr

/-- The settings of NET.PTP_CONFIG at their defaults. -/
structure PtpCfg where
  role        : Nat := 0
  profile     : Nat := 0
  domain      : Nat := 0
  iface       : Nat := 0
  oneStep     : Bool := false
  logSync     : Int := 0
  logAnnounce : Int := 1
  logDelay    : Int := 0
  announceTo  : Nat := 3
  prio1       : Nat := 128
  prio2       : Nat := 128
  classLocked : Nat := 248
  asymmetry   : Int := 0
  deriving DecidableEq, Repr

/-- The PTP instance of a port: `state` as in NET.PTP_STATUS_GET, `foreign` the leader's dataset, `annMs` the instant of its last Announce,
`sent` the dataset last announced when leading and `sentPs` the time of the last Sync sent, in ps after the PTP epoch. -/
structure PtpPort where
  cfg      : PtpCfg := {}
  nvs      : PtpCfg := {}
  state    : Nat := 0
  foreign  : PtpData := {}
  sent     : PtpData := {}
  sentPs   : Nat := 0
  annMs    : Nat := 0
  offset   : Int := 0
  meanPath : Nat := 0
  syncRx   : Nat := 0
  syncTx   : Nat := 0
  timeouts : Nat := 0
  since    : Nat := 0
  note     : Notice := {}
  deriving DecidableEq, Repr

/-- A packet held by a stream: sequence number, RTP timestamp, payload, the leg that delivered it first, the SSI at its
first arrival, and its arrival in ns after that sample's grid instant. -/
structure Packet where
  seq     : Nat
  ts      : Nat
  payload : Bytes
  leg     : Nat
  ssi     : Nat
  ns      : Nat
  deriving DecidableEq, Repr

/-- What one receive entry has taken in: the packets accepted in the last RING samples, newest first, the packets of a leg on
probation not yet compared, and the samples by presentation SSI that are not yet presented. `base` is an accepted packet's
first presentation SSI, from which the places of the others follow. `leg1` and `leg2` are 0 TRUSTED, 1 PROBATION, 2 DOWN,
`agree1` and `agree2` their counts of agreeing packets, `seen1` and `seen2` the SSI of their last packet. `claim` is the
held claim H and `lastHeld` the last media sample accepted under it (R431, R442). -/
structure RxBuf where
  packets  : List Packet := []
  probe    : List Packet := []
  samples  : List (Nat × List F32) := []
  base     : Option Nat := none
  leg1     : Nat := 2
  leg2     : Nat := 2
  agree1   : Nat := 0
  agree2   : Nat := 0
  seen1    : Nat := 0
  seen2    : Nat := 0
  claim    : Nat := 0
  lastHeld : Option Nat := none
  deriving DecidableEq, Repr

/-- The counters of a receive stream (chapter 14). -/
structure RxCount where
  packets    : Nat := 0
  dup        : Nat := 0
  late       : Nat := 0
  early      : Nat := 0
  lost       : Nat := 0
  format     : Nat := 0
  mismatch   : Nat := 0
  claimDrop  : Nat := 0
  sourceDrop : Nat := 0
  repeated   : Nat := 0
  skewMax    : Nat := 0
  lastSsi    : Nat := 0
  deriving DecidableEq, Repr

/-- One receive stream (R422 to R433, R442): `entry` are the 64 bytes of the entry in force, empty before any, `window` a
register window that waits for QL_APPLY, `next` the buffer of a pending entry. `repeats` counts the consecutive repeated
samples, `last` holds the values presented last and `now` the samples presented now. `badMs` is the instant of the first
LATE or EARLY packet since the last that was neither. `legMs` and `legPend` are the instant of the last LEG_STATE and the
changes (leg, old state) that wait. -/
structure RxStream where
  entry     : Bytes := []
  window    : Option Bytes := none
  buf       : RxBuf := {}
  next      : RxBuf := {}
  count     : RxCount := {}
  state     : Nat := 0
  repeats   : Nat := 0
  running   : Bool := false
  last      : List F32 := []
  now       : List Sample := []
  badMs     : Option Nat := none
  offsetErr : Bool := false
  note      : Notice := {}
  legMs     : Option Nat := none
  legPend   : List (Nat × Nat) := []
  deriving DecidableEq, Repr

/-- One transmit stream (R434 to R440). `acc` gathers the sink samples of the packet that is being filled, oldest first,
and `due` is a full packet not yet sent: its first SSI and its samples. `arp` says that a unicast destination's MAC is
resolved, `sending` that the stream has started (R73). `sent` are the bytes of the RTP packet sent last, `sentTo` the legs
it left on, and `dscp` its DSCP. -/
structure TxStream where
  entry   : Bytes := []
  window  : Option Bytes := none
  state   : Nat := 0
  acc     : List (List Sample) := []
  due     : Option (Nat × List (List Sample)) := none
  arp     : Bool := false
  sending : Bool := false
  packets : Nat := 0
  txRep   : Nat := 0
  txAbs   : Nat := 0
  clips   : Nat := 0
  gated   : Nat := 0
  lastSeq : Nat := 0
  chClips : Tab Nat := []
  sent    : Bytes := []
  sentTo  : List SentLeg := []
  dscp    : Nat := 0
  note    : Notice := {}
  deriving DecidableEq, Repr

/-- The settings of NET.QUILL_CONFIG and NET.NMOS_CONFIG at their defaults. -/
structure QuillCfg where
  txUnlocked : Bool := false
  dscpPtp    : Nat := 46
  dscpMedia  : Nat := 34
  dscpCtrl   : Nat := 0
  defOfs     : Nat := 1000
  deriving DecidableEq, Repr

/-- The NMOS settings. -/
structure NmosCfg where
  en     : Bool := false
  write  : Bool := false
  port   : Nat := 8080
  domain : Bytes := []
  deriving DecidableEq, Repr

/-- The state of Quill. `macBase` is the fuses' MAC_BASE. `beats` counts the IS-04 heartbeats and `published` are the resources that the last
one registered, by kind (0 node, 1 device, 2 source, 3 flow, 4 sender, 5 receiver) and stream (R445). `http` is the status that the last IS-05
activation got and `debug` the engine status that its response names (R446); `txOff` that transmit streams are stopped for STANDBY (R147). -/
structure Quill where
  ports   : Tab NetPort := []
  ptp     : Tab PtpPort := []
  rx      : Tab RxStream := []
  tx      : Tab TxStream := []
  cfg     : QuillCfg := {}
  nvs     : QuillCfg := {}
  nmos    : NmosCfg := {}
  nmosNvs : NmosCfg := {}
  macBase : Nat := 0
  txOff   : Bool := false
  beats   : Nat := 0
  published : List (Nat × Nat) := []
  http    : Nat := 0
  debug   : Option Status := none
  events  : Nat := 0
  deriving DecidableEq, Repr

end Sys2Proof.Machine
end

