-- ==== Sys2Proof/Machine/Unit/Retouch.lean ====
section
/-! DEFINITION. Retouch and Blotter: Nib records, migrations, the scrub and the field repair table (chapter 20). -/

namespace Sys2Proof.Machine

/-- What Retouch and Blotter hold of one Nib beside its state (which Ductus holds). `faults` is the lifetime count, `cls`
the last fault class, `run` the consecutive full passes in QUARANTINE, `passMs` the instant of the last full pass, `quarMs`
of the entry into QUARANTINE, `step` the index of the next dispatch of the pass in progress, `failed` the first failing
dispatch of that pass, `passShed` the shed periods before the last full pass, `retest` that the dispatch runs again, `inject` the signatures still to be compared as mismatched, `injected` that the suspect dispatch was one of them, `transients` the instants of the TRANSIENT faults of the last hour and `late` that COVERAGE
has been raised. -/
structure NibRec where
  faults     : Nat := 0
  cls        : Nat := 0
  run        : Nat := 0
  passMs     : Nat := 0
  passShed   : Nat := 0
  quarMs     : Nat := 0
  step       : Nat := 0
  failed     : Option Nat := none
  retest     : Bool := false
  inject     : Nat := 0
  injected   : Bool := false
  transients : List Nat := []
  late       : Bool := false
  deriving DecidableEq, Repr

/-- A migration in progress (R582 to R587): `mode` 0 warm, 1 copy; `cause` as NIB_STATE's; `q` the period in which it was
decided, `copied` that the target holds the instances, `swapSsi` the first sample of the first period computed on the
target alone, `same` that the outputs have matched, `fault` that the old Nib's entry to QUARANTINE counts. -/
structure Migration where
  src     : Nat
  dst     : Nat
  mode    : Nat
  cause   : Nat
  q       : Nat
  copied  : Bool := false
  swapSsi : Nat := 0
  same    : Bool := true
  fault   : Bool := true
  deriving DecidableEq, Repr

/-- One entry of the field repair table (R592 to R594). `stored` says that it is in NVS. -/
structure Repair where
  region : Nat
  spare  : Nat
  row    : Nat
  cause  : Nat
  ssi    : Nat
  stored : Bool := false
  deriving DecidableEq, Repr

/-- The state of Retouch and Blotter. `repairs` are the table's entries in order; `fences` the rows fenced while the table is
full; `watch` the watch list: (region, word, instant), region 0x100 + n being Nib store n; `tests` the RT.NIB_TEST
commands that wait, `prio` the shed priorities that differ from their defaults. `scrubBegan` is the start of
the scrub in progress, `scrubMs` the instant at which the last one completed, `scrubLast` its duration in ms. `tested` are the active Nibs
that have had a dispatch in period `period`, and `shedPeriods` counts the periods at catch-up level 1 or 2 and the planned-shed ones. -/
structure Retouch where
  warmup     : Nat := 4
  readmit    : Nat := 4
  faultLimit : Nat := 3
  nvs        : Nat × Nat × Nat := (4, 4, 3)
  nibs       : Tab NibRec := []
  migs       : List Migration := []
  migrations : Nat := 0
  rows       : Nat := 0
  fenced     : Nat := 0
  folioUe    : Nat := 0
  stateUe    : Nat := 0
  passes     : Nat := 0
  fails      : Nat := 0
  repairs    : List Repair := []
  fences     : List (Nat × Nat) := []
  watch      : List (Nat × Nat × Nat) := []
  tests      : List (Nat × Nat × Nat) := []
  prio       : Tab Nat := []
  scrubLast  : Nat := 0
  scrubMs    : Nat := 0
  scrubBegan : Nat := 0
  period     : Nat := 0
  tested     : List Nat := []
  shedPeriods : Nat := 0
  deriving DecidableEq, Repr

end Sys2Proof.Machine
end

