-- ==== Sys2Proof/Machine/Unit/Seal.lean ====
section
/-! DEFINITION. Seal: channels, queued jobs and the output digest (chapter 19). -/

namespace Sys2Proof.Machine

/-- A queued check (R571): the request that waits for it, the OBJECT (5 is a region run), its index, the algorithm, the
FLAGS, SEED, the saved state, the first byte's Feed address and the length. `chan` is the channel that runs it, 0 while it
is queued. -/
structure SealJob where
  client : Nat
  seq    : Nat
  obj    : Nat
  index  : Nat
  alg    : Nat
  flags  : Nat
  seed   : Nat
  saved  : List (BitVec 8) := []
  addr   : Nat := 0
  len    : Nat := 0
  sheet  : List (BitVec 8) := []
  chan   : Nat := 0
  deriving DecidableEq, Repr

/-- One channel (R561 to R565). `result` and `saved` are SL_RESULT and SL_STATE as bytes, `alg` the algorithm of the held
state, or none when no state is held. `job` is set while an expert list runs. -/
structure SealCh where
  head   : Nat := 0
  headHi : Nat := 0
  busy   : Bool := false
  done   : Bool := false
  err    : Nat := 0
  result : List (BitVec 8) := []
  saved  : List (BitVec 8) := []
  alg    : Option Nat := none
  bytes  : Nat := 0
  bytesHi : Nat := 0
  events : Nat := 0
  jobs   : Nat := 0
  total  : Nat := 0
  deriving DecidableEq, Repr

/-- The state of Seal. `capture` holds, oldest first, the sink samples of the period being captured (sample by sample, by sink) and
`capSsi` its SSI, `capMiss` that Nib-fed sinks repeat in it (R261); `ready` is a captured period whose digest channel 3 computes. `digest` and `digestSsi` are the latest
completed period's, `ssiHi` and `latched` what reading SL_DIGEST_SSI_LO latched. -/
structure Seal where
  chans     : Tab SealCh := []
  queue     : List SealJob := []
  capture   : List (Tab Sample) := []
  capSsi    : Nat := 0
  capMiss   : Bool := false
  ready     : Option (Nat × Bool × List (Tab Sample)) := none
  digest    : Nat := 0
  digestSsi : Nat := 0
  ssiHi     : Nat := 0
  latched   : Nat := 0
  deriving DecidableEq, Repr

end Sys2Proof.Machine
end

