-- ==== Sys2Proof/Machine/Unit/Sheen.lean ====
section
/-! DEFINITION. Sheen: settings, epochs, report sets and records (chapter 17). -/

namespace Sys2Proof.Machine

/-- What a sample meter gathers in a report interval (R514): the largest magnitude, and the samples of each tag; and of a gain reduction the
least gain of the gate, the compressor and the limiter (R513). -/
structure Acc where
  peak   : F32 := 0
  rep    : Nat := 0
  abs    : Nat := 0
  forced : Nat := 0
  gate   : F32 := 0x3F800000
  comp   : F32 := 0x3F800000
  lim    : F32 := 0x3F800000
  deriving DecidableEq, Repr

/-- What a loudness group keeps (R511): the memories of its K-weighting by 2 × member + stage; the power of each measured sample of the
last 3 s; the mean of each 400 ms block and 3 s value by its start, as binary64 words; and each new largest true-peak. All newest first. -/
structure Loud where
  filt   : Tab Sect := []
  pow    : List (Nat × Nat) := []
  blocks : List (Nat × Nat) := []
  shorts : List (Nat × Nat) := []
  tpMax  : List (Nat × F32) := []
  deriving DecidableEq, Repr

/-- A closed interval whose record is not yet written (R521), with the settings, windows and rate of its epoch; `firm` are the entries of
the sample meters and gain reductions by position, `filling` the positions whose window fills, `res` the RES of analysers. -/
structure Closing where
  set_     : Nat
  start    : Nat
  stop     : Nat
  part     : Bool
  epoch    : Nat
  fill     : Bool
  span     : Bool
  luRel    : Bool
  items    : List (Nat × Nat)
  image    : Tab Nat := []
  winStart : Tab Nat := []
  iStart   : Tab Nat := []
  mixed    : List Nat := []
  fs       : Nat := 48000
  filling  : List Nat := []
  res      : Tab Nat := []
  firm     : Tab Bytes := []
  deriving DecidableEq, Repr

/-- A report set (R519 to R521, R524). `started` says that its first interval is open; `records` are the kept
records (number, bytes), oldest first; `readyMs` is the instant of its last SHEEN_READY plus one and `due` that one
waits. -/
structure ReportSet where
  owner    : Nat
  interval : Nat
  luRel    : Bool
  items    : List (Nat × Nat)
  started  : Bool := false
  opened   : Nat := 0
  close    : Nat := 0
  partOpen : Bool := false
  accs     : Tab Acc := []
  recordNo : Nat := 0
  records  : List (Nat × Bytes) := []
  readyMs  : Nat := 0
  due      : Option Nat := none
  deriving DecidableEq, Repr

/-- The state of Sheen. `image` are the bytes of the settings image that differ from the defaults. `winStart` holds
the first SSI of the present windows: keys 0 PEAK, 1 RMS, 2 CORR, 0x100 + g group, 0x200 + t true-peak, 0x300 + c
correlation, 0x400 + a analyser. `iStart` the last restart of each group's integrated loudness and `mixed` the
groups whose reading mixes. `skipped` are the periods whose class B work was skipped and whose samples an open
interval or a window may hold (R522). `srcLog` and `snkLog` are the samples of sources and sinks that are not zero, by SSI, newest first, for
3 s; `srcBall`, `snkBall` the ballistic peaks with their SSI, `tpBall` those of the true-peak meters as they changed; `loud` the loudness
groups, `bank` the state of each analyser's filter bank by SSI (R509 to R513). `note` is the cause, and the groups restarted, of an epoch
whose SHEEN_EPOCH is still to be raised (R525). -/
structure Sheen where
  image     : Tab Nat := []
  nvs       : Tab Nat := []
  epoch     : Nat := 0
  epochSsi  : Nat := 0
  epochHi   : Nat := 0
  opened    : Bool := false
  winStart  : Tab Nat := []
  iStart    : Tab Nat := []
  mixed     : List Nat := []
  sets      : List (Nat × ReportSet) := []
  closing   : List Closing := []
  skipped   : List Nat := []
  decimated : Nat := 0
  partials  : Nat := 0
  records   : Nat := 0
  srcPeak   : Tab F32 := []
  snkPeak   : Tab F32 := []
  srcLog    : Tab (List (Nat × F32)) := []
  snkLog    : Tab (List (Nat × F32)) := []
  srcBall   : Tab (F32 × Nat) := []
  snkBall   : Tab (F32 × Nat) := []
  tpBall    : Tab (List (Nat × F32 × Nat)) := []
  loud      : Tab Loud := []
  bank      : Tab (List (Nat × Nat)) := []
  note      : Option (Nat × List Nat) := none
  deriving DecidableEq, Repr

end Sys2Proof.Machine
end

