-- ==== Sys2Proof/Machine/Unit/Stem.lean ====
section
/-! DEFINITION. The Stem, the period, the System Sample Index and AON's time of day (chapter 02). -/

namespace Sys2Proof.Machine

/-- A change of rate that has been accepted and waits for its boundary (R51): the client and SEQ of
SYS.RATE_SET, or none for CLK_CTRL.APPLY. `halted` says that Ductus has halted at a period boundary. -/
structure RateChange where
  family : Nat
  mult   : Nat
  cmd    : Option (Nat × Nat) := none
  halted : Bool := false
  deriving DecidableEq, Repr

/-- The clock state (R34 to R55, R725). `mult` is the rate multiple in use, 1, 2 or 4, and `family` 0 or
1. `cfgRate` and `cfgFamily` are CLK_CFG as written, `nvsMult` and `nvsFamily` the rate in NVS.
`aonMs` is AON's time of day in milliseconds since the PTP epoch and `aonSet` whether it has been set
since VDD_AON became good (R44). `xoIn` says that XO_IN runs. `ms` counts AON's sampling ticks since AON became live: every time in
seconds or milliseconds that the engine measures is measured on it (log 12). -/
structure Stem where
  family    : Nat := 0
  mult      : Nat := 1
  cfgRate   : Nat := 0
  cfgFamily : Nat := 0
  nvsFamily : Nat := 0
  nvsMult   : Nat := 1
  stemLock  : Bool := false
  aligned   : Bool := false
  jamArmed  : Bool := true
  xoIn      : Bool := true
  xoOk      : Bool := false
  aonInt    : Bool := false
  change    : Option RateChange := none
  jams      : Nat := 0
  jamDelta  : Int := 0
  ssi       : Nat := 0
  ssiHi     : Nat := 0
  aonMs     : Nat := 0
  aonSet    : Bool := false
  ms        : Nat := 0
  deriving DecidableEq, Repr

end Sys2Proof.Machine
end

