-- ==== Sys2Proof/Machine/Unit/Twin.lean ====
section
/-! DEFINITION. Twin: the pair, its link, journal, claim, digests and checks (chapter 16). -/

namespace Sys2Proof.Machine

/-- The configuration of TWIN.CONFIG; FORM_WAIT in 0.1 s, PARTNER_KEY as a number. -/
structure TwinCfg where
  en     : Bool := false
  unit   : Nat := 0
  claim  : Nat := 200
  pair   : Nat := 0
  wait   : Nat := 20
  key    : Nat := 0
  deriving DecidableEq, Repr

/-- One entry of the journal that waits for its acknowledgement (R482, R483): the apply SSI, the client, the reply status,
the request's bytes and the outcome's bytes. -/
structure JournalEntry where
  jsn      : Nat
  applySsi : Nat
  client   : Nat
  status   : Nat := 0
  body     : Bytes := []
  outcome  : Bytes := []
  deriving DecidableEq, Repr

/-- An armed handover (R497, R504): its point, the new claim, the client and SEQ that armed it, and whether this unit is
the incoming one. `timed` says that an armed action stands for it. -/
structure Handover where
  point    : Nat
  newClaim : Nat
  cmd      : Option (Nat × Nat)
  incoming : Bool
  timed    : Bool := false
  began    : Bool := false
  deriving DecidableEq, Repr

/-- A mismatch check in progress (R486): its period, and each unit's RESULT once known (1 passed, 2 failed). -/
structure TwinCheck where
  period  : Nat
  own     : Option Nat := none
  partner : Option Nat := none
  deriving DecidableEq, Repr

/-- A change of the unit's state that waits for a boundary (R488, R489, R498): the new state, the KIND of TWIN_TAKEOVER when
the unit takes the claim, the cause when it loses it, and STOP_SSI. -/
structure TwinAct where
  at_   : Nat
  state : Nat
  kind  : Nat := 0
  cause : Nat := 0
  stop  : Nat := 0
  deriving DecidableEq, Repr

/-- The state of the Twin unit. `partner` says that the engine is a twin partner: `cfg` is the configuration in force.
The partner's last STATUS is in the fields beginning with p; `heard` that one arrived since the link came up. The network
gate passes a packet sent at or after `openAt`, and refuses one sent at or after `closeAt`; `serifAt` is a change of the
Serif gates at the frame of an SSI. `silent` and `noEdge` count the periods without a valid frame and without a CLAIM_IN
edge, `frames` what the present period has seen. `digests` are this unit's (period SSI, digest, missed) not
yet compared. `matches_` counts the consecutive matches of a rejoin and `snap` the snapshot's SSI and the bytes loaded so
far; `snapSent` is the SSI of the snapshot that the active unit has sent to the present COLD partner, and `toMove` the instances by key, and
the sinks at 0x1000000 + number, whose signal state it has still to send (R500). `gatedTx` and
`gatedPorts` are the streams and ports that stay gated after a dissolution (R506). `dissolveAt` is the boundary of
TWIN.DISSOLVE. `acc` gathers the present period's sink outputs for its digest. `forming` says that the unit listens for
FORM_WAIT (R478), `hello` what the partner's HELLO says, `helloMs` when this unit sent its own, `causeMark` the Blotter
passes made when the cause arose, and `sent` the last frame of each type that this unit sent. -/
structure Twin where
  cfg          : TwinCfg := {}
  nvs          : TwinCfg := {}
  partner      : Bool := false
  state        : Nat := 0
  claim        : Nat := 0
  cause        : Nat := 0
  causeMs      : Nat := 0
  formCause    : Nat := 0
  formMs       : Nat := 0
  retryMs      : Nat := 0
  heldSince    : Nat := 0
  sole         : Bool := false
  linkUp       : Bool := false
  claimInOk    : Bool := false
  claimOut     : Bool := false
  heard        : Bool := false
  helloOk      : Bool := false
  pState       : Nat := 0
  partnerClaim : Nat := 0
  pFlags       : Nat := 0
  partnerIp    : Nat := 0
  pGm          : Nat := 0
  pHeld        : Nat := 0
  silent       : Nat := 0
  noEdge       : Nat := 0
  frames       : Nat := 0
  gateOpen     : Bool := true
  openAt       : Option Nat := none
  closeAt      : Option Nat := none
  serifAt      : Option (Nat × Bool) := none
  actAt        : Option TwinAct := none
  handover     : Option Handover := none
  jsn          : Nat := 0
  unacked      : List JournalEntry := []
  digests      : List (Nat × Nat × Bool) := []
  acc          : List (Nat × List Sample) := []
  check        : Option TwinCheck := none
  unexplMs     : List Nat := []
  matches_     : Nat := 0
  snap         : Option (Nat × Bytes) := none
  snapReq      : Bool := false
  snapSent     : Option Nat := none
  toMove       : List Nat := []
  forming      : Bool := false
  hello        : Option TwinPeer := none
  helloMs      : Nat := 0
  causeMark    : Nat := 0
  sent         : Tab Bytes := []
  moved        : Bool := false
  dissolveAt   : Option Nat := none
  gatedTx      : List Nat := []
  gatedPorts   : List Nat := []
  lsn          : Nat := 0
  nonce        : Nat := 0
  giveups      : Nat := 0
  takeovers    : Nat := 0
  handovers    : Nat := 0
  mismatches   : Nat := 0
  unexplained  : Nat := 0
  resyncs      : Nat := 0
  linkErr      : Nat := 0
  journalLate  : Nat := 0
  claimFault   : Nat := 0
  deriving DecidableEq, Repr

end Sys2Proof.Machine
end

