-- ==== Sys2Proof/Machine/Unit/Vellum.lean ====
section
/-! DEFINITION. Vellum: the lifetime record, its NVS ring and exports (chapter 22). -/

namespace Sys2Proof.Machine

/-- One entry of the event log (R635). -/
structure LogEntry where
  aon   : Nat
  ssi   : Nat
  kind  : Nat
  what  : Nat
  arg   : Nat
  value : Nat
  deriving DecidableEq, Repr

/-- The lifetime record (R630, R631, R633, R634): counters by index, histogram bins by 16 × h + k, log entries by
place, the bank records' CE, UE and RETIRED and the Nib records' FAULTS, MIGRATED_OUT and FULL_PASSES. -/
structure VlRecord where
  writeNo   : Nat := 0
  flags     : Nat := 0
  aon       : Nat := 0
  firstTime : Nat := 0
  logNext   : Nat := 0
  counters  : Tab Nat := []
  bins      : Tab Nat := []
  log       : List (Nat × LogEntry) := []
  bankCe    : Tab Nat := []
  bankUe    : Tab Nat := []
  bankRet   : Tab Nat := []
  nibFaults : Tab Nat := []
  nibOut    : Tab Nat := []
  nibPasses : Tab Nat := []
  deriving DecidableEq, Repr

/-- A write to NVS in progress (R636, R638): its slot, its FLAGS, the record as captured, the tick at which it started, the
VL.SAVE commands that wait for it, and a further write event that fell due meanwhile (its FLAGS and commands). -/
structure VlWrite where
  slot  : Nat
  flags : Nat
  image : VlRecord := {}
  ms    : Nat := 0
  cmds  : List (Nat × Nat) := []
  again : Option (Nat × List (Nat × Nat)) := none
  deriving DecidableEq, Repr

/-- The state of Vellum. `slots` are the written slots of the ring; an erased slot or one that fails its checks has no
entry. `ring` and `spares` count what is left. `final` is the final export, `export_` the
live export composed last with its CHALLENGE and instant (R644). `lastMs` is the instant of the last write on AON's
milliseconds, `saveMs` that of VL.SAVE's last write plus one, `aonHi` the latched word. `loadedNo` and `loadedAon` are
what VL_UNWARNED shows, and `unwarned` that it waits for READY. -/
structure Vellum where
  live      : VlRecord := { counters := [(3, 1)] }
  slots     : List (Nat × VlRecord) := []
  next      : Nat := 0
  ring      : Nat := 60
  spares    : Nat := 2
  worn      : Bool := false
  final     : Option (List (BitVec 8)) := none
  export_   : Option (List (BitVec 8) × List (BitVec 8) × Nat) := none
  clean     : Bool := true
  writing   : Option VlWrite := none
  lastWrite : Nat := 0
  lastMs    : Nat := 0
  saveMs    : Nat := 0
  aonHi     : Nat := 0
  unwarned  : Bool := false
  loadedNo  : Nat := 0
  loadedAon : Nat := 0
  deriving DecidableEq, Repr

end Sys2Proof.Machine
end

