-- ==== Sys2Proof/Machine/State.lean ====
section
/-! DEFINITION. The state of the engine: every register, queue, buffer, counter, mode and pin that the
manual gives it, the queue of waiting commands, and the counter of free values. -/

namespace Sys2Proof.Machine

/-- Why a step stops with a fault. -/
inductive Fault where
  /-- A request names a client number that no client has (0 to 63 and the internal clients 0xFC to 0xFE
  are all there are, R170, R717). Raised by every Sprinile command. Safe: no such request exists. -/
  | noClient
  deriving DecidableEq, Repr

/-- Why a command has no meaning. -/
inductive Refusal where
  /-- The command is not modelled yet. Raised by exec's refused arms only. Safe. -/
  | notModelled (mnemonic : String)
  deriving DecidableEq, Repr

/-- The state. `draws` counts the free values drawn, and is the model's own; `pending` is the queue of
commands, first in, first out. `resume` is the resume record in NVS, `entry` what was held on entry to MAINTENANCE. -/
structure State where
  pending : List Instr := []
  draws   : Nat := 0
  variant : Variant := .zl9600
  stem    : Stem := {}
  bl      : Baseline := {}
  boot    : Boot := {}
  power   : Power := {}
  ink     : Inks := {}
  host    : HostIf := {}
  twin    : Twin := {}
  hush    : Hush := {}
  serif   : Serif := {}
  quill   : Quill := {}
  ms      : Ms := {}
  rt      : Retouch := {}
  life    : Life := {}
  feed    : Feed := {}
  dx      : Ductus := {}
  prog    : Progs := {}
  lig     : Lig := {}
  sheen   : Sheen := {}
  vl      : Vellum := {}
  sl      : Seal := {}
  cb      : Copybook := {}
  resume  : Option ResumeRec := none
  entry   : Option MaintEntry := none
  deriving DecidableEq, Repr

/-- The engine right after reset: POR_N has just been released. -/
def State.reset : State := {}

end Sys2Proof.Machine
end

