-- ==== Sys2Proof/Machine/Table.lean ====
section
/-! DEFINITION. The sparse tables and byte memories of the state, in one canonical form: keys strictly
rise and no entry equals what an unlisted key reads as. -/

namespace Sys2Proof.Machine

/-- What number `k` holds: its entry, or `d` where none is listed. -/
def tabGet {α : Type} (d : α) : Tab α → Nat → α
  | [], _ => d
  | (a, v) :: t, k => if k < a then d else if k = a then v else tabGet d t k

/-- Insert `v` at `k`, keeping the keys rising. -/
def tabInsert {α : Type} (k : Nat) (v : α) : Tab α → Tab α
  | [] => [(k, v)]
  | (a, w) :: t =>
    if k < a then (k, v) :: (a, w) :: t
    else if k = a then (k, v) :: t
    else (a, w) :: tabInsert k v t

/-- Remove the entry of `k`. -/
def tabErase {α : Type} (k : Nat) : Tab α → Tab α
  | [] => []
  | (a, w) :: t =>
    if k < a then (a, w) :: t
    else if k = a then t
    else (a, w) :: tabErase k t

/-- Write `v` at `k`: writing what an unlisted number reads as removes the entry. -/
def tabPut {α : Type} [DecidableEq α] (d : α) (t : Tab α) (k : Nat) (v : α) : Tab α :=
  if v = d then tabErase k t else tabInsert k v t

/-- Change entry `k` by `f`. -/
def tabMod {α : Type} [DecidableEq α] (d : α) (t : Tab α) (k : Nat) (f : α → α) : Tab α :=
  tabPut d t k (f (tabGet d t k))

/-- The canonical form: keys strictly rise from above `lo`, and no entry equals `d`. -/
def tabWfFrom {α : Type} [DecidableEq α] (d : α) : Option Nat → Tab α → Bool
  | _, [] => true
  | lo, (a, v) :: t =>
    (match lo with | none => true | some l => decide (l < a)) && decide (v ≠ d) && tabWfFrom d (some a) t

/-- A table is in canonical form. -/
def tabWf {α : Type} [DecidableEq α] (d : α) (t : Tab α) : Bool := tabWfFrom d none t

/-- The byte of a memory at an address; `d` is what an unlisted address reads as. -/
def memGet (d : Byte) (m : List Host.Cell) (a : Nat) : Byte := tabGet d m a

/-- Write bytes upwards from `a`. -/
def memPut (d : Byte) (m : List Host.Cell) (a : Nat) : Bytes → List Host.Cell
  | [] => m
  | b :: bs => memPut d (tabPut d m a b) (a + 1) bs

/-- `n` bytes of a memory upwards from `a`. -/
def memRead (d : Byte) (m : List Host.Cell) (a : Nat) : Nat → Bytes
  | 0 => []
  | n + 1 => memGet d m a :: memRead d m (a + 1) n

end Sys2Proof.Machine
end

