-- ==== Sys2Proof/Machine/Ops.lean ====
section
/-! DEFINITION. The named operations over the state that every family shares: the variant's counts,
signals, events, replies, sheets and counters. -/

namespace Sys2Proof.Machine

/-! ### The variant (R2) -/

/-- SYS_ID.PART (chapter 00). -/
def partOf : Variant → Nat
  | .zl9600 => 0x9600 | .zl9400 => 0x9400 | .zl9200 => 0x9200
/-- Active Nib lanes. -/
def nibLanes : Variant → Nat
  | .zl9600 => 128 | .zl9400 => 64 | .zl9200 => 32
/-- Spare Nibs as shipped. -/
def nibSpares : Variant → Nat
  | .zl9600 => 16 | .zl9400 => 8 | .zl9200 => 4
/-- Barrels enabled. -/
def barrelsOf : Variant → Nat
  | .zl9600 => 9 | .zl9400 => 5 | .zl9200 => 3
/-- Processing channels at a rate multiple. -/
def channelsAt (v : Variant) (mult : Nat) : Nat :=
  (match v with | .zl9600 => 2048 | .zl9400 => 1024 | .zl9200 => 512) / mult
/-- Mix buses. -/
def busesOf : Variant → Nat
  | .zl9600 => 256 | .zl9400 => 128 | .zl9200 => 64
/-- Matrix outputs. -/
def matricesOf : Variant → Nat
  | .zl9600 => 128 | .zl9400 => 64 | .zl9200 => 32
/-- Ligature sources, and sinks. -/
def ligSize : Variant → Nat
  | .zl9600 => 8192 | .zl9400 => 4096 | .zl9200 => 2048
/-- LIGSZ of CAPS1: sources = 1,024 × 2^LIGSZ. -/
def ligCode : Variant → Nat
  | .zl9600 => 3 | .zl9400 => 2 | .zl9200 => 1
/-- Network ports. -/
def netPorts : Variant → Nat
  | .zl9600 => 4 | .zl9400 => 2 | .zl9200 => 2
/-- Receive streams, and transmit streams. -/
def streamsOf : Variant → Nat
  | .zl9600 => 4096 | .zl9400 => 2048 | .zl9200 => 1024
/-- Network channels each way. -/
def netChannels : Variant → Nat
  | .zl9600 => 8192 | .zl9400 => 4096 | .zl9200 => 2048
/-- Serif ports. -/
def serifPorts : Variant → Nat
  | .zl9600 => 16 | .zl9400 => 16 | .zl9200 => 8
/-- Reservoir banks of 2 MiB. -/
def banksOf : Variant → Nat
  | .zl9600 => 24 | .zl9400 => 12 | .zl9200 => 6
/-- Whether XMI and Twin are present. -/
def hasXmi : Variant → Bool
  | .zl9200 => false | _ => true
/-- Whether the Twin unit is present. -/
def hasTwin : Variant → Bool
  | .zl9200 => false | _ => true
/-- Whether the ports run at 25G. -/
def has25G : Variant → Bool
  | .zl9200 => false | _ => true

/-- SYS_ID (R7). -/
def sysId (s : State) : Nat := partOf s.variant * 0x10000 + 0xB101

/-! ### Rates and times -/

/-- Fs_base in Hz. -/
def fsBase (s : State) : Nat := if s.stem.family = 0 then 48000 else 44100
/-- Fs_op in Hz. -/
def fsOp (s : State) : Nat := fsBase s * s.stem.mult
/-- The nominal Stem frequency in Hz (R34). -/
def stemHz (s : State) : Nat := 32768 * fsBase s
/-- NIB_CLK cycles per period (R41). -/
def budget (s : State) : Nat := 131072 / s.stem.mult
/-- The next period boundary after the present sample. -/
def nextBoundary (s : State) : Nat := down8 s.stem.ssi + 8
/-- The latest period boundary. -/
def lastBoundary (s : State) : Nat := down8 s.stem.ssi

/-! ### Modes -/

/-- The code of a mode (R135). -/
def modeCode : Mode → Nat
  | .held => 0 | .booting => 1 | .standby => 2 | .commission => 3 | .showing => 4 | .shadow => 5
  | .degraded => 6 | .maintenance => 7

/-- The mode of a code that MODE.SET can name. -/
def modeOf : Nat → Mode
  | 2 => .standby | 3 => .commission | 4 => .showing | 5 => .shadow | 6 => .degraded | 7 => .maintenance
  | 1 => .booting | _ => .held

/-- The mode against which commands are judged: during a wake, the mode that it returns to (R166). -/
def judgedMode (s : State) : Mode := if s.power.waking then s.power.enterFrom else s.power.mode

/-- The modes in which program audio flows (R136). -/
def audioMode : Mode → Bool
  | .showing | .degraded => true
  | _ => false

/-- SHOW, SHADOW and DEGRADED: the modes of full service (R77, R82, R86). -/
def fullMode : Mode → Bool
  | .showing | .shadow | .degraded => true
  | _ => false

/-! ### Statuses -/

/-- The code of a status (R718). -/
def statusCode : Status → Nat
  | .ok => 0 | .okWarn => 1 | .duplicate => 2 | .notReady => 0x10 | .unitAbsent => 0x11 | .capacity => 0x12
  | .role => 0x13 | .lifecycle => 0x14 | .mode => 0x15 | .seqConflict => 0x16 | .badLength => 0x17
  | .badOpcode => 0x18 | .badParam => 0x19 | .late => 0x1A | .busy => 0x1B | .poolEmpty => 0x1C
  | .locked => 0x1D | .twinFollower => 0x1E | .notLocked => 0x1F | .hushActive => 0x20

/-- OK and OK_WARN are the statuses with an effect (R210). -/
def succeeded : Status → Bool
  | .ok | .okWarn => true
  | _ => false

/-! ### Free values -/

/-- The next free value, and the state with its counter advanced. -/
def draw {α : Type} (f : Nat → α) (s : State) : α × State := (f s.draws, { s with draws := s.draws + 1 })

/-! ### Signals (R195, R196, R662, R731) -/

/-- A message for vector `v` can be sent now. -/
def vecOpen (p : Pcie) (v : Nat) : Bool :=
  p.msixEn && !p.fnMask && !p.vecMask.contains v && p.dstate = 0 && p.linkL0

/-- Send every pending vector that can be sent, once each. -/
def flushVectors (s : State) : State :=
  let p := s.host.pcie
  let go := p.pending.filter (fun v => vecOpen p v)
  { s with host := { s.host with pcie :=
      { p with pending := p.pending.filter (fun v => !vecOpen p v), sent := go.foldl (fun t v => tabMod 0 t v (· + 1)) p.sent } } }

/-- Traffic takes the link out of L1, and the vectors that waited for L0 are sent (R653, R731). -/
def leaveL1 (s : State) : State :=
  if s.host.pcie.inL1 then flushVectors { s with host := { s.host with pcie := { s.host.pcie with inL1 := false, linkL0 := true } } } else s

/-- The cause of MSI-X vector `v` arises: the message is sent, or its pending bit is set. -/
def signalVec (v : Nat) (s0 : State) : State :=
  let s := leaveL1 s0
  let p := s.host.pcie
  let p' := if vecOpen p v then { p with sent := tabMod 0 p.sent v (· + 1) }
            else { p with pending := if p.pending.contains v then p.pending else v :: p.pending }
  { s with host := { s.host with pcie := p' } }

/-- HSPI_IRQ bit `i` is set (R662). -/
def signalHspi (i : Nat) (s : State) : State :=
  { s with host := { s.host with hspiIrq := setBit s.host.hspiIrq i } }

/-- A status cause: its vector and its HSPI_IRQ bit together. -/
def signalBoth (v : Nat) (s : State) : State := signalHspi (v - 56) (signalVec v s)

/-- HOST_STATUS.STAGE changes, which signals vector 64 (R133). -/
def setStage (g : Stage) (s : State) : State :=
  if s.boot.stage = g then s else signalBoth 64 { s with boot := { s.boot with stage := g } }

/-! ### Inkwells -/

/-- Inkwell `n`. Inkwells 0 and 1 are bound to PCIe and HSPI permanently (R170). -/
def well (s : State) (n : Nat) : Inkwell :=
  tabGet (if n = 0 then { bind := .pcie, role := 5 } else if n = 1 then { bind := .hspi, role := 3 } else {}) s.ink.wells n

/-- Write Inkwell `n`. -/
def setWell (n : Nat) (w : Inkwell) (s : State) : State :=
  { s with ink := { s.ink with wells := tabPut (if n = 0 then { bind := .pcie, role := 5 } else if n = 1 then { bind := .hspi, role := 3 } else {}) s.ink.wells n w } }

/-- Change Inkwell `n`. -/
def modWell (n : Nat) (f : Inkwell → Inkwell) (s : State) : State := setWell n (f (well s n)) s

/-- A ring of Inkwell `n` turns non-empty; `ring` is its bit in INK_IRQ_EN (R195, R662). -/
def signalInk (n ring : Nat) (s : State) : State :=
  let w := well s n
  if !bit w.irqEn ring then s
  else match w.bind with
    | .pcie => signalVec n s
    | .hspi => if n < 8 then signalHspi n s else s
    | _ => s

/-- Set bit `i` of INK_ERR of Inkwell `n`, which signals vector 69 or HSPI_IRQ.INK_ERR (R196). -/
def inkErr (n i : Nat) (s : State) : State :=
  let s' := modWell n (fun w => { w with err := setBit w.err i }) s
  match (well s n).bind with
  | .pcie => signalVec 69 s'
  | .hspi => signalHspi 13 s'
  | _ => s'

/-- The credit of a client: the requests it may add (chapter 06). -/
def inkCredit (w : Inkwell) : Nat := 16 - (w.reqProd + 65536 - w.repCons) % 65536

/-! ### Records and frames (R172, R197) -/

/-- The bytes of a reply slot (R172). -/
def replySlot (r : Reply) : Bytes :=
  padTo 256 (le 2 r.opcode ++ le 2 r.seq ++ le 2 (statusCode r.status) ++ le 2 (b2n r.dup + 2 * b2n r.warn + 4 * b2n r.sheetGone) ++
    le 2 r.data.length ++ le 2 r.sheet ++ le 2 r.sheetLen ++ zeros 18 ++ r.data)

/-- The bytes of an event slot. -/
def eventSlot (e : EventRec) : Bytes :=
  padTo 128 (le 2 e.type ++ le 2 e.payload.length ++ le 4 e.evtSeq ++ le 8 e.ssi ++ e.payload)

/-- A session's message: TYPE, a reserved byte, SIZE, and the body (R197). -/
def frame (type : Nat) (body : Bytes) : Bytes := le 1 type ++ zeros 1 ++ le 2 body.length ++ body

/-- A reply's frame: the header, the inline data, and the bytes of its sheet. -/
def replyFrame (r : Reply) (sheet : Bytes) : Bytes := frame 1 ((replySlot r).take (32 + r.data.length) ++ sheet)

/-- An event's frame: the slot with its payload bytes. -/
def eventFrame (e : EventRec) : Bytes := frame 2 ((eventSlot e).take (16 + e.payload.length))

/-! ### Events (R194, R231, R232) -/

/-- Append records to an Inkwell's event ring; a session's are sent on a standing connection. -/
def appendEvents (w : Inkwell) (l : List EventRec) : Inkwell :=
  let slots := l.zipIdx.foldl (fun t e => tabPut none t ((w.evtProd + e.2) % 32) (some e.1)) w.evtSlots
  { w with events := w.events ++ l, evtSlots := slots, evtProd := (w.evtProd + l.length) % 65536, evtSeq := w.evtSeq + l.length,
           out := if w.bind = .net ∧ w.connected then l.map eventFrame else w.out }

/-- A session's oldest record leaves a full ring while its connection stands (log 5). -/
def makeRoom (w : Inkwell) : Inkwell :=
  if w.bind = .net ∧ w.connected then
    { w with events := w.events.drop (w.events.length - 30),
             evtCons := (w.evtCons + (w.events.length - 30)) % 65536 }
  else w

/-- Write one event to a client's ring. A full ring discards it; while discarded events wait to be
reported, an EVENTS_LOST record precedes it, and both need room (R194). A record that has been written
to a standing connection leaves room for the next one (log 5). -/
def pushEvent (n type ssi : Nat) (payload : Bytes) (s : State) : State :=
  let w := makeRoom (well s n)
  let room := 32 - w.events.length
  let need := if w.lost = 0 then 1 else 2
  if room < need then
    setWell n { w with evtLost := w.evtLost + 1, lost := w.lost + 1, evtSeq := w.evtSeq + 1 } s
  else
    let l := if w.lost = 0 then [{ type := type, evtSeq := w.evtSeq + 1, ssi := ssi, payload := payload }]
      else [{ type := 1, evtSeq := w.evtSeq + 1, ssi := ssi, payload := le 4 w.lost },
            { type := type, evtSeq := w.evtSeq + 2, ssi := ssi, payload := payload }]
    let s' := setWell n { appendEvents w l with lost := 0 } s
    if w.events.isEmpty then signalInk n 1 s' else s'

/-- The Inkwells in number order. -/
def wellNumbers : List Nat := List.range 64

/-- Client `n` subscribes to the group of event `type` (R231). -/
def subscribes (s : State) (type n : Nat) : Bool :=
  (well s n).bind ≠ .unbound && bit (well s n).mask (type / 256)

/-- Raise an event: every subscriber of its group receives it, with SSI `ssi`. -/
def raiseAt (ssi type : Nat) (payload : Bytes) (s : State) : State :=
  (wellNumbers.filter (subscribes s type)).foldl (fun t n => pushEvent n type ssi payload t) s

/-- Raise an event now. -/
def raise (type : Nat) (payload : Bytes) (s : State) : State := raiseAt s.stem.ssi type payload s

/-- Deliver an event to one client whatever its mask (R232). An internal client has no Inkwell. -/
def raiseTo (n ssi type : Nat) (payload : Bytes) (s : State) : State :=
  if n < 64 && (well s n).bind ≠ .unbound then pushEvent n type ssi payload s else s

/-! ### Sheets (R182 to R187) -/

/-- Who holds sheet `h`. -/
def holderOf (s : State) (h : Nat) : Holder := tabGet .free s.ink.holders h

/-- Pass sheet `h` to a party. -/
def setHolder (h : Nat) (p : Holder) (s : State) : State :=
  { s with ink := { s.ink with holders := tabPut .free s.ink.holders h p } }

/-- A poisoned word of Reservoir, by its address ÷ 8, whose row Retouch has not retired (R545, R592). -/
def poisonOpen (s : State) (w : Nat) : Bool :=
  !s.rt.repairs.any (fun r => r.region = (w - 0x2000000) / 262144 && r.row = (w - 0x2000000) % 262144 / 128 && r.spare ≠ 0xFF)

/-- A sheet holds an uncorrectable word among its first `n` bytes. -/
def sheetPoisoned (s : State) (h n : Nat) : Bool :=
  s.feed.poison.any (fun w => 0x2000000 + h * 512 ≤ w && w < 0x2000000 + h * 512 + (n + 7) / 8)

/-- The free sheets that are withheld from their pool: they hold a poisoned word in a row that is not yet retired (R545). -/
def withheld (s : State) : List Nat :=
  (((s.feed.poison.filter (fun w => 0x2000000 ≤ w && w < 0x2100000 && poisonOpen s w)).map (fun w => (w - 0x2000000) / 512)).dedup).filter
    (fun h => holderOf s h = .free)

/-- The shared sheets that are free. -/
def sharedFree (s : State) : Nat :=
  1792 - (s.ink.holders.filter (fun e => e.1 < 1792)).length - ((withheld s).filter (· < 1792)).length

/-- The reserve sheets of client `n` that are free. -/
def reserveFree (s : State) (n : Nat) : Nat :=
  4 - (s.ink.holders.filter (fun e => 1792 + 4 * n ≤ e.1 && e.1 < 1796 + 4 * n)).length -
    ((withheld s).filter (fun h => 1792 + 4 * n ≤ h && h < 1796 + 4 * n)).length

/-- The sheets that client `n` holds. -/
def sheetsHeld (s : State) (n : Nat) : Nat := (s.ink.holders.filter (fun e => e.2 = .client n)).length

/-- The free handles from `lo` to `lo + k - 1`. -/
def freeHandles (s : State) (lo k : Nat) : List Nat :=
  ((List.range k).map (· + lo)).filter (fun h => holderOf s h = .free && !(withheld s).contains h)

/-- The free handle that an allocation gives among those of a range: the manual names no order, so the
choice is a free value (log 7). -/
def pickHandle (s : State) (lo k : Nat) : Nat :=
  let l := freeHandles s lo k
  l.getD (Config.sheetPick s.draws % l.length) lo

/-- Allocate one sheet for party `p` on behalf of client `n`: a shared sheet while any is free, else one
of its reserve (R183). Answers the handle and whether it came from the reserve. SHARED_FREE falling
below 64 signals vector 68 (R196). -/
def allocSheet (n : Nat) (p : Holder) (s : State) : Option (Nat × Bool) × State :=
  if 0 < sharedFree s then
    let h := pickHandle s 0 1792
    let s' := setHolder h p { s with draws := s.draws + 1 }
    (some (h, false), if sharedFree s = 64 then signalBoth 68 s' else s')
  else if 0 < reserveFree s n then
    let h := pickHandle s (1792 + 4 * n) 4
    (some (h, true), setHolder h p { s with draws := s.draws + 1 })
  else (none, s)

/-- A freed reply sheet leaves the cached replies that name it without a sheet (R193). -/
def dropCachedSheet (h : Nat) (e : CacheEntry) : CacheEntry :=
  match e.reply with
  | some r => if r.sheetLen ≠ 0 && r.sheet = h then
      { e with reply := some { r with sheetLen := 0, sheet := 0, sheetGone := true } } else e
  | none => e

/-- Free sheet `h`, which client `n` or Scribe for it held. -/
def freeSheet (n h : Nat) (s : State) : State :=
  let s' := setHolder h .free s
  if n < 64 then modWell n (fun w => { w with cache := w.cache.map (dropCachedSheet h) }) s' else s'

/-- Feed counts an ECC response to master `m` at address `a` (R534). -/
def countEcc (m a : Nat) (s : State) : State :=
  { s with feed := { s.feed with ecc := s.feed.ecc + 1, lastResp := 3, lastMaster := m, lastTarget := 1 + (a - 0x10000000) / 0x200000 % 2, lastAddr := a } }

/-- Master `m` writes bytes into the sheet pool's memory at an offset: a word written in full loses its poison, and a poisoned
word written in part stays as it is (R544). -/
def poolWrite (m off : Nat) (b : Bytes) (s : State) : State :=
  let a := 0x10000000 + off
  let whole := fun w => a ≤ 8 * w && 8 * w + 8 ≤ a + b.length
  let bad := s.feed.poison.filter (fun w => a < 8 * w + 8 && 8 * w < a + b.length && !whole w)
  if bad.isEmpty then
    { s with ink := { s.ink with sheetMem := memPut 0 s.ink.sheetMem off b }, feed := { s.feed with poison := s.feed.poison.filter (fun w => !whole w) } }
  else
    let mem := b.zipIdx.foldl (fun t e => if bad.contains ((a + e.2) / 8) then t else tabPut 0 t (off + e.2) e.1) s.ink.sheetMem
    countEcc m (8 * bad.headD 0) { s with ink := { s.ink with sheetMem := mem }, feed := { s.feed with poison := s.feed.poison.filter (fun w => !whole w) } }

/-- Scribe writes bytes into a sheet. -/
def writeSheet (h : Nat) (b : Bytes) (s : State) : State := poolWrite 0 (h * 4096) b s

/-- The first `n` bytes of a sheet. -/
def readSheet (s : State) (h n : Nat) : Bytes := memRead 0 s.ink.sheetMem (h * 4096) n

/-- Free every sheet that client `n` holds or that Scribe holds for it. -/
def freeAllSheets (n : Nat) (s : State) : State :=
  { s with ink := { s.ink with holders := s.ink.holders.filter (fun e => e.2 ≠ .client n && e.2 ≠ .scribe n) } }

/-! ### Replies -/

/-- Write a reply to its client's reply ring (R175, R177, R179). -/
def writeReply (n : Nat) (r : Reply) (s : State) : State :=
  if n < 64 && (well s n).bind ≠ .unbound then
    let w := well s n
    let s' := setWell n { w with replies := w.replies ++ [r], repSlots := tabPut none w.repSlots (w.repProd % 16) (some r), repProd := (w.repProd + 1) % 65536,
                                 dups := if r.dup then w.dups + 1 else w.dups,
                                 conflicts := if r.status = .seqConflict then w.conflicts + 1 else w.conflicts,
                                 notReady := if r.status = .notReady then w.notReady + 1 else w.notReady } s
    if w.replies.isEmpty then signalInk n 0 s' else s'
  else s

/-- The estimate of RETRY_MS, never below 10 ms: a free value, shown in HOST_STATUS as well (R120, R122). -/
def retryEstimate (s : State) : Nat := max 10 (Config.retryEstimate s.draws % 65536)

/-- Write a NOT_READY reply: the hardware's or Scribe's (R120, R122). -/
def replyNotReady (n opcode seq : Nat) (s : State) : State :=
  let ms := retryEstimate s
  writeReply n { opcode := opcode, seq := seq, status := .notReady, data := le 2 ms }
    { s with draws := s.draws + 1, boot := { s.boot with retryMs := ms } }

/-- The first 16 entries of the reply cache stay (R190). -/
def cachePut (e : CacheEntry) (l : List CacheEntry) : List CacheEntry :=
  (e :: l.filter (fun x => x.seq ≠ e.seq)).take 16

/-- The reply of an executed command: cached under its sequence number, then written. -/
def deliverReply (n : Nat) (crc : Word) (warns : List Warning) (r : Reply) (s : State) : State :=
  if n < 64 then
    writeReply n r (modWell n (fun w => { w with cache := cachePut { seq := r.seq, crc := crc, reply := some r, warns := warns } w.cache }) s)
  else s

/-! ### What other units report -/

/-- The engine is a twin partner (R53, R148). -/
def isPartner (s : State) : Bool := s.twin.partner
/-- The engine is a manuscript member. -/
def isMember (s : State) : Bool := s.ms.member
/-- Hush is asserted. -/
def hushOn (s : State) : Bool := s.hush.asserted
/-- The state of a Nib as shipped: the lanes' Nibs ACTIVE, then the spares (R273, log 27). -/
def nibDefault (v : Variant) (n : Nat) : Nat :=
  if n < nibLanes v then 1 else if n < nibLanes v + nibSpares v then 2 else 0

/-- The state of Nib `n` (DX.NIB_GET). Spares as shipped are the highest-numbered (log 27). -/
def nibState (s : State) (n : Nat) : Nat := tabGet (nibDefault s.variant n) s.dx.nibs n

/-- Nibs in state SPARE or WARMUP (R8). -/
def sparesLeft (s : State) : Nat := ((List.range 144).filter (fun n => nibState s n = 2 || nibState s n = 3)).length
/-- Instances shed. -/
def shedCount (s : State) : Nat := (s.prog.insts.filter (fun e => e.2.shed)).length

/-- LPDDR5 found by XMI training, in MiB. -/
def xmiMib (s : State) : Nat := if hasXmi s.variant then s.feed.xmiMib else 0
/-- The longest delay line in samples (R17). -/
def delayMax (s : State) : Nat := if xmiMib s = 0 then 4096 else 65535

/-- CAPS0 (R7, R8). -/
def caps0 (s : State) : Nat :=
  let v := s.variant
  b2n (hasXmi v) + 2 * b2n (hasTwin v) + 4 * b2n (netPorts v = 4) + 8 * b2n (has25G v) + 16 * barrelsOf v +
    256 * sparesLeft s + 65536 * serifPorts v + 16777216 * banksOf v

/-- CAPS1 (R7). -/
def caps1 (s : State) : Nat :=
  let v := s.variant
  streamsOf v / 64 + 256 * (streamsOf v / 64) + 65536 * ligCode v + 1048576 * netPorts v

/-! ### Vellum (R631 to R635) -/

/-- Change Vellum's live record. -/
def modRec (f : VlRecord → VlRecord) (s : State) : State := { s with vl := { s.vl with live := f s.vl.live } }

/-- Counter `k` advances by `n`, saturating (R631, R632). -/
def vellumAdd (k n : Nat) (s : State) : State :=
  if n = 0 then s
  else modRec (fun r => { r with counters := tabMod 0 r.counters k (fun c => min (2 ^ 64 - 1) (c + n)) }) s

/-- Counter `k` advances by one. -/
def vellumCount (k : Nat) (s : State) : State := vellumAdd k 1 s

/-- A sample falls in bin `k` of histogram `h` (R633). -/
def vellumBin (h k : Nat) (s : State) : State :=
  modRec (fun r => { r with bins := tabMod 0 r.bins (16 * h + k) (fun c => min (2 ^ 32 - 1) (c + 1)) }) s

/-- The bin of a value among powers of two: 0 below 1, then 2^(k − 1) to 2^k, at most 15. -/
def log2Bin (n : Nat) : Nat := if n = 0 then 0 else min 15 (n.log2 + 1)

/-- The bin of a lateness of `l` cycles (R633). -/
def lateBin (s : State) (l : Nat) : Nat := log2Bin (16 * l / budget s)

/-- Write an event log entry (R635). -/
def vellumLog (kind what arg value : Nat) (s : State) : State :=
  let r := s.vl.live
  let e : LogEntry := { aon := s.stem.aonMs / 1000, ssi := s.stem.ssi, kind := kind, what := what, arg := arg, value := value }
  let s1 := if r.log.any (fun x => x.1 = r.logNext) then vellumCount 79 s else s
  modRec (fun q => { q with log := tabInsert q.logNext e q.log, logNext := (q.logNext + 1) % 64 }) s1

/-! ### Waiting actions (R28, R233) -/

/-- The payload of ARMED_DROPPED (R233). -/
def droppedData (a : Armed) (st : Status) : Bytes :=
  le 2 a.seq ++ le 2 a.opcode ++ le 2 (statusCode st) ++ zeros 2 ++ le 8 a.applySsi

/-- Tell the client that armed an action that it was dropped (R28, R232). -/
def tellDropped (st : Status) (a : Armed) (s : State) : State := raiseTo a.client s.stem.ssi 0x0103 (droppedData a st) s

/-- The same action: client, SEQ and order. -/
def sameAction (a b : Armed) : Bool := a.client = b.client && a.seq = b.seq && a.order = b.order && a.opcode = b.opcode

/-- Forget a waiting action. -/
def forget (a : Armed) (s : State) : State :=
  { s with ink := { s.ink with armed := s.ink.armed.filter (fun b => !sameAction a b),
                               sched := s.ink.sched.filter (fun b => !sameAction a b) } }

/-! ### The Twin unit (R477, R480, R487 to R490, R505) -/

/-- The engine has an identity key: PROVISIONED or DEPLOYED (R601, R605). -/
def hasIdentity (s : State) : Bool := (s.life.state = 1 || s.life.state = 2) && s.life.idKey.isSome

/-- A hexadecimal digit in ASCII. -/
def hexDigit (n : Nat) : Byte := BitVec.ofNat 8 (if n < 10 then 0x30 + n else 0x37 + n)

/-- The subject common name of the certificate that the engine presents: "Garne-" and SERIAL in 16 hexadecimal digits (R604). -/
def commonName (s : State) : Bytes :=
  [0x47, 0x61, 0x72, 0x6E, 0x65, 0x2D].map (BitVec.ofNat 8) ++ (List.range 16).map (fun i => hexDigit (s.life.serial / 16 ^ (15 - i) % 16))

/-- The public key that the certificate carries: the identity key's, or the ephemeral one's (R604, R605). -/
def tlsKey (s : State) : Bytes := if hasIdentity s then s.life.idPub else padTo 64 (Config.keyPub s.life.ephemeral)

/-- Seal's channel 0 has computed a check over `n` bytes for the boot ROM or firmware (R561, "Uses within the engine"). -/
def sealUse (result : Bytes) (n : Nat) (s : State) : State :=
  let run := fun (q : SealCh) => { q with done := true, result := padTo 32 result, bytes := n, jobs := (q.jobs + 1) % 2 ^ 32, total := q.total + n }
  { s with sl := { s.sl with chans := tabMod {} s.sl.chans 0 run } }

/-- Change the Twin unit. -/
def modTwin (f : Twin → Twin) (s : State) : State := { s with twin := f s.twin }

/-- This unit is the active unit of a pair, or no partner at all: it alone acts for the pair outside. -/
def actsForPair (s : State) : Bool := !isPartner s || s.twin.state = 1

/-- Send a Twin link frame: header, payload and CRC-32C (R480). -/
def twinSend (type : Nat) (payload : Bytes) (s : State) : State :=
  if ¬ isPartner s then s
  else
    let w := s.twin
    let f := le 1 type ++ le 1 w.cfg.unit ++ le 2 payload.length ++ le 2 w.cfg.pair ++ zeros 2 ++ le 4 w.lsn ++ zeros 4 ++ payload
    modTwin (fun w => { w with lsn := (w.lsn + 1) % 2 ^ 32, sent := tabInsert type (f ++ le 4 (crc32c f).toNat) w.sent }) s

/-- STATE of the unit changes, with TWIN_STATE; the claim is 0 in every state but ACTIVE and OFF (R494, R506). -/
def twinState (new cause : Nat) (s : State) : State :=
  let old := s.twin.state
  let s1 := modTwin (fun w => { w with state := new, claim := if new = 1 ∨ new = 0 then w.claim else 0, matches_ := 0 }) s
  if old = new then s1 else raise 0x0B01 (le 1 old ++ le 1 new ++ le 1 cause) s1

/-- The partner's STATUS of the last period shows WARM (R488). -/
def partnerWarm (s : State) : Bool := isPartner s && s.twin.linkUp && s.twin.heard && s.twin.pState = 2

/-- An armed handover is dropped, and the client that armed it told (R505). -/
def dropHandover (s : State) : State :=
  match s.twin.handover with
  | none => s
  | some h =>
    let s1 := modTwin (fun w => { w with handover := none }) s
    match h.cmd with
    | none => s1
    | some c =>
      let a : Armed := { client := c.1, seq := c.2, opcode := 0x0B03, applySsi := h.point }
      tellDropped .busy a { s1 with ink := { s1.ink with armed := s1.ink.armed.filter (fun b => ¬ (b.client = c.1 ∧ b.seq = c.2 ∧ b.opcode = 0x0B03)) } }

/-- STOP_SSI for a detection `ns` after the present sample's grid instant: the first sample at least 2 µs later (R488). -/
def stopSsiAt (s : State) (ns : Nat) : Nat := s.stem.ssi + ((ns + 2000) * fsOp s + 999999999) / 1000000000

/-- TWIN_GIVEUP, and its Vellum log entry. -/
def tellGiveUp (cause taken stop : Nat) (s : State) : State :=
  vellumLog 7 cause taken 0 (raise 0x0B03 (le 1 cause ++ le 1 taken ++ zeros 6 ++ le 8 stop) s)

/-- The active unit gives up its claim (R488): the hardware drops the claim, sends GIVEUP and closes its gates from STOP_SSI;
it becomes FAULTED at the next boundary. -/
def giveUp (cause stop : Nat) (s : State) : State :=
  let s1 := modTwin (fun w => { w with claim := 0, closeAt := some stop, serifAt := some (stop, false), giveups := w.giveups + 1,
                                       actAt := some { at_ := nextBoundary s, state := 4, cause := cause, stop := stop } }) (dropHandover s)
  tellGiveUp cause 1 stop (vellumCount 60 (twinSend 5 (le 1 cause ++ zeros 7 ++ le 8 stop) s1))

/-- A give-up cause is detected `ns` after the present grid instant (R487 to R490): it acts on an active unit with a WARM
partner; another active unit goes on as sole; a shadow becomes FAULTED. -/
def giveUpCause (cause ns : Nat) (s : State) : State :=
  let w := s.twin
  let s1 := modTwin (fun w => { w with cause := cause, causeMs := s.stem.ms, causeMark := s.rt.passes }) s
  if ¬ isPartner s ∨ w.state = 0 then s
  else if w.state = 1 then
    if w.claim = 0 then s
    else if partnerWarm s then giveUp cause (stopSsiAt s ns) s1
    else tellGiveUp cause 0 0 (modTwin (fun w => { w with sole := true }) s1)
  else if w.state = 4 then s1
  else twinState 4 cause (dropHandover s1)

/-- A give-up cause that arises inside a step (R70, R488). -/
def signalGiveUp (cause : Nat) (s : State) : State := giveUpCause cause 0 s

end Sys2Proof.Machine
end

