-- ==== Sys2Proof/Machine/Command.lean ====
section
/-! DEFINITION. How Scribe serves a request: admission, the sequence rule, the order of checks, arming,
the reply with its warning list, and completion (chapters 06, 07 and 25). -/

namespace Sys2Proof.Machine

/-- One row of the opcode table (R714): `role` is the code of the least role, `modes` none for "All",
`expert` the level, `timed` the capability, `early` membership of R716's set. -/
structure OpRow where
  code   : Nat
  role   : Nat
  modes  : Option (List Mode)
  expert : Bool
  timed  : Bool
  early  : Bool
  deriving DecidableEq, Repr

/-- The opcodes of group 0x01 (R714): SYS.IDENTITY_GET, SYS.CAPS_GET, SYS.ROLE_SET, SYS.GRANT_GET,
SYS.GRANT_SET, SYS.CLOCK_GET, SYS.RATE_SET, SYS.SSI_REALIGN, SYS.BOOT_INFO, SYS.RESTART, SYS.FW_WRITE,
SYS.FW_SELECT, SYS.FW_COMMIT, SYS.RESUME_SET, SYS.RESUME_SAVE, SYS.INK_GET, SYS.INK_CLOSE, SYS.SUBSCRIBE,
SYS.WARN_GET, SYS.ARMED_GET, SYS.ARMED_CANCEL, SYS.MEM_STATUS_GET, SYS.CART_STATUS_GET, LC.STATUS_GET,
LC.NONCE_GET, LC.PROVISION, LC.DEPLOY, LC.RETURN, LC.DEBUG_UNLOCK, LC.ATTEST, SYS.BOARD_GET, SYS.BOARD_SET,
SYS.GPIO_CONFIG, SYS.GPIO_GET, SYS.GPIO_SET, SYS.LTC_CONFIG, SYS.LTC_STATUS_GET, SYS.LINK_GET. -/
def opRows01 : List OpRow := [
  { code := 0x0101, role := 1, modes := none, expert := false, timed := false, early := true },
  { code := 0x0102, role := 1, modes := none, expert := false, timed := false, early := true },
  { code := 0x0110, role := 1, modes := none, expert := false, timed := false, early := true },
  { code := 0x0111, role := 5, modes := none, expert := false, timed := false, early := true },
  { code := 0x0112, role := 5, modes := none, expert := false, timed := false, early := false },
  { code := 0x0120, role := 1, modes := none, expert := false, timed := false, early := true },
  { code := 0x0121, role := 3, modes := some [.commission], expert := false, timed := false, early := false },
  { code := 0x0122, role := 3, modes := some [.commission], expert := false, timed := false, early := false },
  { code := 0x0130, role := 1, modes := none, expert := false, timed := false, early := true },
  { code := 0x0131, role := 5, modes := none, expert := false, timed := false, early := false },
  { code := 0x0132, role := 5, modes := none, expert := false, timed := false, early := false },
  { code := 0x0133, role := 5, modes := none, expert := false, timed := false, early := false },
  { code := 0x0134, role := 5, modes := some [.commission], expert := false, timed := false, early := false },
  { code := 0x0135, role := 3, modes := some [.commission, .showing, .degraded], expert := false, timed := false, early := false },
  { code := 0x0136, role := 3, modes := some [.commission, .showing, .degraded], expert := false, timed := false, early := false },
  { code := 0x0140, role := 1, modes := none, expert := false, timed := false, early := true },
  { code := 0x0141, role := 5, modes := none, expert := false, timed := false, early := false },
  { code := 0x0150, role := 1, modes := none, expert := false, timed := false, early := true },
  { code := 0x0151, role := 1, modes := none, expert := false, timed := false, early := true },
  { code := 0x0152, role := 1, modes := none, expert := false, timed := false, early := true },
  { code := 0x0153, role := 1, modes := none, expert := false, timed := false, early := false },
  { code := 0x0160, role := 1, modes := none, expert := false, timed := false, early := true },
  { code := 0x0161, role := 1, modes := none, expert := false, timed := false, early := true },
  { code := 0x0170, role := 1, modes := none, expert := false, timed := false, early := true },
  { code := 0x0171, role := 5, modes := none, expert := false, timed := false, early := true },
  { code := 0x0172, role := 5, modes := some [.commission], expert := false, timed := false, early := false },
  { code := 0x0173, role := 5, modes := some [.commission], expert := false, timed := false, early := false },
  { code := 0x0174, role := 5, modes := some [.commission], expert := false, timed := false, early := false },
  { code := 0x0175, role := 5, modes := some [.commission, .maintenance], expert := false, timed := false, early := false },
  { code := 0x0176, role := 1, modes := none, expert := false, timed := false, early := false },
  { code := 0x0190, role := 1, modes := none, expert := false, timed := false, early := true },
  { code := 0x0191, role := 5, modes := some [.commission], expert := false, timed := false, early := false },
  { code := 0x0192, role := 3, modes := some [.commission, .showing, .degraded], expert := false, timed := false, early := false },
  { code := 0x0193, role := 1, modes := none, expert := false, timed := false, early := true },
  { code := 0x0194, role := 2, modes := some [.commission, .showing, .shadow, .degraded], expert := false, timed := true, early := false },
  { code := 0x0195, role := 3, modes := some [.commission, .showing, .degraded], expert := false, timed := false, early := false },
  { code := 0x0196, role := 1, modes := none, expert := false, timed := false, early := true },
  { code := 0x0197, role := 1, modes := none, expert := false, timed := false, early := true }]

/-- The opcodes of group 0x02 (R714): BL.STATUS_GET, BL.REF_CONFIG, BL.SELECT, BL.STEER, BL.PHASE_STEP,
BL.OUT_CONFIG, BL.POLICY_SET, BL.REF_CLEAR. -/
def opRows02 : List OpRow := [
  { code := 0x0201, role := 1, modes := none, expert := false, timed := false, early := true },
  { code := 0x0202, role := 3, modes := some [.commission, .showing, .shadow, .degraded, .maintenance], expert := false, timed := false, early := false },
  { code := 0x0203, role := 3, modes := some [.commission, .showing, .shadow, .degraded, .maintenance], expert := false, timed := false, early := false },
  { code := 0x0204, role := 3, modes := some [.commission, .showing, .shadow, .degraded, .maintenance], expert := false, timed := false, early := false },
  { code := 0x0205, role := 3, modes := some [.commission, .showing, .shadow, .degraded, .maintenance], expert := false, timed := true, early := false },
  { code := 0x0206, role := 3, modes := some [.commission, .showing, .shadow, .degraded, .maintenance], expert := false, timed := false, early := false },
  { code := 0x0207, role := 3, modes := some [.commission, .showing, .shadow, .degraded, .maintenance], expert := false, timed := false, early := false },
  { code := 0x0208, role := 3, modes := some [.commission, .showing, .shadow, .degraded, .maintenance], expert := false, timed := false, early := false }]

/-- The opcodes of group 0x03 (R714): MODE.GET, MODE.SET, MODE.WAKE_CONFIG. -/
def opRows03 : List OpRow := [
  { code := 0x0301, role := 1, modes := none, expert := false, timed := false, early := false },
  { code := 0x0302, role := 3, modes := some [.commission, .showing, .degraded, .maintenance], expert := false, timed := true, early := false },
  { code := 0x0303, role := 3, modes := some [.commission, .showing, .degraded], expert := false, timed := false, early := false }]

/-- The opcodes of group 0x04 (R714): NET.PORT_CONFIG, NET.PORT_STATUS_GET, NET.PTP_CONFIG, NET.PTP_STATUS_GET,
NET.QUILL_CONFIG, NET.RX_SET, NET.RX_GET, NET.TX_SET, NET.TX_GET, NET.STATUS_GET, NET.NMOS_CONFIG. -/
def opRows04 : List OpRow := [
  { code := 0x0401, role := 3, modes := some [.commission], expert := false, timed := false, early := false },
  { code := 0x0402, role := 1, modes := none, expert := false, timed := false, early := true },
  { code := 0x0403, role := 3, modes := some [.commission], expert := false, timed := false, early := false },
  { code := 0x0404, role := 1, modes := none, expert := false, timed := false, early := true },
  { code := 0x0405, role := 3, modes := some [.commission, .showing, .degraded], expert := false, timed := false, early := false },
  { code := 0x0410, role := 3, modes := some [.commission, .showing, .degraded], expert := false, timed := true, early := false },
  { code := 0x0411, role := 1, modes := none, expert := false, timed := false, early := true },
  { code := 0x0412, role := 3, modes := some [.commission, .showing, .degraded], expert := false, timed := true, early := false },
  { code := 0x0413, role := 1, modes := none, expert := false, timed := false, early := true },
  { code := 0x0414, role := 1, modes := none, expert := false, timed := false, early := true },
  { code := 0x0420, role := 3, modes := some [.commission], expert := false, timed := false, early := false }]

/-- The opcodes of group 0x05 (R714): SER.CONFIG, SER.CONFIG_GET, SER.STATUS_GET, SER.COUNTERS_GET. -/
def opRows05 : List OpRow := [
  { code := 0x0501, role := 3, modes := some [.commission, .showing, .degraded], expert := false, timed := false, early := false },
  { code := 0x0502, role := 1, modes := none, expert := false, timed := false, early := true },
  { code := 0x0503, role := 1, modes := none, expert := false, timed := false, early := true },
  { code := 0x0504, role := 1, modes := none, expert := false, timed := false, early := true }]

/-- The opcodes of group 0x06 (R714): LIG.ROUTE_SET, LIG.ROUTE_GET, LIG.SINK_CONFIG, LIG.GAIN_SET, LIG.FALLBACK,
LIG.PATCH_SET, LIG.STATUS_GET. -/
def opRows06 : List OpRow := [
  { code := 0x0601, role := 2, modes := some [.commission, .showing, .degraded], expert := false, timed := true, early := false },
  { code := 0x0602, role := 1, modes := none, expert := false, timed := false, early := true },
  { code := 0x0603, role := 3, modes := some [.commission, .showing, .degraded], expert := false, timed := false, early := false },
  { code := 0x0604, role := 2, modes := some [.commission, .showing, .degraded], expert := false, timed := true, early := false },
  { code := 0x0605, role := 2, modes := some [.commission, .showing, .degraded], expert := false, timed := false, early := false },
  { code := 0x0606, role := 3, modes := some [.commission], expert := false, timed := false, early := false },
  { code := 0x0607, role := 1, modes := none, expert := false, timed := false, early := true }]

/-- The opcodes of group 0x07 (R714): INST.CREATE, INST.DELETE, INST.SET, INST.GET, INST.LIST, INST.RENAME,
PROG.LIST, INST.COEF_SET, INST.COEF_GET, DX.LOAD_GET, DX.NIB_GET, DX.CONFIG. -/
def opRows07 : List OpRow := [
  { code := 0x0701, role := 3, modes := some [.commission, .showing, .degraded], expert := false, timed := false, early := false },
  { code := 0x0702, role := 3, modes := some [.commission, .showing, .degraded], expert := false, timed := true, early := false },
  { code := 0x0703, role := 2, modes := some [.commission, .showing, .degraded], expert := false, timed := true, early := false },
  { code := 0x0704, role := 1, modes := none, expert := false, timed := false, early := false },
  { code := 0x0705, role := 1, modes := none, expert := false, timed := false, early := false },
  { code := 0x0706, role := 2, modes := some [.commission, .showing, .degraded], expert := false, timed := false, early := false },
  { code := 0x0707, role := 1, modes := none, expert := false, timed := false, early := false },
  { code := 0x0710, role := 3, modes := some [.commission, .showing, .degraded], expert := true, timed := true, early := false },
  { code := 0x0711, role := 3, modes := none, expert := true, timed := false, early := false },
  { code := 0x0780, role := 1, modes := none, expert := false, timed := false, early := true },
  { code := 0x0781, role := 1, modes := none, expert := false, timed := false, early := true },
  { code := 0x0782, role := 3, modes := some [.commission], expert := false, timed := false, early := false }]

/-- The opcodes of group 0x08 (R714): SCENE.STORE, SCENE.RECALL, SCENE.DELETE, SCENE.LIST, SCENE.EXPORT,
SCENE.IMPORT, SCENE.SAFE_SET, SCENE.SAFE_GET, CUE.CONFIG, CUE.MAP_SET, CUE.MAP_GET, CUE.STATUS_GET,
FOLIO.MAP, FOLIO.READ, FOLIO.WRITE. -/
def opRows08 : List OpRow := [
  { code := 0x0801, role := 2, modes := some [.commission, .showing, .degraded], expert := false, timed := false, early := false },
  { code := 0x0802, role := 2, modes := some [.commission, .showing, .degraded], expert := false, timed := true, early := false },
  { code := 0x0803, role := 3, modes := some [.commission, .showing, .degraded], expert := false, timed := false, early := false },
  { code := 0x0804, role := 1, modes := none, expert := false, timed := false, early := false },
  { code := 0x0805, role := 3, modes := none, expert := false, timed := false, early := false },
  { code := 0x0806, role := 3, modes := some [.commission, .showing, .degraded], expert := false, timed := false, early := false },
  { code := 0x0807, role := 2, modes := some [.commission, .showing, .degraded], expert := false, timed := false, early := false },
  { code := 0x0808, role := 1, modes := none, expert := false, timed := false, early := true },
  { code := 0x0810, role := 3, modes := some [.commission, .showing, .degraded], expert := false, timed := false, early := false },
  { code := 0x0811, role := 3, modes := some [.commission, .showing, .degraded], expert := false, timed := false, early := false },
  { code := 0x0812, role := 1, modes := none, expert := false, timed := false, early := true },
  { code := 0x0813, role := 1, modes := none, expert := false, timed := false, early := true },
  { code := 0x0820, role := 3, modes := none, expert := true, timed := false, early := false },
  { code := 0x0821, role := 3, modes := none, expert := true, timed := false, early := false },
  { code := 0x0822, role := 3, modes := some [.commission, .showing, .degraded], expert := true, timed := true, early := false }]

/-- The opcodes of group 0x09 (R714): SHEEN.CONFIG, SHEEN.LOUD_RESET, SHEEN.SET_DEFINE, SHEEN.SET_DELETE,
SHEEN.SET_READ, SHEEN.STATUS_GET, SHEEN.CONFIG_GET. -/
def opRows09 : List OpRow := [
  { code := 0x0901, role := 2, modes := some [.commission, .showing, .degraded], expert := false, timed := true, early := false },
  { code := 0x0902, role := 2, modes := some [.commission, .showing, .degraded], expert := false, timed := true, early := false },
  { code := 0x0910, role := 1, modes := some [.commission, .showing, .degraded], expert := false, timed := false, early := false },
  { code := 0x0911, role := 1, modes := some [.commission, .showing, .degraded], expert := false, timed := false, early := false },
  { code := 0x0912, role := 1, modes := none, expert := false, timed := false, early := false },
  { code := 0x0913, role := 1, modes := none, expert := false, timed := false, early := true },
  { code := 0x0914, role := 1, modes := none, expert := false, timed := false, early := true }]

/-- The opcodes of group 0x0A (R714): HUSH.STATUS_GET, HUSH.CLEAR, HUSH.CONFIG, HUSH.CONFIG_GET. -/
def opRows0A : List OpRow := [
  { code := 0x0A01, role := 1, modes := none, expert := false, timed := false, early := true },
  { code := 0x0A02, role := 4, modes := none, expert := false, timed := false, early := false },
  { code := 0x0A03, role := 4, modes := some [.commission], expert := false, timed := false, early := false },
  { code := 0x0A04, role := 1, modes := none, expert := false, timed := false, early := true }]

/-- The opcodes of group 0x0B (R714): TWIN.STATUS_GET, TWIN.CONFIG, TWIN.PROMOTE, TWIN.RESYNC, TWIN.DISSOLVE. -/
def opRows0B : List OpRow := [
  { code := 0x0B01, role := 1, modes := none, expert := false, timed := false, early := true },
  { code := 0x0B02, role := 5, modes := some [.commission], expert := false, timed := false, early := false },
  { code := 0x0B03, role := 3, modes := some [.showing, .shadow], expert := false, timed := true, early := false },
  { code := 0x0B04, role := 3, modes := some [.showing, .shadow], expert := false, timed := false, early := false },
  { code := 0x0B05, role := 5, modes := some [.showing, .shadow, .degraded], expert := false, timed := false, early := false }]

/-- The opcodes of group 0x0C (R714): MS.STATUS_GET, MS.CONFIG, MS.ROSTER_SET, MS.JOIN, MS.LEAVE, MS.FLOURISH,
MS.XBUS_SET, MS.MEMBERS_GET. -/
def opRows0C : List OpRow := [
  { code := 0x0C01, role := 1, modes := none, expert := false, timed := false, early := true },
  { code := 0x0C02, role := 3, modes := some [.commission], expert := false, timed := false, early := false },
  { code := 0x0C03, role := 5, modes := some [.commission], expert := false, timed := false, early := false },
  { code := 0x0C04, role := 3, modes := some [.commission], expert := false, timed := false, early := false },
  { code := 0x0C05, role := 3, modes := some [.commission, .showing, .degraded], expert := false, timed := true, early := false },
  { code := 0x0C06, role := 2, modes := some [.showing, .degraded], expert := false, timed := true, early := false },
  { code := 0x0C07, role := 3, modes := some [.commission], expert := false, timed := false, early := false },
  { code := 0x0C08, role := 1, modes := none, expert := false, timed := false, early := true }]

/-- The opcodes of group 0x0D (R714): SEAL.RUN, SEAL.STATUS_GET, SEAL.DIGEST_GET, SEAL.REGION_RUN. -/
def opRows0D : List OpRow := [
  { code := 0x0D01, role := 1, modes := some [.commission, .showing, .shadow, .degraded], expert := false, timed := false, early := false },
  { code := 0x0D02, role := 1, modes := none, expert := false, timed := false, early := true },
  { code := 0x0D03, role := 1, modes := none, expert := false, timed := false, early := true },
  { code := 0x0D10, role := 3, modes := some [.commission, .showing, .shadow, .degraded], expert := true, timed := false, early := false }]

/-- The opcodes of group 0x0E (R714): RT.STATUS_GET, RT.CONFIG, RT.NIB_TEST, RT.MIGRATE, RT.SHED_SET,
RT.SHED_GET, RT.REPAIR_GET, BT.STATUS_GET, RT.ROW_RETIRE, BT.INJECT, CB.LIST, CB.RUN, CB.ABORT,
CB.RESULT_GET. -/
def opRows0E : List OpRow := [
  { code := 0x0E01, role := 1, modes := none, expert := false, timed := false, early := true },
  { code := 0x0E02, role := 3, modes := some [.commission], expert := false, timed := false, early := false },
  { code := 0x0E03, role := 3, modes := some [.commission, .showing, .shadow, .degraded], expert := false, timed := false, early := false },
  { code := 0x0E04, role := 3, modes := some [.commission, .showing, .shadow, .degraded], expert := false, timed := false, early := false },
  { code := 0x0E05, role := 3, modes := some [.commission, .showing, .degraded], expert := false, timed := false, early := false },
  { code := 0x0E06, role := 1, modes := none, expert := false, timed := false, early := true },
  { code := 0x0E07, role := 1, modes := none, expert := false, timed := false, early := true },
  { code := 0x0E08, role := 1, modes := none, expert := false, timed := false, early := true },
  { code := 0x0E18, role := 3, modes := some [.commission], expert := true, timed := false, early := false },
  { code := 0x0E19, role := 3, modes := some [.commission], expert := true, timed := false, early := false },
  { code := 0x0E20, role := 1, modes := none, expert := false, timed := false, early := false },
  { code := 0x0E21, role := 3, modes := some [.maintenance], expert := false, timed := false, early := false },
  { code := 0x0E22, role := 3, modes := some [.maintenance], expert := false, timed := false, early := false },
  { code := 0x0E23, role := 1, modes := none, expert := false, timed := false, early := true }]

/-- The opcodes of group 0x0F (R714): VL.STATUS_GET, VL.READ, VL.EXPORT, VL.SAVE. -/
def opRows0F : List OpRow := [
  { code := 0x0F01, role := 1, modes := none, expert := false, timed := false, early := true },
  { code := 0x0F02, role := 1, modes := none, expert := false, timed := false, early := false },
  { code := 0x0F03, role := 3, modes := none, expert := false, timed := false, early := false },
  { code := 0x0F04, role := 3, modes := some [.commission, .showing, .shadow, .degraded, .maintenance], expert := false, timed := false, early := false }]

/-- The opcodes of group 0x10 (R714): EXP.REG_READ, EXP.REG_WRITE. -/
def opRows10 : List OpRow := [
  { code := 0x1001, role := 3, modes := some [.commission, .maintenance], expert := true, timed := false, early := false },
  { code := 0x1002, role := 3, modes := some [.commission, .maintenance], expert := true, timed := false, early := false }]

/-- The opcodes the engine knows (R714). -/
def opRow (code : Nat) : Option OpRow :=
  (match code / 256 with
  | 0x01 => opRows01
  | 0x02 => opRows02
  | 0x03 => opRows03
  | 0x04 => opRows04
  | 0x05 => opRows05
  | 0x06 => opRows06
  | 0x07 => opRows07
  | 0x08 => opRows08
  | 0x09 => opRows09
  | 0x0A => opRows0A
  | 0x0B => opRows0B
  | 0x0C => opRows0C
  | 0x0D => opRows0D
  | 0x0E => opRows0E
  | 0x0F => opRows0F
  | 0x10 => opRows10
  | _ => []).find? (fun r => r.code = code)

/-- What a command sees of its request: the client, SEQ and role, the inline payload `p`, the sheet's
bytes `sh`, the FIT flag, and, when the command is timed, its apply SSI. -/
structure Ctx where
  client : Nat
  seq    : Nat
  role   : Nat := 5
  p      : Bytes := []
  sh     : Bytes := []
  fit    : Bool := false
  timed  : Bool := false
  at_    : Nat := 0
  deriving DecidableEq, Repr

/-- The whole payload where a layout may lie inline or in the sheet (R733). -/
def Ctx.whole (c : Ctx) : Bytes := if c.p.isEmpty then c.sh else c.p

/-- What a command answers: the state with its effect, the status, the inline data, a reply sheet's
contents, the warnings, what happens after the reply is written (the events it causes, R179), and
whether the reply waits for work that completes later. `keep` says that a refusal leaves the change made: only the owner
authorisations do (R606). -/
structure Res where
  st     : State
  status : Status := .ok
  data   : Bytes := []
  sheet  : Option Bytes := none
  warns  : List Warning := []
  after  : State → State := id
  wait   : Bool := false
  keep   : Bool := false

/-- A refusal: no effect (R210). -/
def fail (st : Status) (s : State) (data : Bytes := []) : Res := { st := s, status := st, data := data }

/-- A success with reply data and no change. -/
def answer (data : Bytes) (s : State) : Res := { st := s, data := data }

/-- A reply sheet, or none when there is nothing to return. -/
def sheetOf (b : Bytes) : Option Bytes := if b.isEmpty then none else some b

/-- One command's own part of the checks and its effect. The functions are the steps of R210 that
depend on the command: 2 (`lens` over LENGTH and SHEET_LEN, `fits` over the counts inside),  6 (absent), 7 (role beyond the table's), 8 (life cycle), 11
(Hush), 12 (range), 13 (lead), and 14 with 15 in `body`. `arm` replaces `body` when the command is
timed, where arming differs from executing. -/
structure Cmd where
  lens      : Nat → Nat → Bool
  fits      : Ctx → Bool := fun _ => true
  absent    : Ctx → State → Bool := fun _ _ => false
  role      : Ctx → State → Bool := fun _ _ => true
  lifecycle : Ctx → State → Bool := fun _ _ => true
  hush      : Ctx → State → Bool := fun _ _ => true
  range     : Ctx → State → Bool := fun _ _ => true
  lead      : State → Nat := fun _ => 16
  body      : Ctx → State → Res
  arm       : Option (Ctx → State → Res) := none

/-- A payload of exactly `n` inline bytes. -/
def inlineOnly (n : Nat) : Nat → Nat → Bool := fun l sl => l = n && sl = 0

/-- A payload of exactly `n` inline bytes with a sheet that carries data. -/
def inlineWithSheet (n : Nat) : Nat → Nat → Bool := fun l sl => l = n && 0 < sl

/-- A payload inline or in the sheet, not both (R733). -/
def eitherPlace : Nat → Nat → Bool := fun l sl => (0 < l && sl = 0) || (l = 0 && 0 < sl)

/-! ### Roles (R219) -/

/-- The place of a role in the order OBSERVER, OPERATOR, ENGINEER, ADMIN; SAFETY counts as OBSERVER. -/
def roleRank : Nat → Nat
  | 1 => 1 | 2 => 2 | 3 => 3 | 4 => 1 | 5 => 4 | _ => 0

/-- A client that holds `held` may issue a command that needs `need`: SAFETY itself is needed where the
table says SAFETY (R220). -/
def roleMeets (held need : Nat) : Bool :=
  if need = 4 then held = 4 else roleRank need ≤ roleRank held

/-! ### The sequence rule (R189 to R193) -/

/-- The 32 header bytes over which the request check runs, SHEET taken as zero (R189). -/
def headerBytes (op : Nat) (r : Request) : Bytes :=
  le 2 op ++ le 2 r.seq ++ le 2 r.flags ++ le 2 r.length ++ le 2 0 ++ le 2 r.sheetLen ++ le 4 r.rsv12 ++
    le 8 r.applySsi ++ le 8 r.rsv24

/-- The request check: header, the LENGTH inline bytes (all 224 when LENGTH is above 224), the sheet's
bytes (R189). -/
def requestCrc (op : Nat) (r : Request) (sheet : Bytes) : Word :=
  crc32c (headerBytes op r ++ padTo (min r.length 224) r.payload ++ sheet)

/-- How the sequence rule treats a request (R190). -/
inductive SeqVerdict where
  | execute
  | resend (r : Reply)
  | running
  | conflict
  deriving DecidableEq, Repr

/-- The sequence rule for SEQ `q` with check `crc` (R190, R191, R192). -/
def seqVerdict (w : Inkwell) (q : Nat) (crc : Word) : SeqVerdict :=
  let last := if w.fresh then (q + 65535) % 65536 else w.lastSeq
  if q = (last + 1) % 65536 then .execute
  else if (last + 65536 - q) % 65536 < 16 then
    match w.cache.find? (fun e => e.seq = q) with
    | none => .conflict
    | some e => if e.crc ≠ crc then .conflict
      else match e.reply with
        | none => .running
        | some r => .resend r
  else .conflict

/-! ### Admission (R120, R122, R149, R716) -/

/-- The opcode is executed now: commands are served, and before READY or in the window of a wake only
R716's set is. -/
def admitted (op : Nat) (s : State) : Bool :=
  s.boot.inkBasic && (s.boot.stage = .ready
    || (match opRow op with | some r => r.early | none => false)
    || (op = 0x0302 && s.power.waking))

/-! ### The order of checks (R210) -/

/-- The group of an opcode. -/
def opGroup (op : Nat) : Nat := op / 256

/-- A command of the processing groups, 0x04 to 0x09 and 0x0C (R234). -/
def processing (op : Nat) : Bool := (4 ≤ opGroup op && opGroup op ≤ 9) || opGroup op = 0x0C

/-- The mode check of step 9, with R715 for a shadow and R166 for MODE.SET during a wake. -/
def modeAllows (row : OpRow) (s : State) : Bool :=
  match row.modes with
  | none => true
  | some l =>
    let m := if row.code = 0x0302 then judgedMode s else s.power.mode
    l.contains m || (m = .shadow && processing row.code && l.contains .showing)

/-- A processing command that would change state (R234): those the table limits to some modes. -/
def changesState (row : OpRow) : Bool := processing row.code && row.modes.isSome

/-- The reply data of TWIN_FOLLOWER (R234). -/
def followerData (s : State) : Bytes :=
  le 4 s.twin.partnerIp ++ le 2 4716 ++ le 1 s.twin.partnerClaim ++ zeros 1

/-- The armed action of a client and SEQ. -/
def armedAt (s : State) (n q : Nat) : Option Armed := s.ink.armed.find? (fun a => a.client = n && a.seq = q)

/-- The actions that a client has armed. -/
def armedBy (s : State) (n : Nat) : List Armed := s.ink.armed.filter (fun a => a.client = n)

/-- The take SSI plus the lead: EARLIEST of a LATE reply (R211). -/
def earliest (c : Cmd) (s : State) : Nat := s.stem.ssi + c.lead s

/-- No further action may be armed: 4,096 in all, or 256 for the client (R213). -/
def armingFull (n : Nat) (s : State) : Bool := 4096 ≤ s.ink.armed.length || 256 ≤ (armedBy s n).length

/-- Step 13 for a timed command: lead, horizon and arming capacity (R211, R212, R213). -/
def timedCheck (c : Cmd) (x : Ctx) (s : State) : Option (Status × Bytes) :=
  if x.at_ < earliest c s then some (.late, le 8 (earliest c s))
  else if s.stem.ssi + 86400 * fsOp s < x.at_ then some (.badParam, [])
  else if armingFull x.client s ∨ (armedAt s x.client x.seq).isSome then some (.busy, [])
  else none

/-- LC.RETURN has been executed and the engine has not been zeroised yet (R610). -/
def returning (s : State) : Bool := s.life.retPending && s.life.state ≠ 3

/-- A command that only reads status: of R716's set, all but SYS.ROLE_SET, SYS.SUBSCRIBE and LC.NONCE_GET. -/
def statusRead (row : OpRow) : Bool := row.early && row.code ≠ 0x0110 && row.code ≠ 0x0150 && row.code ≠ 0x0171

/-- Steps 2 to 13 of the order of checks: the first that fails decides the reply (R210). `sheetOk` says
that the client holds the sheet that the request names (R184). -/
def check (op : Nat) (c : Cmd) (r : Request) (x : Ctx) (sheetOk : Bool) (s : State) : Option (Status × Bytes) :=
  if 224 < r.length ∨ 4096 < r.sheetLen ∨ r.rsv12 ≠ 0 ∨ r.rsv24 ≠ 0 ∨ r.flags / 8 ≠ 0 then some (.badLength, [])
  else match opRow op with
  | none => some (.badOpcode, [])
  | some row =>
    if ¬ c.lens r.length r.sheetLen ∨ ¬ c.fits x then some (.badLength, [])
    else if bit r.flags 1 ≠ row.expert then some (.badOpcode, [])
    else if (x.timed ∧ ¬ row.timed) ∨ (¬ x.timed ∧ r.applySsi ≠ 0) then some (.badParam, [])
    else if (opGroup op = 0x0B ∧ ¬ hasTwin s.variant) ∨ c.absent x s then some (.unitAbsent, [])
    else if ¬ roleMeets x.role row.role ∨ ¬ c.role x s then some (.role, [])
    else if (returning s ∧ ¬ statusRead row) ∨ ¬ c.lifecycle x s then some (.lifecycle, [])
    else if ¬ modeAllows row s then some (.mode, [])
    else if s.power.mode = .shadow ∧ changesState row then some (.twinFollower, followerData s)
    else if ¬ c.hush x s then some (.hushActive, [])
    else if ¬ sheetOk ∨ ¬ c.range x s then some (.badParam, [])
    else if x.timed then timedCheck c x s
    else none

/-- Arm a timed action: after every check of an execution at once has passed, the action is stored and
nothing else changes (R28, R179). -/
def armAction (op : Nat) (x : Ctx) (q : Res) (s : State) : Res :=
  if succeeded q.status then
    { q with st := { s with ink := { s.ink with
                      armed := s.ink.armed ++ [{ client := x.client, seq := x.seq, opcode := op, applySsi := x.at_,
                                                 params := x.whole, fit := x.fit, order := s.ink.order }],
                      order := s.ink.order + 1 } },
             after := id, wait := false }
  else q

/-- Steps 14 and 15 with the effect, or the arming of a timed command. -/
def perform (op : Nat) (c : Cmd) (x : Ctx) (s : State) : Res :=
  if x.timed then
    match c.arm with
    | some f => f x s
    | none => armAction op x (c.body { x with timed := false } s) s
  else c.body x s

/-- The request body of a journal entry, in the layout of R197. -/
def journalBody (op : Nat) (x : Ctx) : Bytes :=
  le 2 op ++ le 2 x.seq ++ le 2 (b2n x.fit + 2 * b2n ((opRow op).map (·.expert) = some true) + 4 * b2n x.timed) ++ le 2 x.p.length ++
    le 2 0 ++ le 2 x.sh.length ++ zeros 4 ++ le 8 x.at_ ++ zeros 8 ++ x.p ++ x.sh

/-- The apply SSI that a journal entry records: that of the command, of what it has scheduled, or else the first boundary at
least 16 samples on (R482, log 57). -/
def journalAt (op : Nat) (x : Ctx) (s : State) : Nat :=
  if x.timed then x.at_
  else match (s.ink.armed ++ s.ink.sched).find? (fun a => a.client = x.client && a.seq = x.seq && a.opcode = op) with
  | some a => a.applySsi
  | none => up8 (s.stem.ssi + 16)

/-- The lane chosen for an instance that the command has created (R249). -/
def journalLane (op : Nat) (x : Ctx) (s : State) : Bytes :=
  match op with
  | 0x0701 => (match s.prog.insts.find? (fun e => e.1 = 65536 * u8 x.p 0 + u16 x.p 2) with | some e => le 2 e.2.lane | none => [])
  | _ => []

/-- This unit journals now: the active unit of a pair whose partner it hears. -/
def journals (s : State) : Bool := isPartner s && s.twin.state = 1 && s.twin.linkUp && s.twin.helloOk

/-- The bytes of a JOURNAL frame's payload (R480). -/
def journalFrame (e : JournalEntry) : Bytes :=
  le 8 e.jsn ++ le 8 e.applySsi ++ le 1 e.client ++ zeros 1 ++ le 2 e.status ++ le 4 e.outcome.length ++ e.body ++ e.outcome

/-- Append an entry to the journal and send it (R482, R483). -/
def journalPut (client at_ status : Nat) (body outcome : Bytes) (s : State) : State :=
  let e : JournalEntry := { jsn := s.twin.jsn + 1, applySsi := at_, client := client, status := status, body := body, outcome := outcome }
  twinSend 3 (journalFrame e) (modTwin (fun w => { w with jsn := e.jsn, unacked := w.unacked ++ [e] }) s)

/-- One warning entry, 16 bytes. -/
def warnBytes (w : Warning) : Bytes :=
  le 2 w.code ++ le 1 w.group ++ zeros 1 ++ le 4 w.item ++ leI 4 w.requested ++ leI 4 w.applied

/-- The active unit of a pair journals each command that changes processing state, but for MS.FLOURISH, whose turn is
journaled when it is committed (R482, log 57). -/
def journal (op : Nat) (x : Ctx) (st : Status) (warns : List Warning) (s : State) : State :=
  match opRow op with
  | none => s
  | some row =>
    if journals s ∧ changesState row ∧ op ≠ 0x0C06 then
      journalPut x.client (journalAt op x s) (statusCode st) (journalBody op x)
        (le 2 warns.length ++ zeros 2 ++ warns.flatMap warnBytes ++ journalLane op x s) s
    else s

/-! ### Replies with warnings (R216 to R218) -/

/-- A warning list of at most 1,024 entries: a longer one ends in OVERFLOW (R218). -/
def warnList (op : Nat) (l : List Warning) : List Warning :=
  if l.length ≤ 1024 then l
  else l.take 1023 ++ [{ code := 7, group := opGroup op, requested := (l.length - 1023 : Nat) }]

/-- The inline data with the warning list after them (R216, R217). -/
def withWarnings (data : Bytes) (l : List Warning) : Bytes :=
  if l.isEmpty then data
  else
    let base := up8 data.length
    let n := min l.length ((224 - base - 8) / 16)
    padTo base data ++ le 2 n ++ le 2 l.length ++ zeros 4 ++ (l.take n).flatMap warnBytes

/-- The reply slot of an outcome. -/
def replyOf (op q : Nat) (st : Status) (data : Bytes) (sheet : Option (Nat × Nat)) (l : List Warning) : Reply :=
  { opcode := op, seq := q, status := if st = .ok ∧ ¬ l.isEmpty then .okWarn else st,
    warn := ¬ l.isEmpty, data := withWarnings data l,
    sheet := (sheet.getD (0, 0)).1, sheetLen := (sheet.getD (0, 0)).2 }

/-! ### Taking a request -/

/-- Scribe, or the hardware, takes the oldest waiting request of client `n`: REQ_CONS advances past it (R176). -/
def takeSlot (n : Nat) (s : State) : State :=
  modWell n (fun w => { w with waiting := w.waiting.tail, reqCons := (w.reqCons + 1) % 65536 }) s

/-- A request of client `n` waits, or its doorbell can ring now: the client has credit, or the session's connection is read (R174, R199;
log 3). -/
def ringable (s : State) (n : Nat) : Bool :=
  let w := well s n
  !w.waiting.isEmpty || (if w.bind = .net then w.connected && w.unanswered < 16 else 0 < inkCredit w)

/-- A request whose doorbell, or whose frame, the model has not seen rings and waits (log 3). -/
def ringNow (op : Nat) (r : Request) (s : State) : State :=
  let w := well s r.client
  let net : Bool := w.bind = .net
  if ¬ w.waiting.isEmpty then s
  else
    setWell r.client { w with waiting := [{ opcode := op, seq := r.seq, sheet := r.sheet, sheetLen := r.sheetLen }],
                              reqProd := (w.reqProd + 1) % 65536, unanswered := if net then w.unanswered + 1 else w.unanswered,
                              lastMs := if net then s.stem.ms else w.lastMs } s

/-- The first Inkwell of the next pass: the bound one after the first of this pass (chapter 06). -/
def nextFirst (s : State) : Nat :=
  (((List.range 64).map (fun i => (s.ink.visitFirst + 1 + i) % 64)).find? (fun m => (well s m).bind ≠ .unbound)).getD 0

/-- How far off the next visit of Inkwell `m` is: in this pass, while it has taken fewer than 4 requests there, or in the next (R125). -/
def visitRank (s : State) (m : Nat) : Nat :=
  let k := s.ink
  let at_ := (k.visitAt + 64 - k.visitFirst) % 64
  let of_ := (m + 64 - k.visitFirst) % 64
  if at_ < of_ ∨ (of_ = at_ ∧ k.visitTaken < 4) then of_ else 64 + (m + 64 - nextFirst s) % 64

/-- No other Inkwell with a waiting request is visited before `n` (R125; log 4). -/
def itsTurn (s : State) (n : Nat) : Bool :=
  (List.range 64).all (fun m => m = n || (well s m).waiting.isEmpty || visitRank s n < visitRank s m)

/-- The pass goes on to Inkwell `n` and takes a request there. -/
def takeTurn (n : Nat) (s : State) : State :=
  let k := s.ink
  if 64 ≤ visitRank s n then { s with ink := { k with visitFirst := nextFirst s, visitAt := n, visitTaken := 1 } }
  else { s with ink := { k with visitAt := n, visitTaken := if n = k.visitAt then k.visitTaken + 1 else 1 } }

/-- The sheet of a request passes to Scribe (R182): a host client's sheet when the client holds it; on a
session Scribe allocates one and writes the frame's bytes into it (R198). Answers whether the client
holds the sheet, whether the pool had one, the handle, and the state. -/
def claimSheet (r : Request) (s : State) : Bool × Bool × Option Nat × State :=
  if r.sheetLen = 0 then (true, true, none, s)
  else if (well s r.client).bind = .net then
    match allocSheet r.client (.scribe r.client) s with
    | (some (h, _), s') => (true, true, some h, writeSheet h (padTo r.sheetLen r.netSheet) s')
    | (none, s') => (true, false, none, s')
  else if holderOf s r.sheet = .client r.client then
    let bad := sheetPoisoned s r.sheet r.sheetLen
    let s' := setHolder r.sheet (.scribe r.client) s
    (!bad, true, some r.sheet, if bad then countEcc 0 (0x10000000 + r.sheet * 4096) s' else s')
  else (false, true, none, s)

/-- Scribe frees the sheet of a completed request, unless the Inkwell's closing has freed it (R182). A cached reply in the same sheet has
it no more: the client gave it away with this request (R193, log 104). -/
def releaseSheet (n : Nat) (h : Option Nat) (s : State) : State :=
  match h with | some k => if holderOf s k = .scribe n then freeSheet n k s else s | none => s

/-- A cached reply as it is sent again: without its sheet where the resend itself has come in that sheet (R193, log 104). -/
def resent (h : Option Nat) (q : Reply) : Reply :=
  if q.sheetLen ≠ 0 ∧ h = some q.sheet then { q with dup := true, sheetLen := 0, sheet := 0, sheetGone := true } else { q with dup := true }

/-- Place the contents of a reply sheet: allocate for the client and write (R182, R188). -/
def placeSheet (n : Nat) (b : Option Bytes) (s : State) : Option (Option (Nat × Nat) × State) :=
  match b with
  | none => some (none, s)
  | some b =>
    match allocSheet n (.client n) s with
    | (some (h, _), s') => some (some (h, b.length), writeSheet h b s')
    | (none, _) => none

/-- LAST_SEQ takes the executed request's number, and the request is counted (R190). -/
def advanceSeq (n q : Nat) (s : State) : State :=
  modWell n (fun w => { w with lastSeq := q, executed := w.executed + 1 }) s

/-- Execute a request that the sequence rule lets through: `s1` is the state with the sheet claimed. Any
status but OK and OK_WARN leaves the engine unchanged (R210). -/
def execute (op : Nat) (c : Cmd) (r : Request) (x : Ctx) (crc : Word) (sheetOk poolOk : Bool) (h : Option Nat)
    (s1 : State) : State :=
  let n := r.client
  let s2 := modWell n (fun w => { w with lastSeq := (r.seq + 65535) % 65536, fresh := false }) s1
  let refuse := fun (st : Status) (d : Bytes) (u : State) =>
    releaseSheet n h (deliverReply n crc [] (replyOf op r.seq st d none []) (advanceSeq n r.seq u))
  if ¬ poolOk then refuse .poolEmpty [] s2
  else match check op c r x sheetOk s2 with
  | some (st, d) => refuse st d s2
  | none =>
    let q := perform op c x s2
    if ¬ succeeded q.status then refuse q.status q.data (if q.keep then q.st else s2)
    else if q.wait then
      modWell n (fun w => { w with cache := cachePut { seq := r.seq, crc := crc, reply := none } w.cache })
        (journal op x q.status (warnList op q.warns) { q.st with ink := { q.st.ink with
            running := q.st.ink.running ++ [{ client := n, seq := r.seq, opcode := op, sheet := h, params := x.whole,
                                              warns := warnList op q.warns }] } })
        |> advanceSeq n r.seq
    else match placeSheet n q.sheet q.st with
      | none => refuse .poolEmpty [] s2
      | some (sh, s3) =>
        let l := warnList op q.warns
        journal op x (if l.isEmpty then q.status else .okWarn) l (q.after (releaseSheet n h (deliverReply n crc l (replyOf op r.seq q.status q.data sh l)
          (advanceSeq n r.seq s3))))

/-- The context of a request. -/
def ctxOf (r : Request) (role : Nat) (sheet : Bytes) : Ctx :=
  { client := r.client, seq := r.seq, role := role, p := padTo r.length r.payload, sh := sheet,
    fit := bit r.flags 0, timed := bit r.flags 2, at_ := r.applySsi }

/-- The bytes of a request's sheet, whoever holds it: those of a session came in its frame (R189, R198). -/
def requestSheet (s : State) (r : Request) : Bytes :=
  if r.sheetLen = 0 then [] else if (well s r.client).bind = .net then padTo r.sheetLen r.netSheet else readSheet s r.sheet r.sheetLen

/-- A command as a frame that does not fit reaches it: its lengths never match (R190, R198). -/
def fitted (misfit : Bool) (c : Cmd) : Cmd := if misfit then { c with lens := fun _ _ => false } else c

/-- The oldest waiting request of client `n` is a session's frame that does not fit. -/
def misfitWaits (s : State) (n : Nat) : Bool := ((well s n).waiting.head?.map (·.misfit)).getD false

/-- The state in which a request is taken: it waits, and where commands are served the pass has come to its Inkwell. -/
def takenState (op : Nat) (r : Request) (s : State) : State :=
  let s0 := ringNow op r s
  takeSlot r.client (if s.boot.inkBasic then takeTurn r.client s0 else s0)

/-- Serve one request from the moment Scribe takes it: admission, the sequence rule, and execution. A
request of an unbound Inkwell does not exist, and nothing happens in HELD; one without credit is no request (R174), and one whose turn in
the pass has not come waits in its ring (R125). A sheet that SEAL.RUN is to check may hold an
uncorrectable word (chapter 19, log 69). -/
def serveState (op : Nat) (c : Cmd) (r : Request) (s : State) : State :=
  let n := r.client
  if (well s n).bind = .unbound ∨ s.power.mode = .held then s
  else if ¬ ringable s n then (if (well s n).bind = .net then s else inkErr n 0 s)
  else if s.boot.inkBasic ∧ ¬ itsTurn s n then ringNow op r s
  else
    let s0 := takenState op r s
    if ¬ admitted op s then replyNotReady n op r.seq s0
    else
      match claimSheet r s0 with
      | (readable, poolOk, h, s1) =>
        let sheetOk := readable || (op = 0x0D01 && h.isSome)
        let sheet := requestSheet s0 r
        let crc := requestCrc op r sheet
        match seqVerdict (well s n) r.seq crc with
        | .execute => execute op (fitted (misfitWaits s n) c) r (ctxOf r (well s n).role sheet) crc sheetOk poolOk h s1
        | .resend q => releaseSheet n h (writeReply n (resent h q) s1)
        | .running => releaseSheet n h (writeReply n { opcode := op, seq := r.seq, status := .duplicate, dup := true } s1)
        | .conflict => releaseSheet n h (writeReply n { opcode := op, seq := r.seq, status := .seqConflict } s1)

/-- Serve a request: a client number that no client has is a fault. -/
def serve (op : Nat) (c : Cmd) (r : Request) (s : State) : Host.Outcome State Fault Refusal :=
  if r.client < 64 then .next (serveState op c r s) else .fault .noClient

/-! ### Commands in execution (R179) -/

/-- The work of a command in execution has ended: its reply is ready to be written. -/
def finishRunning (n q : Nat) (st : Status) (data : Bytes) (s : State) : State :=
  { s with ink := { s.ink with running := s.ink.running.map (fun e =>
      if e.client = n ∧ e.seq = q ∧ e.result = none then
        { e with result := some (replyOf e.opcode q st data none e.warns) } else e) } }

/-- A command in execution of client `n` with SEQ `q`. -/
def runningAt (s : State) (n q : Nat) : Option Running := s.ink.running.find? (fun e => e.client = n && e.seq = q)

/-- The work of a command in execution has ended, with the events that it caused: they follow its reply (R179), or are raised now where
no reply is due any more. -/
def finishThen (n q : Nat) (st : Status) (data : Bytes) (evs : List (Nat × Nat × Bytes)) (s : State) : State :=
  if (runningAt s n q).isNone then evs.foldl (fun t v => raiseAt v.1 v.2.1 v.2.2 t) s
  else
    finishRunning n q st data
      { s with ink := { s.ink with running := s.ink.running.map (fun e =>
          if e.client = n ∧ e.seq = q ∧ e.result = none then { e with events := e.events ++ evs } else e) } }

/-- An event that a command's own execution causes: it follows the reply of a command of client `n` with SEQ `q` in execution (R179). -/
def causeEvent (n q type : Nat) (payload : Bytes) (s : State) : State :=
  if (runningAt s n q).isNone then raise type payload s
  else
    { s with ink := { s.ink with running := s.ink.running.map (fun e =>
        if e.client = n ∧ e.seq = q then { e with events := e.events ++ [(s.stem.ssi, type, payload)] } else e) } }

/-- The reply of a command that has run on: it is cached while the cache still holds the command as executing, which a RESYNC ends
(R190, R191). -/
def replyRunning (n : Nat) (warns : List Warning) (r : Reply) (s : State) : State :=
  match (well s n).cache.find? (fun x => x.seq = r.seq && x.reply = none) with
  | some x => deliverReply n x.crc warns r s
  | none => writeReply n r s

/-- COMMAND_COMPLETES: a command in execution whose work has ended has its reply written (R179). -/
def completeRunning (n q : Nat) (s : State) : State :=
  match runningAt s n q with
  | none => s
  | some e =>
    match e.result with
    | none => s
    | some r =>
      let s1 := { s with ink := { s.ink with running := s.ink.running.filter (fun x => ¬ (x.client = n ∧ x.seq = q)) } }
      e.events.foldl (fun t v => raiseAt v.1 v.2.1 v.2.2 t) (releaseSheet n e.sheet (replyRunning n e.warns r s1))

/-! ### Internal clients (R717) -/

/-- A command issued by an internal client: the checks of R210 from step 6 on, its role, and the effect.
No Inkwell receives the reply. -/
def issueInternal (op : Nat) (c : Cmd) (x : Ctx) (s : State) : Status × State :=
  match check op c { client := x.client, seq := x.seq, flags := (if x.timed then 4 else 0),
                     length := x.p.length, sheetLen := x.sh.length, applySsi := x.at_, payload := x.p } x true s with
  | some (st, _) => (st, s)
  | none =>
    let q := perform op c x s
    if succeeded q.status then (q.status, journal op x q.status q.warns (q.after q.st)) else (q.status, s)

end Sys2Proof.Machine
end

