-- ==== Sys2Proof/Machine/CopybookTests.lean ====
section
/-! DEFINITION. Copybook's tests, their durations, and the test in progress (R615). -/

namespace Sys2Proof.Machine

/-- The tests by ID. -/
def cbTests : List Nat := (List.range 15).map (· + 1)

/-- KIND of a test: 0 logic, 1 memory, 2 transparent memory, 3 loopback (R615). -/
def cbKind (t : Nat) : Nat :=
  if t = 4 ∨ t = 5 then 2 else if t = 14 then 3 else if [2, 3, 6, 13, 15].contains t then 1 else 0

/-- A test destroys the state of the units it covers (R617). -/
def cbRestart (t : Nat) : Bool := [1, 2, 3, 6, 7, 8, 9, 10, 13].contains t

/-- A test is present on the variant: XMI and TWIN_LINK are absent on the ZL9200. -/
def cbPresent (s : State) (t : Nat) : Bool := (t ≠ 13 || hasXmi s.variant) && (t ≠ 14 || hasTwin s.variant)

/-- The maximum duration in ms, which scales with 1 ÷ FEED_CLK (R615). -/
def cbDuration (s : State) (t : Nat) : Nat :=
  let d := if t = 13 then (4000 * xmiMib s + 16383) / 16384
    else [0, 120, 40, 60, 900, 12, 5, 80, 20, 30, 25, 15, 30, 0, 10, 50].getD t 0
  if s.stem.family = 0 then d else (d * 160 + 146) / 147

/-- The tests of a mask. -/
def cbSelected (mask : Nat) : List Nat := cbTests.filter (fun t => bit mask t)

/-- The tests of a mask that run on this variant. -/
def cbRuns (s : State) (mask : Nat) : List Nat := (cbSelected mask).filter (cbPresent s)

/-- ELAPSED_MS. -/
def cbElapsed (s : State) : Nat := if s.cb.busy then s.stem.ms - s.cb.startMs else s.cb.elapsed

/-- The test in progress: the durations are taken at their maxima (log 61). -/
def cbCurrent (s : State) : Nat :=
  if ¬ s.cb.busy then 0
  else ((cbRuns s s.cb.tests).foldl (fun (b : Nat × Nat) t => if cbElapsed s < b.2 then b else (t, b.2 + cbDuration s t)) (0, 0)).1

/-- BASELINE_LOGIC is in progress: Baseline holds the Stem as in HOLDOVER, and selects again afterwards (R617). -/
def baselineTested (s : State) : Bool := s.cb.busy && bit s.cb.tests 12 && cbCurrent s = 12

end Sys2Proof.Machine
end

