-- ==== Sys2Proof/Machine/Wake.lean ====
section
/-! DEFINITION. Wake causes and the start of a wake (chapter 05). -/

namespace Sys2Proof.Machine

/-- The enabled wake causes: bits 1 and 3 are always enabled (R152). -/
def wakeEnabled (s : State) (i : Nat) : Bool := i = 1 || i = 3 || bit s.power.wakeEn i

/-- The first enabled cause starts a single wake: FIRST, WAKING, vector 66 and, with PME enabled, WAKE#
(R133, R154, R157, R161). -/
def startWake (i : Nat) (s : State) : State :=
  let p := s.power
  signalBoth 66 (setStage .waking
    { s with power := { p with waking := true, first := i, causes := setBit p.causes i, hostRead := false, wakeMs := 0,
                               wakeMs0 := s.stem.ms, wakeHeld := none, wakePin := p.wakePin || s.host.pcie.pmeEn },
             host := { s.host with pcie := { s.host.pcie with pmeStatus := s.host.pcie.pmeStatus || s.host.pcie.pmeEn } } })

/-- A wake cause arises: it is latched; in STANDBY an enabled one starts the wake, and while entry is in
progress it is held until entry completes (R152, R154, R155). -/
def latchCause (i : Nat) (s : State) : State :=
  let p := s.power
  let s' := { s with power := { p with causes := setBit p.causes i } }
  if ¬ wakeEnabled s i ∨ p.waking then s'
  else if p.mode = .standby then startWake i s'
  else if p.entering then { s' with power := { s'.power with wakeHeld := some (p.wakeHeld.getD i) } }
  else s'

end Sys2Proof.Machine
end

