-- ==== Sys2Proof/Machine/Baseline.lean ====
section
/-! DEFINITION. Baseline: qualification, selection, the DPLL states, holdover, steering, phase steps, the
first lock and the pulse outputs (chapter 03). -/

namespace Sys2Proof.Machine

/-! ### Candidates (R56, R57, R67) -/

/-- The candidate belongs to an absent instance (R57). -/
def refAbsent (s : State) (n : Nat) : Bool :=
  (n < 4 && netPorts s.variant ≤ n) || (8 ≤ n && n ≤ 23 && serifPorts s.variant ≤ n - 8)

/-- EN of a Serif port's record (R390). -/
def serEn (c : SerCfg) : Bool := bit c.cfg0 0
/-- MASTER of a Serif port's record (R390). -/
def serMaster (c : SerCfg) : Bool := bit c.cfg0 1

/-- The bandwidth codes that a candidate's type allows (R67). -/
def bwRange (n : Nat) : Nat × Nat :=
  if n < 4 then (0, 4) else if n = 5 then (0, 2) else if n = 6 then (2, 5) else (2, 8)

/-- The default bandwidth code of a candidate's type (R67). -/
def bwDefault (n : Nat) : Nat := if n < 4 then 2 else if n = 5 then 0 else if n = 6 then 3 else 6

/-- The lock threshold of a candidate's type, ps (R67). -/
def lockThreshold (n : Nat) : Int :=
  if n < 4 ∨ n = 5 ∨ n = 6 then 1000000 else if n = 7 then 50000 else 100000

/-- A candidate's configuration before any has been set (log 17). -/
def refDefault (n : Nat) : RefCfg :=
  { bw := bwDefault n, param := if n < 4 then 248 else if n = 4 then 1 else if n = 6 then 0x01000001 else 0 }

/-- The configuration of candidate `n`. -/
def refCfg (s : State) (n : Nat) : RefCfg := tabGet (refDefault n) s.bl.refs n
/-- The status of candidate `n`. -/
def refSt (s : State) (n : Nat) : RefSt := tabGet {} s.bl.refSt n
/-- Change the status of candidate `n`. -/
def modRef (n : Nat) (f : RefSt → RefSt) (s : State) : State :=
  { s with bl := { s.bl with refSt := tabMod {} s.bl.refSt n f } }
/-- Candidate `n` is qualified; XO always is (R58). -/
def qualified (s : State) (n : Nat) : Bool := n = 24 || (refSt s n).qual
/-- The disqualifications of a candidate inside FLAP_WINDOW (R61). -/
def flapsOf (s : State) (n : Nat) : List Nat :=
  (refSt s n).flapMs.filter (fun t => s.stem.ms < t + s.bl.policy.flapWindow * 1000)
/-- One sample at Fs_op, in ps, rounded. -/
def samplePs (s : State) : Int := roundDiv 1000000000000 (fsOp s)
/-- Set bit `i` of BL_EVENTS. -/
def blEvent (i : Nat) (s : State) : State := { s with bl := { s.bl with events := setBit s.bl.events i } }

/-- Disqualify candidate `n` with a cause: its QUAL_T starts again, the flap is counted, and FLAP_LIMIT
flaps bar it (R58, R59, R61). -/
def disqualify (n cause : Nat) (s : State) : State :=
  let fl := s.stem.ms :: flapsOf s n
  let s1 := modRef n (fun r => { r with qual := false, los := r.los || decide (cause = 2), cause := cause, flapMs := fl,
                                        qualMs := s.stem.ms, hits := 0, hitDue := false, causeIdx := s.stem.ssi / 8 }) s
  let s2 := raise 0x0202 (le 1 n ++ le 1 cause ++ le 1 (min fl.length 15)) (if cause = 8 then blEvent 8 s1 else s1)
  let p := s.bl.policy
  if p.flapLimit ≠ 0 ∧ p.flapLimit ≤ fl.length then
    raise 0x0203 (le 1 n ++ zeros 3 ++ le 4 p.barTime)
      (blEvent 4 (modRef n (fun r =>
        { r with bar := true, barUntil := if p.barTime = 0 then none else some (s.stem.ms + p.barTime * 1000) }) s2))
  else s2

/-- The cause that is recorded when `cause` arises for a candidate that is not qualified: of the causes of one period the one with
the lowest code (R59), and TIME_DISAGREE of a candidate that is still qualifying (R75). -/
def causeKept (s : State) (r : RefSt) (prio cause : Nat) : Nat :=
  if cause = 8 ∧ prio ≠ 0 ∧ ¬ r.bar then 8
  else if r.cause ≠ 0 ∧ r.causeIdx = s.stem.ssi / 8 ∧ cause < r.cause then cause else r.cause

/-- A cause arises for candidate `n`: a qualified one is disqualified, one still qualifying starts its
QUAL_T again (R58, R59, R75). -/
def causeArises (n cause : Nat) (s : State) : State :=
  if (refSt s n).qual then disqualify n cause s
  else
    let s1 := if cause = 8 ∧ (refCfg s n).prio ≠ 0 ∧ ¬ (refSt s n).bar then blEvent 8 s else s
    modRef n (fun r => { r with los := r.los || decide (cause = 2), qualMs := s.stem.ms, cause := causeKept s r (refCfg s n).prio cause }) s1

/-- The limit BO_MAX in ps (R75). -/
def boMaxPs (s : State) : Int := (s.bl.policy.boMax : Int) * 1000000

/-- A candidate that carries phase; REF10_IN and XO carry frequency only, with B = 0. -/
def carriesPhase (n : Nat) : Bool := n ≠ 7 && n ≠ 24

/-- Taking the candidate would need a build-out beyond BO_MAX while the SSI is aligned (R75). -/
def tooFar (s : State) (n : Nat) : Bool :=
  s.stem.aligned && carriesPhase n && boMaxPs s < (refSt s n).buildout.natAbs

/-- A PTP candidate's port follows a grandmaster whose clockClass is within CLASS_MAX (R58); other candidates have no port. -/
def ptpFollows (s : State) (n : Nat) : Bool :=
  4 ≤ n || ((tabGet {} s.quill.ptp n).state = 2 && (tabGet {} s.quill.ptp n).foreign.cls ≤ (refCfg s n).param)

/-- Baseline follows a candidate: its selection counts, in ACQUIRING and LOCKED. -/
def following (s : State) : Bool := s.bl.state = .acquiring || s.bl.state = .locked

/-- The unit that a candidate comes from is powered: in STANDBY the other network ports, until a wake enables them, and every FSYNC are not
(R145, R146, R157). -/
def refPowered (s : State) (n : Nat) : Bool :=
  s.power.mode ≠ .standby ||
    (!(8 ≤ n && n ≤ 23) && (4 ≤ n || n = s.power.stbyPort || (s.power.waking && s.boot.inkBasic)))

/-- The further criteria of a candidate's type hold: a PTP port follows, a Serif port is a slave that runs at the right rate, and no
loss of signal is present (R58). -/
def criteriaMet (s : State) (n : Nat) : Bool :=
  ptpFollows s n && !(refSt s n).los && refPowered s n &&
    (n < 8 || 24 ≤ n || (serEn (tabGet {} s.serif.ports (n - 8)).cfg && !serMaster (tabGet {} s.serif.ports (n - 8)).cfg &&
      (tabGet {} s.serif.ports (n - 8)).state ≠ 4))

/-- Candidate `n` has met its criteria for QUAL_T with the build-out and frequency measured (R58, R75). -/
def candidateQualified (n : Nat) (build fofs : Int) (s : State) : State :=
  let c := refCfg s n
  let r := refSt s n
  if ¬ criteriaMet s n then s else
  let s1 := modRef n (fun r => { r with buildout := build, fofs := fofs }) s
  if 23 < n ∨ refAbsent s n ∨ c.prio = 0 ∨ r.bar ∨ r.qual ∨ s.stem.ms < r.qualMs + max 1 (min c.qualT 60) * 1000 then s
  else if 15000 < fofs.natAbs then modRef n (fun r => { r with qualMs := s.stem.ms }) s1
  else if tooFar s1 n then causeArises n 8 s1
  else modRef n (fun r => { r with qual := true, cause := 0, qualMs := s.stem.ms, hits := 0, hitDue := false }) s1

/-! ### States (R65 to R72, R79) -/

/-- The code of a Baseline state (R65). -/
def blCode : BlState → Nat
  | .free => 0 | .acquiring => 1 | .locked => 2 | .holdover => 3

/-- Baseline was in HOLDOVER or FREE during STANDBY, which makes the next LOCKED a wake cause (R152). -/
def markRefLost (s : State) : State :=
  if s.power.mode = .standby then { s with power := { s.power with refLost := true } } else s

/-- A HOLDOVER that ends in state `t` has its length placed (R633). -/
def holdoverEnds (s t : State) : State :=
  if s.bl.state = .holdover then vellumBin 4 (log2Bin ((s.stem.ms - s.bl.hoMs) / 1000)) t else t

/-- Enter FREE: the steering word takes the Stem's present offset, HO_VALID clears (R68, R79). -/
def enterFree (cause : Nat) (s : State) : State :=
  let b := s.bl
  let b1 := { b with state := .free, sel := 24, steer := b.freq, rampFrom := b.freq, rampMs := s.stem.ms, hoValid := false }
  markRefLost (raise 0x0207 (le 1 cause ++ zeros 3 ++ leI 4 b.freq) (holdoverEnds s { s with bl := b1 }))

/-- Enter HOLDOVER: the Stem is fixed at the holdover average (R68). -/
def enterHoldover (s : State) : State :=
  let b := s.bl
  let b1 := { b with state := .holdover, freq := b.hoFreq, hoMs := s.stem.ms, hoWait := false, hoEntries := b.hoEntries + 1 }
  markRefLost (blEvent 1 (raise 0x0205 (le 1 b.sel ++ zeros 3 ++ leI 4 b.hoFreq ++ le 4 b.policy.hoLimit) (vellumCount 17 { s with bl := b1 })))

/-- hold_or_free of R62. -/
def holdOrFree (s : State) : State :=
  match s.bl.state with
  | .locked => if s.bl.hoValid then enterHoldover s else enterFree 0 s
  | .holdover | .free => s
  | .acquiring => enterFree 0 s

/-- Switch to candidate `n` with a CAUSE: the build-out is captured at this boundary, the count of hits starts again, and Baseline stays
LOCKED or starts to acquire (R66, R74, R84). A build-out beyond BO_MAX disqualifies instead (R75). -/
def switchTo (n cause : Nat) (s : State) : State :=
  if tooFar s n then disqualify n 8 s
  else
    let b := if carriesPhase n then (refSt s n).buildout else 0
    let s0 := modRef n (fun r => { r with hits := 0, hitDue := false }) s
    let s1 := { s0 with bl := { s0.bl with sel := n, buildout := b, switches := s.bl.switches + 1, captSsi := some s.stem.ssi,
                                           inMs := if s.bl.state = .locked then s.bl.inMs else none,
                                           state := if s.bl.state = .locked then .locked else .acquiring } }
    blEvent 0 (raise 0x0201 (le 1 s.bl.sel ++ le 1 n ++ le 1 cause ++ zeros 1 ++ leI 4 (sat32 b)) (vellumCount 16 (holdoverEnds s s1)))

/-- The better of two candidates: lower priority number, ties to the lower index (R56, R62). -/
def betterRef (s : State) (a : Option Nat) (n : Nat) : Option Nat :=
  match a with
  | none => some n
  | some m => if (refCfg s n).prio < (refCfg s m).prio then some n else some m

/-- The qualified candidate of best priority (R62). -/
def bestRef (s : State) : Option Nat :=
  ((List.range 24).filter (fun n => (refSt s n).qual)).foldl (betterRef s) none

/-- CAUSE of a switch away from the selected candidate: its disqualification code, or 0xFF (R90, R233). -/
def leaveCause (s : State) : Nat :=
  if s.bl.sel = 24 then 0 else if (refSt s s.bl.sel).cause = 0 then 0xFF else (refSt s s.bl.sel).cause

/-- Revertive return is due: a strictly better candidate has been qualified for WTR (R63). -/
def revertDue (s : State) (best : Nat) : Bool :=
  s.bl.policy.revert = 1 && (refCfg s best).prio < (refCfg s s.bl.sel).prio
    && (refSt s best).qualMs + min s.bl.policy.wtr 600 * 1000 ≤ s.stem.ms

/-- The selection of one period boundary (R62, R64). Forcing XO selects it as the mode FREE does. -/
def selectRef (s : State) : State :=
  if s.bl.selmode = 2 ∨ (s.bl.selmode = 1 ∧ s.bl.forced = 24) then (if s.bl.state = .free then s else enterFree 2 s)
  else if s.bl.selmode = 1 then
    if qualified s s.bl.forced then
      if following s ∧ s.bl.sel = s.bl.forced then s else switchTo s.bl.forced 0xFF s
    else if following s then holdOrFree s else s
  else
    match bestRef s with
    | none => if following s ∧ s.bl.sel ≠ 24 then holdOrFree s else if following s then enterFree 0 s else s
    | some best =>
      if ¬ following s ∨ s.bl.sel = 24 ∨ ¬ qualified s s.bl.sel then switchTo best (leaveCause s) s
      else if revertDue s best then switchTo best 0xFE s
      else s

/-- The PHASE_HITs that fall due at a boundary: each disqualifies a candidate that is still qualified (R59, R726). -/
def dueHits (s : State) : State :=
  ((List.range 24).filter (fun n => (refSt s n).hitDue)).foldl (fun t n =>
    if (refSt t n).qual then disqualify n 4 t else modRef n (fun r => { r with hits := 0, hitDue := false }) t) s

/-- The qualified candidates, but for the one that is followed, whose build-out exceeds BO_MAX at this boundary (R75). -/
def dueDisagree (s : State) : State :=
  ((List.range 24).filter (fun n => (refSt s n).qual && !(following s && s.bl.sel = n) && tooFar s n)).foldl (fun t n => disqualify n 8 t) s

/-- A written BL_SELECT takes effect (R96). -/
def dueSelect (s : State) : State :=
  match s.bl.selWant with
  | none => s
  | some w => { s with bl := { s.bl with selmode := w.1, forced := w.2, selWant := none } }

/-! ### Measurements (R60, R66, R726) -/

/-- The slew term of the Stem's offset, ppt: B is positive when the reference lags, so that the Stem runs slower while B is reduced
(R76; 1 ns/s is 1,000 ppt). -/
def slewTerm (b : Baseline) : Int :=
  if b.buildout = 0 then 0 else if 0 < b.buildout then -(1000 * (b.policy.slewRate : Int)) else 1000 * (b.policy.slewRate : Int)

/-- The pull of the first lock, ppt, in the direction that reduces θ (R77; 1 ppm is 1,000,000 ppt). -/
def pullTerm (b : Baseline) : Int :=
  if ¬ b.aligning ∨ b.theta = 0 then 0 else if 0 < b.theta then -(1000000 * (b.policy.firstPull : Int)) else 1000000 * (b.policy.firstPull : Int)

/-- The Stem's offset while a candidate is followed: what following needs, with slew and pull, within ±200 ppm (R34, R65). -/
def followFreq (b : Baseline) : Int := clampI (-200000000) 200000000 (b.need + slewTerm b + pullTerm b)

/-- The Stem's offset follows B and θ while a candidate is followed. -/
def setFollowFreq (s : State) : State := if following s then { s with bl := { s.bl with freq := followFreq s.bl } } else s

/-- LOCKED to PTP with SLEWING and ALIGNING clear: the phase error lies within ±250 ns (R88). -/
def errBound (b : Baseline) (e : Int) : Int :=
  if b.state = .locked ∧ b.sel < 4 ∧ b.buildout = 0 ∧ ¬ b.aligning then clampI (-250000) 250000 e else e

/-- The phase error within its bound. -/
def settleErr (s : State) : State := { s with bl := { s.bl with phaseErr := errBound s.bl s.bl.phaseErr } }

/-- The mean of the frequencies needed in the window of the holdover average, from 61 s to 1 s ago; none in an empty window (R68). -/
def hoMean (now : Nat) (l : List (Nat × Int)) : Option Int :=
  let w := l.filter (fun e => e.1 + 1000 ≤ now && now ≤ e.1 + 61000)
  if w.isEmpty then none else some (roundDiv ((w.map (·.2)).foldl (· + ·) 0) w.length)

/-- The holdover average at this instant, while LOCKED (R68). -/
def takeAverage (s : State) : State :=
  if s.bl.state ≠ .locked then s
  else
    let l := s.bl.hist.filter (fun e => s.stem.ms ≤ e.1 + 61000)
    { s with bl := { s.bl with hist := l, hoFreq := (hoMean s.stem.ms l).getD s.bl.hoFreq } }

/-- A phase error that has just been measured stays within the threshold since an instant, or leaves it (R66). -/
def within2s (s : State) : State :=
  let b := s.bl
  { s with bl := { b with inMs := if b.phaseErr.natAbs ≤ lockThreshold b.sel then some (b.inMs.getD s.stem.ms) else none } }

/-- One phase measurement of the selected candidate: a deviation above 1/8 sample is not applied, and the
third in a row disqualifies at the next boundary; any other steers the loop, whose course is not stated, and enters the holdover
average while LOCKED (R59, R60, R68, R726; log 18). -/
def measure (n : Nat) (dev : Int) (s : State) : State :=
  if 8 * dev.natAbs > (samplePs s).natAbs ∧ n ≠ 7 then
    modRef n (fun r => { r with hits := r.hits + 1, hitDue := r.hitDue || 3 ≤ r.hits + 1 }) s
  else
    let s1 := modRef n (fun r => { r with hits := 0 }) s
    let f := clampI (-200000000) 200000000 (Config.loopFreq s1.draws)
    let s2 := { s1 with draws := s1.draws + 1,
                        bl := { s1.bl with need := f, phaseErr := errBound s1.bl (Config.phaseError s1.draws),
                                           hist := if s1.bl.state = .locked then (s1.stem.ms, f) :: s1.bl.hist else s1.bl.hist } }
    takeAverage (within2s (setFollowFreq s2))

/-- WCLK_IN, REF10_IN and SER n FSYNC are measured at each period boundary from the latest edge (R726). -/
def measuredAtBoundary (n : Nat) : Bool := n = 4 || n = 7 || (8 ≤ n && n ≤ 23)

/-- An edge, or a Sync, of candidate `n`: its deviation from the prediction, frequency and build-out. A
frequency beyond ±150 ppm disqualifies, and so does a build-out beyond BO_MAX of a candidate that is not followed (R58, R59, R75). -/
def refEdge (n : Nat) (dev fofs build : Int) (s : State) : State :=
  if 23 < n ∨ refAbsent s n ∨ ¬ refPowered s n ∨ baselineTested s then s
  else
    let s1 := modRef n (fun r => { r with dev := dev, fofs := fofs, buildout := build, los := false }) s
    let s2 := if 15000 < fofs.natAbs then causeArises n 3 s1
      else if tooFar s1 n ∧ ¬ (following s1 ∧ s1.bl.sel = n) then causeArises n 8 s1 else s1
    if following s2 ∧ s2.bl.sel = n ∧ ¬ measuredAtBoundary n then measure n dev s2 else s2

/-! ### Phase steps (R80 to R84, R93) -/

/-- A step in whole Stem cycles, then in ps (R80). -/
def stepApplied (s : State) (ps : Int) : Int :=
  roundDiv (roundDiv (ps * stemHz s) 1000000000000 * 1000000000000) (stemHz s)

/-- The limits of a step: 1/4 sample in the full modes while not FREE, and |P| at most 4 samples (R81, R82). -/
def stepInRange (s : State) (ps : Int) : Bool :=
  (!(fullMode s.power.mode && s.bl.state ≠ .free) || ps.natAbs * 4 * fsOp s ≤ 1000000000000)
    && (s.bl.phaseOfs + stepApplied s ps).natAbs * fsOp s ≤ 4000000000000

/-- A step is pending, written or armed (R83). -/
def stepWaiting (s : State) : Bool := s.bl.stepPend.isSome || s.ink.armed.any (fun a => a.opcode = 0x0205)

/-- Reply data of BL.PHASE_STEP. -/
def stepData (at_ : Nat) (step ofs : Int) : Bytes := le 8 at_ ++ leI 4 (sat32 step) ++ leI 4 (sat32 ofs)

/-- The limit of |P|, 4 samples at Fs_op in ps, rounded down (R81). -/
def phaseLimit (s : State) : Int := (4000000000000 / fsOp s : Nat)

/-- Apply a step at a boundary: P grows by it, as far as 4 samples let it after a change of rate (log 93), and the request that waits is
answered (R81, R93). -/
def applyStep (ps : Int) (cmd : Option (Nat × Nat)) (s : State) : State :=
  let p := clampI (-phaseLimit s) (phaseLimit s) (s.bl.phaseOfs + stepApplied s ps)
  let a := p - s.bl.phaseOfs
  let s1 := blEvent 5 { s with bl := { s.bl with phaseOfs := p } }
  let ev := leI 4 (sat32 a) ++ leI 4 (sat32 p)
  match cmd with
  | some (n, q) => finishThen n q .ok (stepData s.stem.ssi a p) [(s.stem.ssi, 0x0208, ev)] s1
  | none => raise 0x0208 ev s1

/-- The steps that fall due at this boundary; a boundary that captured a build-out puts them off (R84). -/
def dueSteps (captured : Bool) (s : State) : State :=
  if captured then s
  else
    let s1 := match s.bl.stepPend with
      | some p => if p.atSsi ≤ s.stem.ssi then applyStep p.step p.cmd { s with bl := { s.bl with stepPend := none } } else s
      | none => s
    let due := s1.ink.armed.filter (fun a => a.opcode = 0x0205 && a.applySsi ≤ s1.stem.ssi)
    due.foldl (fun t a => applyStep (i32 a.params 0) none t)
      { s1 with ink := { s1.ink with armed := s1.ink.armed.filter (fun a => ¬ (a.opcode = 0x0205 ∧ a.applySsi ≤ s1.stem.ssi)) } }

/-! ### First lock (R46, R77) -/

/-- θ reduced to the range above −4 and up to +4 samples, ps (R77). -/
def thetaReduced (s : State) (theta : Int) : Int :=
  let fs : Int := (fsOp s : Nat)
  let k : Int := -((4000000000000 - theta * fs) / 8000000000000)
  theta - roundDiv (k * 8000000000000) fs

/-- The first lock after an arming of the jam: θ is removed by a pull in the full modes, else by one step at
the next boundary. `delta` is the PTP-derived SSI less the local one. -/
def firstLock (theta delta : Int) (s : State) : State :=
  let b := s.bl
  if ¬ s.stem.jamArmed ∨ 4 ≤ b.sel ∨ ¬ following s ∨ b.aligning ∨ b.thetaStep ∨ b.jamDue then s
  else if fullMode s.power.mode then setFollowFreq { s with bl := { b with aligning := true, theta := thetaReduced s theta, ptpDelta := delta } }
  else { s with bl := { b with thetaStep := true, theta := thetaReduced s theta, ptpDelta := delta } }

/-- What FIRST_PULL takes from |θ| in a millisecond, ps (R77). -/
def pullStep (s : State) : Nat := 1000 * s.bl.policy.firstPull

/-- The pull is complete once it has had its time: the jam follows at the next boundary. -/
def alignmentComplete (s : State) : State :=
  if s.bl.aligning ∧ s.bl.theta.natAbs ≤ pullStep s then
    settleErr (setFollowFreq { s with bl := { s.bl with aligning := false, theta := 0, jamDue := true } })
  else s

/-- Baseline enters LOCKED after 2 s within the threshold; θ is removed first in ACQUIRING (R66, R77). LOCKED
after a loss in STANDBY is a wake cause (R152). -/
def enterLocked (err : Int) (s : State) : State :=
  let b := s.bl
  if b.state ≠ .acquiring ∨ lockThreshold b.sel < err.natAbs ∨ b.inMs = none ∨ s.stem.ms < b.inMs.getD 0 + 2000 ∨ b.aligning ∨ b.thetaStep
    ∨ (s.stem.jamArmed ∧ b.sel < 4 ∧ ¬ b.jamDue) then s
  else
    let e := errBound { b with state := .locked } err
    let s1 := blEvent 3 (raise 0x0204 (le 1 b.sel ++ zeros 3 ++ leI 4 (sat32 e))
      { s with bl := { b with state := .locked, phaseErr := e, lockMs := s.stem.ms, hist := [] } })
    if s.power.mode = .standby ∧ s.power.refLost then
      latchCause 4 { s1 with power := { s1.power with refLost := false } } else s1

/-- HOLDOVER expires: FREE with the holdover frequency as steering word (R69, R70). -/
def holdoverExpired (s : State) : State :=
  let b := s.bl
  if b.state ≠ .holdover ∨ b.hoWait ∨ b.policy.hoLimit = 0 ∨ s.stem.ms < b.hoMs + b.policy.hoLimit * 1000 then s
  else
    let sec := (s.stem.ms - b.hoMs) / 1000
    vellumLog 8 0 0 sec (vellumCount 19 (signalGiveUp 5 (enterFree 1 (blEvent 2 (raise 0x0206 (leI 4 b.hoFreq ++ le 4 sec) s)))))

/-- Seconds of holdover left (BL_HO_REMAIN): all of them while the limit waits for the Stem's lock (R72). -/
def hoRemain (s : State) : Nat :=
  if s.bl.state = .holdover ∧ s.bl.policy.hoLimit ≠ 0 ∧ s.bl.hoWait then s.bl.policy.hoLimit
  else if s.bl.state = .holdover ∧ s.bl.policy.hoLimit ≠ 0 then (s.bl.hoMs + s.bl.policy.hoLimit * 1000 - s.stem.ms + 999) / 1000
  else 0xFFFFFFFF

/-- Move `x` towards `t` by at most `k`. -/
def approach (x t : Int) (k : Nat) : Int :=
  if (t - x).natAbs ≤ k then t else if x < t then x + k else x - k

/-- The Stem's offset on the steering ramp (R78). -/
def rampFreq (s : State) : Int :=
  approach s.bl.rampFrom s.bl.steer (s.bl.policy.steerRate * (s.stem.ms - s.bl.rampMs) / 1000)

/-- What one millisecond does: the build-out slews, in every state (DESIGN CHOICE, log 94), the pull takes from θ, OFFSETs slew in the
full modes, the steering ramp runs, the holdover average moves on, and a second in HOLDOVER is counted (R68, R76, R77, R78,
R86, R95). -/
def blTick (s : State) : State :=
  let b := s.bl
  let outs := if fullMode s.power.mode then
      b.outs.map (fun e => (e.1, { e.2 with now := approach e.2.now e.2.ofs b.policy.slewRate })) else b.outs
  let b1 := { b with buildout := approach b.buildout 0 b.policy.slewRate, outs := outs,
                     theta := if b.aligning then approach b.theta 0 (pullStep s) else b.theta,
                     freq := if b.state = .free then rampFreq s else b.freq }
  let s1 := takeAverage (settleErr (setFollowFreq { s with bl := b1 }))
  if b.state = .holdover ∧ ¬ b.hoWait ∧ b.hoMs < s.stem.ms ∧ (s.stem.ms - b.hoMs) % 1000 = 0 then
    vellumCount 18 { s1 with bl := { s1.bl with hoSeconds := s1.bl.hoSeconds + 1 } }
  else s1

/-- The measurement of a boundary, from the latest edge (R726). -/
def boundaryMeasure (s : State) : State :=
  if following s ∧ measuredAtBoundary s.bl.sel ∧ qualified s s.bl.sel then measure s.bl.sel (refSt s s.bl.sel).dev s else s

/-- What a period boundary does in Baseline: the PHASE_HITs of earlier measurements, this boundary's measurement, the selection, the
written steps, which wait where a switch captures its build-out, and the step of θ (R62, R77, R84, R726). During BASELINE_LOGIC it does
nothing (R617). -/
def blBoundary (s : State) : State :=
  if baselineTested s then s else
  let s2 := selectRef (dueDisagree (dueSelect (boundaryMeasure (dueHits s))))
  let s3 := dueSteps (s2.bl.captSsi = some s.stem.ssi) s2
  if s3.bl.thetaStep then { s3 with bl := { s3.bl with thetaStep := false, theta := 0, jamDue := true } } else s3

/-! ### Commands -/

/-- The status word of candidate `n` (BL_REF_ST). -/
def refStWord (s : State) (n : Nat) : Nat :=
  let r := refSt s n
  b2n (qualified s n) + 2 * b2n r.bar + 4 * b2n r.los + 16 * r.cause + 256 * min (flapsOf s n).length 15 +
    65536 * unsgn 16 r.fofs

/-- The mask of candidates for which `f` holds. -/
def refMask (f : Nat → Bool) : Nat := (List.range 25).foldl (fun m n => if f n then setBit m n else m) 0

/-- SLEWING: B is not zero. -/
def slewing (s : State) : Bool := s.bl.buildout ≠ 0

/-- SEL as reported: 24 in FREE (BL_STATE). -/
def selReported (s : State) : Nat := if s.bl.state = .free then 24 else s.bl.sel

/-- BL.STATUS_GET, 148 bytes. -/
def blStatusData (s : State) : Bytes :=
  let b := s.bl
  le 1 (blCode b.state) ++ le 1 (selReported s) ++
    le 1 (b2n (slewing s) + 2 * b2n b.aligning + 4 * b2n b.hoValid + 8 * b.selmode) ++ zeros 1 ++
    le 4 (refMask (qualified s)) ++ le 4 (refMask (fun n => (refSt s n).bar)) ++ leI 4 b.freq ++ leI 4 b.hoFreq ++
    le 4 (hoRemain s) ++ leI 4 (sat32 b.phaseErr) ++ leI 4 (sat32 b.buildout) ++ leI 4 (sat32 b.phaseOfs) ++
    le 8 (if selReported s < 4 then (refSt s (selReported s)).gm else 0) ++ le 4 b.switches ++
    (List.range 25).flatMap (fun n => le 4 (refStWord s n))

/-- The command BL.STATUS_GET. -/
def cmdBlStatusGet : Cmd := { lens := inlineOnly 0, body := fun _ s => answer (blStatusData s) s }

/-- PARAM is legal for the candidate's type: CLASS_MAX is one byte, the multiple 1, 2 or 4, DEN 1 to 255, and NUM at least 1, since a
frame of no samples has no period (DESIGN CHOICE for NUM, log 72); others take zero (R94, R734). -/
def paramOk (n v : Nat) : Bool :=
  if n < 4 then v < 256
  else if n = 4 then v = 1 || v = 2 || v = 4
  else if n = 6 then 1 ≤ fld v 0 24 && 1 ≤ fld v 24 8
  else v = 0

/-- The documented bits of a written BL_REF_CFG1: the others are reserved (R5). -/
def paramHeld (n v : Nat) : Nat := if n < 4 then fld v 0 8 else if n = 4 then fld v 0 3 else if n = 6 then v else 0

/-- Configure a candidate: a change of QUAL_T, BW or PARAM restarts its qualification; priority 0
disqualifies it with DISABLED (R59, R90). -/
def setRefCfg (n : Nat) (c : RefCfg) (s : State) : State :=
  let o := refCfg s n
  let s1 := { s with bl := { s.bl with refs := tabPut (refDefault n) s.bl.refs n c } }
  if c.prio = 0 then (if (refSt s n).qual then disqualify n 1 s1 else s1)
  else if o.prio = 0 then modRef n (fun r => { r with qualMs := s.stem.ms }) s1
  else if o.qualT ≠ c.qualT ∨ o.bw ≠ c.bw ∨ o.param ≠ c.param then
    modRef n (fun r => { r with qual := false, cause := if r.qual then 0 else r.cause, qualMs := s.stem.ms, hits := 0, hitDue := false }) s1
  else s1

/-- The command BL.REF_CONFIG (R57, R90, R94). -/
def cmdBlRefConfig : Cmd where
  lens := inlineOnly 12
  absent := fun x s => refAbsent s (u8 x.p 0)
  range := fun x _ =>
    let n := u8 x.p 0
    n ≤ 23 && u8 x.p 1 ≤ 15 && (bwRange n).1 ≤ u8 x.p 2 && u8 x.p 2 ≤ (bwRange n).2 && 1 ≤ u8 x.p 3 && u8 x.p 3 ≤ 60
      && paramOk n (u32 x.p 4) && (!(n = 4 || n = 5 || n = 6) || u8 x.p 8 ≤ 1)
  body := fun x s =>
    let n := u8 x.p 0
    { st := s, after := setRefCfg n { prio := u8 x.p 1, bw := u8 x.p 2, qualT := u8 x.p 3, param := u32 x.p 4,
                                      pol := if n = 4 ∨ n = 5 ∨ n = 6 then u8 x.p 8 else 0 } }

/-- What the rules say of a selection: none when it is accepted (R91). -/
def selectRefused (mode ref : Nat) (s : State) : Option Status :=
  if mode = 1 ∧ ¬ qualified s ref then some .notLocked
  else if mode = 2 ∧ (isMember s ∨ isPartner s) then some .busy
  else none

/-- Set the selection mode; it acts at the next boundary's evaluation (R62). -/
def setSelect (mode ref : Nat) (s : State) : State :=
  { s with bl := { s.bl with selmode := mode, forced := if mode = 1 then ref else s.bl.forced, selWant := none } }

/-- The command BL.SELECT (R91). -/
def cmdBlSelect : Cmd where
  lens := inlineOnly 4
  absent := fun x s => u8 x.p 0 = 1 && refAbsent s (u8 x.p 1)
  range := fun x _ => u8 x.p 0 ≤ 2 && (u8 x.p 0 ≠ 1 || u8 x.p 1 ≤ 24)
  body := fun x s =>
    match selectRefused (u8 x.p 0) (u8 x.p 1) s with
    | some st => fail st s
    | none => { st := setSelect (u8 x.p 0) (u8 x.p 1) s }

/-- Take a steering word: the ramp starts from the present offset (R78). -/
def setSteer (t : Int) (s : State) : State :=
  { s with bl := { s.bl with steer := t, rampFrom := s.bl.freq, rampMs := s.stem.ms } }

/-- The command BL.STEER (R78, R92). -/
def cmdBlSteer : Cmd where
  lens := inlineOnly 4
  range := fun x _ => (i32 x.p 0).natAbs ≤ 200000000
  body := fun x s =>
    let t := i32 x.p 0
    if following s then fail .busy s
    else
      let s1 := if s.bl.state = .holdover then
          { s with bl := { s.bl with state := .free, sel := 24, hoValid := false } } else s
      { st := setSteer t s1,
        data := leI 4 s.bl.freq ++ le 4 (roundDivN ((t - s.bl.freq).natAbs * 1000) s.bl.policy.steerRate),
        after := if s.bl.state = .holdover then fun u => markRefLost (raise 0x0207 (le 1 3 ++ zeros 3 ++ leI 4 s.bl.freq) u) else id }

/-- The refusals of a step that both kinds share (R81, R82, R83). -/
def stepRefused (ps : Int) (s : State) : Option Status :=
  if ¬ stepInRange s ps then some .badParam
  else if stepWaiting s ∨ isMember s ∨ isPartner s then some .busy
  else none

/-- The command BL.PHASE_STEP (R80 to R84, R93): untimed, its reply waits until the step has applied. -/
def cmdBlPhaseStep : Cmd where
  lens := inlineOnly 4
  range := fun x s => stepInRange s (i32 x.p 0) && (!x.timed || x.at_ % 8 = 0)
  body := fun x s =>
    match stepRefused (i32 x.p 0) s with
    | some st => fail st s
    | none =>
      { st := { s with bl := { s.bl with stepPend := some { step := i32 x.p 0, atSsi := nextBoundary s, cmd := some (x.client, x.seq) } } },
        wait := true }
  arm := some fun x s =>
    match stepRefused (i32 x.p 0) s with
    | some st => fail st s
    | none =>
      let a := stepApplied s (i32 x.p 0)
      armAction 0x0205 x { st := s, data := stepData x.at_ a (s.bl.phaseOfs + a) } s

/-- One pulse output. -/
def blOut (s : State) (m : Nat) : BlOut := tabGet {} s.bl.outs m

/-- Configure an output: OFFSET slews in the full modes, else it is applied at once (R86). -/
def setOut (m : Nat) (o : BlOut) (s : State) : State :=
  let o' := { o with now := if fullMode s.power.mode then (blOut s m).now else o.ofs, level := (blOut s m).level }
  { s with bl := { s.bl with outs := tabPut {} s.bl.outs m o' } }

/-- The code of a WCLK multiple. -/
def multCode (k : Nat) : Nat := if k = 2 then 1 else if k = 4 then 2 else 0

/-- The command BL.OUT_CONFIG (R85, R86, R94). FRAME of FRAME_OUT needs NUM and DEN of at least 1 (DESIGN CHOICE, log 72). -/
def cmdBlOutConfig : Cmd where
  lens := inlineOnly 12
  range := fun x _ =>
    let m := u8 x.p 0
    m ≤ 3 && u8 x.p 1 ≤ 7 && (m ≠ 0 || u8 x.p 2 = 1 || u8 x.p 2 = 2 || u8 x.p 2 = 4)
      && (i32 x.p 4).natAbs ≤ 1000000 && (m ≠ 2 || (1 ≤ u24 x.p 8 && 1 ≤ u8 x.p 11))
  body := fun x s =>
    let m := u8 x.p 0
    { st := setOut m { en := bit (u8 x.p 1) 0, always := bit (u8 x.p 1) 1, pol := bit (u8 x.p 1) 2,
                       mult := if m = 0 then multCode (u8 x.p 2) else (blOut s m).mult, ofs := i32 x.p 4 * 1000,
                       frame := if m = 2 then u32 x.p 8 else (blOut s m).frame } s }

/-- A value is 0 or within `lo` to `hi`. -/
def zeroOr (lo hi v : Nat) : Bool := v = 0 || (lo ≤ v && v ≤ hi)

/-- A value is within `lo` to `hi`. -/
def within (lo hi v : Nat) : Bool := lo ≤ v && v ≤ hi

/-- The ranges of BL.POLICY_SET (R94). -/
def policyOk (p : Bytes) : Bool :=
  u8 p 0 ≤ 1 && u8 p 1 ≤ 1 && u16 p 2 ≤ 600 && zeroOr 10 86400 (u32 p 4) && within 1 10000 (u16 p 8)
    && within 10 200 (u8 p 10) && u8 p 11 ≤ 15 && within 10 3600 (u16 p 12) && zeroOr 10 3600 (u16 p 14)
    && within 1000 100000000 (u32 p 16) && within 1 1000000 (u32 p 20) && u8 p 24 ≤ 1

/-- The policy that a payload spells. -/
def policyFrom (p : Bytes) : BlPolicy :=
  { revert := u8 p 0, startHo := u8 p 1, wtr := u16 p 2, hoLimit := u32 p 4, slewRate := u16 p 8, firstPull := u8 p 10,
    flapLimit := u8 p 11, flapWindow := u16 p 12, barTime := u16 p 14, steerRate := u32 p 16, boMax := u32 p 20 }

/-- A new policy: the steering ramp goes on from where it stands. -/
def setPolicy (p : BlPolicy) (s : State) : State :=
  { s with bl := { s.bl with policy := p, rampFrom := s.bl.freq, rampMs := s.stem.ms } }

/-- An output's settings as NVS keeps them: its OFFSET whole, and no level (R86, R94, R101). -/
def outSettings (o : BlOut) : BlOut := { o with now := o.ofs, level := false }

/-- PERSIST stores the policy, every candidate and every output in NVS (R94). -/
def persistBaseline (s : State) : State :=
  { s with bl := { s.bl with nvsPolicy := s.bl.policy, nvsRefs := s.bl.refs, nvsOuts := s.bl.outs.map (fun e => (e.1, outSettings e.2)) } }

/-- The command BL.POLICY_SET. -/
def cmdBlPolicySet : Cmd where
  lens := inlineOnly 28
  range := fun x _ => policyOk x.p
  body := fun x s =>
    let s1 := setPolicy (policyFrom x.p) s
    { st := if u8 x.p 24 = 1 then persistBaseline s1 else s1 }

/-- The command BL.REF_CLEAR (R61). XO has no bar: REF 24 and above is out of range (DESIGN CHOICE, log 95). -/
def cmdBlRefClear : Cmd where
  lens := inlineOnly 1
  absent := fun x s => refAbsent s (u8 x.p 0)
  range := fun x _ => u8 x.p 0 ≤ 23
  body := fun x s =>
    { st := modRef (u8 x.p 0) (fun r => { r with bar := false, barUntil := none, flapMs := [],
                                                 qualMs := if r.bar then s.stem.ms else r.qualMs }) s }

/-! ### Registers (R96, R723) -/

/-- A write of BL_SELECT: it waits for the next boundary, with its REF whatever the mode (R96); SELMODE 3 is discarded (log 20). -/
def blSelectWrite (w : Nat) (s : State) : State :=
  let mode := fld w 0 2
  let ref := fld w 2 5
  if mode = 3 ∨ 24 < ref ∧ mode = 1 ∨ (selectRefused mode ref s).isSome then blEvent 7 s
  else { s with bl := { s.bl with selWant := some (mode, ref) } }

/-- A write of BL_STEP: it takes effect at the next boundary under the rules of the command (R96). -/
def blStepWrite (w : Nat) (s : State) : State :=
  match stepRefused (sgn 32 w) s with
  | some _ => blEvent 6 s
  | none => { s with bl := { s.bl with stepPend := some { step := sgn 32 w, atSsi := nextBoundary s } } }

/-- A write of BL_STEER: outside FREE it is discarded; beyond the range it acts as the nearest limit. -/
def blSteerWrite (w : Nat) (s : State) : State :=
  if s.bl.state = .free then setSteer (clampI (-200000000) 200000000 (sgn 32 w)) s else s

/-- The unit registers can be written in COMMISSION and MAINTENANCE only (R30). -/
def expertMode (s : State) : Bool := s.power.mode = .commission || s.power.mode = .maintenance

/-! ### The meanings -/

/-- BL.STATUS_GET. -/
def execBlStatusGet (r : Request) (s : State) : Host.Outcome State Fault Refusal := serve 0x0201 cmdBlStatusGet r s
/-- BL.REF_CONFIG. -/
def execBlRefConfig (r : Request) (s : State) : Host.Outcome State Fault Refusal := serve 0x0202 cmdBlRefConfig r s
/-- BL.SELECT. -/
def execBlSelect (r : Request) (s : State) : Host.Outcome State Fault Refusal := serve 0x0203 cmdBlSelect r s
/-- BL.STEER. -/
def execBlSteer (r : Request) (s : State) : Host.Outcome State Fault Refusal := serve 0x0204 cmdBlSteer r s
/-- BL.PHASE_STEP. -/
def execBlPhaseStep (r : Request) (s : State) : Host.Outcome State Fault Refusal := serve 0x0205 cmdBlPhaseStep r s
/-- BL.OUT_CONFIG. -/
def execBlOutConfig (r : Request) (s : State) : Host.Outcome State Fault Refusal := serve 0x0206 cmdBlOutConfig r s
/-- BL.POLICY_SET. -/
def execBlPolicySet (r : Request) (s : State) : Host.Outcome State Fault Refusal := serve 0x0207 cmdBlPolicySet r s
/-- BL.REF_CLEAR. -/
def execBlRefClear (r : Request) (s : State) : Host.Outcome State Fault Refusal := serve 0x0208 cmdBlRefClear r s
/-- A register write of BL_SELECT. -/
def execBlSelectWrite (w : Word) (s : State) : Host.Outcome State Fault Refusal :=
  .next (if expertMode s then blSelectWrite w.toNat s else s)
/-- A register write of BL_STEP. -/
def execBlStepWrite (w : Word) (s : State) : Host.Outcome State Fault Refusal :=
  .next (if expertMode s then blStepWrite w.toNat s else s)
/-- A register write of BL_STEER. -/
def execBlSteerWrite (w : Word) (s : State) : Host.Outcome State Fault Refusal :=
  .next (if expertMode s then blSteerWrite w.toNat s else s)
/-- A candidate has met its criteria for QUAL_T. -/
def execCandidateQualified (n : Nat) (build fofs : Int) (s : State) : Host.Outcome State Fault Refusal :=
  .next (candidateQualified n build fofs s)
/-- A disqualification cause arises (R59). -/
def execRefDisqual (n cause : Nat) (s : State) : Host.Outcome State Fault Refusal :=
  .next (if n ≤ 23 ∧ ¬ refAbsent s n ∧ 1 ≤ cause ∧ cause ≤ 10 then causeArises n cause s else s)
/-- A bar has run for BAR_TIME (R61). -/
def execBarExpiry (n : Nat) (s : State) : Host.Outcome State Fault Refusal :=
  .next (match (refSt s n).barUntil with
    | some t => if (refSt s n).bar ∧ t ≤ s.stem.ms then
        modRef n (fun r => { r with bar := false, barUntil := none, qualMs := s.stem.ms }) s else s
    | none => s)
/-- WTR has run: Baseline returns to the better candidate, at a boundary (R62, R63). -/
def execRefRevert (s : State) : Host.Outcome State Fault Refusal :=
  .next (match bestRef s with
    | some b => if s.stem.ssi % 8 = 0 ∧ s.bl.selmode = 0 ∧ following s ∧ s.bl.sel ≠ 24 ∧ revertDue s b then switchTo b 0xFE s else s
    | none => s)
/-- An edge of WCLK_IN, PPS_IN, FRAME_IN, REF10_IN or a Serif FSYNC (R726). -/
def execRefPulseEdge (n : Nat) (dev fofs build : Int) (s : State) : Host.Outcome State Fault Refusal :=
  .next (if 4 ≤ n then refEdge n dev fofs build s else s)
/-- The phase error has stayed within the threshold for 2 s. -/
def execLock (err : Int) (s : State) : Host.Outcome State Fault Refusal := .next (enterLocked err s)
/-- Baseline has been LOCKED for 10 s (R68). -/
def execHoValidSet (s : State) : Host.Outcome State Fault Refusal :=
  .next (if s.bl.state = .locked ∧ s.bl.lockMs + 10000 ≤ s.stem.ms then
    { s with bl := { s.bl with hoValid := true, nvsMs := if s.bl.hoValid then s.bl.nvsMs else s.stem.ms } } else s)
/-- The holdover limit is reached. -/
def execHoldoverExpired (s : State) : Host.Outcome State Fault Refusal := .next (holdoverExpired s)
/-- The holdover average is written to NVS, 10 min after HO_VALID was set or after the last write (R71). -/
def execHoldoverNvsWrite (s : State) : Host.Outcome State Fault Refusal :=
  .next (if s.bl.hoValid ∧ s.bl.nvsMs + 600000 ≤ s.stem.ms then
    { s with bl := { s.bl with nvsFreq := some s.bl.hoFreq, nvsMs := s.stem.ms } } else s)
/-- The first lock to PTP. -/
def execFirstLock (theta delta : Int) (s : State) : Host.Outcome State Fault Refusal := .next (firstLock theta delta s)
/-- θ has been pulled away. -/
def execAlignmentComplete (s : State) : Host.Outcome State Fault Refusal := .next (alignmentComplete s)
/-- The build-out has slewed to zero (R76). -/
def execSlewComplete (s : State) : Host.Outcome State Fault Refusal :=
  .next (if s.bl.buildout.natAbs ≤ s.bl.policy.slewRate then settleErr (setFollowFreq { s with bl := { s.bl with buildout := 0 } }) else s)
/-- The steering ramp has reached its word (R78). -/
def execSteerRampDone (s : State) : Host.Outcome State Fault Refusal :=
  .next (if s.bl.state = .free ∧ rampFreq s = s.bl.steer then { s with bl := { s.bl with freq := s.bl.steer } } else s)

end Sys2Proof.Machine
end

