-- ==== Sys2Proof/Machine/Float.lean ====
section
/-! DEFINITION. Binary32 and binary64 arithmetic as the programs and Ligature use it (R272, R273, R293, R294):
exact dyadic values, rounded to nearest even. -/

namespace Sys2Proof.Machine

/-- An exact value m × 2^e. -/
structure Dy where
  m : Int
  e : Int
  deriving DecidableEq, Repr

/-- The sum of two exact values. -/
def Dy.add (a b : Dy) : Dy :=
  let e := min a.e b.e
  { m := a.m * 2 ^ (a.e - e).toNat + b.m * 2 ^ (b.e - e).toNat, e := e }
/-- The negated value. -/
def Dy.neg (a : Dy) : Dy := { a with m := -a.m }
/-- The product of two exact values. -/
def Dy.mul (a b : Dy) : Dy := { m := a.m * b.m, e := a.e + b.e }

/-- Divide `m` by 2^k, rounding to nearest, ties to even. -/
def rneShift (m k : Nat) : Nat :=
  if k = 0 then m
  else
    let q := m / 2 ^ k
    let r := m % 2 ^ k
    if 2 * r < 2 ^ k then q else if 2 * r > 2 ^ k then q + 1 else if q % 2 = 0 then q else q + 1

/-- Round an exact value to `p` bits of significand with quantum at least 2^qmin: significand and exponent. -/
def roundSig (p : Nat) (qmin : Int) (x : Dy) : Nat × Int :=
  let m := x.m.natAbs
  let q := max (x.e + (Nat.log2 m : Int) + 1 - p) qmin
  if q ≤ x.e then (m * 2 ^ (x.e - q).toNat, q)
  else
    let r := rneShift m (q - x.e).toNat
    if r = 2 ^ p then (2 ^ (p - 1), q + 1) else (r, q)

/-- The bits of a rounded value in a format of `p` significand and `w` exponent bits; a subnormal becomes zero when
`flush`. A zero result is positive (log 24). -/
def packFmt (p w : Nat) (flush : Bool) (x : Dy) : Nat :=
  if x.m = 0 then 0
  else
    let bias : Int := 2 ^ (w - 1) - 1
    let s := if x.m < 0 then 2 ^ (p + w - 1) else 0
    match roundSig p (2 - bias - p) x with
    | (m, q) =>
      if m < 2 ^ (p - 1) then (if flush then 0 else s + m)
      else
        let e := q + bias + p - 1
        if e ≥ 2 ^ w - 1 then s + (2 ^ w - 1) * 2 ^ (p - 1)
        else s + e.toNat * 2 ^ (p - 1) + (m - 2 ^ (p - 1))

/-- The exact value of bits; none when not finite. Subnormals read as zero when `flush`. -/
def unpackFmt (p w : Nat) (flush : Bool) (b : Nat) : Option Dy :=
  let bias : Int := 2 ^ (w - 1) - 1
  let e := fld b (p - 1) w
  let f := fld b 0 (p - 1)
  let neg := bit b (p + w - 1)
  if e = 2 ^ w - 1 then none
  else
    let m : Nat := if e = 0 then (if flush then 0 else f) else f + 2 ^ (p - 1)
    some { m := if neg then -(m : Int) else m, e := (max e 1 : Nat) - bias - (p : Int) + 1 }

/-- The exact value of a binary32 (R272); none when not finite. -/
def f32Dy (b : F32) : Option Dy := unpackFmt 24 8 true b.toNat
/-- An exact value as binary32, subnormals flushed to zero (R272). -/
def dyF32 (x : Dy) : F32 := BitVec.ofNat 32 (packFmt 24 8 true x)
/-- An exact value rounded to binary64 and read back: an accumulator word (R273). -/
def dyF64 (x : Dy) : Dy := (unpackFmt 53 11 false (packFmt 53 11 false x)).getD { m := 0, e := 0 }

/-- A binary32 infinity: what an operation on a value that is not finite gives here (R292 replaces it by 0.0). -/
def f32Inf : F32 := 0x7F800000
/-- 1.0, 0 dBFS. -/
def f32One : F32 := 0x3F800000
/-- The value is finite. -/
def f32Finite (b : F32) : Bool := (f32Dy b).isSome

/-- A binary32 operation on two operands. -/
def f32Op (f : Dy → Dy → Dy) (a b : F32) : F32 :=
  match f32Dy a, f32Dy b with
  | some x, some y => dyF32 (f x y)
  | _, _ => f32Inf

/-- Binary32 addition. -/
def f32Add (a b : F32) : F32 := f32Op Dy.add a b
/-- Binary32 subtraction. -/
def f32Sub (a b : F32) : F32 := f32Op (fun x y => x.add y.neg) a b
/-- Binary32 multiplication. -/
def f32Mul (a b : F32) : F32 := f32Op Dy.mul a b
/-- Fused multiply-add: x × y + z, rounded once (R244). -/
def f32Fma (x y z : F32) : F32 :=
  match f32Dy x, f32Dy y, f32Dy z with
  | some a, some b, some c => dyF32 ((a.mul b).add c)
  | _, _, _ => f32Inf
/-- The magnitude. -/
def f32Abs (a : F32) : F32 := a &&& 0x7FFFFFFF
/-- The larger of two magnitudes that are finite. -/
def f32Max (a b : F32) : F32 := if a.toNat < b.toNat then b else a
/-- A gain that attenuates: any other word acts as 1.0. -/
def unitGain (a : F32) : F32 := if a.toNat ≤ f32One.toNat then a else f32One
/-- The negated value. -/
def f32Neg (a : F32) : F32 := match f32Dy a with | some x => dyF32 x.neg | none => f32Inf
/-- `a / b` of two counts as binary32, rounded once. -/
def f32Ratio (a b : Nat) : F32 := dyF32 { m := (a * 2 ^ 64 / max b 1 : Nat), e := -64 }

/-- `a / b` of two positive values, rounded once: 65 bits of the quotient, the last of them sticky. -/
def f32Div (a b : F32) : F32 :=
  match f32Dy a, f32Dy b with
  | some x, some y =>
    if y.m = 0 then f32Inf
    else
      let n := x.m.natAbs * 2 ^ 64
      let q := n / y.m.natAbs
      let st := if n % y.m.natAbs = 0 then 0 else 1
      dyF32 { m := if (x.m < 0) = (y.m < 0) then ((2 * q + st : Nat) : Int) else -((2 * q + st : Nat) : Int), e := x.e - y.e - 65 }
  | _, _ => f32Inf

/-- (1 − w) × old + w × new in binary32 (R315, R355). -/
def f32Mix (w old new : F32) : F32 := f32Add (f32Mul (f32Sub f32One w) old) (f32Mul w new)

/-- A received integer sample of `b` bits as binary32: n ÷ 2^(b − 1) (R293). -/
def f32OfInt (b : Nat) (n : Int) : F32 := dyF32 { m := n, e := 1 - (b : Int) }

/-- The integer nearest to x × 2^(b − 1), ties to even. -/
def dyToInt (b : Nat) (x : Dy) : Int :=
  let e := x.e + b - 1
  if 0 ≤ e then x.m * 2 ^ e.toNat
  else
    let r : Int := rneShift x.m.natAbs (-e).toNat
    if x.m < 0 then -r else r

/-- An output to an integer format of `b` bits, and whether it clips (R294). -/
def f32ToInt (b : Nat) (v : F32) : Int × Bool :=
  match f32Dy v with
  | none => (0, true)
  | some x =>
    let n := dyToInt b x
    let lo : Int := -(2 ^ (b - 1) : Nat)
    let hi : Int := (2 ^ (b - 1) : Nat) - 1
    if n < lo then (lo, true) else if hi < n then (hi, true) else (n, false)

/-! ### Gains in dB (R272) -/

/-- The gain value that means "off". -/
def gainOff : Int := -32768

/-- m × 2^k ≤ 10^(g/d), for g = ±n: compared through d-th powers. -/
def leGain (neg : Bool) (n d m : Nat) (k : Int) : Bool :=
  let lhs := m ^ d * (if 0 ≤ k then 2 ^ (k.toNat * d) else 1) * (if neg then 10 ^ n else 1)
  let rhs := (if 0 ≤ k then 1 else 2 ^ ((-k).toNat * d)) * (if neg then 1 else 10 ^ n)
  lhs ≤ rhs

/-- The largest m in [lo, lo + 2^i) with m × 2^k ≤ 10^(±n/d), found bit by bit. -/
def gainSearch (neg : Bool) (n d : Nat) (k : Int) : Nat → Nat → Nat
  | 0, m => m
  | i + 1, m => gainSearch neg n d k i (if leGain neg n d (m + 2 ^ i) k then m + 2 ^ i else m)

/-- 10^(g/20) of a gain in 0.01 dB, rounded to binary32 (R272): 25 bits found exactly, then rounded with a
sticky bit. "Off" is exactly 0.0. -/
def gainF32 (g : Int) : F32 :=
  if g = gainOff then 0
  else if g = 0 then f32One
  else
    let c := Nat.gcd g.natAbs 2000
    let neg : Bool := g < 0
    let n := g.natAbs / c
    let d := 2000 / c
    let est : Int := (g * 3321928).fdiv 2000000000
    let e := if leGain neg n d 1 (est + 1) then est + 1 else if leGain neg n d 1 est then est else est - 1
    let m := gainSearch neg n d (e - 25) 25 (2 ^ 25)
    dyF32 { m := 2 * m + (if leGain neg n d m (e - 25) && (if neg then m ^ d * 10 ^ n = 2 ^ ((25 - e).toNat * d)
      else m ^ d * 2 ^ ((e - 25).toNat * d) = 10 ^ n * 2 ^ ((25 - e).toNat * d)) then 0 else 1 : Nat), e := e - 26 }

/-- The gain m × 2^k reaches `v` of 0.01 dB when rounded to the nearest: it lies above 10^((2v − 1) ÷ 4,000). -/
def reachesDb (m : Nat) (k v : Int) : Bool := !leGain (2 * v - 1 < 0) (2 * v - 1).natAbs 4000 m k

/-- The largest value in [v, v + 2^i) that the gain reaches, found bit by bit. -/
def dbSearch (m : Nat) (k : Int) : Nat → Int → Int
  | 0, v => v
  | i + 1, v => dbSearch m k i (if reachesDb m k (v + 2 ^ i) then v + 2 ^ i else v)

/-- The value in 0.01 dB from `lo` to `hi` that is nearest to a linear gain (R29); a gain below the range is `low`. -/
def gainNearest (lo hi low : Int) (w : F32) : Int :=
  match f32Dy w with
  | none => low
  | some x => if x.m ≤ 0 ∨ ¬ reachesDb x.m.natAbs x.e lo then low else min hi (dbSearch x.m.natAbs x.e 15 lo)

/-- The value in 0.1 Hz from `lo` to `hi` that is nearest to a frequency in Hz (R29). -/
def hertzNearest (lo hi : Int) (w : F32) : Int :=
  match f32Dy w with
  | none => lo
  | some x =>
    let t : Int := 10 * x.m
    let v := if 0 ≤ x.e then t * 2 ^ x.e.toNat else roundDiv t (2 ^ (-x.e).toNat)
    max lo (min hi v)

end Sys2Proof.Machine
end

