-- ==== Sys2Proof/Machine/Approx.lean ====
section
/-! DEFINITION. Functions whose value the manual gives and whose last digit it leaves open: each is computed in fixed point, and a free
choice picks among the neighbouring binary32 values (R244, R277, R288, R310; log 112). -/

namespace Sys2Proof.Machine

/-! ### Fixed point: integers that count 2^−96 -/

/-- 1.0. -/
def fixOne : Int := 2 ^ 96
/-- π, ln 2 and ln 10, rounded down. -/
def fixPi : Int := 248902613312231085230521944622
/-- ln 2. -/
def fixLn2 : Int := 54916777467707473351141471128
/-- ln 10. -/
def fixLn10 : Int := 182429585950654714090129938606
/-- A product. -/
def fixMul (a b : Int) : Int := (a * b).fdiv (2 ^ 96)

/-- The cosine series from term `n` on, which is `t`; `x2` is the square of the angle. -/
def cosSeries (x2 : Int) : Nat → Nat → Int → Int
  | 0, _, _ => 0
  | f + 1, n, t => t + cosSeries x2 f (n + 1) (-((fixMul t x2).fdiv ((2 * n + 1) * (2 * n + 2) : Nat)))

/-- The cosine of an angle in radians, at most 3π ÷ 2 in magnitude. -/
def fixCos (x : Int) : Int := cosSeries (fixMul x x) 40 0 fixOne

/-- The exponential series from term `n` on, which is `t`. -/
def expSeries (x : Int) : Nat → Nat → Int → Int
  | 0, _, _ => 0
  | f + 1, n, t => t + expSeries x f (n + 1) ((fixMul t x).fdiv (n + 1 : Nat))

/-- The series of the inverse hyperbolic tangent from term `n` on; `t` is its power, `z2` the square of the argument. -/
def atanhSeries (z2 : Int) : Nat → Nat → Int → Int
  | 0, _, _ => 0
  | f + 1, n, t => t.fdiv (2 * n + 1 : Nat) + atanhSeries z2 f (n + 1) (fixMul t z2)

/-- The natural logarithm of m × 2^e, m > 0. -/
def fixLn (m : Nat) (e : Int) : Int :=
  let k := Nat.log2 m
  let top : Int := m * 2 ^ 96
  let one : Int := 2 ^ (k + 96)
  let z := ((top - one) * 2 ^ 96).fdiv (top + one)
  2 * atanhSeries (fixMul z z) 40 0 z + (e + (k : Int)) * fixLn2

/-- e^y as an exact value m × 2^e. -/
def fixExp (y : Int) : Dy :=
  let k := y.fdiv fixLn2
  { m := expSeries (y - k * fixLn2) 40 0 fixOne, e := k - 96 }

/-! ### Neighbouring values -/

/-- The binary32 value `j` steps beside the one that a positive value is cut to. -/
def besideF32 (j : Int) (x : Dy) : F32 :=
  let k := Nat.log2 x.m.natAbs - 23
  dyF32 { m := (x.m.natAbs / 2 ^ k : Nat) + j, e := x.e + k }

/-- One of the two binary32 values between which a positive value lies, as the free rounding of function `f` picks for its arguments. -/
def roundFree (f : Nat) (args : List Nat) (x : Dy) : F32 := besideF32 (Config.ulps (f :: args) % 2 : Nat) x

/-- A binary32 value within 2 units in the last place of a value (R244), with the sign of that value. -/
def within2Ulp (f : Nat) (args : List Nat) (x : Dy) : F32 :=
  if x.m = 0 then 0
  else
    let v := besideF32 ((Config.ulps (f :: args) % 4 : Nat) - 1) { x with m := x.m.natAbs }
    if x.m < 0 then f32Neg v else v

/-- log2 of a positive binary32 value, and 0 for any other (R244). -/
def f32Log2 (v : F32) : F32 :=
  match f32Dy v with
  | some x => if x.m ≤ 0 then 0 else within2Ulp 0 [v.toNat] { m := (fixLn x.m.natAbs x.e * 2 ^ 96).fdiv fixLn2, e := -96 }
  | none => 0

/-- exp2 of a binary32 value (R244). -/
def f32Exp2 (v : F32) : F32 :=
  match f32Dy v with
  | some x =>
    if x.m = 0 then f32One
    else
      let y := if 0 ≤ x.e then x.m * 2 ^ x.e.toNat * fixLn2 else (x.m * fixLn2).fdiv (2 ^ (-x.e).toNat)
      if y < -200 * fixOne then 0 else if 200 * fixOne < y then f32Inf else within2Ulp 1 [v.toNat] (fixExp y)
  | none => f32Inf

/-- The square root of the mean of squares of a window's samples (R244, R275). -/
def rmsOf (l : List F32) : F32 :=
  let sum := (l.filterMap f32Dy).foldl (fun (t x : Dy) => t.add (x.mul x)) ({ m := 0, e := 0 } : Dy)
  if sum.m = 0 ∨ l.isEmpty then 0
  else
    let e := sum.e - 128 - (sum.e % 2)
    let n := sum.m.natAbs * 2 ^ (sum.e - e).toNat / l.length
    within2Ulp 2 (l.map (·.toNat)) { m := (Nat.sqrt n : Nat), e := e / 2 }

/-! ### Ramps, pans and sines -/

/-- w of the raised cosine at i ÷ n, (1 − cos πx) ÷ 2 (R310): 0 at 0, 1/2 half way and 1 at the end exactly. -/
def rcos (i n : Nat) : F32 :=
  if n ≤ i then f32One else if i = 0 then 0 else if 2 * i = n then 0x3F000000
  else roundFree 3 [i, n] { m := fixOne - fixCos ((fixPi * i).fdiv n), e := -97 }

/-- cos θ of the pan law at p = PAN + 100 out of 200, θ running over a right angle (R277): 1 and 0 at the ends exactly. -/
def panCos (p : Nat) : F32 :=
  if p = 0 then f32One else if 200 ≤ p then 0 else if p = 100 then 0x3F3504F3
  else roundFree 4 [p] { m := fixCos ((fixPi * p).fdiv 400), e := -96 }

/-- sin(2π × p ÷ q) (R288): exact at the quarters. -/
def sineAt (p q : Nat) : F32 :=
  let r := p % max q 1
  if r = 0 ∨ 2 * r = q then 0 else if 4 * r = q then f32One else if 4 * r = 3 * q then f32Neg f32One
  else
    let c := fixCos ((2 * fixPi * r).fdiv q - fixPi / 2)
    let v := roundFree 5 [r, q] { m := c.natAbs, e := -96 }
    if c < 0 then f32Neg v else v

/-- ln of a gain's magnitude; "off" counts as −144 dB (R311). -/
def gainLn (g : F32) : Int :=
  match f32Dy g with
  | some x => if x.m = 0 then (-36 * fixLn10).fdiv 5 else fixLn x.m.natAbs x.e
  | none => 0

/-- The gain of a linear-in-dB ramp from g0 to g1 at step i of n: the gain in dB moves linearly (R310, R311). -/
def dbRamp (g0 g1 : F32) (i n : Nat) : F32 :=
  let y := (gainLn g0 * (n - i : Nat) + gainLn g1 * i).fdiv (max n 1)
  let v := roundFree 6 [g0.toNat, g1.toNat, i, n] (fixExp y)
  if bit g0.toNat 31 || bit g1.toNat 31 then f32Neg v else v

/-- One gain is a gain and the other its inverse in sign: a ramp between them passes through zero (R313). -/
def signsDiffer (g0 g1 : F32) : Bool := bit g0.toNat 31 != bit g1.toNat 31 && g0 ≠ 0 && g1 ≠ 0

end Sys2Proof.Machine
end

