-- ==== Sys2Proof/Machine/Params.lean ====
section
/-! DEFINITION. The stroke programs' parameters: ranges, defaults, roles, scope categories and stages (R270 to
R289, R309, R318), and the instances that hold them. -/

namespace Sys2Proof.Machine

/-! ### Tables of things that exist -/

/-- The entry of key `k`. -/
def mapGet {α : Type} (t : List (Nat × α)) (k : Nat) : Option α := (t.find? (fun e => e.1 = k)).map (·.2)

/-! ### Instances (R270, R271) -/

/-- The programs by ID (R270). -/
def progMono : Nat := 1
/-- STRIP.LINK2. -/
def progLink2 : Nat := 2
/-- BUS.SUM. -/
def progBus : Nat := 3
/-- MATRIX. -/
def progMatrix : Nat := 4
/-- ALIGN.DELAY. -/
def progAlign : Nat := 5
/-- GEN. -/
def progGen : Nat := 6
/-- ANALYZE. -/
def progAnalyze : Nat := 7

/-- The key of an instance. -/
def instKey (kind index : Nat) : Nat := kind * 65536 + index
/-- KIND of a key. -/
def keyKind (k : Nat) : Nat := k / 65536
/-- INDEX of a key. -/
def keyIndex (k : Nat) : Nat := k % 65536

/-- The KIND that a program occupies. -/
def progKind (p : Nat) : Nat := if p = 3 then 1 else if p = 4 then 2 else if p = 7 then 3 else 0

/-- A program occupies processing channels (R270). -/
def occupiesChannel (p : Nat) : Bool := progKind p = 0

/-- The variant's count of a KIND; channels at the present rate multiple (R271). -/
def kindCount (s : State) (kind : Nat) : Nat :=
  match kind with
  | 0 => channelsAt s.variant s.stem.mult
  | 1 => busesOf s.variant
  | 2 => matricesOf s.variant
  | _ => 16

/-- The ZL9600's numbering range of a KIND (R229). -/
def kindRange (kind : Nat) : Nat :=
  match kind with | 0 => 2048 | 1 => 256 | 2 => 128 | _ => 16

/-- The key under which an address is held: a STRIP.LINK2 is addressed by either channel (R271). -/
def resolveKey (s : State) (kind index : Nat) : Nat :=
  let k := instKey kind index
  if kind = 0 ∧ index % 2 = 1 then
    match mapGet s.prog.insts (k - 1) with
    | some i => if i.prog = progLink2 then k - 1 else k
    | none => k
  else k

/-- The instance at an address, with its key. -/
def instAt (s : State) (kind index : Nat) : Option (Nat × Inst) :=
  let k := resolveKey s kind index
  (mapGet s.prog.insts k).map (fun i => (k, i))

/-- Write the instance of a key. -/
def putInst (k : Nat) (i : Inst) (s : State) : State :=
  { s with prog := { s.prog with insts := tabInsert k i s.prog.insts } }
/-- Remove the instance of a key. -/
def dropInst (k : Nat) (s : State) : State :=
  { s with prog := { s.prog with insts := tabErase k s.prog.insts } }
/-- Change the instance of a key, where there is one. -/
def modInst (k : Nat) (f : Inst → Inst) (s : State) : State :=
  match mapGet s.prog.insts k with
  | some i => putInst k (f i) s
  | none => s

/-! ### Parameters -/

/-- What the tables say of a parameter: range, default, whether it needs ENGINEER, its scope category (31: none),
and whether it is a gain under Shading. -/
structure PSpec where
  lo   : Int
  hi   : Int
  dflt : Int := 0
  eng  : Bool := false
  cat  : Nat := 31
  gain : Bool := false
  deriving DecidableEq, Repr

/-- FMAX: the smaller of 400,000 and 4.5 × Fs_op, in 0.1 Hz (R275). -/
def fmax (s : State) : Int := min 400000 ((45 * fsOp s / 10) : Nat)

/-- The filter, EQ, dynamics and delay parameters that strips share with buses and matrices. -/
def eqSpec (s : State) (id : Nat) : Option PSpec :=
  if id = 0x0200 then some { lo := 0, hi := 1, dflt := 1, cat := 2 }
  else if 0x0210 ≤ id ∧ id < 0x0290 then
    let b := (id - 0x0210) / 16
    match id % 16 with
    | 0 => some { lo := 0, hi := 1, cat := 2 }
    | 1 => some { lo := 0, hi := 3, dflt := if b = 0 then 1 else if b = 7 then 2 else 0, cat := 2 }
    | 2 => some { lo := 100, hi := fmax s, cat := 2,
                  dflt := [630, 1250, 2500, 5000, 10000, 20000, 40000, 80000].getD b 630 }
    | 3 => some { lo := -1800, hi := 1800, cat := 2 }
    | 4 => some { lo := 100, hi := 30000, dflt := 707, cat := 2 }
    | _ => none
  else none

/-- The compressor's parameters. -/
def compSpec (id : Nat) : Option PSpec :=
  match id with
  | 0x0310 => some { lo := 0, hi := 1, cat := 4 }
  | 0x0311 => some { lo := -6000, hi := 0, dflt := -2000, cat := 4 }
  | 0x0312 => some { lo := 0, hi := 2000, dflt := 300, cat := 4 }
  | 0x0313 => some { lo := 0, hi := 2400, dflt := 600, cat := 4 }
  | 0x0314 => some { lo := 5, hi := 10000, dflt := 1000, cat := 4 }
  | 0x0315 => some { lo := 500, hi := 400000, dflt := 10000, cat := 4 }
  | 0x0316 => some { lo := 0, hi := 2400, cat := 4 }
  | 0x0317 => some { lo := 0, hi := 1, cat := 4 }
  | 0x0318 => some { lo := 0, hi := 5000, cat := 4 }
  | _ => none

/-- The limiter's parameters. -/
def limSpec (id : Nat) : Option PSpec :=
  match id with
  | 0x0320 => some { lo := 0, hi := 1, cat := 4 }
  | 0x0321 => some { lo := -3000, hi := 0, dflt := -100, cat := 4 }
  | 0x0322 => some { lo := 500, hi := 100000, dflt := 5000, cat := 4 }
  | _ => none

/-- Delay, fader, mute and Shading: shared by strips, buses and matrices. -/
def tailSpec (faderDflt : Int) (id : Nat) : Option PSpec :=
  match id with
  | 0x0400 => some { lo := 0, hi := 1, eng := true, cat := 5 }
  | 0x0401 => some { lo := 0, hi := 65535, cat := 5 }
  | 0x0600 => some { lo := -14400, hi := 1200, dflt := faderDflt, cat := 7, gain := true }
  | 0x0601 => some { lo := 0, hi := 1, cat := 8, gain := true }
  | 0x0604 => some { lo := 50, hi := 200000, dflt := 1000, cat := 12 }
  | 0x0605 => some { lo := 0, hi := 2, dflt := 2, cat := 12 }
  | 0x0606 => some { lo := 0, hi := 200000, cat := 12 }
  | _ => none

/-- A strip's own parameters (R275). -/
def stripOnly (s : State) (link2 : Bool) (id : Nat) : Option PSpec :=
  let b := busesOf s.variant
  match id with
  | 0x0000 => some { lo := 0, hi := 3, eng := true, cat := 13 }
  | 0x0001 => some { lo := -4000, hi := 4000, cat := 0, gain := true }
  | 0x0002 => some { lo := 0, hi := 1, cat := 0, gain := true }
  | 0x0003 => if link2 then some { lo := -4000, hi := 4000, cat := 0, gain := true } else none
  | 0x0004 => if link2 then some { lo := 0, hi := 1, cat := 0, gain := true } else none
  | 0x0100 => some { lo := 0, hi := 1, cat := 1 }
  | 0x0101 => some { lo := 100, hi := fmax s, dflt := 800, cat := 1 }
  | 0x0102 => some { lo := 0, hi := 2, cat := 1 }
  | 0x0103 => some { lo := 0, hi := 1, cat := 1 }
  | 0x0104 => some { lo := 100, hi := fmax s, dflt := 200000, cat := 1 }
  | 0x0105 => some { lo := 0, hi := 2, cat := 1 }
  | 0x0300 => some { lo := 0, hi := 1, cat := 3 }
  | 0x0301 => some { lo := 0, hi := 1, cat := 3 }
  | 0x0302 => some { lo := -8000, hi := 0, dflt := -4000, cat := 3 }
  | 0x0303 => some { lo := 0, hi := 8000, dflt := 6000, cat := 3 }
  | 0x0304 => some { lo := 110, hi := 400, dflt := 200, cat := 3 }
  | 0x0305 => some { lo := 2, hi := 10000, dflt := 50, cat := 3 }
  | 0x0306 => some { lo := 0, hi := 200000, dflt := 2000, cat := 3 }
  | 0x0307 => some { lo := 500, hi := 400000, dflt := 10000, cat := 3 }
  | 0x0500 => some { lo := 0, hi := 2, cat := 6, gain := true }
  | 0x0501 => some { lo := 0, hi := 256, eng := true, cat := 6 }
  | 0x0602 => some { lo := -100, hi := 100, cat := 9, gain := true }
  | 0x0603 => some { lo := 0, hi := 100, dflt := 100, cat := 9, gain := true }
  | 0x0607 => some { lo := 0, hi := 2, dflt := 1, eng := true, cat := 11 }
  | 0x0608 => some { lo := -14400, hi := 1200, dflt := gainOff, cat := 11, gain := true }
  | _ =>
    if 0x1000 ≤ id ∧ id < 0x1000 + b then some { lo := -14400, hi := 1200, dflt := gainOff, cat := 10, gain := true }
    else if 0x1100 ≤ id ∧ id < 0x1100 + b then some { lo := 0, hi := 1, dflt := 1, eng := true, cat := 10, gain := true }
    else none

/-- BUS.SUM's own parameters (R279). -/
def busOnly (s : State) (id : Nat) : Option PSpec :=
  let m := matricesOf s.variant
  if id = 0x0010 then some { lo := 0, hi := 2, eng := true }
  else if 0x2000 ≤ id ∧ id < 0x2000 + m then some { lo := -14400, hi := 1200, dflt := gainOff, cat := 10, gain := true }
  else if 0x2100 ≤ id ∧ id < 0x2100 + m then some { lo := 0, hi := 1, dflt := 1, cat := 10, gain := true }
  else none

/-- ALIGN.DELAY's parameters (R287). -/
def alignSpec (id : Nat) : Option PSpec :=
  if 0x8000 ≤ id ∧ id < 0x8080 then
    match id % 16 with
    | 0 => some { lo := 0, hi := 65535, cat := 14 }
    | 1 => some { lo := -14400, hi := 1200, cat := 14, gain := true }
    | 2 => some { lo := 0, hi := 1, cat := 14, gain := true }
    | 3 => some { lo := -1, hi := 255, dflt := -1, eng := true, cat := 14 }
    | _ => none
  else none

/-- GEN's parameters (R288). -/
def genSpec (s : State) (id : Nat) : Option PSpec :=
  match id with
  | 0x7000 => some { lo := 0, hi := 5, cat := 15 }
  | 0x7001 => some { lo := 100, hi := fmax s, dflt := 10000, cat := 15 }
  | 0x7002 => some { lo := -14400, hi := 0, dflt := -2000, cat := 15, gain := true }
  | 0x7003 => some { lo := 100, hi := fmax s, dflt := 200000, cat := 15 }
  | 0x7004 => some { lo := 10, hi := 60000, dflt := 1000, cat := 15 }
  | 0x7005 => some { lo := 0, hi := 2147483647, dflt := 1, cat := 15 }
  | _ => none

/-- ANALYZE's parameters (R513). -/
def analyzeSpec (id : Nat) : Option PSpec :=
  match id with
  | 0x9000 => some { lo := 0, hi := 1, cat := 17 }
  | 0x9001 => some { lo := 0, hi := 2, cat := 17 }
  | 0x9002 => some { lo := 0, hi := 1, cat := 17 }
  | 0x9003 => some { lo := 0, hi := 1, cat := 17 }
  | _ => none

/-- The first of several answers. -/
def firstSome (l : List (Option PSpec)) : Option PSpec := (l.find? Option.isSome).getD none

/-- The specification of parameter `id` of a program; none when the program has no such parameter. -/
def specOf (s : State) (prog id : Nat) : Option PSpec :=
  match prog with
  | 1 => firstSome [stripOnly s false id, eqSpec s id, compSpec id, limSpec id, tailSpec gainOff id]
  | 2 => firstSome [stripOnly s true id, eqSpec s id, compSpec id, limSpec id, tailSpec gainOff id]
  | 3 => firstSome [busOnly s id, eqSpec s id, compSpec id, limSpec id, tailSpec 0 id]
  | 4 => firstSome [eqSpec s id, limSpec id, tailSpec 0 id]
  | 5 => alignSpec id
  | 6 => genSpec s id
  | 7 => analyzeSpec id
  | _ => none

/-- Parameters whose range has the extra value "off". -/
def offAllowed (id : Nat) : Bool :=
  id = 0x0600 || id = 0x0608 || (0x1000 ≤ id && id < 0x1100) || (0x2000 ≤ id && id < 0x2100) ||
    (0x8000 ≤ id && id < 0x8080 && id % 16 = 1)

/-- A value within its table's range: the special values of COMP_RATIO, COMP_KEY_HPF and FADE_TIME count (R275). -/
def inRange (p : PSpec) (id : Nat) (v : Int) : Bool :=
  (offAllowed id && v = gainOff) ||
    (p.lo ≤ v && v ≤ p.hi && (id ≠ 0x0312 || v = 0 || 100 ≤ v) && (id ≠ 0x0318 || v = 0 || 200 ≤ v)
      && (id ≠ 0x0606 || v = 0 || 50 ≤ v))

/-- The parameter IDs of strips below the sends, ascending. -/
def stripIds : List Nat :=
  [0, 1, 2, 3, 4, 0x0100, 0x0101, 0x0102, 0x0103, 0x0104, 0x0105, 0x0200] ++
    (List.range 8).flatMap (fun b => (List.range 5).map (fun f => 0x0210 + 16 * b + f)) ++
    (List.range 8).map (0x0300 + ·) ++ (List.range 9).map (0x0310 + ·) ++ [0x0320, 0x0321, 0x0322, 0x0400, 0x0401,
      0x0500, 0x0501] ++ (List.range 9).map (0x0600 + ·)

/-- Every candidate ID, ascending: those that `specOf` knows are the program's. -/
def allIds : List Nat :=
  stripIds.take 5 ++ [0x0010] ++ stripIds.drop 5 ++ (List.range 256).map (0x1000 + ·) ++ (List.range 256).map (0x1100 + ·) ++
    (List.range 128).map (0x2000 + ·) ++ (List.range 128).map (0x2100 + ·) ++ (List.range 6).map (0x7000 + ·) ++
    (List.range 8).flatMap (fun o => (List.range 4).map (fun f => 0x8000 + 16 * o + f)) ++ (List.range 4).map (0x9000 + ·)

/-- The parameters of a program in ascending ID. -/
def idsOf (s : State) (prog : Nat) : List Nat := allIds.filter (fun id => (specOf s prog id).isSome)

/-- What the folio holds of a parameter: its basic value, or 2^40 and the binary32 word that FOLIO.WRITE gave it (R340). -/
def param (s : State) (i : Inst) (id : Nat) : Int := tabGet (((specOf s i.prog id).map (·.dflt)).getD 0) i.params id

/-- A value that holds a raw word. -/
def isRaw (v : Int) : Bool := 2 ^ 40 ≤ v
/-- The raw word of a value. -/
def rawWord (v : Int) : F32 := BitVec.ofNat 32 (v - 2 ^ 40).toNat
/-- A raw word as a value. -/
def rawValue (w : Nat) : Int := 2 ^ 40 + (w % 2 ^ 32 : Nat)

/-- The linear gain that a value in 0.01 dB or a raw word holds. -/
def gainOf (v : Int) : F32 := if isRaw v then rawWord v else gainF32 v

/-- The parameters whose folio word is a binary32 linear gain (R340, log 39). -/
def isGainWord (id : Nat) : Bool := id = 1 || id = 3 || id = 0x7002 || offAllowed id

/-- The parameters whose folio word is a binary32 frequency in Hz (R340, log 39); FMAX bounds them. -/
def isFreq (id : Nat) : Bool :=
  id = 0x0101 || id = 0x0104 || (0x0210 ≤ id && id < 0x0290 && id % 16 = 2) || id = 0x7001 || id = 0x7003

/-- The basic value that is nearest to what is held (R29). -/
def basicValue (s : State) (prog id : Nat) (v : Int) : Int :=
  if ¬ isRaw v then v
  else
    let p := (specOf s prog id).getD { lo := 0, hi := 0 }
    if isFreq id then hertzNearest p.lo p.hi (rawWord v)
    else gainNearest p.lo p.hi (if offAllowed id then gainOff else p.lo) (rawWord v)

/-- The stages whose crossfade a change of the parameter starts (R315; log 25). -/
def stagesOf (id : Nat) : List Nat :=
  if id = 0x0000 then [12]
  else if 0x0100 ≤ id ∧ id ≤ 0x0102 then [0]
  else if 0x0103 ≤ id ∧ id ≤ 0x0105 then [1]
  else if id = 0x0200 then [2, 3, 4, 5, 6, 7, 8, 9]
  else if 0x0210 ≤ id ∧ id < 0x0290 then [2 + (id - 0x0210) / 16]
  else if id = 0x0401 then [10]
  else if id = 0x0501 then [11]
  else []

/-- What determines the design of section `st` (0, 1 HPF; 2, 3 LPF; 4 to 11 EQ bands) for the values `g` (R275). -/
def designKey (s : State) (g : Nat → Int) (st : Nat) : List Int :=
  if st < 2 then [0, st, g 0x0102, g 0x0101, (fsOp s : Nat)]
  else if st < 4 then [1, st - 2, g 0x0105, g 0x0104, (fsOp s : Nat)]
  else
    let b := 0x0210 + 16 * (st - 4)
    [2, g (b + 1), g (b + 2), if g (b + 1) = 3 then 0 else g (b + 3), g (b + 4), (fsOp s : Nat)]

/-- The second section of an 18 dB/octave filter is of first order (R275). -/
def firstOrder (g : Nat → Int) (st : Nat) : Bool := (st = 1 && g 0x0102 = 1) || (st = 3 && g 0x0105 = 1)

/-- The five coefficients that the basic values give a section (R275; log 32). -/
def designWords (s : State) (g : Nat → Int) (st : Nat) : List F32 :=
  (List.range 5).map (fun j => if firstOrder g st && (j = 2 || j = 4) then 0 else Config.design (designKey s g st) j)

/-- The crossfade stage of a coefficient STAGE: 0, 1 HPF; 2, 3 LPF; 4 to 11 EQ bands (R302). -/
def coefFadeStage (st : Nat) : Nat := if st < 2 then 0 else if st < 4 then 1 else st - 2

/-- The coefficient STAGEs of a crossfade stage. -/
def coefStages (f : Nat) : List Nat := if f = 0 then [0, 1] else if f = 1 then [2, 3] else if f < 10 then [f + 2] else []

/-! ### Groups of buses (R277, R280) -/

/-- LINK of bus `n`, 0 where no bus exists. -/
def linkOf (s : State) (n : Nat) : Nat :=
  match mapGet s.prog.insts (instKey 1 n) with
  | some i => (param s i 0x0010).toNat
  | none => 0

/-- The members after the first in a group that begins at bus `n`. -/
def groupTail (s : State) (n : Nat) : Nat := linkOf s n

/-- The first bus of the group that bus `n` belongs to; `n` itself where it is mono or first. -/
def groupFirst (s : State) (n : Nat) : Nat :=
  if linkOf s n ≠ 0 then n
  else if 1 ≤ n ∧ 1 ≤ groupTail s (n - 1) then n - 1
  else if 2 ≤ n ∧ groupTail s (n - 2) = 2 then n - 2
  else n

/-- Bus `n` is a member of a group but not its first. -/
def groupMember (s : State) (n : Nat) : Bool := groupFirst s n ≠ n

/-- A matrix send of a bus: each member of a group keeps its own (R280). -/
def isMatrixSend (id : Nat) : Bool := 0x2000 ≤ id && id < 0x2200

/-- The buses of a group by its first bus: the first and those that LINK adds (R279, R280). -/
def groupOf (s : State) (f : Nat) : List Nat := (List.range (linkOf s f + 1)).map (f + ·)

/-- The key that holds a parameter: a group holds one set, at its first bus (R280). -/
def paramKey (s : State) (k id : Nat) : Nat :=
  if keyKind k = 1 ∧ ¬ isMatrixSend id then instKey 1 (groupFirst s (keyIndex k)) else k

/-- The value of a parameter as the instance of a key runs with it. -/
def paramAt (s : State) (k id : Nat) : Int :=
  match mapGet s.prog.insts (paramKey s k id) with
  | some i => param s i id
  | none => 0

/-! ### Planned cost (R295) -/

/-- Whether XMI holds trained memory, so that delay lines are kept there (R282). -/
def xmiFitted (s : State) : Bool := xmiMib s ≠ 0

/-- The cost of an enabled delay. -/
def delayCost (s : State) : Nat := if xmiFitted s then 200 else 160

/-- The cost of a filter by its slope. -/
def slopeCost (v : Int) : Nat := if v = 0 then 120 else if v = 1 then 200 else 240

/-- HPF and LPF of a parameter set read by `g`. -/
def hpfCost (g : Nat → Int) : Nat := if g 0x0100 = 1 then slopeCost (g 0x0102) else 0
/-- LPF. -/
def lpfCost (g : Nat → Int) : Nat := if g 0x0103 = 1 then slopeCost (g 0x0105) else 0
/-- The enabled EQ bands. -/
def bandCost (g : Nat → Int) (b : Nat) : Nat := if g 0x0200 = 1 ∧ g (0x0210 + 16 * b) = 1 then 120 else 0
/-- All enabled EQ bands. -/
def eqCost (g : Nat → Int) : Nat := sumN ((List.range 8).map (bandCost g))

/-- The cost of a send to bus `n`: by the group it heads; a bus that does not exist costs as a mono bus (R278,
log 26). -/
def sendCost (s : State) (n : Nat) : Nat := if linkOf s n = 1 then 40 else if linkOf s n = 2 then 56 else 24

/-- The sends that are not off, of a parameter set. -/
def sendsOn (s : State) (g : Nat → Int) : List Nat :=
  (List.range (busesOf s.variant)).filter (fun n => g (0x1000 + n) ≠ gainOff)

/-- The active Nibs. -/
def activeNibs (s : State) : List Nat := (List.range 144).filter (fun n => nibState s n = 1)

/-- The Nib that carries a lane (R273). -/
def laneNib (s : State) (l : Nat) : Nat := tabGet l s.dx.lanes l

/-- The lanes that a Nib carries. -/
def nibLane (s : State) (n : Nat) : Option Nat := (List.range (nibLanes s.variant)).find? (fun l => laneNib s l = n)

/-- The planned cost per period of a program with the parameters `g` (R295). -/
def costOf (s : State) (prog : Nat) (g : Nat → Int) : Nat :=
  let dly := if g 0x0400 = 1 then delayCost s else 0
  let dyn := (if g 0x0300 = 1 then 500 else 0) + (if g 0x0310 = 1 then 800 else 0) + (if g 0x0320 = 1 then 600 else 0)
  let wide := hpfCost g + lpfCost g + eqCost g + dly + (if g 0x0500 = 0 then 0 else 240)
    + (if g 0x0608 = gainOff then 0 else 40) + sumN ((sendsOn s g).map (sendCost s))
  match prog with
  | 1 => 480 + wide + dyn
  | 2 => 800 + 2 * wide + dyn * 3 / 2
  | 3 => 400 + (activeNibs s).length + eqCost g + (if g 0x0310 = 1 then 800 else 0) + (if g 0x0320 = 1 then 600 else 0) + dly
      + 24 * ((List.range (matricesOf s.variant)).filter (fun m => g (0x2000 + m) ≠ gainOff)).length
  | 4 => 400 + eqCost g + (if g 0x0320 = 1 then 600 else 0) + dly
  | 5 => 120 + 8 * delayCost s
  | 6 => (match g 0x7000 with | 0 => 80 | 1 => 200 | 2 => 240 | 3 => 400 | 4 => 240 | _ => 80)
  | 7 => if g 0x9000 = 0 then 1200 else 2000
  | _ => 0

/-- The planned cost of a crossfade per period (R295): `stages` are the stages that crossfade together. -/
def fadeCost (s : State) (prog : Nat) (g : Nat → Int) (stage : Nat) : Nat :=
  let dbl := if prog = 2 then 2 else 1
  if stage < 10 then dbl * (hpfCost g + lpfCost g + eqCost g) + 160
  else if stage = 12 then costOf s prog g + 160
  else 160

/-! ### The plan of the Nibs (R248 to R251) -/

/-- The phase of a program: 1, 2, 3, or 0 for class B. -/
def phaseOf (prog : Nat) : Nat := if prog = 3 then 2 else if prog = 4 ∨ prog = 5 then 3 else if prog = 7 then 0 else 1

/-- Planned class A work of one instance: its Nib, its phase and its cycles. -/
structure Load where
  nib    : Nat
  phase  : Nat
  cycles : Nat
  deriving DecidableEq, Repr

/-- An instance that runs: not shed and not disabled. -/
def running (i : Inst) : Bool := !i.shed && !i.disabled

/-- The steady cost of the instance of a key. -/
def steadyCost (s : State) (k : Nat) (i : Inst) : Nat :=
  match i.prog, tabGet none (s.ms.xbus.map (fun e => (e.1, some e.2))) (keyIndex k) with
  | 3, some x => if x.role = 1 then 400 + (activeNibs s).length else costOf s 3 (paramAt s k) + 160 + 16 * x.remotes
  | p, _ => costOf s p (paramAt s k)

/-- The steady loads of every running class A instance. -/
def steadyLoads (s : State) : List Load :=
  (s.prog.insts.filter (fun e => running e.2 && phaseOf e.2.prog ≠ 0)).map
    (fun e => { nib := laneNib s e.2.lane, phase := phaseOf e.2.prog, cycles := steadyCost s e.1 e.2 })

/-- The cycles of a phase on a Nib. -/
def phaseCycles (l : List Load) (nib phase : Nat) : Nat :=
  sumN ((l.filter (fun e => e.nib = nib && e.phase = phase)).map (·.cycles))

/-- The longest phase over the Nibs that the loads name. -/
def phaseMax (l : List Load) (phase : Nat) : Nat := (l.map (fun e => phaseCycles l e.nib phase)).foldl max 0

/-- The planned class A time of a Nib: to the completion of its last dispatch, waits at the barriers included (R250). -/
def nibTime (l : List Load) (nib : Nat) : Nat :=
  let c2 := phaseCycles l nib 2
  let c3 := phaseCycles l nib 3
  if c3 ≠ 0 then phaseMax l 1 + phaseMax l 2 + c3
  else if c2 ≠ 0 then phaseMax l 1 + c2
  else phaseCycles l nib 1

/-- The Nibs that carry planned work. -/
def loadedNibs (l : List Load) : List Nat := (l.map (·.nib)).dedup

/-- The highest planned time of any Nib. -/
def peakTime (l : List Load) : Nat := (loadedNibs l).foldl (fun m n => max m (nibTime l n)) 0

/-- Some Nib is above `num`/`den` of the budget. -/
def aboveLoad (s : State) (l : List Load) (num den : Nat) : Bool := (loadedNibs l).any (fun n => budget s * num < nibTime l n * den)

/-- A load as a fraction of the budget in 0.01 %. -/
def loadPct (s : State) (t : Nat) : Nat := roundDivN (t * 10000) (budget s)

/-- The Nib on which new work of a phase finishes earliest; ties go to the lowest number (R249). -/
def placeNib (s : State) (l : List Load) (phase cost : Nat) : Option Nat :=
  (activeNibs s).foldl (fun best n =>
    let t := fun m => nibTime ({ nib := m, phase := phase, cycles := cost } :: l) m
    match best with
    | none => some n
    | some b => if t n < t b then some n else some b) none

end Sys2Proof.Machine
end

