-- ==== Sys2Proof/Machine/Meters.lean ====
section
/-! DEFINITION. Sheen's settings image, and what its meters measure: sample meters and gain reduction in the hardware, true-peak, loudness,
correlation and analysers as class B work of a period (R507 to R514, R521, R522). -/

namespace Sys2Proof.Machine

/-! ### The first regions of the numbering (R342) -/

/-- C, B and M of the region table. -/
def ligC (v : Variant) : Nat := channelsAt v 1
/-- The first channel insert send, and insert return. -/
def ligInsert (v : Variant) : Nat := 512 + ligC v
/-- The first bus output, and analyser input. -/
def ligBus (v : Variant) : Nat := 512 + 2 * ligC v

/-! ### The settings image (R509, R511, R523) -/

/-- A byte of the settings image at its default: ballistics, and unbound true-peak meters. -/
def sheenDflt (o : Nat) : Nat :=
  if o < 16 then [0xE8, 0x03, 86, 0, 0x2C, 0x01, 0x2C, 0x01, 0x04, 0xF7].getD o 0
  else if 2320 ≤ o ∧ o < 3344 then 0xFF
  else 0

/-- A byte of the settings. -/
def sheenByte (s : State) (o : Nat) : Nat := tabGet (sheenDflt o) s.sheen.image o
/-- A 16-bit field of the settings. -/
def sheen16 (s : State) (o : Nat) : Nat := sheenByte s o + 256 * sheenByte s (o + 1)

/-- Write bytes into a settings image. -/
def imagePut (o : Nat) : Bytes → Tab Nat → Tab Nat
  | [], t => t
  | b :: bs, t => imagePut (o + 1) bs (tabPut (sheenDflt o) t o b.toNat)

/-- Where group `g` lies in the image. -/
def groupOfs (g : Nat) : Nat := 16 + 36 * g
/-- Group `g` is enabled. -/
def groupOn (s : State) (g : Nat) : Bool := sheenByte s (groupOfs g) = 1
/-- The source of true-peak meter `t`; 0xFFFF is unbound. -/
def tpSource (s : State) (t : Nat) : Nat := sheen16 s (2320 + 2 * t)

/-- RMS_WIN, CORR_WIN and PEAK_HOLD in samples. -/
def msSamples (s : State) (ms : Nat) : Nat := roundDivN (ms * fsOp s) 1000

/-! ### Levels (chapter 17: 0.01 dB) -/

/-- m × 2^k lies above 10^(h/d). -/
def above (h : Int) (d m : Nat) (k : Int) : Bool :=
  let c := Nat.gcd h.natAbs d
  if h = 0 then (if 0 ≤ k then decide (1 < m * 2 ^ k.toNat) else decide (2 ^ (-k).toNat < m)) else !leGain (h < 0) (h.natAbs / c) (d / c) m k

/-- x ≥ 10^(h/4000), for half-steps h of 0.01 dB. -/
def atLeastHalf (h : Int) (m : Nat) (k : Int) : Bool := h = 0 || above h 4000 m k

/-- The level in 0.01 dB of a magnitude m × 2^k, rounded to the nearest, found downwards bit by bit from −14,400. -/
def levelSearch (m : Nat) (k : Int) : Nat → Int → Int
  | 0, g => g
  | i + 1, g => levelSearch m k i (if atLeastHalf (2 * (g + 2 ^ i) - 1) m k then g + 2 ^ i else g)

/-- A level field: −32,768 stands for no signal or a reading below −144 dB. -/
def levelOf (v : F32) : Int :=
  match f32Dy v with
  | none => 0
  | some x =>
    if x.m = 0 ∨ ¬ atLeastHalf (-28801) x.m.natAbs x.e then -32768
    else levelSearch x.m.natAbs x.e 15 (-14400)

/-- The larger magnitude of two binary32 values, as a positive value. -/
def maxAbs (a b : F32) : F32 :=
  let m := fun (v : F32) => v.toNat % 2 ^ 31
  BitVec.ofNat 32 (max (m a) (m b))

/-! ### Readings (R509 to R514) -/

/-- A byte of a settings image. -/
def imgByte (t : Tab Nat) (o : Nat) : Nat := tabGet (sheenDflt o) t o
/-- A 16-bit field of a settings image. -/
def img16 (t : Tab Nat) (o : Nat) : Nat := imgByte t o + 256 * imgByte t (o + 1)
/-- Milliseconds in samples at `fs`. -/
def msAt (fs ms : Nat) : Nat := roundDivN (ms * fs) 1000

/-- The exact mean of `n` values with the sum `x`, cut at 64 bits below the sum's last place. -/
def dyMean (x : Dy) (n : Nat) : Dy := { m := (x.m * 2 ^ 64) / (max n 1 : Nat), e := x.e - 64 }

/-- The exact sum of a list. -/
def dySum (l : List Dy) : Dy := l.foldl Dy.add { m := 0, e := 0 }

/-- The reading of a mean square in 0.01 dB, found downwards bit by bit from −14,400: it reaches `g` above 10^((10 g + c) ÷ 10,000). -/
def powerSearch (c : Int) (m : Nat) (k : Int) : Nat → Int → Int
  | 0, g => g
  | i + 1, g => powerSearch c m k i (if above (10 * (g + 2 ^ i) + c) 10000 m k then g + 2 ^ i else g)

/-- A mean square as a level field in 0.01 dB: with c = −5 in dBFS, with c = 686 in LUFS, whose scale has −0.691 dB (R511). −32,768 stands
for no signal or a reading below −144 dB (R521). -/
def powerLevel (c : Int) (x : Dy) : Int :=
  if x.m ≤ 0 ∨ ¬ above (-144000 + c) 10000 x.m.natAbs x.e then -32768 else powerSearch c x.m.natAbs x.e 15 (-14400)

/-- The values of a stamped history from SSI `a` to before `u`. -/
def logFrom (l : List (Nat × F32)) (a u : Nat) : List F32 := (l.filter (fun e => a ≤ e.1 && e.1 < u)).map (·.2)

/-- The squares of values, exactly. -/
def squares (l : List F32) : List Dy := (l.filterMap f32Dy).map (fun x => x.mul x)

/-- The RMS reading before sample `u` of a window of `w` samples that began at `a`: values not listed are zero (R509). -/
def rmsReading (l : List (Nat × F32)) (a w u : Nat) : Int :=
  let from_ := max a (u - w)
  powerLevel (-5) (dyMean (dySum (squares (logFrom l from_ u))) (u - from_))

/-- The ballistic peak at sample `u` (R509): held for PEAK_HOLD, then falling at PEAK_DECAY. -/
def ballReading (img : Tab Nat) (fs u : Nat) (b : F32 × Nat) : Int :=
  let lev := levelOf b.1
  let past := u - b.2 - msAt fs (img16 img 0)
  let v := lev - roundDiv (past * img16 img 2 * 10 : Nat) (max fs 1 : Nat)
  if lev = -32768 ∨ v < -14400 then -32768 else v

/-- A magnitude arrives at a ballistic peak: it takes it over where it is at least as high as the peak has become. -/
def ballTake (img : Tab Nat) (fs u : Nat) (x : F32) (b : F32 × Nat) : F32 × Nat :=
  let v := f32Abs x
  if b.1.toNat ≤ v.toNat ∨ (b.2 + msAt fs (img16 img 0) < u ∧ ballReading img fs u b < levelOf v) then (v, u) else b

/-! ### Sample meters and gain reduction (R507, R513, R514) -/

/-- The lesser of two gains. -/
def f32Min (a b : F32) : F32 := if b.toNat < a.toNat then b else a

/-- A sample meter takes one sample (R514). -/
def meterTake (x : Sample) (a : Acc) : Acc :=
  { a with peak := maxAbs a.peak x.v, rep := a.rep + b2n (x.tag = 1), abs := a.abs + b2n (x.tag = 2), forced := a.forced + b2n (x.tag = 3) }

/-- The key of the instance that a gain-reduction item names. -/
def reductionKey (s : State) (n : Nat) : Nat :=
  if n < 0x1000 then resolveKey s 0 n else if n < 0x2000 then paramKey s (instKey 1 (n - 0x1000)) 0x0310 else instKey 2 (n - 0x2000)

/-- The gains of an instance's dynamics stages at this sample. -/
def reductionTake (s : State) (n : Nat) (a : Acc) : Acc :=
  match mapGet s.prog.insts (reductionKey s n) with
  | some i => { a with gate := f32Min a.gate i.dyn.gateGain, comp := f32Min a.comp i.dyn.compGain, lim := f32Min a.lim i.dyn.limGain }
  | none => a

/-- An attenuation in 0.01 dB. -/
def reduction (g : F32) : Nat := if levelOf g = -32768 then 65535 else (min 0 (levelOf g)).natAbs

/-- The entry of a sample meter, or of a gain reduction, at the end of an interval before sample `u` (R521). -/
def sampleEntry (s : State) (r : ReportSet) (u pos : Nat) (it : Nat × Nat) : Option Bytes :=
  let a := tabGet {} r.accs pos
  let h := s.sheen
  let cnt := fun n => le 2 (min n 65535)
  let meter := fun (ball : Tab (F32 × Nat)) (log : Tab (List (Nat × F32))) =>
    leI 2 (levelOf a.peak) ++ leI 2 (ballReading h.image (fsOp s) u (tabGet (0, 0) ball it.2)) ++
      leI 2 (rmsReading (tabGet [] log it.2) (tabGet 0 h.winStart 1) (msAt (fsOp s) (img16 h.image 4)) u) ++
      cnt a.rep ++ cnt a.abs ++ cnt a.forced ++ zeros 4
  match it.1 with
  | 0 => some (meter h.srcBall h.srcLog)
  | 1 => some (meter h.snkBall h.snkLog)
  | 2 => some (cnt (reduction a.gate) ++ cnt (reduction a.comp) ++ cnt (reduction a.lim) ++ zeros 2)
  | _ => none

/-- A stamped history with one more value; a zero is not listed, and what lies more than 3 s and a period's work back is dropped. -/
def logTake (fs u : Nat) (x : F32) (l : List (Nat × F32)) : List (Nat × F32) :=
  let t := l.filter (fun e => u < e.1 + 3 * fs + 4096)
  if x.toNat % 2 ^ 31 = 0 then t else (u, x) :: t

/-! ### Class B meters (R510 to R513, R522) -/

/-- A period's class B work was skipped. -/
def skippedAt (s : State) (u : Nat) : Bool := s.sheen.skipped.contains (u / 8)

/-- The value of a stamped history at an SSI. -/
def logAt (l : List (Nat × F32)) (u : Nat) : F32 := ((l.find? (fun e => e.1 = u)).map (·.2)).getD 0

/-- Phase `j` of the 48-tap interpolation at sample `u`: twelve taps, in ascending order (R510; log 113). -/
def tpPhase (l : List (Nat × F32)) (u j : Nat) : F32 :=
  (List.range 12).foldl (fun y i => if u < i then y else f32Fma (Config.truePeakTap j i) (logAt l (u - i)) y) 0

/-- The largest interpolated magnitude of a sample. -/
def tpValue (l : List (Nat × F32)) (u : Nat) : F32 := ((List.range 4).map (tpPhase l u)).foldl maxAbs 0

/-- The true-peak reading of a source over an interval: the largest over the samples measured (R522). -/
def tpReading (s : State) (l : List (Nat × F32)) (a u : Nat) : F32 :=
  (((List.range (u - a)).map (· + a)).filter (fun v => !skippedAt s v)).foldl (fun m v => maxAbs m (tpValue l v)) 0

/-- A value of a stamped list, newest first, as it stood before sample `u`. -/
def before {α : Type} (d : α) (l : List (Nat × α)) (u : Nat) : α := ((l.find? (fun e => e.1 < u)).map (·.2)).getD d

/-- The weight of a ROLE (R511): 0 dB, +1.50 dB, or none. -/
def roleWeight (r : Nat) : Dy := if r = 0 then { m := 1, e := 0 } else if r = 1 then (f32Dy (gainF32 150)).getD { m := 1, e := 0 } else { m := 0, e := 0 }

/-- The members of loudness group `g`: position, source and role. -/
def loudMembers (img : Tab Nat) (g : Nat) : List (Nat × Nat × Nat) :=
  (List.range (min 8 (imgByte img (16 + 36 * g + 1)))).map (fun j =>
    (j, img16 img (16 + 36 * g + 4 + 4 * j), imgByte img (16 + 36 * g + 6 + 4 * j)))

/-- One sample through a stage of the K-weighting (R511; log 113). -/
def kStage (fs st : Nat) (m : Sect) (x : F32) : F32 × Sect :=
  let c := fun j => Config.kWeight fs (5 * st + j)
  let y := f32Fma (f32Neg (c 4)) m.y2 (f32Fma (f32Neg (c 3)) m.y1 (f32Fma (c 2) m.x2 (f32Fma (c 1) m.x1 (f32Mul (c 0) x))))
  let v := if f32Finite y then y else 0
  (v, { x1 := x, x2 := m.x1, y1 := v, y2 := m.y1 })

/-- The words of a binary64 value, and its exact value. -/
def packPower (x : Dy) : Nat := packFmt 53 11 false x
/-- The exact value of packed power. -/
def powerOfWord (n : Nat) : Dy := (unpackFmt 53 11 false n).getD { m := 0, e := 0 }

/-- A loudness group measures one sample: the weighted sum of its members' K-weighted squares, and their true-peaks (R511). -/
def loudTake (s : State) (g u : Nat) (q : Loud) : Loud :=
  let fs := fsOp s
  let r := (loudMembers s.sheen.image g).foldl (fun (t : Tab Sect × Dy × F32) e =>
    let l := tabGet [] s.sheen.srcLog e.2.1
    let a := kStage fs 0 (tabGet {} t.1 (2 * e.1)) (logAt l u)
    let b := kStage fs 1 (tabGet {} t.1 (2 * e.1 + 1)) a.1
    let y := (f32Dy b.1).getD { m := 0, e := 0 }
    (tabPut {} (tabPut {} t.1 (2 * e.1) a.2) (2 * e.1 + 1) b.2, t.2.1.add ((roleWeight e.2.2).mul (y.mul y)), maxAbs t.2.2 (tpValue l u)))
    (q.filt, { m := 0, e := 0 }, 0)
  let top := (q.tpMax.head?).map (·.2)
  let old : F32 := if (q.tpMax.head?).any (fun e => tabGet 0 s.sheen.iStart g ≤ e.1) then top.getD 0 else 0
  { q with filt := r.1, pow := (u, packPower r.2.1) :: q.pow.filter (fun e => u < e.1 + 3 * fs + 4096),
           tpMax := if old.toNat < r.2.2.toNat then (u, r.2.2) :: q.tpMax else q.tpMax }

/-- The step of the loudness blocks: round(Fs_op ÷ 10) rounded to a multiple of 8 (R511). -/
def blockStep (fs : Nat) : Nat := (roundDivN fs 10 + 4) / 8 * 8

/-- The mean of the power measured from `a` to before `u`, none without a measured sample. -/
def powerMean (l : List (Nat × Nat)) (a u : Nat) : Option Dy :=
  let m := l.filter (fun e => a ≤ e.1 && e.1 < u)
  if m.isEmpty then none else some (dyMean (dySum (m.map (fun e => powerOfWord e.2))) m.length)

/-- A block of `k` steps that ends before sample `u`, stamped with its start. -/
def closeBlock (l : List (Nat × Nat)) (step k u : Nat) (t : List (Nat × Nat)) : List (Nat × Nat) :=
  if u < k * step then t
  else match powerMean l (u - k * step) u with
    | some x => (u - k * step, packPower x) :: t
    | none => t

/-- At the end of a step a group's 400 ms block and 3 s value close (R511). -/
def loudStep (fs u : Nat) (q : Loud) : Loud :=
  let st := blockStep fs
  if st = 0 ∨ u % st ≠ 0 then q else { q with blocks := closeBlock q.pow st 4 u q.blocks, shorts := closeBlock q.pow st 30 u q.shorts }

/-- The gated powers of blocks: above −70 LUFS, and above the mean of those by the relative gate 10^(−rel ÷ 10) (R511). -/
def gated (rel : Nat) (l : List Dy) : List Dy :=
  let a := l.filter (fun x => above (-69309) 10000 x.m.natAbs x.e)
  let mean := dyMean (dySum a) a.length
  a.filter (fun x => 0 < (({ x with m := x.m * (10 ^ rel : Nat) } : Dy).add mean.neg).m)

/-- The blocks since I last restarted that end before sample `u`. -/
def blocksOf (l : List (Nat × Nat)) (a len u : Nat) : List Dy :=
  (l.filter (fun e => a ≤ e.1 && e.1 + len ≤ u)).map (fun e => powerOfWord e.2)

/-- Insert a level in ascending order. -/
def insertLevel (x : Int) : List Int → List Int
  | [] => [x]
  | y :: l => if x ≤ y then x :: y :: l else y :: insertLevel x l

/-- LRA: the spread between the 10th and 95th percentiles of the gated 3 s levels (R511). -/
def rangeOf (l : List Dy) : Nat :=
  let v := ((gated 2 l).map (powerLevel 686)).foldl (fun t x => insertLevel x t) []
  let at_ := fun p => v.getD (roundDivN ((v.length - 1) * p) 100) 0
  if v.isEmpty then 0 else (at_ 95 - at_ 10).toNat

/-- The correlation of two sources over the measured samples of a window, in 0.001, with NO_SIGNAL (R512). -/
def correlation (s : State) (a b : List (Nat × F32)) (from_ u : Nat) : Int × Bool :=
  let ks := ((List.range (u - from_)).map (· + from_)).filter (fun v => !skippedAt s v)
  let n : Dy := { m := (ks.length : Nat), e := 0 }
  let val := fun l v => (f32Dy (logAt l v)).getD { m := 0, e := 0 }
  let sum := fun (f : Nat → Dy) => dySum (ks.map f)
  let sa := sum (val a)
  let sb := sum (val b)
  let aa := sum (fun v => (val a v).mul (val a v))
  let bb := sum (fun v => (val b v).mul (val b v))
  let num := (n.mul (sum (fun v => (val a v).mul (val b v)))).add (sa.mul sb).neg
  let den := ((n.mul aa).add (sa.mul sa).neg).mul ((n.mul bb).add (sb.mul sb).neg)
  if aa.m = 0 ∨ bb.m = 0 then (0, true)
  else
    let reach := fun (k : Nat) => decide (0 ≤ (({ m := 4000000, e := 0 } : Dy).mul (num.mul num) |>.add
      (({ m := ((2 * k - 1) ^ 2 : Nat), e := 0 } : Dy).mul den).neg).m)
    let k := (List.range 10).foldl (fun k i => if k + 2 ^ (9 - i) ≤ 1000 ∧ reach (k + 2 ^ (9 - i)) then k + 2 ^ (9 - i) else k) 0
    (if den.m = 0 then 0 else if num.m < 0 then -(k : Int) else k, false)

/-- What an analyser reads at a sample: its sink 0, or the mean of its two sinks (R289, R513). -/
def analyserInput (s : State) (a u : Nat) : F32 :=
  let n := ligBus s.variant + 2 * a
  let x := logAt (tabGet [] s.sheen.snkLog n) u
  if paramAt s (instKey 3 a) 0x9003 = 0 then x else f32Mul (f32Add x (logAt (tabGet [] s.sheen.snkLog (n + 1)) u)) 0x3F000000

/-- The settings of an analyser's filters and averaging. -/
def analyserForm (s : State) (a : Nat) : List Int := [paramAt s (instKey 3 a) 0x9000, paramAt s (instKey 3 a) 0x9001, paramAt s (instKey 3 a) 0x9002, (fsOp s : Nat)]

/-- An analyser takes one sample: its filter bank goes on, restarted at the first sample of its window (R513, R517). -/
def analyserTake (s : State) (a u : Nat) (l : List (Nat × Nat)) : List (Nat × Nat) :=
  let old := if (l.head?).any (fun e => tabGet 0 s.sheen.winStart (0x400 + a) ≤ e.1) then ((l.head?).map (·.2)).getD 0 else 0
  (u, Config.bankStep (analyserForm s a) old (analyserInput s a u)) :: l.take 511

/-- Band `b` has its upper edge above Fs_op ÷ 2: the bands are those of IEC 61260 from 20 Hz (R513). -/
def bandBeyond (fs res b : Nat) : Bool := if res = 0 then leGain false (27 + 2 * b) 20 fs (-1) else leGain false (53 + 2 * b) 40 fs (-1)

/-- The class B meters measure one sample (R508, R510 to R513). -/
def measureSample (u : Nat) (s : State) : State :=
  let h := s.sheen
  let loud := ((List.range 64).filter (groupOn s)).foldl (fun t g => tabPut {} t g (loudTake s g u (tabGet {} t g))) h.loud
  let tp := ((List.range 512).filter (fun n => tpSource s n ≠ 0xFFFF)).foldl (fun t n =>
    let old := tabGet [] t n
    let b := (old.head?).getD (0, 0, 0)
    let c := ballTake h.image (fsOp s) u (tpValue (tabGet [] h.srcLog (tpSource s n)) u) b.2
    if c = b.2 then t else tabPut [] t n ((u, c) :: old.take 511)) h.tpBall
  let bank := ((List.range 16).filter (fun a => (mapGet s.prog.insts (instKey 3 a)).isSome)).foldl (fun t a =>
    tabPut [] t a (analyserTake s a u (tabGet [] t a))) h.bank
  { s with sheen := { h with loud := loud, tpBall := tp, bank := bank } }

/-- The class B work of period `k`: its samples are measured unless it is skipped, and the loudness blocks that end with it close. -/
def classBPeriod (k : Nat) (s : State) : State :=
  let s1 := if s.sheen.skipped.contains k then s else (List.range 8).foldl (fun t i => measureSample (8 * k + i) t) s
  { s1 with sheen := { s1.sheen with loud := s1.sheen.loud.map (fun e => (e.1, loudStep (fsOp s) (8 * k + 8) e.2)) } }

/-- The entry of a class B meter for a closed interval (R521). -/
def classBEntry (s : State) (c : Closing) (pos : Nat) (it : Nat × Nat) : Bytes :=
  let h := s.sheen
  let start := fun k => tabGet 0 c.winStart k
  let rel := fun (v : Int) => if c.luRel ∧ v ≠ -32768 then v - sgn 16 (img16 c.image 8) else v
  match it.1 with
  | 3 =>
    leI 2 (levelOf (tpReading s (tabGet [] h.srcLog (img16 c.image (2320 + 2 * it.2))) c.start c.stop)) ++
      leI 2 (ballReading c.image c.fs c.stop (before (0, 0) (tabGet [] h.tpBall it.2) c.stop))
  | 4 =>
    let q := tabGet {} h.loud it.2
    let st := blockStep c.fs
    let since := tabGet 0 c.iStart it.2
    let level := fun w => ((powerMean q.pow (max (start (0x100 + it.2)) (c.stop - w)) c.stop).map (powerLevel 686)).getD (-32768)
    let blocks := gated 1 (blocksOf q.blocks since (4 * st) c.stop)
    let i := if blocks.isEmpty then -32768 else powerLevel 686 (dyMean (dySum blocks) blocks.length)
    leI 2 (rel (level (msAt c.fs 400))) ++ leI 2 (rel (level (3 * c.fs))) ++ leI 2 (rel i) ++
      le 2 (rangeOf (blocksOf q.shorts since (30 * st) c.stop)) ++
      leI 2 (levelOf (before 0 (q.tpMax.filter (fun e => since ≤ e.1)) c.stop)) ++
      le 1 (b2n (c.iStart.any (fun e => e.1 = it.2 && c.start ≤ e.2)) + 2 * b2n (c.mixed.contains it.2) + 4 * b2n (c.filling.contains pos)) ++ zeros 5
  | 5 =>
    let o := 3344 + 4 * it.2
    let w := msAt c.fs (img16 c.image 6)
    let r := correlation s (tabGet [] h.srcLog (img16 c.image o)) (tabGet [] h.srcLog (img16 c.image (o + 2)))
      (max (start (0x300 + it.2)) (c.stop - w)) c.stop
    leI 2 r.1 ++ le 1 (b2n r.2) ++ zeros 1
  | _ =>
    let res := tabGet 0 c.res pos
    let n := if res = 0 then 31 else 61
    let bank := before 0 (tabGet [] h.bank it.2) c.stop
    padTo ((4 + 2 * n + 3) / 4 * 4) (le 1 n ++ le 1 0 ++ zeros 2 ++ (List.range n).flatMap (fun b =>
      leI 2 (if bandBeyond c.fs res b then -32768 else sgn 16 (Config.bandLevel [(res : Nat), (c.fs : Nat)] b bank % 65536))))

/-- The entries of a record, in the order of its items (R521). -/
def recordBody (s : State) (c : Closing) : Bytes :=
  c.items.zipIdx.flatMap (fun e => match mapGet c.firm e.2 with | some b => b | none => classBEntry s c e.2 e.1)

end Sys2Proof.Machine
end

