-- ==== Sys2Proof/Machine/SheenCore.lean ====
section
/-! DEFINITION. Sheen's windows, epochs and intervals (R515 to R520). -/

namespace Sys2Proof.Machine

/-! ### Windows (R517) -/

/-- The window length in samples of an item kind, and the key under which its start is kept. -/
def itemWindow (s : State) (kind index : Nat) : Nat × Nat :=
  match kind with
  | 0 => (msSamples s (sheen16 s 4), 1)
  | 1 => (msSamples s (sheen16 s 4), 1)
  | 3 => (msSamples s (sheen16 s 0), 0x200 + index)
  | 4 => (3 * fsOp s, 0x100 + index)
  | 5 => (msSamples s (sheen16 s 6), 0x300 + index)
  | 6 => (msSamples s (if paramAt s (instKey 3 index) 0x9001 = 1 then 1000 else 125), 0x400 + index)
  | _ => (0, 0)

/-- The item's window restarted and does not yet hold only samples since then (FILLING). -/
def itemFilling (s : State) (stop : Nat) (it : Nat × Nat) : Bool :=
  match itemWindow s it.1 it.2 with
  | (w, k) => w ≠ 0 && s.sheen.winStart.any (fun e => e.1 = k) && stop < tabGet 0 s.sheen.winStart k + w

/-- The item's window still holds samples of an earlier epoch (SPAN). -/
def itemSpan (s : State) (stop : Nat) (it : Nat × Nat) : Bool :=
  match itemWindow s it.1 it.2 with
  | (w, k) => w ≠ 0 && s.sheen.opened && tabGet 0 s.sheen.winStart k < s.sheen.epochSsi && stop < s.sheen.epochSsi + w

/-! ### Records (R519 to R522) -/

/-- The size of an entry of an item. -/
def entrySize (s : State) (it : Nat × Nat) : Nat :=
  match it.1 with
  | 0 | 1 | 4 => 16
  | 2 => 8
  | 3 | 5 => 4
  | _ => if paramAt s (instKey 3 it.2) 0x9000 = 0 then 68 else 128

/-- N of an interval code (R519). -/
def setLength (s : State) (code : Nat) : Nat :=
  let ms := [10, 20, 50, 100, 200, 500, 1000].getD code 10
  (roundDivN (ms * fsOp s) 1000 + 4) / 8 * 8

/-- Change a report set. -/
def modSet (n : Nat) (f : ReportSet → ReportSet) (s : State) : State :=
  match mapGet s.sheen.sets n with
  | some r => { s with sheen := { s.sheen with sets := tabInsert n (f r) s.sheen.sets } }
  | none => s

/-- Emit the record of a set's interval that ends before sample `u`; it is written later (R520, R521). The sample meters and gain reductions
are read now, and the class B meters when their work is complete, under the settings of the interval's epoch. -/
def emitRecord (n : Nat) (r : ReportSet) (u : Nat) (part : Bool) (s : State) : State :=
  let h := s.sheen
  let c : Closing :=
    { set_ := n, start := r.opened, stop := u, part := part, epoch := h.epoch,
      fill := r.items.any (itemFilling s u), span := r.items.any (itemSpan s u), luRel := r.luRel,
      items := r.items, image := h.image, winStart := h.winStart, iStart := h.iStart, mixed := h.mixed, fs := fsOp s,
      filling := (r.items.zipIdx.filter (fun e => itemFilling s u e.1)).map (·.2),
      res := r.items.zipIdx.map (fun e => (e.2, (paramAt s (instKey 3 e.1.2) 0x9000).toNat)),
      firm := r.items.zipIdx.filterMap (fun e => (sampleEntry s r u e.2 e.1).map (fun b => (e.2, b))) }
  modSet n (fun q => { q with opened := u, accs := [] }) { s with sheen := { h with closing := h.closing ++ [c] } }

/-- Close the intervals that end regularly before sample `u` (R520). -/
def closeDue (u : Nat) (s : State) : State :=
  s.sheen.sets.foldl (fun t e =>
    match mapGet t.sheen.sets e.1 with
    | some r =>
      if r.started ∧ r.close ≤ u then
        let n := setLength t r.interval
        modSet e.1 (fun q => { q with partOpen := false, close := u / n * n + n }) (emitRecord e.1 r u r.partOpen t)
      else t
    | none => t) s

/-- Split every open interval at a change inside it (R520). -/
def splitIntervals (u : Nat) (s : State) : State :=
  s.sheen.sets.foldl (fun t e =>
    match mapGet t.sheen.sets e.1 with
    | some r =>
      if r.started ∧ r.close ≠ u ∧ r.opened < u then modSet e.1 (fun q => { q with partOpen := true }) (emitRecord e.1 r u true t)
      else t
    | none => t) s

/-- The mask of groups as a number. -/
def groupMask (l : List Nat) : Nat := l.foldl setBit 0

/-- A Sheen change takes effect at the present SSI: all changes at one SSI open a single epoch, with the cause of the first and the
groups that any of them restarts. The record of an interval that ends there regularly holds samples of the old epoch (R515, R520, R521). -/
def openEpoch (cause : Nat) (reset : List Nat) (s : State) : State :=
  let u := s.stem.ssi
  let h := s.sheen
  if h.opened ∧ h.epochSsi = u then { s with sheen := { h with note := h.note.map (fun e => (e.1, e.2 ++ reset)) } }
  else
    let s1 := splitIntervals u (closeDue u s)
    { s1 with sheen := { s1.sheen with epoch := (h.epoch + 1) % 2 ^ 32, epochSsi := u, opened := true, note := some (cause, reset) } }

/-- SHEEN_EPOCH of the epoch just opened (R525). -/
def tellEpoch (s : State) : State :=
  match s.sheen.note with
  | none => s
  | some (cause, reset) =>
    raise 0x0901 (le 4 s.sheen.epoch ++ le 1 cause ++ le 1 (b2n (!reset.isEmpty)) ++ zeros 2 ++ le 8 (groupMask reset))
      { s with sheen := { s.sheen with note := none } }

/-- Restart the integrated loudness of groups (R518). -/
def restartGroups (l : List Nat) (s : State) : State :=
  { s with sheen := { s.sheen with iStart := l.foldl (fun t g => tabPut 0 t g s.stem.ssi) s.sheen.iStart,
                                   mixed := s.sheen.mixed.filter (fun g => !l.contains g) } }

/-- Restart a window. -/
def restartWindow (k : Nat) (s : State) : State :=
  { s with sheen := { s.sheen with winStart := tabInsert k s.stem.ssi s.sheen.winStart } }

/-- Every group. -/
def allGroups : List Nat := List.range 64

/-! ### The SSI moves (log 115) -/

/-- Move the instants of a list. -/
def moveFirst {α : Type} (f : Nat → Nat) (l : List (Nat × α)) : List (Nat × α) := l.map (fun e => (f e.1, e.2))

/-- Sheen's instants keep their distance from the present sample when the SSI moves. -/
def moveSheen (f : Nat → Nat) (s : State) : State :=
  let h := s.sheen
  let loud := fun (g : Loud) => { g with pow := moveFirst f g.pow, blocks := moveFirst f g.blocks, shorts := moveFirst f g.shorts, tpMax := moveFirst f g.tpMax }
  let log := fun (t : Tab (List (Nat × F32))) => t.map (fun e => (e.1, moveFirst f e.2))
  let ball := fun (t : Tab (F32 × Nat)) => t.map (fun e => (e.1, e.2.1, f e.2.2))
  { s with sheen := { h with
      epochSsi := f h.epochSsi, winStart := h.winStart.map (fun e => (e.1, f e.2)), iStart := h.iStart.map (fun e => (e.1, f e.2)),
      sets := h.sets.map (fun e => (e.1, { e.2 with opened := f e.2.opened })),
      closing := h.closing.map (fun c => { c with start := f c.start, stop := f c.stop, winStart := c.winStart.map (fun e => (e.1, f e.2)),
                                                  iStart := c.iStart.map (fun e => (e.1, f e.2)) }),
      skipped := h.skipped.map (fun p => f (8 * p) / 8), srcLog := log h.srcLog, snkLog := log h.snkLog, srcBall := ball h.srcBall,
      snkBall := ball h.snkBall, tpBall := h.tpBall.map (fun e => (e.1, e.2.map (fun x => (f x.1, x.2.1, f x.2.2)))),
      loud := h.loud.map (fun e => (e.1, loud e.2)), bank := h.bank.map (fun e => (e.1, moveFirst f e.2)) } }

/-- Every started set closes next at the first regular start after its interval opened, at the present SSI or later (R519). -/
def regridSets (s : State) : State :=
  let u := s.stem.ssi
  let close := fun (r : ReportSet) =>
    let n := setLength s r.interval
    if u % n = 0 ∧ r.opened < u then u else u / n * n + n
  { s with sheen := { s.sheen with sets := s.sheen.sets.map (fun e => (e.1, if e.2.started then { e.2 with close := close e.2 } else e.2)) } }

/-- At a change of rate every window and ballistic begins anew. -/
def restartMeters (s : State) : State :=
  let keys := [0, 1, 2] ++ allGroups.map (0x100 + ·) ++ (List.range 512).map (0x200 + ·) ++ (List.range 32).map (0x300 + ·) ++ (List.range 16).map (0x400 + ·)
  let h := s.sheen
  { s with sheen := { h with winStart := keys.map (fun k => (k, s.stem.ssi)), srcLog := [], snkLog := [], srcBall := [], snkBall := [], tpBall := [],
                             loud := [], bank := [], skipped := [] } }

end Sys2Proof.Machine
end

