-- ==== Sys2Proof/Machine/Turn.lean ====
section
/-! DEFINITION. Turns, Shading ramps, crossfades and the admission of transients (R252 to R257, R303 to R316). -/

namespace Sys2Proof.Machine

/-! ### What is armed -/

/-- Every change that waits for its SSI: armed actions and the changes of untimed commands. -/
def waiting (s : State) : List Armed := s.ink.armed ++ s.ink.sched

/-- The change that an action holds for an instance. -/
def changeOn (a : Armed) (k : Nat) : Option Change := a.turn.changes.find? (fun c => c.key = k)

/-- The actions that turn an instance. -/
def turnsOn (s : State) (k : Nat) : List Armed := (waiting s).filter (fun a => (changeOn a k).isSome)

/-- The distinct SSIs at which turns of an instance are armed. -/
def turnSsis (s : State) (k : Nat) : List Nat := ((turnsOn s k).map (·.applySsi)).dedup

/-- Actions in the order in which they execute: by SSI, then by Scribe's execution order (R306). -/
def insertAction (a : Armed) : List Armed → List Armed
  | [] => [a]
  | b :: l => if a.applySsi < b.applySsi ∨ (a.applySsi = b.applySsi ∧ a.order < b.order) then a :: b :: l
              else b :: insertAction a l

/-- A list of actions in execution order. -/
def inOrder (l : List Armed) : List Armed := l.foldl (fun t a => insertAction a t) []

/-- A change as it leaves the instance of key `k`: a group's set lies at its first bus (R280). -/
def changed (s : State) (k : Nat) (c : Change) (i : Inst) : Inst :=
  { i with params := (c.params.filter (fun e => paramKey s c.key e.1 = k)).foldl (fun t e => tabInsert e.1 e.2 t) i.params,
           disabled := i.disabled || (c.disable && decide (c.key = k)) }

/-- An instance as it will be once every turn up to SSI `at_` has run. -/
def projected (s : State) (k at_ : Nat) (i : Inst) : Inst :=
  (inOrder ((waiting s).filter (fun a => decide (a.applySsi ≤ at_)))).foldl (fun j a => a.turn.changes.foldl (fun j c => changed s k c j) j) i

/-! ### Planned transients (R253 to R256) -/

/-- The crossfades of an instance: running, and planned for armed turns. -/
def fadesOf (s : State) (k : Nat) (i : Inst) : List Fade :=
  i.fades ++ (turnsOn s k).flatMap (fun a => match changeOn a k with
    | some c => if c.atomic then [] else c.fades | none => [])

/-- A crossfade runs in period `p`. -/
def fadeIn (p : Nat) (f : Fade) : Bool := f.start / 8 ≤ p && f.start < f.stop && p ≤ (f.stop - 1) / 8

/-- The cycles that crossfades add in a period: filters of one instance crossfade as one (R295). -/
def fadeCycles (l : List Fade) : Nat :=
  ((l.filter (fun f => f.stage < 10)).map (·.cost)).foldl max 0 + sumN ((l.filter (fun f => ¬ f.stage < 10)).map (·.cost))

/-- The splits of an instance in period `p` (R256). -/
def splitsIn (s : State) (k p : Nat) : Nat := ((turnSsis s k).filter (fun t => t / 8 = p && t % 8 ≠ 0)).length

/-- The state with every instance as the turns armed up to SSI `at_` leave it: what the steady plan of that time is judged on (R252,
R253). -/
def planAt (s : State) (at_ : Nat) : State :=
  { s with prog := { s.prog with insts := s.prog.insts.map (fun e => (e.1, projected s e.1 at_ e.2)) } }

/-- The steady loads once every turn up to SSI `at_` has run. -/
def steadyAt (s : State) (at_ : Nat) : List Load := steadyLoads (planAt s at_)

/-- The loads of a period: the steady plan of that period and every transient armed or running (R253). -/
def loadsIn (s : State) (p : Nat) : List Load :=
  steadyAt s (8 * p + 7) ++ (s.prog.insts.filter (fun e => running e.2 && phaseOf e.2.prog ≠ 0)).filterMap (fun e =>
    let c := fadeCycles ((fadesOf s e.1 e.2).filter (fadeIn p)) + 512 * splitsIn s e.1 p
    if c = 0 then none else some { nib := laneNib s e.2.lane, phase := phaseOf e.2.prog, cycles := c })

/-- The periods in which the planned load can peak: those in which a transient starts or a turn changes the plan, and the present one. -/
def keyPeriods (s : State) : List Nat :=
  (s.stem.ssi / 8 :: s.prog.insts.flatMap (fun e =>
    (fadesOf s e.1 e.2).map (fun f => f.start / 8) ++ (turnSsis s e.1).map (· / 8))).dedup

/-- The periods with an armed or running transient. -/
def transientIn (s : State) (p : Nat) : Bool :=
  s.prog.insts.any (fun e => (fadesOf s e.1 e.2).any (fadeIn p) || splitsIn s e.1 p ≠ 0)

/-- The highest planned time over the key periods in which transients run, with its period and Nib. -/
def armedPeak (s : State) : Nat × Nat × Nat :=
  ((keyPeriods s).filter (fun p => s.stem.ssi / 8 ≤ p && transientIn s p)).foldl (fun b p =>
    let l := loadsIn s p
    (loadedNibs l).foldl (fun b n => if b.1 < nibTime l n then (nibTime l n, p, n) else b) b) (0, 0, 0)

/-- Period `p` is planned-shed: above 90 % with transients (R253, R255). -/
def plannedShed (s : State) (p : Nat) : Bool := transientIn s p && aboveLoad s (loadsIn s p) 90 100

/-! ### Ramps (R309 to R314) -/

/-- The running gains that a parameter of a program governs. 0x20000 to 0x20004 are the pan gains of a pair and of a
triple, 0x30000 + n and 0x40000 + n the tap weights of send n, 0x50000 and 0x50001 the insert weights. -/
def gainIds (prog id : Nat) : List Nat :=
  if id = 0x0602 ∨ id = 0x0603 then [0x20000, 0x20001, 0x20002, 0x20003, 0x20004]
  else if id = 0x0500 then [0x50000, 0x50001]
  else if 0x1100 ≤ id ∧ id < 0x1200 then [0x30000 + (id - 0x1100), 0x40000 + (id - 0x1100)]
  else if 0x2100 ≤ id ∧ id < 0x2200 then [0x30000 + (id - 0x2100), 0x40000 + (id - 0x2100)]
  else if id = 2 ∧ prog ≤ 2 then [1]
  else if id = 4 ∧ prog = 2 then [3]
  else if 0x8000 ≤ id ∧ id % 16 = 2 then [id - 1]
  else [id]

/-- A Boolean weight as a gain. -/
def weight (b : Bool) : F32 := if b then f32One else 0

/-- The gain with the sign that POL gives it (R313). -/
def polGain (g pol : Int) : F32 := if pol = 1 then f32Neg (gainOf g) else gainOf g

/-- The pan gains (R277): 0 and 1 of a pair, 2 to 4 of a triple (first, centre, last bus). -/
def panTarget (prog : Nat) (g : Nat → Int) (j : Nat) : F32 :=
  let p := (g 0x0602 + 100).toNat
  let cos := panCos p
  let sin := panCos (200 - p)
  let root2 : F32 := 0x3FB504F3
  let bal := fun (v : F32) => let w := f32Mul root2 v; if f32One.toNat < w.toNat then f32One else w
  if prog = 2 then (match j with | 0 | 2 => bal cos | 1 | 4 => bal sin | _ => 0)
  else
    let d := f32Ratio (g 0x0603).toNat 100
    let left : Bool := g 0x0602 ≤ 0
    let t := if left then 2 * p else 2 * (p - 100)
    let a := panCos t
    let b := panCos (200 - t)
    let mix := fun (tri outer : F32) => f32Add (f32Mul tri d) (f32Mul outer (f32Sub f32One d))
    match j with
    | 0 => cos
    | 1 => sin
    | 2 => mix (if left then a else 0) cos
    | 3 => mix (if left then b else a) 0
    | _ => mix (if left then 0 else b) sin

/-- The gain that a running gain moves to, for the parameters `g`. -/
def gainTarget (prog : Nat) (g : Nat → Int) (v : Nat) : F32 :=
  if 0x20000 ≤ v ∧ v ≤ 0x20004 then panTarget prog g (v - 0x20000)
  else if v = 0x50000 then weight (g 0x0500 = 1)
  else if v = 0x50001 then weight (g 0x0500 = 2)
  else if 0x30000 ≤ v ∧ v < 0x40000 then weight (g ((if prog = 3 then 0x2100 else 0x1100) + (v - 0x30000)) = 0)
  else if 0x40000 ≤ v ∧ v < 0x50000 then weight (g ((if prog = 3 then 0x2100 else 0x1100) + (v - 0x40000)) = 1)
  else if v = 0x0601 then weight (g 0x0601 = 0)
  else if v = 1 ∧ prog ≤ 2 then polGain (g 1) (g 2)
  else if v = 3 ∧ prog = 2 then polGain (g 3) (g 4)
  else if 0x8000 ≤ v ∧ v % 16 = 1 then polGain (g v) (g (v + 1))
  else gainOf (g v)

/-- The gain of a ramp at sample `u` (R310): its last sample carries g1 exactly. A ramp in dB between gains of unlike sign, which an interrupted
change of polarity leaves, runs as shape 2 (R313, log 112). -/
def rampAt (r : Ramp) (u : Nat) : F32 :=
  let i := u - r.start
  if r.len ≤ i + 1 then r.g1
  else match r.shape with
  | 0 => f32Add r.g0 (f32Mul (f32Sub r.g1 r.g0) (f32Ratio (i + 1) r.len))
  | 1 => if signsDiffer r.g0 r.g1 then f32Add r.g0 (f32Mul (f32Sub r.g1 r.g0) (rcos (i + 1) r.len)) else dbRamp r.g0 r.g1 (i + 1) r.len
  | _ => f32Add r.g0 (f32Mul (f32Sub r.g1 r.g0) (rcos (i + 1) r.len))

/-- The parameters of an instance as a function. -/
def paramsOf (s : State) (k : Nat) (i : Inst) : Nat → Int :=
  fun id => if paramKey s k id = k then param s i id else paramAt s k id

/-- A running gain of an instance at sample `u`: its ramp's, or its target. -/
def gainAt (s : State) (k : Nat) (i : Inst) (v u : Nat) : F32 :=
  match tabGet none i.ramps v with
  | some r => if u < r.start then r.g0 else rampAt r u
  | none => gainTarget i.prog (paramsOf s k i) v

/-- SHADE_TIME and SHADE_SHAPE; ALIGN.DELAY and GEN have none and ramp at the strip's defaults (log 29). -/
def shadeOf (prog : Nat) (g : Nat → Int) : Nat × Nat :=
  if prog ≤ 4 then ((g 0x0604).toNat, (g 0x0605).toNat) else (1000, 2)

/-- The samples of a Shading or crossfade time in 0.01 ms (R310, R315). -/
def hundredths (s : State) (t : Nat) : Nat := roundDivN (t * fsOp s) 100000

/-- A change of polarity ramps in amplitude (R313). -/
def polChange (id prog : Nat) : Bool := (prog ≤ 2 && (id = 2 || id = 4)) || (0x8000 ≤ id && id % 16 = 2)

/-! ### Executing a change (R305, R312, R315, R316) -/

/-- The stage of an instance crossfades past SSI `u`. -/
def stageBusy (i : Inst) (st u : Nat) : Bool := i.fades.any (fun f => f.stage = st && u < f.stop)

/-- Hold a parameter until its stage's crossfade ends; a later value prevails (R316). -/
def holdParam (st id : Nat) (v : Int) (i : Inst) : Inst :=
  match i.held.find? (fun h => h.stage = st) with
  | some h => { i with held := { h with params := h.params.filter (fun e => e.1 ≠ id) ++ [(id, v)] } ::
                  i.held.filter (fun h => h.stage ≠ st) }
  | none => { i with held := { stage := st, params := [(id, v)] } :: i.held }

/-- Hold a coefficient set. -/
def holdCoef (st cs : Nat) (c : List F32) (i : Inst) : Inst :=
  match i.held.find? (fun h => h.stage = st) with
  | some h => { i with held := { h with coefs := h.coefs.filter (fun e => e.1 ≠ cs) ++ [(cs, c)] } ::
                  i.held.filter (fun h => h.stage ≠ st) }
  | none => { i with held := { stage := st, coefs := [(cs, c)] } :: i.held }

/-- The old form of a stage of instance `o`: a filter goes on with its sections' state, ORDER with the whole chain's (R315). -/
def oldForm (st : Nat) (o : Inst) : OldForm :=
  if st = 12 then { params := o.params, coefs := o.coefs, sects := o.sects, dyn := o.dyn, lines := o.lines, insert := o.insert }
  else if st < 10 then { params := o.params, coefs := o.coefs, sects := o.sects }
  else { params := o.params }

/-- Start the crossfade of a stage at `u` from the form that `o` had, unless FADE_TIME is 0 or it is atomic or already started at `u`
(R315). -/
def startFade (s : State) (k st u : Nat) (atomic : Bool) (o i : Inst) : Inst :=
  let t := (paramsOf s k i 0x0606).toNat
  if t = 0 ∨ atomic ∨ 5 ≤ i.prog ∨ i.fades.any (fun f => f.stage = st && f.start = u) then i
  else { i with fades := { stage := st, start := u, stop := u + hundredths s t,
                           cost := fadeCost s i.prog (paramsOf s k i) st } :: i.fades,
                olds := tabInsert st (oldForm st o) i.olds }

/-- The ramps that start when parameters change to those of `j` at `u` (R310, R312, R313). -/
def startRamps (s : State) (k u : Nat) (i j : Inst) (id : Nat) : Inst :=
  (gainIds i.prog id).foldl (fun j v =>
    let g0 := gainAt s k i v (u - 1)
    let g1 := gainTarget j.prog (paramsOf s k j) v
    if g0 = g1 then { j with ramps := tabPut none j.ramps v none }
    else
      let sh := shadeOf j.prog (paramsOf s k j)
      let shape := if sh.2 = 1 ∧ polChange id j.prog then 2 else sh.2
      { j with ramps := tabPut none j.ramps v (some { g0 := g0, g1 := g1, start := u, len := hundredths s sh.1, shape := shape }) }) j

/-- Set one parameter of an instance at `u`: a stage that crossfades holds it (R316), a basic write of a stage's
parameter clears its expert mark (R302), a gain ramps, any other parameter changes at the sample. A change of DLY_ON leaves the lines
filled with zeros (R282). -/
def setParam (s : State) (k u : Nat) (atomic : Bool) (i : Inst) (e : Nat × Int) : Inst :=
  let sts := stagesOf e.1
  match sts.find? (fun st => i.fades.any (fun f => f.stage = st && f.start < u && u < f.stop)) with
  | some st => holdParam st e.1 e.2 i
  | none =>
    let d := ((specOf s i.prog e.1).map (·.dflt)).getD 0
    let j := { i with params := tabPut d i.params e.1 e.2, expert := i.expert.filter (· ≠ e.1),
                      coefs := if sts.isEmpty then i.coefs else
                        i.coefs.filter (fun c => ¬ sts.contains (coefFadeStage c.1)),
                      lines := if e.1 = 0x0400 ∧ i.prog ≤ 4 then [] else i.lines }
    if param s i e.1 = e.2 ∧ j.coefs = i.coefs then { j with lines := i.lines }
    else
      let j1 := sts.foldl (fun j st => startFade s k st u atomic i j) j
      if ((specOf s i.prog e.1).map (·.gain)).getD false then startRamps s k u i j1 e.1 else j1

/-- Set one coefficient set (R302). -/
def setCoef (s : State) (k u : Nat) (atomic : Bool) (i : Inst) (c : Nat × List F32) : Inst :=
  let st := coefFadeStage c.1
  if i.fades.any (fun f => f.stage = st && f.start < u && u < f.stop) then holdCoef st c.1 c.2 i
  else startFade s k st u atomic i { i with coefs := tabInsert c.1 c.2 i.coefs }

/-- SHADE_TIME, SHADE_SHAPE and FADE_TIME of a turn govern that turn's own ramps and crossfades: they are set first
(R314, R315). -/
def timesFirst (l : List (Nat × Int)) : List (Nat × Int) :=
  let isTime := fun (e : Nat × Int) => decide (0x0604 ≤ e.1 ∧ e.1 ≤ 0x0606)
  l.filter isTime ++ l.filter (fun e => !isTime e)

/-- A change executes on the instances that hold its words: a group's set lies at its first bus (R280). -/
def executeChange (c : Change) (s : State) : State :=
  let u := s.stem.ssi
  let s1 := (timesFirst c.params).foldl (fun t e =>
    modInst (paramKey t c.key e.1) (fun i => setParam t (paramKey t c.key e.1) u c.atomic i e) t) s
  let s2 := c.coefs.foldl (fun t e => modInst (paramKey t c.key 0x0200) (fun i => setCoef t c.key u c.atomic i e) t) s1
  modInst c.key (fun i => { i with name := c.name.getD i.name, expert := (i.expert ++ c.expert).dedup, disabled := i.disabled || c.disable }) s2

/-- The crossfades that have ended are dropped, and a held change starts at that sample under the FADE_TIME then in
force (R315, R316). -/
def endFades (s : State) : State :=
  let u := s.stem.ssi
  s.prog.insts.foldl (fun t e =>
    match mapGet t.prog.insts e.1 with
    | none => t
    | some i =>
      let ended := (i.fades.filter (fun f => f.stop ≤ u)).map (·.stage)
      let j := { i with fades := i.fades.filter (fun f => u < f.stop), held := i.held.filter (fun h => !ended.contains h.stage),
                        olds := i.olds.filter (fun o => !ended.contains o.1) }
      let go := i.held.filter (fun h => ended.contains h.stage)
      putInst e.1 (go.foldl (fun j h =>
        h.coefs.foldl (fun j c => setCoef t e.1 u false j c) (h.params.foldl (fun j p => setParam t e.1 u false j p) j)) j) t) s

/-! ### Planning a change (R252 to R254, R307, R316) -/

/-- The stages whose form a change alters, against the parameters that will hold. -/
def changedStages (s : State) (i : Inst) (params : List (Nat × Int)) (coefs : List (Nat × List F32)) : List Nat :=
  ((params.filter (fun e => param s i e.1 ≠ e.2)).flatMap (fun e => stagesOf e.1) ++ coefs.map (fun c => coefFadeStage c.1)).dedup

/-- The SSI at which a stage is free for a change at `at_`: the end of a crossfade that runs then. -/
def stageFree (s : State) (k : Nat) (i : Inst) (st at_ : Nat) : Nat :=
  ((fadesOf s k i).filter (fun f => f.stage = st && f.start < at_ && at_ < f.stop)).foldl (fun m f => max m f.stop) at_

/-- The crossfades planned for a change at `at_`, with the FADE_HELD warnings. -/
def planFades (s : State) (k : Nat) (i : Inst) (at_ : Nat) (params : List (Nat × Int)) (coefs : List (Nat × List F32)) :
    List Fade × List Warning :=
  let before := projected s k at_ i
  let after := { before with params := params.foldl (fun t e => tabInsert e.1 e.2 t) before.params }
  let t := (paramsOf s k after 0x0606).toNat
  let sts := if 5 ≤ i.prog then [] else changedStages s before params coefs
  let at' := fun st => stageFree s k i st at_
  (if t = 0 then [] else sts.map (fun st => { stage := st, start := at' st, stop := at' st + hundredths s t,
                                               cost := fadeCost s i.prog (paramsOf s k after) st }),
   (sts.filter (fun st => at' st ≠ at_)).map (fun st =>
     { code := 0x0803, group := 7, item := keyIndex k, requested := (at_ : Int) - at' st, applied := 0 }))

/-- A state with an action added, as admission judges it. -/
def withAction (a : Armed) (s : State) : State := { s with ink := { s.ink with sched := { a with order := s.ink.order } :: s.ink.sched } }

/-- Loads `l` bring an active Nib above 90 % that carried less under `o` (R252). -/
def raisesAbove (s : State) (o l : List Load) : Bool :=
  (loadedNibs l).any (fun n => budget s * 90 < nibTime l n * 100 && nibTime o n < nibTime l n)

/-- The SSIs from `at_` on at which the steady plan changes. -/
def planSsis (s : State) (at_ : Nat) : List Nat := (at_ :: ((waiting s).map (·.applySsi)).filter (fun u => decide (at_ < u))).dedup

/-- The action would bring the steady planned load of some Nib above 90 %, at its own turn or at a later armed one (R252). -/
def steadyHigh (s : State) (a : Armed) : Bool :=
  let t := withAction a s
  (planSsis s a.applySsi).any (fun u => raisesAbove s (steadyAt s u) (steadyAt t u))

/-- The action with the changes `l`. -/
def withChanges (a : Armed) (l : List Change) : Armed := { a with turn := { a.turn with changes := l } }

/-- Steady admission of an action (R252): the changes that do not fit, in ascending order, disable their instances; answers the action so
changed and their keys. -/
def steadyFit (s : State) (a : Armed) : Armed × List Nat :=
  a.turn.changes.foldl (fun acc c =>
    let b := withChanges acc.1 (acc.1.turn.changes ++ [c])
    if steadyHigh s b then (withChanges acc.1 (acc.1.turn.changes ++ [{ c with disable := true }]), acc.2 ++ [c.key]) else (b, acc.2))
    (withChanges a [], [])

/-- The periods that an action's own transients cover among the key periods. -/
def coveredPeriods (a : Armed) (s : State) : List Nat :=
  (keyPeriods s).filter (fun p => a.turn.changes.any (fun c => (!c.atomic && c.fades.any (fadeIn p)))
    || (a.applySsi % 8 ≠ 0 && a.applySsi / 8 = p && !a.turn.changes.isEmpty))

/-- Some Nib is above 100 % in a period that the action's transients cover (R253). -/
def overBudget (a : Armed) (s : State) : Bool :=
  let t := withAction a s
  (coveredPeriods a t).any (fun p => aboveLoad t (loadsIn t p) 1 1)

/-- The Nibs above 100 % in those periods. -/
def overNibs (a : Armed) (s : State) : List Nat :=
  let t := withAction a s
  ((coveredPeriods a t).flatMap (fun p => let l := loadsIn t p; (loadedNibs l).filter (fun n => budget t < nibTime l n))).dedup

/-- The highest-numbered fading instance of the action on a Nib above 100 % (R254). -/
def nextAtomic (a : Armed) (s : State) : Option Nat :=
  let high := overNibs a s
  let l := a.turn.changes.filter (fun c => !c.atomic && !c.fades.isEmpty &&
    (match mapGet s.prog.insts c.key with | some i => high.contains (laneNib s i.lane) | none => false))
  l.foldl (fun m c => match m with | none => some c.key | some k => if k < c.key then some c.key else some k) none

/-- Convert crossfades into atomic changes until every Nib is at or below 100 % (R254); `fuel` bounds the number of
instances. None when a Nib stays above. -/
def convertFades (s : State) : Nat → Armed → Option Armed
  | 0, a => if overBudget a s then none else some a
  | n + 1, a =>
    if ¬ overBudget a s then some a
    else match nextAtomic a s with
    | none => none
    | some k =>
      let l := a.turn.changes.map (fun c => if c.key = k then { c with atomic := true } else c)
      convertFades s n { a with turn := { a.turn with changes := l } }

/-- FADE_ATOMIC warnings of the changes converted (R254): REQUESTED is the time asked for in ms. -/
def atomicWarnings (s : State) (a : Armed) : List Warning :=
  (a.turn.changes.filter (fun c => c.atomic && !c.fades.isEmpty)).map (fun c =>
    { code := 0x0701, group := 7, item := keyIndex c.key, applied := 0,
      requested := match mapGet s.prog.insts c.key with
        | some i =>
          let j := projected s c.key a.applySsi i
          paramsOf s c.key { j with params := c.params.foldl (fun t e => tabInsert e.1 e.2 t) j.params } 0x0606 / 100
        | none => 0 })

/-- The outcome of planning an action: admitted (perhaps with conversions), or a refusal (R253, R254, R257, R307). -/
def admitTurn (fit : Bool) (a : Armed) (s : State) : Except Status Armed :=
  let keys := a.turn.changes.map (·.key)
  let t := withAction a s
  if keys.any (fun k => 8 < (turnSsis t k).length) then .error .busy
  else if keys.any (fun k => 2 < splitsIn t k (a.applySsi / 8)) then .error .busy
  else if ¬ overBudget a s then .ok a
  else if fit then (match convertFades s a.turn.changes.length a with | some b => .ok b | none => .error .capacity)
  else .error .capacity

/-- Store an admitted action: armed when the command is timed, else waiting for its boundary. -/
def schedule (x : Ctx) (a : Armed) (s : State) : State :=
  let b := { a with order := s.ink.order }
  if x.timed then { s with ink := { s.ink with armed := s.ink.armed ++ [b], order := s.ink.order + 1 } }
  else { s with ink := { s.ink with sched := s.ink.sched ++ [b], order := s.ink.order + 1 } }

/-- When a change takes effect: the apply SSI, or the first period boundary at least 16 samples after the command is
taken (R300, R361). -/
def effectSsi (x : Ctx) (s : State) : Nat := if x.timed then x.at_ else up8 (s.stem.ssi + 16)

/-- The lengths of a payload with a header and `rec`-byte entries: inline up to `inl` entries, otherwise all in the
sheet, at most `max_` (R733). -/
def listLens (hdr rec inl max_ : Nat) : Nat → Nat → Bool := fun l sl =>
  (sl = 0 && hdr + rec ≤ l && (l - hdr) % rec = 0 && l ≤ hdr + rec * inl)
    || (l = 0 && hdr + rec ≤ sl && (sl - hdr) % rec = 0 && sl ≤ hdr + rec * max_)

/-- The COUNT field agrees with the entries that the payload holds. -/
def countFits (hdr rec ofs : Nat) : Ctx → Bool := fun x => u16 x.whole ofs * rec + hdr = x.whole.length

/-- The entries of a payload after its header. -/
def entriesOf (hdr rec : Nat) (p : Bytes) : List Bytes := chunks rec 2048 (p.drop hdr)

end Sys2Proof.Machine
end

