-- ==== Sys2Proof/Machine/Programs.lean ====
section
/-! DEFINITION. Instances of stroke programs: creating, deleting, setting and reading them (chapter 09, opcodes 0x0701
to 0x0711). -/

namespace Sys2Proof.Machine

/-! ### Addresses (R229, R271) -/

/-- What the numbering says of an index of a KIND: beyond the ZL9600's range, or beyond the variant's count. -/
def indexBad (kind index : Nat) : Bool := kindRange kind ≤ index
/-- Within the numbering but beyond the variant's count at the present rate. -/
def indexAbsent (s : State) (kind index : Nat) : Bool := kindCount s kind ≤ index && index < kindRange kind

/-- A warning of group 0x07. -/
def warn7 (code item : Nat) (req app : Int) : Warning :=
  { code := code, group := 7, item := item, requested := req, applied := app }

/-! ### Pool numbers of ALIGN.DELAY (R342, R343) -/

/-- The first pool source. -/
def srcPool (v : Variant) : Nat := 512 + 2 * channelsAt v 1 + busesOf v + matricesOf v
/-- The first pool sink. -/
def snkPool (v : Variant) : Nat := 512 + 2 * channelsAt v 1 + 32

/-- The lowest 8 consecutive free numbers of a pool. -/
def freeBlock (owner : Tab Nat) (lo hi : Nat) : Option Nat :=
  ((List.range (hi - lo - 7)).map (· + lo)).find? (fun a => (List.range 8).all (fun i => tabGet 0 owner (a + i) = 0))

/-- Give 8 numbers to an owner; 0 frees them. -/
def ownBlock (owner a : Nat) (t : Tab Nat) : Tab Nat := (List.range 8).foldl (fun t i => tabPut 0 t (a + i) owner) t

/-! ### Delay lines in Reservoir (R283) -/

/-- DLY_ON of the set that key `k` holds is 1, or an armed change sets it. -/
def delayTaken (s : State) (k : Nat) : Bool :=
  paramAt s k 0x0400 = 1 || (waiting s).any (fun a => a.turn.changes.any (fun c => paramKey s c.key 0x0400 = k && c.params.contains (0x0400, 1)))

/-- The lines that an instance holds or is to hold: one per channel of a strip, bus or matrix with its delay on, 8 per ALIGN.DELAY. -/
def linesHeld (s : State) (k : Nat) (i : Inst) : Nat :=
  if i.prog = progAlign then 8
  else if i.prog ≤ 4 ∧ delayTaken s (paramKey s k 0x0400) then (if i.prog = progLink2 then 2 else 1)
  else 0

/-- The lines that DLY_ON 1 takes: one for each channel of a strip and each bus of a group. -/
def linesNew (s : State) (k : Nat) (i : Inst) : Nat :=
  if i.prog = progLink2 then 2 else if i.prog = progBus then linkOf s (groupFirst s (keyIndex k)) + 1 else 1

/-- The lines held by every instance. -/
def linesTotal (s : State) : Nat := sumN (s.prog.insts.map (fun e => linesHeld s e.1 e.2))

/-- The lines that the variant's Reservoir holds. -/
def linesMax (s : State) : Nat :=
  match s.variant with
  | .zl9600 => if xmiFitted s then 2496 else 2368
  | .zl9400 => if xmiFitted s then 960 else 832
  | .zl9200 => 64

/-! ### INST.CREATE (R249, R252, R297) -/

/-- The channels that a new instance needs. -/
def neededKeys (prog kind index : Nat) : List Nat :=
  if prog = progLink2 then [instKey 0 index, instKey 0 (index + 1)] else [instKey kind index]

/-- A key is taken by an instance, or by the pair below it. -/
def keyTaken (s : State) (k : Nat) : Bool := (instAt s (keyKind k) (keyIndex k)).isSome

/-- Place a new instance: its Nib and lane, and whether it brings no active Nib above 90 %, now or once the armed changes have run. -/
def placement (s : State) (prog : Nat) : Option (Nat × Nat × Bool) :=
  let i : Inst := { prog := prog }
  let c := costOf s prog (param s i)
  let l := steadyLoads s
  let one := fun n => ({ nib := n, phase := phaseOf prog, cycles := c } : Load)
  match placeNib s l (phaseOf prog) c with
  | none => none
  | some n =>
    match nibLane s n with
    | none => none
    | some ln => some (n, ln, !(planSsis s s.stem.ssi).any (fun u => raisesAbove s (steadyAt s u) (one n :: steadyAt s u)))

/-- The reply of INST.CREATE. -/
def createData (s : State) (k : Nat) (i : Inst) : Bytes :=
  let n := if i.prog = progAnalyze then 0xFFFF else laneNib s i.lane
  le 2 n ++ le 2 i.lane ++ le 4 (steadyCost s k i) ++ le 2 (loadPct s (nibTime (steadyLoads s) n))

/-- Create the instance: its FIFOs begin ABSENT, so that its outputs are VALID from its first computed period. -/
def createInst (s : State) (k prog lane : Nat) (disabled : Bool) (name : Bytes) (pool : Option (Nat × Nat)) : State :=
  let s1 := match pool with
    | some (a, b) => { s with lig := { s.lig with srcOwner := ownBlock (k + 1) a s.lig.srcOwner,
                                                  snkOwner := ownBlock (k + 1) b s.lig.snkOwner } }
    | none => s
  let s2 := putInst k { prog := prog, name := name, lane := lane, disabled := disabled, pool := pool } s1
  if prog = progAnalyze then restartWindow (0x400 + keyIndex k) s2 else s2

/-- The command INST.CREATE. -/
def cmdInstCreate : Cmd where
  lens := inlineOnly 20
  range := fun x _ =>
    let kind := u8 x.p 0
    let prog := u8 x.p 1
    kind ≤ 3 && 1 ≤ prog && prog ≤ 7 && progKind prog = kind && (prog ≠ progLink2 || u16 x.p 2 % 2 = 0)
      && !indexBad kind (u16 x.p 2)
  body := fun x s =>
    let kind := u8 x.p 0
    let prog := u8 x.p 1
    let index := u16 x.p 2
    let k := instKey kind index
    if indexAbsent s kind index then
      if x.fit then { st := s, data := le 2 0xFFFF ++ le 2 0xFFFF ++ zeros 6, warns := [warn7 2 index index 0] } else fail .capacity s
    else if (neededKeys prog kind index).any (keyTaken s) then fail .busy s
    else if prog = progAnalyze then
      let t := createInst s k prog 0xFFFF false (slice x.p 4 16) none
      { st := t, data := createData t k ((mapGet t.prog.insts k).getD { prog := prog }) }
    else
      let end_ := ligSize s.variant
      let pool := match freeBlock s.lig.srcOwner (srcPool s.variant) end_, freeBlock s.lig.snkOwner (snkPool s.variant) end_ with
        | some a, some b => some (a, b)
        | _, _ => none
      if prog = progAlign ∧ (pool = none ∨ linesMax s < linesTotal s + 8) then fail .capacity s
      else match placement s prog with
      | none => fail .capacity s
      | some (_, ln, ok) =>
        if ¬ ok ∧ ¬ x.fit then fail .capacity s
        else
          let t := createInst s k prog ln (!ok) (slice x.p 4 16) (if prog = progAlign then pool else none)
          { st := t, data := createData t k ((mapGet t.prog.insts k).getD { prog := prog }),
            warns := if ok then [] else [warn7 6 index index 0] }

/-! ### INST.DELETE (R298, R299) -/

/-- The command INST.DELETE: the fade starts at the apply boundary. -/
def cmdInstDelete : Cmd where
  lens := inlineOnly 4
  range := fun x _ => u8 x.p 0 ≤ 3 && !indexBad (u8 x.p 0) (u16 x.p 2)
  body := fun x s => deleteBody x s
  arm := some fun x s => deleteBody x s
where
  /-- Arm the removal of the instance. -/
  deleteBody (x : Ctx) (s : State) : Res :=
    if indexAbsent s (u8 x.p 0) (u16 x.p 2) then
      if x.fit then { st := s, warns := [warn7 2 (u16 x.p 2) (u16 x.p 2) 0] } else fail .capacity s
    else match instAt s (u8 x.p 0) (u16 x.p 2) with
    | none => fail .badParam s
    | some (k, i) =>
      if i.fadeEnd.isSome ∨ (waiting s).any (fun a => a.turn.remove = some k) then fail .busy s
      else
        let a : Armed := { client := x.client, seq := x.seq, opcode := 0x0702, applySsi := up8 (effectSsi x s),
                           params := x.whole, fit := x.fit, turn := { remove := some k } }
        match admitTurn x.fit a s with
        | .error e => fail e s
        | .ok a => { st := schedule x a s }

/-- The removal executes: the outputs fade over SHADE_TIME, and the instance goes when the fade ends. -/
def startRemoval (k : Nat) (s : State) : State :=
  let u := s.stem.ssi
  modInst k (fun i =>
    let sh := shadeOf i.prog (paramsOf s k i)
    let n := hundredths s sh.1
    { i with fadeEnd := some (u + n),
             ramps := tabPut none i.ramps 0x60000 (some { g0 := f32One, g1 := 0, start := u, len := n, shape := sh.2 }) }) s

/-- An action turns only the instance of a key: INST.SET, INST.COEF_SET, FOLIO.WRITE or INST.DELETE. -/
def ownAction (k : Nat) (a : Armed) : Bool :=
  (a.opcode = 0x0703 || a.opcode = 0x0710 || a.opcode = 0x0822) && (changeOn a k).isSome

/-- Remove an instance: its own turns end with it and their clients are told, a recall skips it, its pool numbers and
FIFOs are freed (R299, R343). -/
def removeInst (k : Nat) (s : State) : State :=
  let own := (waiting s).filter (ownAction k)
  let strip := fun (a : Armed) => { a with turn := { a.turn with changes := a.turn.changes.filter (fun c => c.key ≠ k) } }
  let s1 := own.foldl (fun t a => forget a t) s
  let s2 := { s1 with ink := { s1.ink with armed := s1.ink.armed.map strip, sched := s1.ink.sched.map strip } }
  let s3 := match (mapGet s2.prog.insts k).bind (·.pool) with
    | some (a, b) => { s2 with lig := { s2.lig with srcOwner := ownBlock 0 a s2.lig.srcOwner, snkOwner := ownBlock 0 b s2.lig.snkOwner } }
    | none => s2
  let ms := { s3.ms with xbus := if keyKind k = 1 then tabErase (keyIndex k) s3.ms.xbus else s3.ms.xbus }
  let lig := { s3.lig with snkOwner := if keyKind k = 1 then s3.lig.snkOwner.filter (fun e => e.2 ≠ 0x2000000 + keyIndex k) else s3.lig.snkOwner }
  own.foldl (fun t a => tellDropped .badParam a t) (dropInst k { s3 with ms := ms, lig := lig })

/-- The instances whose fade has ended are removed (R298). -/
def removeFaded (s : State) : State :=
  ((s.prog.insts.filter (fun e => match e.2.fadeEnd with | some t => t ≤ s.stem.ssi | none => false)).map (·.1)).foldl
    (fun t k => removeInst k t) s

/-! ### INST.SET (R275, R277, R280, R283, R286, R300) -/

/-- The entries of an INST.SET payload. -/
def setEntries (p : Bytes) : List (Nat × Int) := (entriesOf 8 8 p).map (fun e => (u16 e 0, i32 e 4))

/-- A parameter number that only the variant's count keeps from the program: a send to a bus or matrix beyond it (R229). -/
def paramAbsent (s : State) (prog id : Nat) : Bool :=
  (prog ≤ 2 && ((0x1000 + busesOf s.variant ≤ id && id < 0x1100) || (0x1100 + busesOf s.variant ≤ id && id < 0x1200)))
    || (prog = 3 && ((0x2000 + matricesOf s.variant ≤ id && id < 0x2080) || (0x2100 + matricesOf s.variant ≤ id && id < 0x2180)))

/-- The bus that a send parameter names. -/
def sendBus (id : Nat) : Nat := id % 256

/-- A send to a member of a group other than its first (R277). -/
def sendToMember (s : State) (prog : Nat) (e : Nat × Int) : Bool :=
  prog ≤ 2 && 0x1000 ≤ e.1 && e.1 < 0x1200 && groupMember s (sendBus e.1)

/-- Setting LINK needs every member bus to exist and to belong to no other group (R280): its present group is bus `n`'s own. -/
def linkOk (s : State) (n : Nat) (v : Int) : Bool :=
  (List.range v.toNat).all (fun j =>
    let m := n + j + 1
    (mapGet s.prog.insts (instKey 1 m)).isSome && (groupFirst s m = m || groupFirst s m = n) && linkOf s m = 0) && (v = 0 || !groupMember s n)

/-- An entry of INST.SET is legal for the instance. -/
def entryOk (s : State) (k : Nat) (i : Inst) (e : Nat × Int) : Bool :=
  match specOf s i.prog e.1 with
  | some p => inRange p e.1 e.2 && !sendToMember s i.prog e && (e.1 ≠ 0x0010 || i.prog ≠ 3 || linkOk s (keyIndex k) e.2)
  | none => paramAbsent s i.prog e.1

/-- A change to or from INS_MODE 0 (R286). -/
def insertSwitch (s : State) (k : Nat) (i : Inst) (e : Nat × Int) : Bool :=
  e.1 = 0x0500 && (paramsOf s k i 0x0500 = 0) ≠ (e.2 = 0)

/-- An entry needs ENGINEER. -/
def entryEngineer (s : State) (k : Nat) (i : Inst) (e : Nat × Int) : Bool :=
  ((specOf s i.prog e.1).map (·.eng)).getD false || insertSwitch s k i e

/-- An entry is accepted in COMMISSION only (R280, R286). -/
def entryCommission (s : State) (k : Nat) (i : Inst) (e : Nat × Int) : Bool :=
  insertSwitch s k i e || (e.1 = 0x0010 && i.prog = 3)

/-- An entry asks for more than the engine has: a delay above DMAX, or a delay line beyond the Reservoir's (R275, R283). -/
def entryTooMuch (s : State) (i : Inst) (e : Nat × Int) : Bool :=
  ((e.1 = 0x0401 && i.prog ≤ 4) || (0x8000 ≤ e.1 && e.1 % 16 = 0)) && (delayMax s : Int) < e.2

/-- An entry that only the variant's counts keep from the instance: a send to an absent bus or matrix, or the INPUT of an ALIGN.DELAY
that names an absent bus (R229). -/
def settingAbsent (s : State) (i : Inst) (e : Nat × Int) : Bool :=
  paramAbsent s i.prog e.1 || (i.prog = progAlign && e.1 % 16 = 3 && (busesOf s.variant : Int) ≤ e.2)

/-- An entry takes delay lines beyond the Reservoir's: DLY_ON 1, or a LINK that adds buses with their delay on (R283). -/
def entryLines (s : State) (k : Nat) (i : Inst) (e : Nat × Int) : Bool :=
  i.prog ≤ 4 &&
    ((e.1 = 0x0400 && e.2 = 1 && !delayTaken s (paramKey s k 0x0400) && linesMax s < linesTotal s + linesNew s k i) ||
     (i.prog = progBus && e.1 = 0x0010 && delayTaken s k && (linesMax s : Int) < linesTotal s + e.2 - (linkOf s (keyIndex k) : Nat)))

/-- Entries with their clamps and omissions under FIT; none when one is refused with CAPACITY (R13, R14). -/
def fitEntries (s : State) (k : Nat) (i : Inst) (fit : Bool) (l : List (Nat × Int)) : Option (List (Nat × Int) × List Warning) :=
  let over_ := fun (e : Nat × Int) => entryTooMuch s i e
  let line := fun (e : Nat × Int) => entryLines s k i e
  let gone := fun (e : Nat × Int) => settingAbsent s i e
  if ¬ fit ∧ l.any (fun e => over_ e || line e || gone e) then none
  else some ((l.filter (fun e => !gone e && !line e)).map (fun e => if over_ e then (e.1, (delayMax s : Int)) else e),
    l.filterMap (fun e => if gone e then some (warn7 2 (keyIndex k) e.1 0)
      else if over_ e then some (warn7 1 (keyIndex k) e.2 (delayMax s)) else if line e then some (warn7 1 (keyIndex k) 1 0) else none))

/-- Sends to buses that do not exist (R278). -/
def noBusWarnings (s : State) (k : Nat) (i : Inst) (l : List (Nat × Int)) : List Warning :=
  (l.filter (fun e => i.prog ≤ 2 && 0x1000 ≤ e.1 && e.1 < 0x1100 && (mapGet s.prog.insts (instKey 1 (sendBus e.1))).isNone)).map
    (fun e => warn7 0x0702 (keyIndex k) (sendBus e.1) 0)

/-- The instance with a change made. -/
def withParams (i : Inst) (l : List (Nat × Int)) : Inst := { i with params := l.foldl (fun t e => tabInsert e.1 e.2 t) i.params }

/-- The reply of INST.SET: AT_SSI, COST and PLAN afterwards, with `t` the state as planned from then on. -/
def setData (t : State) (k : Nat) (at_ : Nat) : Bytes :=
  let i := (mapGet t.prog.insts k).getD { prog := 0 }
  le 8 at_ ++ le 4 (steadyCost t k i) ++ le 2 (if i.lane = 0xFFFF then 0 else loadPct t (nibTime (steadyLoads t) (laneNib t i.lane))) ++
    zeros 2

/-- Arm a change of one instance: steady admission (R252), transients (R253, R254), the reply. -/
def armChange (op : Nat) (x : Ctx) (k : Nat) (i : Inst) (l : List (Nat × Int)) (coefs : List (Nat × List F32))
    (expert : List Nat) (warns : List Warning) (s : State) : Res :=
  let at_ := effectSsi x s
  let pk := paramKey s k 0x0600
  let owner := (mapGet s.prog.insts pk).getD i
  let pf := planFades s pk owner at_ l coefs
  let c : Change := { key := k, params := l, coefs := coefs, expert := expert, fades := pf.1 }
  let a0 : Armed := { client := x.client, seq := x.seq, opcode := op, applySsi := at_, params := x.whole, fit := x.fit, turn := { changes := [c] } }
  let high := phaseOf i.prog ≠ 0 && steadyHigh s a0
  if high ∧ ¬ x.fit then fail .capacity s
  else
    match admitTurn x.fit (withChanges a0 [{ c with disable := high }]) s with
    | .error e => fail e s
    | .ok a => { st := schedule x a s, data := setData (planAt (withAction a0 s) at_) pk at_,
                 warns := warns ++ pf.2 ++ atomicWarnings s a ++ (if high then [warn7 6 (keyIndex k) (keyIndex k) 0] else []) }

/-- The body of INST.SET. -/
def setBody (x : Ctx) (s : State) : Res :=
  let p := x.whole
  let kind := u8 p 0
  let index := u16 p 2
  if indexAbsent s kind index then
    if x.fit then { st := s, data := le 8 (effectSsi x s) ++ zeros 8, warns := [warn7 2 index index 0] } else fail .capacity s
  else match instAt s kind index with
  | none => fail .badParam s
  | some (k, i) =>
    let l := setEntries p
    if i.fadeEnd.isSome ∧ ¬ effectSsi x s < i.fadeEnd.getD 0 then fail .badParam s
    else if l.any (entryCommission s k i) ∧ s.power.mode ≠ .commission then fail .mode s
    else match fitEntries s k i x.fit l with
    | none => fail .capacity s
    | some (l', w) => armChange 0x0703 x k i l' [] [] (w ++ noBusWarnings s k i l') s

/-- The instance of a request's KIND and INDEX. -/
def reqInst (x : Ctx) (s : State) : Option (Nat × Inst) := instAt s (u8 x.whole 0) (u16 x.whole 2)

/-- The command INST.SET (R300). -/
def cmdInstSet : Cmd where
  lens := listLens 8 8 27 511
  fits := countFits 8 8 4
  role := fun x s => match reqInst x s with
    | some (k, i) => !(setEntries x.whole).any (entryEngineer s k i) || roleMeets x.role 3
    | none => true
  range := fun x s =>
    let p := x.whole
    let l := setEntries p
    u8 p 0 ≤ 3 && !indexBad (u8 p 0) (u16 p 2) && (l.map (·.1)).dedup.length = l.length
      && (match reqInst x s with | some (k, i) => l.all (entryOk s k i) | none => true)
  body := setBody
  arm := some setBody

/-! ### Reading (R29, R301) -/

/-- The coefficient words written for the stages of a parameter. -/
def expertWords (i : Inst) (id : Nat) : List F32 :=
  (stagesOf id).flatMap (fun st => (coefStages st).flatMap (fun c => (mapGet i.coefs c).getD []))

/-- The basic value that a parameter reads as (R29): where words of its stage were written, the nearest value that they represent, which the
manual gives no formula for (log 97). -/
def paramRead (s : State) (k id : Nat) : Int :=
  match mapGet s.prog.insts (paramKey s k id) with
  | none => 0
  | some i =>
    let w := expertWords i id
    let v := basicValue s i.prog id (param s i id)
    match specOf s i.prog id with
    | some p => if w.isEmpty ∨ id = 0x0200 then v else clampI p.lo p.hi (Config.nearestParam id w)
    | none => v

/-- One entry in INST.SET form. -/
def paramEntry (s : State) (k id : Nat) : Bytes := le 2 id ++ zeros 2 ++ leI 4 (paramRead s k id)

/-- EXPERT_SET warnings of the parameters read: words written by FOLIO.WRITE, and stages with expert coefficients. -/
def expertWarnings (i : Inst) (k : Nat) (ids : List Nat) : List Warning :=
  (ids.filter (fun id => i.expert.contains id
    || (stagesOf id).any (fun st => (coefStages st).any (fun c => i.coefs.any (fun e => e.1 = c))))).map
    (fun id => warn7 4 (keyIndex k) id 0)

/-- The parameter IDs that INST.GET names. -/
def getIds (p : Bytes) : List Nat := (entriesOf 6 2 p).map (fun e => u16 e 0)

/-- The command INST.GET: with COUNT 0 every parameter in a reply sheet, the first 512 that it holds (log 30). -/
def cmdInstGet : Cmd where
  lens := fun l sl => sl = 0 && 6 ≤ l && (l - 6) % 2 = 0 && l ≤ 60
  fits := countFits 6 2 4
  range := fun x s => u8 x.p 0 ≤ 3 && !indexBad (u8 x.p 0) (u16 x.p 2)
    && (match reqInst x s with
      | some (_, i) => (getIds x.p).all (fun id => (specOf s i.prog id).isSome || paramAbsent s i.prog id)
      | none => true)
  body := fun x s =>
    if indexAbsent s (u8 x.p 0) (u16 x.p 2) then
      if x.fit then { st := s, warns := [warn7 2 (u16 x.p 2) (u16 x.p 2) 0] } else fail .capacity s
    else match reqInst x s with
    | none => fail .badParam s
    | some (k, i) =>
      let ids := getIds x.p
      if ids.any (fun id => (specOf s i.prog id).isNone) ∧ ¬ x.fit then fail .capacity s
      else if ids.isEmpty then
        let all := (idsOf s i.prog).take 512
        { st := s, sheet := some (all.flatMap (paramEntry s k)), warns := expertWarnings i k all }
      else
        let ok := ids.filter (fun id => (specOf s i.prog id).isSome)
        { st := s, data := ok.flatMap (paramEntry s k),
          warns := expertWarnings i k ok ++ (ids.filter (fun id => (specOf s i.prog id).isNone)).map (fun id => warn7 2 (keyIndex k) id 0) }

/-- STATE of an instance. -/
def instState (i : Inst) : Nat := if i.disabled then 2 else if i.shed then 1 else 0

/-- One record of INST.LIST, 24 bytes. -/
def instRecord (s : State) (e : Nat × Inst) : Bytes :=
  le 2 (keyIndex e.1) ++ le 1 e.2.prog ++ le 1 (instState e.2) ++
    le 2 (if e.2.prog = progAnalyze ∨ e.2.shed then 0xFFFF else laneNib s e.2.lane) ++ le 2 e.2.lane ++ padTo 16 e.2.name

/-- The command INST.LIST: instances from index START (log 30). -/
def cmdInstList : Cmd where
  lens := inlineOnly 3
  range := fun x _ => u8 x.p 0 ≤ 3
  body := fun x s =>
    let l := (s.prog.insts.filter (fun e => keyKind e.1 = u8 x.p 0 && u16 x.p 1 ≤ keyIndex e.1)).take 170
    { st := s, sheet := if l.isEmpty then none else some (l.flatMap (instRecord s)) }

/-- The command INST.RENAME. -/
def cmdInstRename : Cmd where
  lens := inlineOnly 20
  range := fun x _ => u8 x.p 0 ≤ 3 && !indexBad (u8 x.p 0) (u16 x.p 2)
  body := fun x s =>
    if indexAbsent s (u8 x.p 0) (u16 x.p 2) then
      if x.fit then { st := s, warns := [warn7 2 (u16 x.p 2) (u16 x.p 2) 0] } else fail .capacity s
    else match reqInst x s with
    | none => fail .badParam s
    | some (k, _) => { st := modInst k (fun i => { i with name := slice x.p 4 16 }) s }

/-- The ASCII name of a program. -/
def progName : Nat → Bytes
  | 1 => [0x53, 0x54, 0x52, 0x49, 0x50, 0x2E, 0x4D, 0x4F, 0x4E, 0x4F]
  | 2 => [0x53, 0x54, 0x52, 0x49, 0x50, 0x2E, 0x4C, 0x49, 0x4E, 0x4B, 0x32]
  | 3 => [0x42, 0x55, 0x53, 0x2E, 0x53, 0x55, 0x4D]
  | 4 => [0x4D, 0x41, 0x54, 0x52, 0x49, 0x58]
  | 5 => [0x41, 0x4C, 0x49, 0x47, 0x4E, 0x2E, 0x44, 0x45, 0x4C, 0x41, 0x59]
  | 6 => [0x47, 0x45, 0x4E]
  | _ => [0x41, 0x4E, 0x41, 0x4C, 0x59, 0x5A, 0x45]

/-- The command PROG.LIST (R270): VERSION is part of the firmware image and is the running firmware's (log 31). -/
def cmdProgList : Cmd where
  lens := inlineOnly 0
  body := fun _ s => { st := s, sheet := some ((List.range 7).flatMap (fun j =>
    le 1 (j + 1) ++ zeros 3 ++ le 4 s.boot.fwVer ++ padTo 24 (progName (j + 1)))) }

/-! ### Coefficients (R302) -/

/-- The section of a STAGE is enabled for the parameters `g`. -/
def stageEnabled (g : Nat → Int) (st : Nat) : Bool :=
  if st = 0 then g 0x0100 = 1
  else if st = 1 then g 0x0100 = 1 && g 0x0102 ≠ 0
  else if st = 2 then g 0x0103 = 1
  else if st = 3 then g 0x0103 = 1 && g 0x0105 ≠ 0
  else g 0x0200 = 1 && g (0x0210 + 16 * (st - 4)) = 1

/-- |x| < |y| of exact values. -/
def dyLt (a b : Dy) : Bool := (a.add b.neg).m < 0

/-- |a2| < 1 and |a1| < 1 + a2 of a coefficient set (R302). -/
def coefStable (c : List F32) : Bool :=
  match c.map f32Dy with
  | [some _, some _, some _, some a1, some a2] =>
    let one : Dy := { m := 1, e := 0 }
    let abs := fun (d : Dy) => ({ d with m := d.m.natAbs } : Dy)
    dyLt (abs a2) one && dyLt (abs a1) (one.add a2)
  | _ => false

/-- The five coefficients of a payload. -/
def coefsAt (p : Bytes) (o : Nat) : List F32 := (List.range 5).map (fun j => BitVec.ofNat 32 (u32 p (o + 4 * j)))

/-- The stage exists in the program: HPF and LPF belong to strips. -/
def stageExists (prog st : Nat) : Bool := st ≤ 11 && (prog ≤ 2 || (4 ≤ st && prog ≤ 4))

/-- The body of INST.COEF_SET. -/
def coefBody (x : Ctx) (s : State) : Res :=
  if indexAbsent s (u8 x.p 0) (u16 x.p 2) then
    if x.fit then { st := s, data := le 8 (effectSsi x s) ++ zeros 8, warns := [warn7 2 (u16 x.p 2) (u16 x.p 2) 0] } else fail .capacity s
  else match reqInst x s with
  | none => fail .badParam s
  | some (k, i) =>
    let st := u8 x.p 1
    let g := paramsOf s k (projected s (paramKey s k 0x0200) (effectSsi x s) ((mapGet s.prog.insts (paramKey s k 0x0200)).getD i))
    if ¬ stageExists i.prog st ∨ ¬ stageEnabled g st ∨ ¬ coefStable (coefsAt x.p 4) then fail .badParam s
    else armChange 0x0710 x k i [] [(st, coefsAt x.p 4)] [] [] s

/-- The command INST.COEF_SET. -/
def cmdInstCoefSet : Cmd where
  lens := inlineOnly 24
  range := fun x _ => u8 x.p 0 ≤ 2 && u8 x.p 1 ≤ 11 && !indexBad (u8 x.p 0) (u16 x.p 2)
  body := coefBody
  arm := some coefBody

/-- The command INST.COEF_GET. -/
def cmdInstCoefGet : Cmd where
  lens := inlineOnly 4
  range := fun x _ => u8 x.p 0 ≤ 2 && u8 x.p 1 ≤ 11 && !indexBad (u8 x.p 0) (u16 x.p 2)
  body := fun x s =>
    if indexAbsent s (u8 x.p 0) (u16 x.p 2) then
      if x.fit then { st := s, warns := [warn7 2 (u16 x.p 2) (u16 x.p 2) 0] } else fail .capacity s
    else match reqInst x s with
    | none => fail .badParam s
    | some (k, i) =>
      let owner := (mapGet s.prog.insts (paramKey s k 0x0200)).getD i
      if ¬ stageExists i.prog (u8 x.p 1) ∨ ¬ stageEnabled (paramsOf s k i) (u8 x.p 1) then fail .badParam s
      else match mapGet owner.coefs (u8 x.p 1) with
      | some c => answer (c.flatMap (fun v => le 4 v.toNat) ++ le 1 1) s
      | none => answer ((designWords s (paramsOf s k i) (u8 x.p 1)).flatMap (fun v => le 4 v.toNat) ++ le 1 0) s

/-! ### The meanings -/

/-- INST.CREATE. -/
def execInstCreate (r : Request) (s : State) : Host.Outcome State Fault Refusal := serve 0x0701 cmdInstCreate r s
/-- INST.DELETE. -/
def execInstDelete (r : Request) (s : State) : Host.Outcome State Fault Refusal := serve 0x0702 cmdInstDelete r s
/-- INST.SET. -/
def execInstSet (r : Request) (s : State) : Host.Outcome State Fault Refusal := serve 0x0703 cmdInstSet r s
/-- INST.GET. -/
def execInstGet (r : Request) (s : State) : Host.Outcome State Fault Refusal := serve 0x0704 cmdInstGet r s
/-- INST.LIST. -/
def execInstList (r : Request) (s : State) : Host.Outcome State Fault Refusal := serve 0x0705 cmdInstList r s
/-- INST.RENAME. -/
def execInstRename (r : Request) (s : State) : Host.Outcome State Fault Refusal := serve 0x0706 cmdInstRename r s
/-- PROG.LIST. -/
def execProgList (r : Request) (s : State) : Host.Outcome State Fault Refusal := serve 0x0707 cmdProgList r s
/-- INST.COEF_SET. -/
def execInstCoefSet (r : Request) (s : State) : Host.Outcome State Fault Refusal := serve 0x0710 cmdInstCoefSet r s
/-- INST.COEF_GET. -/
def execInstCoefGet (r : Request) (s : State) : Host.Outcome State Fault Refusal := serve 0x0711 cmdInstCoefGet r s
/-- The crossfades that have ended are dropped, and held changes start (R316). -/
def execStageCrossfadeEnd (s : State) : Host.Outcome State Fault Refusal := .next (endFades s)

end Sys2Proof.Machine
end

