-- ==== Sys2Proof/Machine/Ligature.lean ====
section
/-! DEFINITION. Ligature's numbering, route words, route changes and commands (chapter 11, opcodes 0x0601 to 0x0607). -/

namespace Sys2Proof.Machine

/-! ### Sources and sinks (R342 to R344) -/

/-- The first matrix output. -/
def ligMatrix (v : Variant) : Nat := ligBus v + busesOf v

/-- A Serif slot of a port that the variant does not have (R229). -/
def serifAbsent (v : Variant) (n : Nat) : Bool := serifPorts v * 32 ≤ n && n < 512

/-- A number beyond the variant's size but within the ZL9600's numbering. -/
def ligAbsent (v : Variant) (n : Nat) : Bool := ligSize v ≤ n && n < 8192

/-- An input source: a Serif receive slot, or a pool source bound to a receive channel (chapter 11). -/
def isInput (s : State) (n : Nat) : Bool := n < 512 || 0x1000000 ≤ tabGet 0 s.lig.srcOwner n

/-- A Serif transmit slot. -/
def isSerifSink (n : Nat) : Bool := n < 512

/-- The running program of a channel. -/
def progAt (s : State) (kind index : Nat) : Option Nat := (instAt s kind index).map (fun e => e.2.prog)

/-- A source has an owner (R362). -/
def sourceOwned (s : State) (n : Nat) : Bool :=
  let v := s.variant
  if n < 512 then !serifAbsent v n
  else if n < ligInsert v then (match progAt s 0 (n - 512) with | some p => p ≠ progAlign | none => false)
  else if n < ligBus v then (match progAt s 0 (n - ligInsert v) with | some p => p ≤ 2 | none => false)
  else if n < ligMatrix v then (progAt s 1 (n - ligBus v)).isSome
  else if n < srcPool v then (progAt s 2 (n - ligMatrix v)).isSome
  else tabGet 0 s.lig.srcOwner n ≠ 0

/-- A sink has an owner (R362). -/
def sinkOwned (s : State) (n : Nat) : Bool :=
  let v := s.variant
  if n < 512 then !serifAbsent v n
  else if n < ligInsert v then (match progAt s 0 (n - 512) with | some p => p ≤ 2 | none => false)
  else if n < ligBus v then (match progAt s 0 (n - ligInsert v) with | some p => p ≤ 2 | none => false)
  else if n < snkPool v then (progAt s 3 ((n - ligBus v) / 2)).isSome
  else tabGet 0 s.lig.snkOwner n ≠ 0

/-! ### Route words (R346, R347, R350) -/

/-- SRC. -/
def wSrc (w : Nat) : Nat := fld w 0 13
/-- EN. -/
def wEn (w : Nat) : Bool := bit w 13
/-- HAIRLINE. -/
def wHair (w : Nat) : Bool := bit w 14
/-- BACKUP. -/
def wBackup (w : Nat) : Nat := fld w 15 13
/-- FADE. -/
def wFade (w : Nat) : Nat := fld w 28 4
/-- The word has a backup. -/
def hasBackup (w : Nat) : Bool := wEn w && wBackup w ≠ wSrc w

/-- The crossfade time of a FADE code in ms (R347). -/
def fadeMs (c : Nat) : Nat := [0, 1, 2, 3, 5, 8, 10, 15, 20, 30, 50, 80, 100, 150, 200, 256].getD c 0

/-- A Hairline word is legal only on a Serif transmit slot between input sources (R350). -/
def hairOk (s : State) (sink w : Nat) : Bool :=
  !(wEn w && wHair w) || (isSerifSink sink && isInput s (wSrc w) && isInput s (wBackup w))

/-! ### Sinks -/

/-- Sink `n`. -/
def sinkOf (s : State) (n : Nat) : Sink := tabGet {} s.lig.sinks n
/-- Change sink `n`. -/
def modSink (n : Nat) (f : Sink → Sink) (s : State) : State :=
  { s with lig := { s.lig with sinks := tabMod {} s.lig.sinks n f } }

/-- The pending change of a sink: its SSI and word (R351, R352). -/
def pendingRoute (s : State) (n : Nat) : Option (Nat × Nat) :=
  ((waiting s).reverse.findSome? (fun a => (a.turn.routes.find? (fun r => r.1 = n)).map (fun r => (a.applySsi, r.2))))

/-- A sink already has a pending change at a different SSI (R352). -/
def routeBusy (s : State) (at_ : Nat) (n : Nat) : Bool :=
  (waiting s).any (fun a => a.applySsi ≠ at_ && a.turn.routes.any (fun r => r.1 = n))

/-- Set bit of the word that a sink would otherwise hold. -/
def heldWord (s : State) (n : Nat) : Nat := match pendingRoute s n with | some p => p.2 | none => (sinkOf s n).live

/-- Start a crossfade of a sink towards a word and selection (R355): the FADE of the word being taken. A word with EN
clear carries no FADE (R346). -/
def beginFade (s : State) (word sel : Nat) (k : Sink) : Sink :=
  let m := if wEn word then roundDivN (fadeMs (wFade word) * fsOp s) 1000 else 0
  { k with oldWord := k.live, oldSel := k.sel, live := word, sel := sel, fadeLen := m, fadePos := 0 }

/-- The selection and delay of two words are the same: no source change. -/
def sameSource (a b : Nat) : Bool := wEn a = wEn b && wSrc a = wSrc b && wHair a = wHair b

/-- A sink takes a new LIVE word (R353, R354): held while a crossfade runs; an identical word changes nothing. -/
def takeWord (n word : Nat) (s : State) : State :=
  let k := sinkOf s n
  let lig := fun (t : State) => { t with lig := { t.lig with switches := t.lig.switches + 1 } }
  if k.fadePos < k.fadeLen then
    modSink n (fun k => { k with held := some word, next := word }) { s with lig := { s.lig with heldCount := s.lig.heldCount + 1 } }
  else if word = k.live then s
  else if sameSource word k.live ∧ k.sel = 0 then
    lig (modSink n (fun k => { k with live := word, next := word, absCount := 0, bakCount := 0, want := false, cmdHold := false }) s)
  else
    lig (modSink n (fun k => { beginFade s word 0 k with next := word, absCount := 0, bakCount := 0, want := false, good := 0, cmdHold := false }) s)

/-- The sinks of a turn take their words, but for those that a later change of the same SSI replaces (R351, R352). -/
def takeRoutes (q : Turn) (s : State) : State :=
  (q.routes.filter (fun r => !q.merged.contains r.1)).foldl (fun t r => takeWord r.1 r.2 t) s

/-! ### Moves to and from the backup (R357, R358, R365) -/

/-- Gather a move for the period's FALLBACK event: the cause and SSI are the first's (R365, log 33). -/
def gather (n cause u : Nat) : Option (Nat × Nat × Nat × Nat × Nat) → Option (Nat × Nat × Nat × Nat × Nat)
  | none => some (1, n, n, cause, u)
  | some (c, lo, hi, ca, v) => some (c + 1, min lo n, max hi n, ca, v)

/-- A move is done when its crossfade has ended: it is counted, and its FALLBACK event gathered (chapter 11's example). -/
def moveDone (n : Nat) (s : State) : State :=
  match (sinkOf s n).moving with
  | none => s
  | some (dir, cause) =>
    let s1 := modSink n (fun k => { k with moving := none }) s
    if dir = 0 then
      { s1 with lig := { s1.lig with fallbacks := s1.lig.fallbacks + 1, toBackup := gather n cause s.stem.ssi s1.lig.toBackup } }
    else
      { s1 with lig := { s1.lig with returns := s1.lig.returns + 1, toPrimary := gather n cause s.stem.ssi s1.lig.toPrimary } }

/-- A move without a crossfade is done at once. -/
def settleMove (n : Nat) (s : State) : State := if (sinkOf s n).fadeLen = 0 then moveDone n s else s

/-- A sink takes its backup. -/
def toBackup (n cause : Nat) (s : State) : State :=
  settleMove n (modSink n (fun k => { beginFade s k.live 1 k with want := false, bakCount := 0, moving := some (0, cause) }) s)

/-- A sink returns to its primary. -/
def toPrimary (n cause : Nat) (s : State) : State :=
  settleMove n (modSink n (fun k => { beginFade s k.live 0 k with want := false, absCount := 0, cmdHold := false, moving := some (1, cause) }) s)

/-- LIG.FALLBACK executes (chapter 11): taking the backup holds the sink there; in a crossfade it waits for its end (log 76). -/
def commandFallback (n action : Nat) (s : State) : State :=
  let k := sinkOf s n
  if ¬ hasBackup k.live then s
  else if k.fadePos < k.fadeLen then modSink n (fun k => { k with cmd := some action }) s
  else if action = 1 then modSink n (fun k => { k with cmdHold := true }) (if k.sel = 1 then s else toBackup n 3 s)
  else if k.sel = 1 then toPrimary n 3 s
  else modSink n (fun k => { k with cmdHold := false, want := false }) s

/-- The crossfades that have ended: a held word, else a command that waits, is taken at the sample after (R353). -/
def endRouteFades (s : State) : State :=
  s.lig.sinks.foldl (fun t e =>
    let k := sinkOf t e.1
    if k.fadeLen ≠ 0 ∧ k.fadeLen ≤ k.fadePos then
      let t1 := modSink e.1 (fun k => { k with fadeLen := 0, fadePos := 0, held := none, cmd := none }) (moveDone e.1 t)
      match k.held, k.cmd with
      | some w, _ => takeWord e.1 w t1
      | none, some a => commandFallback e.1 a t1
      | none, none => t1
    else t) s

/-- The payload of FALLBACK. -/
def fallbackData (m : Nat × Nat × Nat × Nat × Nat) (dir : Nat) : Bytes :=
  match m with | (c, lo, hi, cause, _) => le 2 c ++ le 2 lo ++ le 2 hi ++ le 1 dir ++ le 1 cause

/-- At most one FALLBACK event per period and direction (R365). -/
def flushMoves (s : State) : State :=
  let s1 := match s.lig.toBackup with
    | some m => raiseAt m.2.2.2.2 0x0602 (fallbackData m 0) { s with lig := { s.lig with toBackup := none } }
    | none => s
  match s1.lig.toPrimary with
  | some m => raiseAt m.2.2.2.2 0x0602 (fallbackData m 1) { s1 with lig := { s1.lig with toPrimary := none } }
  | none => s1

/-- A sink gain takes a new value and ramps (R359). -/
def setSinkGain (g : Int) (n : Nat) (s : State) : State :=
  let u := s.stem.ssi
  modSink n (fun k =>
    let g0 := match k.ramp with | some r => (if u ≤ r.start then r.g0 else rampAt r (u - 1)) | none => gainF32 k.cfg.gain
    let g1 := gainF32 g
    { k with cfg := { k.cfg with gain := g },
             ramp := if g0 = g1 then none else some { g0 := g0, g1 := g1, start := u, len := hundredths s k.cfg.shade, shape := k.cfg.shape } }) s

/-- A list of consecutive sinks. -/
def sinkRun (n count : Nat) : List Nat := (List.range count).map (· + n)

/-- Those of them that the variant has: FIT has omitted the others (R14). -/
def sinksHere (s : State) (n count : Nat) : List Nat := (sinkRun n count).filter (fun m => !ligAbsent s.variant m)

/-- New settings of a sink; a count at or above the new threshold acts at the next sample (R364). -/
def setSinkCfg (p : Bytes) (n : Nat) (s : State) : State :=
  modSink n (fun k => { k with cfg := { k.cfg with thresh := u16 p 4, ret := u8 p 6, shape := u8 p 7, hold := u16 p 8, shade := u32 p 12 } }) s

/-! ### Commands -/

/-- A warning of group 0x06. -/
def warn6 (code item : Nat) (req app : Int) : Warning :=
  { code := code, group := 6, item := item, requested := req, applied := app }

/-- The entries of LIG.ROUTE_SET. -/
def routeEntries (p : Bytes) : List (Nat × Nat) := (entriesOf 8 8 p).map (fun e => (u16 e 0, u32 e 4))

/-- The sources that a word names. -/
def wordSources (w : Nat) : List Nat := if wEn w then [wSrc w, wBackup w].dedup else []

/-- OWNER_ABSENT warnings of a route (R362). -/
def ownerWarnings (s : State) (r : Nat × Nat) : List Warning :=
  ((if sinkOwned s r.1 then [] else [r.1]) ++ (wordSources r.2).filter (fun n => !sourceOwned s n)).map (fun n => warn6 0x0601 n n 0)

/-- The body of LIG.ROUTE_SET (R362): all entries or none. -/
def routeBody (x : Ctx) (s : State) : Res :=
  let l := routeEntries x.whole
  let at_ := effectSsi x s
  let gone := fun (r : Nat × Nat) => ligAbsent s.variant r.1 || (wordSources r.2).any (ligAbsent s.variant)
  if l.any gone ∧ ¬ x.fit then fail .capacity s
  else
    let k := l.filter (fun r => !gone r)
    if k.any (fun r => routeBusy s at_ r.1) then fail .busy s
    else
      let a : Armed := { client := x.client, seq := x.seq, opcode := 0x0601, applySsi := at_, params := x.whole, fit := x.fit,
                         turn := { routes := k } }
      { st := schedule x a s,
        data := le 8 at_ ++ le 2 (k.filter (fun r => heldWord s r.1 ≠ r.2)).length ++ zeros 6,
        warns := (l.filter gone).map (fun r => warn6 2 r.1 r.1 0) ++ k.flatMap (ownerWarnings s) }

/-- The command LIG.ROUTE_SET. -/
def cmdLigRouteSet : Cmd where
  lens := listLens 8 8 27 511
  fits := countFits 8 8 0
  absent := fun x s => (routeEntries x.whole).any (fun r => serifAbsent s.variant r.1 || (wordSources r.2).any (serifAbsent s.variant))
  range := fun x s =>
    let l := routeEntries x.whole
    (l.map (·.1)).dedup.length = l.length && l.all (fun r => r.1 < 8192 && hairOk s r.1 r.2)
  body := routeBody
  arm := some routeBody

/-- STATE of a sink. -/
def sinkState (k : Sink) : Nat := if ¬ wEn k.live then 3 else if k.fadePos < k.fadeLen then 2 else k.sel

/-- The word that LG_NEXT and NEXT show. -/
def nextWord (s : State) (n : Nat) : Nat := match pendingRoute s n with | some p => p.2 | none => (sinkOf s n).live

/-- FORCED: the sink's last sample was imposed by Hush. -/
def sinkForced (k : Sink) : Bool := k.out.tag = 3

/-- One record of LIG.ROUTE_GET, 16 bytes; zero for an absent sink (R230). -/
def routeRecord (s : State) (n : Nat) : Bytes :=
  if ligSize s.variant ≤ n ∨ serifAbsent s.variant n then zeros 16
  else
    let k := sinkOf s n
    le 2 n ++ le 1 (sinkState k) ++
      le 1 (b2n (pendingRoute s n).isSome + 2 * b2n k.held.isSome + 4 * b2n (sinkForced k)) ++ le 4 k.live ++
      le 4 (nextWord s n) ++ le 2 (min k.absCount 65535) ++ zeros 2

/-- The command LIG.ROUTE_GET. -/
def cmdLigRouteGet : Cmd where
  lens := inlineOnly 4
  range := fun x _ => u16 x.p 0 < 8192 && 1 ≤ u16 x.p 2 && u16 x.p 2 ≤ 255
  body := fun x s => { st := s, sheet := some (((sinkRun (u16 x.p 0) (u16 x.p 2)).filter (· < 8192)).flatMap (routeRecord s)) }

/-- What R229 says of a run of sinks: the first answer that applies. -/
def runAbsent (s : State) (n count : Nat) : Bool := (sinkRun n count).any (serifAbsent s.variant)

/-- A run within the ZL9600's numbering. -/
def runOk (n count : Nat) : Bool := 1 ≤ count && count ≤ 8192 && n + count ≤ 8192

/-- Arm a sink-run command with its absent sinks omitted under FIT (R14, R229). -/
def runBody (op : Nat) (at_ : Nat) (x : Ctx) (n count : Nat) (s : State) : Res :=
  let gone := (sinkRun n count).filter (ligAbsent s.variant)
  if ¬ gone.isEmpty ∧ ¬ x.fit then fail .capacity s
  else { st := schedule x { client := x.client, seq := x.seq, opcode := op, applySsi := at_, params := x.whole, fit := x.fit } s,
         warns := gone.map (fun m => warn6 2 m m 0) }

/-- The command LIG.SINK_CONFIG (R364): at the next period boundary. -/
def cmdLigSinkConfig : Cmd where
  lens := inlineOnly 16
  absent := fun x s => runAbsent s (u16 x.p 0) (u16 x.p 2)
  range := fun x _ => runOk (u16 x.p 0) (u16 x.p 2) && 1 ≤ u16 x.p 4 && u8 x.p 6 ≤ 1 && u8 x.p 7 ≤ 2
    && 1 ≤ u16 x.p 8 && u16 x.p 8 ≤ 600 && 50 ≤ u32 x.p 12 && u32 x.p 12 ≤ 200000
  body := fun x s => runBody 0x0603 (nextBoundary s) x (u16 x.p 0) (u16 x.p 2) s

/-- A legal sink gain (R359). -/
def gainOk (g : Int) : Bool := g = gainOff || (-14400 ≤ g && g ≤ 1200)

/-- The command LIG.GAIN_SET (R359, R361). -/
def cmdLigGainSet : Cmd where
  lens := inlineOnly 8
  absent := fun x s => runAbsent s (u16 x.p 0) (u16 x.p 2)
  range := fun x _ => runOk (u16 x.p 0) (u16 x.p 2) && gainOk (i32 x.p 4)
  body := fun x s => runBody 0x0604 (effectSsi x s) x (u16 x.p 0) (u16 x.p 2) s
  arm := some fun x s => runBody 0x0604 x.at_ x (u16 x.p 0) (u16 x.p 2) s

/-- The command LIG.FALLBACK. -/
def cmdLigFallback : Cmd where
  lens := inlineOnly 4
  absent := fun x s => serifAbsent s.variant (u16 x.p 0)
  range := fun x _ => u16 x.p 0 < 8192 && u8 x.p 2 ≤ 1
  body := fun x s =>
    if ligAbsent s.variant (u16 x.p 0) then
      if x.fit then { st := s, warns := [warn6 2 (u16 x.p 0) (u16 x.p 0) 0] } else fail .capacity s
    else if ¬ hasBackup (sinkOf s (u16 x.p 0)).live then fail .badParam s
    else runBody 0x0605 (effectSsi x s) x (u16 x.p 0) 1 s

/-- P in samples of a code (R349). -/
def patchSamples (c : Nat) : Nat := 16 + 8 * c

/-- A change of P: a rise leaves ABSENT for the difference (R349). -/
def setPatch (c : Nat) (s : State) : State :=
  let old := patchSamples s.lig.patch
  let new := patchSamples c
  { s with lig := { s.lig with patch := c, patchDue := none,
                               patchHole := if old < new then s.stem.ssi + (new - old) else s.lig.patchHole } }

/-- The command LIG.PATCH_SET: at the next period boundary (log 34). -/
def cmdLigPatchSet : Cmd where
  lens := inlineOnly 1
  range := fun x _ => u8 x.p 0 ≤ 2
  body := fun x s =>
    if isPartner s ∨ isMember s then fail .busy s
    else { st := { s with lig := { s.lig with patchDue := some (u8 x.p 0) } } }

/-- Sinks with HAIRLINE set in LIVE. -/
def hairlineCount (s : State) : Nat := (s.lig.sinks.filter (fun e => wEn e.2.live && wHair e.2.live)).length

/-- The command LIG.STATUS_GET. -/
def cmdLigStatusGet : Cmd where
  lens := inlineOnly 0
  body := fun _ s =>
    let g := s.lig
    let v := s.variant
    answer (le 4 g.fallbacks ++ le 4 g.returns ++ le 4 g.heldCount ++ le 4 g.switches ++ le 4 (hairlineCount s) ++
      le 2 (srcPool v) ++ le 2 (ligBus v) ++ le 2 (ligMatrix v) ++ le 2 (ligBus v) ++ le 2 (snkPool v) ++ le 2 (ligSize v)) s

/-! ### Registers (R366, R735) -/

/-- A write of LG_ARM_HI arms LG_NEXT (R366): an arm at or before the present SSI takes effect at the next sample. A
word breaking R350, or a sink with a pending change at another SSI, is not taken. -/
def armSink (n hi : Nat) (s : State) : State :=
  let k := sinkOf s n
  let at_ := k.arm % 2 ^ 32 + hi * 2 ^ 32
  let t := modSink n (fun k => { k with arm := at_ }) s
  let ssi := if at_ ≤ s.stem.ssi then s.stem.ssi + 1 else at_
  if ligSize s.variant ≤ n ∨ serifAbsent s.variant n then s
  else if ¬ hairOk s n k.next ∨ routeBusy s ssi n then modSink n (fun k => { k with next := k.live }) t
  else { t with ink := { t.ink with order := t.ink.order + 1, sched := t.ink.sched ++
           [{ client := 0xFF, seq := 0, opcode := 0, applySsi := ssi, order := t.ink.order, turn := { routes := [(n, k.next)], silent := true } }] } }

/-- A register write of sink settings waits for the boundary (R735). -/
def dueCfg (n : Nat) (f : SinkCfg → SinkCfg) (s : State) : State :=
  if ligSize s.variant ≤ n ∨ serifAbsent s.variant n then s
  else modSink n (fun k => { k with cfgDue := some (f (k.cfgDue.getD k.cfg)) }) s

/-- LG_SINK_CFG: 0 acts as 1, RETURN_HOLD above 600 as 600. -/
def sinkCfgWrite (n w : Nat) (s : State) : State :=
  dueCfg n (fun c => { c with thresh := max 1 (fld w 0 16), ret := fld w 16 1, hold := clampN 1 600 (fld w 17 10) }) s
/-- LG_GAIN: out-of-range values act as the nearest limit; SHAPE 3 acts as 2. -/
def gainWrite (n w : Nat) (s : State) : State :=
  let g := sgn 16 (fld w 0 16)
  dueCfg n (fun c => { c with gain := if g = gainOff then gainOff else clampI (-14400) 1200 g, shape := min 2 (fld w 16 2) }) s
/-- LG_SHADE. -/
def shadeWrite (n w : Nat) (s : State) : State := dueCfg n (fun c => { c with shade := clampN 50 200000 (fld w 0 18) }) s

/-- The register settings that wait take effect at a boundary (R735). -/
def applyDueCfg (s : State) : State :=
  (s.lig.sinks.filter (fun e => e.2.cfgDue.isSome)).foldl (fun t e =>
    match e.2.cfgDue with
    | none => t
    | some c =>
      let t1 := modSink e.1 (fun k => { k with cfg := { c with gain := k.cfg.gain }, cfgDue := none }) t
      if c.gain = e.2.cfg.gain then t1 else setSinkGain c.gain e.1 t1) s

/-! ### The meanings -/

/-- LIG.ROUTE_SET. -/
def execLigRouteSet (r : Request) (s : State) : Host.Outcome State Fault Refusal := serve 0x0601 cmdLigRouteSet r s
/-- LIG.ROUTE_GET. -/
def execLigRouteGet (r : Request) (s : State) : Host.Outcome State Fault Refusal := serve 0x0602 cmdLigRouteGet r s
/-- LIG.SINK_CONFIG. -/
def execLigSinkConfig (r : Request) (s : State) : Host.Outcome State Fault Refusal := serve 0x0603 cmdLigSinkConfig r s
/-- LIG.GAIN_SET. -/
def execLigGainSet (r : Request) (s : State) : Host.Outcome State Fault Refusal := serve 0x0604 cmdLigGainSet r s
/-- LIG.FALLBACK. -/
def execLigFallback (r : Request) (s : State) : Host.Outcome State Fault Refusal := serve 0x0605 cmdLigFallback r s
/-- LIG.PATCH_SET. -/
def execLigPatchSet (r : Request) (s : State) : Host.Outcome State Fault Refusal := serve 0x0606 cmdLigPatchSet r s
/-- LIG.STATUS_GET. -/
def execLigStatusGet (r : Request) (s : State) : Host.Outcome State Fault Refusal := serve 0x0607 cmdLigStatusGet r s
/-- A register write of LG_ARM_HI of sink `n` (R366). -/
def execLgArmHiWrite (n : Nat) (w : Word) (s : State) : Host.Outcome State Fault Refusal :=
  .next (if s.power.mode = .commission ∨ s.power.mode = .maintenance then armSink n w.toNat s else s)
/-- A register write of LG_SINK_CFG of sink `n` (R735). -/
def execLgSinkCfgWrite (n : Nat) (w : Word) (s : State) : Host.Outcome State Fault Refusal :=
  .next (if s.power.mode = .commission ∨ s.power.mode = .maintenance then sinkCfgWrite n w.toNat s else s)
/-- A register write of LG_GAIN of sink `n` (R735). -/
def execLgGainWrite (n : Nat) (w : Word) (s : State) : Host.Outcome State Fault Refusal :=
  .next (if s.power.mode = .commission ∨ s.power.mode = .maintenance then gainWrite n w.toNat s else s)
/-- A register write of LG_SHADE of sink `n` (R735). -/
def execLgShadeWrite (n : Nat) (w : Word) (s : State) : Host.Outcome State Fault Refusal :=
  .next (if s.power.mode = .commission ∨ s.power.mode = .maintenance then shadeWrite n w.toNat s else s)
/-- The sinks whose crossfade has ended take their held words (R353). -/
def execRouteCrossfadeEnd (s : State) : Host.Outcome State Fault Refusal := .next (endRouteFades s)

end Sys2Proof.Machine
end

