-- ==== Sys2Proof/Machine/Serif.lean ====
section
/-! DEFINITION. The Serif ports: configuration, frames, elastic buffers, states and commands (R390 to R409). -/

namespace Sys2Proof.Machine

/-! ### The configuration record (R390 to R392) -/

/-- TX_HIZ. -/
def serHiz (c : SerCfg) : Bool := bit c.cfg0 5
/-- SHARED. -/
def serShared (c : SerCfg) : Bool := bit c.cfg0 6
/-- FRAME_LEN (R390). -/
def frameLen (c : SerCfg) : Nat := 32 * 2 ^ fld c.cfg0 8 3
/-- OFFSET. -/
def serOfs (c : SerCfg) : Nat := fld c.cfg0 16 6
/-- SLOTS. -/
def serSlots (c : SerCfg) : Nat := fld c.cfg1 0 5 + 1
/-- WIDTH. -/
def serWidth (c : SerCfg) : Nat := fld c.cfg1 8 6
/-- DATA_BITS. -/
def serBits (c : SerCfg) : Nat := fld c.cfg1 16 6

/-- A record's words with their reserved bits zero (R5). -/
def cleanCfg (c : SerCfg) : SerCfg := { c with cfg0 := c.cfg0 &&& 0x003F077F, cfg1 := c.cfg1 &&& 0x003F3F1F }

/-- A record is valid at a rate multiple (R392, R407). -/
def serCfgOk (mult : Nat) (c : SerCfg) : Bool :=
  fld c.cfg0 8 3 ≤ 5 && frameLen c * mult ≤ 1024 && within 8 32 (serWidth c) && within 8 (serWidth c) (serBits c)
    && serSlots c * serWidth c ≤ frameLen c && serOfs c < frameLen c
    && (!serShared c || (!serMaster c && serHiz c))
    && c.rxEn < 2 ^ serSlots c && c.txEn < 2 ^ serSlots c

/-- The record at an offset of a payload. -/
def serCfgAt (p : Bytes) (o : Nat) : SerCfg :=
  cleanCfg { cfg0 := u32 p o, cfg1 := u32 p (o + 4), rxEn := u32 p (o + 8), txEn := u32 p (o + 12) }

/-- The 16 bytes of a record. -/
def serCfgBytes (c : SerCfg) : Bytes := le 4 c.cfg0 ++ le 4 c.cfg1 ++ le 4 c.rxEn ++ le 4 c.txEn

/-! ### Ports -/

/-- Port `n`. -/
def serPort (s : State) (n : Nat) : SerPort := tabGet {} s.serif.ports n

/-- Change port `n`. -/
def modPort (n : Nat) (f : SerPort → SerPort) (s : State) : State :=
  { s with serif := { s.serif with ports := tabMod {} s.serif.ports n f } }

/-- Port `n` is absent on the variant. -/
def portAbsent (s : State) (n : Nat) : Bool := serifPorts s.variant ≤ n

/-- Port `n` is held by Hush (R382). -/
def hushPort (s : State) (n : Nat) : Bool := s.hush.cfg.ports.any (fun e => e.1 = n)

/-- The port numbers that exist. -/
def portNumbers (s : State) : List Nat := List.range (serifPorts s.variant)

/-- What SDO carries while the port sends no sink values (R402, R405). -/
def idleSdo (p : SerPort) (st : Nat) : List (Option Int) :=
  if (st = 1 ∧ ¬ serShared p.cfg) ∨ st = 4 then
    (List.range (serSlots p.cfg)).map (fun k => if bit p.cfg.txEn k ∨ ¬ serHiz p.cfg then some 0 else none)
  else []

/-- STATE of port `n` changes (R402, R408). -/
def portState (n st : Nat) (s : State) : State :=
  let p := serPort s n
  if p.state = st then s
  else
    let q := { p with state := st, since := s.stem.ssi, events := setBit p.events 2, rxNow := [], sdo := idleSdo p st, good := 0, wrong := 0 }
    raise 0x0501 (le 1 n ++ le 1 p.state ++ le 1 st ++ zeros 1 ++ leI 4 p.rate) (modPort n (fun _ => q) s)

/-- The port starts with empty buffers, or stops with EN 0 (R403). -/
def startPort (n : Nat) (s : State) : State :=
  let clear := fun (p : SerPort) =>
    { p with rxBuf := [], txBuf := [], rxLast := [], txLast := [], rxNow := [], measured := false, calm := 0, rate := 0,
             good := 0, wrong := 0, driving := false }
  portState n (if serEn (serPort s n).cfg then 1 else 0) (modPort n clear s)

/-- The port's Baseline candidate is no longer a slave's (R59, cause RATE). -/
def portUnslaved (n : Nat) (old : SerCfg) (s : State) : State :=
  let c := (serPort s n).cfg
  if (serEn old ∧ ¬ serMaster old) ∧ ¬ (serEn c ∧ ¬ serMaster c) then causeArises (8 + n) 9 s else s

/-- A configuration takes effect (R404): slot enables alone need no restart. -/
def applyPortCfg (n : Nat) (c : SerCfg) (s : State) : State :=
  let old := (serPort s n).cfg
  let s0 := { s with twin := { s.twin with gatedPorts := s.twin.gatedPorts.filter (· ≠ n) } }
  let s1 := modPort n (fun p => { p with cfg := c, due := none, held := none, gate := p.gate || (s.twin.gatedPorts.contains n && !isPartner s) }) s0
  if old.cfg0 = c.cfg0 ∧ old.cfg1 = c.cfg1 then s1
  else portUnslaved n old (startPort n s1)

/-- A new configuration waits for the next frame reference; a port that has none takes it at once (R404, log 46). -/
def setPortCfg (n : Nat) (c : SerCfg) (s : State) : State :=
  let p := serPort s n
  if c = p.cfg then modPort n (fun q => { q with due := none, held := none }) s
  else if p.state = 0 ∨ p.state = 3 ∨ p.state = 5 then applyPortCfg n c s
  else modPort n (fun q => { q with due := some c, held := none }) s

/-- A frame reference: a waiting configuration applies, and an opened gate takes effect (R404, R405). -/
def frameReference (n : Nat) (s : State) : State :=
  let s1 := match (serPort s n).due with | some c => applyPortCfg n c s | none => s
  let p := serPort s1 n
  if serShared p.cfg ∧ p.gate ∧ ¬ p.driving ∧ p.state ≠ 0 then
    modPort n (fun q => { q with driving := true, handover := q.handover + 1 }) s1
  else s1

/-- The claim comparison opens or closes the gates of the SHARED ports: a gate that closes acts at once (R405). -/
def setGates (open_ : Bool) (s : State) : State :=
  (portNumbers s).foldl (fun t n =>
    let p := serPort t n
    if p.driving ∧ ¬ open_ then modPort n (fun q => { q with gate := open_, driving := false, handover := q.handover + 1, sdo := [] }) t
    else modPort n (fun q => { q with gate := open_ }) t) s

/-! ### Slips (R398, R399, R408) -/

/-- SER_SLIP, at most once per port per 100 ms. -/
def announceSlip (n dir : Nat) (s : State) : State :=
  let p := serPort s n
  let due : Bool := match p.slipMs with | none => true | some m => decide (m + 100 ≤ s.stem.ms)
  if p.slipU + p.slipO = 0 ∨ ¬ due then s
  else
    raise 0x0502 (le 1 n ++ le 1 dir ++ le 2 (min 65535 p.slipU) ++ le 2 (min 65535 p.slipO))
      (modPort n (fun q => { q with slipMs := some s.stem.ms, slipU := 0, slipO := 0 }) s)

/-- The frame that repeats another, every slot tagged REPEATED (R398). -/
def repeatedFrame (f : List Sample) : List Sample := f.map (fun x => { x with tag := 1 })

/-- An underrun in a direction (0 receive, 1 transmit). -/
def underrun (n dir : Nat) (s : State) : State :=
  vellumCount 67 (modPort n (fun p =>
    { p with slipU := p.slipU + 1, events := setBit p.events 1, rxUnder := p.rxUnder + (1 - dir), txUnder := p.txUnder + dir }) s)

/-- An overrun in a direction. -/
def overrun (n dir : Nat) (s : State) : State :=
  vellumCount 67 (modPort n (fun p =>
    { p with slipO := p.slipO + 1, events := setBit p.events 1, rxOver := p.rxOver + (1 - dir), txOver := p.txOver + dir }) s)

/-- A frame that repeats another on SDO: the sink stage has already tagged it, and it counts only as a slip (R26, R399). -/
def resentFrame (f : List Sample) : List Sample := f.map (fun x => { x with tag := 0 })

/-- A frame enters a buffer of 4: a full one discards it and the newest frame held, and repeats the frame before them, as `again` makes
the repeat (R399). -/
def pushFrame (again : List Sample → List Sample) (buf : List (List Sample)) (f : List Sample) : List (List Sample) × Bool :=
  if buf.length < 4 then (buf ++ [f], false)
  else (buf.take 3 ++ [again (buf.getD 2 [])], true)

/-! ### Receiving (R391, R394, R395, R397) -/

/-- Bit clock `i` of a frame of `len` bits given as a number whose first bit is the most significant; positions count modulo the frame,
so that a slot's bits past the end are those at the start of the frame that follows (R391). -/
def frameBit (len bits i : Nat) : Bool := bits.testBit (len - 1 - i % len)

/-- The word of slot `k`: WIDTH bits from OFFSET + k × WIDTH, MSB first. -/
def slotWord (c : SerCfg) (bits k : Nat) : Nat :=
  (List.range (serWidth c)).foldl (fun w j => 2 * w + b2n (frameBit (frameLen c) bits (serOfs c + k * serWidth c + j))) 0

/-- The sample of slot `k`: left-justified in DATA_BITS bits (R293). -/
def slotSample (c : SerCfg) (bits k : Nat) : Sample :=
  if bit c.rxEn k then { v := f32OfInt (serBits c) (sgn (serBits c) (slotWord c bits k / 2 ^ (serWidth c - serBits c))), tag := 0 }
  else {}

/-- The samples of a frame. -/
def frameSamples (c : SerCfg) (bits : Nat) : List Sample := (List.range (serSlots c)).map (slotSample c bits)

/-- The newest two frames, while a port starts or mismatches (R400, R403). -/
def keepTwo (buf : List (List Sample)) (f : List Sample) : List (List Sample) :=
  (buf ++ [f]).drop ((buf ++ [f]).length - 2)

/-! ### Transmitting (R294, R394, R395, R405) -/

/-- Count a transmitted sample (R26, R395). -/
def countTx (n k : Nat) (x : Sample) (clip : Bool) (s : State) : State :=
  if x.tag = 0 ∧ ¬ clip then s
  else
    let s1 := modPort n (fun p =>
      { p with txRep := p.txRep + b2n (decide (x.tag = 1)), txAbs := p.txAbs + b2n (decide (x.tag = 2)), clips := p.clips + b2n clip,
               slotClip := if clip then tabMod 0 p.slotClip k (· + 1) else p.slotClip }) s
    if clip then vellumCount 70 s1 else s1

/-- The frame goes out on SDO. -/
def sendFrame (n : Nat) (f : List Sample) (s : State) : State :=
  let p := serPort s n
  let c := p.cfg
  let slots := List.range (serSlots c)
  let val := fun k => f32ToInt (serBits c) (f.getD k {}).v
  let gone : Bool := serShared c && !p.driving
  let out := slots.map (fun k => if gone then none else if bit c.txEn k then some (val k).1 else if serHiz c then none else some 0)
  let s1 := (slots.filter (bit c.txEn)).foldl (fun t k => countTx n k (f.getD k {}) (val k).2 t) s
  modPort n (fun q => { q with sdo := out, txLast := f }) s1

/-- A slave's external frame takes the next frame of the transmit buffer (R398). -/
def slaveSend (n : Nat) (s : State) : State :=
  let p := serPort s n
  match p.txBuf with
  | f :: rest => sendFrame n f (modPort n (fun q => { q with txBuf := rest }) s)
  | [] => sendFrame n (resentFrame p.txLast) (underrun n 1 s)

/-- A port enters FRAME_ERROR (R401). -/
def enterFrameError (n : Nat) (s : State) : State :=
  causeArises (8 + n) 2 (portState n 5 s)

/-- A frame of wrong length at a slave port (R401). -/
def wrongFrame (n : Nat) (s : State) : State :=
  let w := (serPort s n).wrong + 1
  let s1 := modPort n (fun p => { p with frameErr := p.frameErr + 1, wrong := w, good := 0 }) s
  let p := serPort s1 n
  if p.state = 3 ∨ p.state = 5 then s1
  else if 4 ≤ w then enterFrameError n s1
  else if p.state = 2 then
    slaveSend n (modPort n (fun q => { q with rxBuf := (pushFrame repeatedFrame q.rxBuf (repeatedFrame (q.rxBuf.getLastD q.rxLast))).1 }) (underrun n 0 s1))
  else s1

/-- A good frame at a slave port (R397, R399, R401). -/
def goodFrame (n bits : Nat) (s : State) : State :=
  let s1 := modPort n (fun p => { p with good := p.good + 1, wrong := 0 }) s
  let p := serPort s1 n
  let f := frameSamples p.cfg bits
  if p.state = 3 ∨ p.state = 5 then (if 4 ≤ p.good then startPort n s1 else s1)
  else if p.state = 2 then
    match pushFrame repeatedFrame p.rxBuf f with
    | (b, over_) =>
      let s2 := modPort n (fun q => { q with rxBuf := b }) s1
      slaveSend n (if over_ then overrun n 0 s2 else s2)
  else modPort n (fun q => { q with rxBuf := keepTwo q.rxBuf f }) s1

/-- A frame arrives at a port: `len` bit clocks, whose bits are `bits`, the first the most significant. -/
def frameRx (n len bits : Nat) (s : State) : State :=
  if portAbsent s n ∨ (serPort s n).state = 0 then s
  else
    let s1 := frameReference n s
    let c := (serPort s1 n).cfg
    if (serPort s1 n).state = 0 then s1
    else if serMaster c then modPort n (fun p => { p with rxBuf := [frameSamples c bits] }) s1
    else announceSlip n 0 (if len = frameLen c then goodFrame n bits s1 else wrongFrame n s1)

/-- What one sample does on the receive side of a port: the sources take a frame from the buffer (R396 to R398). -/
def portReceive (n : Nat) (s : State) : State :=
  let p := serPort s n
  if p.state ≠ 2 then s
  else if serMaster p.cfg then
    let f := p.rxBuf.headD p.rxLast
    modPort n (fun q => { q with rxNow := f, rxLast := f }) (frameReference n s)
  else match p.rxBuf with
    | f :: rest => modPort n (fun q => { q with rxNow := f, rxLast := f, rxBuf := rest }) s
    | [] => announceSlip n 0 (underrun n 0 (modPort n (fun q => { q with rxNow := repeatedFrame q.rxLast }) s))

/-- What one sample does on the transmit side of a port, from the sinks' outputs (R396, R397, R399). -/
def portTransmit (n : Nat) (out : Nat → Sample) (s : State) : State :=
  let p := serPort s n
  let f := (List.range (serSlots p.cfg)).map (fun k => out (32 * n + k))
  if p.state = 2 then
    if serMaster p.cfg then sendFrame n f s
    else match pushFrame resentFrame p.txBuf f with
      | (b, over_) =>
        let s1 := modPort n (fun q => { q with txBuf := b }) s
        if over_ then announceSlip n 1 (overrun n 1 s1) else s1
  else if (p.state = 1 ∨ p.state = 4) ∧ ¬ serMaster p.cfg then
    modPort n (fun q => { q with txBuf := keepTwo q.txBuf (f.map (fun _ => {})) }) s
  else if p.state = 1 ∧ p.due.isSome then frameReference n s
  else s

/-- The sample that Serif source `n` presents (R394). -/
def serSource (s : State) (n : Nat) : Sample := (serPort s (n / 32)).rxNow.getD (n % 32) {}

/-! ### Port states (R400 to R403) -/

/-- Both buffers of a slave hold 2 frames. -/
def buffersFull (p : SerPort) : Bool := 2 ≤ p.rxBuf.length && 2 ≤ p.txBuf.length

/-- A port moves from STARTING to RUNNING when its condition holds (R403). -/
def portRunning (n : Nat) (s : State) : State :=
  let p := serPort s n
  if p.state ≠ 1 then s
  else if serMaster p.cfg then (if s.stem.ssi % 8 = 0 then portState n 2 s else s)
  else if p.measured ∧ buffersFull p then portState n 2 s
  else s

/-- A slave port's 100 ms measurement, in 0.01 ppm (R400, R403). -/
def rateMeasured (n : Nat) (rate : Int) (s : State) : State :=
  let p := serPort s n
  if portAbsent s n ∨ serMaster p.cfg ∨ ¬ (p.state = 1 ∨ p.state = 2 ∨ p.state = 4) then s
  else
    let s1 := modPort n (fun q => { q with rate := rate }) s
    if 10000 < rate.natAbs then
      let s2 := modPort n (fun q => { q with calm := 0, measured := false }) s1
      if p.state = 4 then s2
      else
        let s3 := portState n 4 (modPort n (fun q => { q with mismatch := q.mismatch + 1, rxBuf := [], txBuf := [] }) s2)
        causeArises (8 + n) 9 (vellumCount 68 s3)
    else if p.state = 4 then
      let c := if rate.natAbs ≤ 8000 then p.calm + 1 else 0
      let s2 := modPort n (fun q => { q with calm := c }) s1
      if 10 ≤ c then portState n 2 s2 else s2
    else portRunning n (modPort n (fun q => { q with measured := true }) s1)

/-- Four expected FSYNC references are missing (R401). -/
def portNoClock (n : Nat) (s : State) : State :=
  let p := serPort s n
  if portAbsent s n ∨ serMaster p.cfg ∨ p.state = 0 ∨ p.state = 3 then s
  else causeArises (8 + n) 2 (portState n 3 (modPort n (fun q => { q with noClock := q.noClock + 1 }) s))

/-- Four consecutive frames have had a wrong length. -/
def portFrameError (n : Nat) (s : State) : State :=
  let p := serPort s n
  if portAbsent s n ∨ serMaster p.cfg ∨ p.state = 0 ∨ p.state = 3 ∨ p.state = 5 then s else enterFrameError n s

/-- The ports that Hush does not hold stop: at a rate change and in STANDBY (R145, R403). -/
def stopPorts (s : State) : State :=
  ((portNumbers s).filter (fun n => !hushPort s n)).foldl (fun t n => portState n 0 t) s

/-- The ports start on their configurations; one that the rate makes invalid stays stopped (R392). -/
def startPorts (s : State) : State :=
  ((portNumbers s).filter (fun n => (serPort s n).state = 0)).foldl (fun t n =>
    if serCfgOk t.stem.mult (serPort t n).cfg then startPort n t else t) s

/-- The running ports whose configuration a rate multiple makes invalid. -/
def portsTooFast (s : State) (mult : Nat) : List Nat :=
  (portNumbers s).filter (fun n => serEn (serPort s n).cfg && !serCfgOk mult (serPort s n).cfg)

/-! ### Commands -/

/-- The command SER.CONFIG: its statuses in the order of R407. -/
def cmdSerConfig : Cmd where
  lens := inlineOnly 20
  absent := fun x s => (u8 x.p 0 < 16 && portAbsent s (u8 x.p 0)) || (serShared (serCfgAt x.p 4) && !hasTwin s.variant)
  range := fun x _ => u8 x.p 0 < 16 && u8 x.p 1 ≤ 1
  body := fun x s =>
    let n := u8 x.p 0
    let c := serCfgAt x.p 4
    if hushPort s n then fail .locked s
    else if ¬ serCfgOk s.stem.mult c then fail .badParam s
    else
      let s1 := if u8 x.p 1 = 1 then modPort n (fun p => { p with nvs := c }) s else s
      { st := s1, after := setPortCfg n c }

/-- The command SER.CONFIG_GET: zero for an absent port (log 46). -/
def cmdSerConfigGet : Cmd where
  lens := inlineOnly 4
  range := fun x _ => u8 x.p 0 < 16
  body := fun x s => answer (serCfgBytes (if portAbsent s (u8 x.p 0) then {} else (serPort s (u8 x.p 0)).cfg)) s

/-- FILL of a buffer of a slave port. -/
def fillOf (p : SerPort) (b : List (List Sample)) : Nat := if serMaster p.cfg then 0 else b.length

/-- DRIVING: a SHARED port's gate in force; another enabled port always drives (log 46). -/
def portDriving (p : SerPort) : Bool := if serShared p.cfg then p.driving else serEn p.cfg

/-- One record of SER.STATUS_GET. -/
def portRecord (s : State) (n : Nat) : Bytes :=
  let p := serPort s n
  if portAbsent s n then zeros 32
  else
    le 1 n ++ le 1 p.state ++ le 1 (b2n (serMaster p.cfg) + 2 * b2n (serShared p.cfg) + 4 * b2n (portDriving p) + 8 * b2n (hushPort s n) + 16) ++
      zeros 1 ++ leI 4 (if serMaster p.cfg then 0 else p.rate) ++ le 1 (fillOf p p.rxBuf) ++ le 1 (fillOf p p.txBuf) ++ zeros 2 ++
      le 4 (p.rxUnder + p.txUnder) ++ le 4 (p.rxOver + p.txOver) ++ le 4 p.clips ++ le 8 p.since

/-- The command SER.STATUS_GET. -/
def cmdSerStatusGet : Cmd where
  lens := inlineOnly 0
  body := fun _ s => { st := s, sheet := some ((List.range 16).flatMap (portRecord s)) }

/-- The 11 counters of a port in the order of its registers. -/
def portCounters (p : SerPort) : List Nat :=
  [p.rxUnder, p.rxOver, p.txUnder, p.txOver, p.frameErr, p.mismatch, p.noClock, p.txRep, p.txAbs, p.clips, p.handover]

/-- The command SER.COUNTERS_GET. -/
def cmdSerCountersGet : Cmd where
  lens := inlineOnly 4
  absent := fun x s => u8 x.p 0 < 16 && portAbsent s (u8 x.p 0)
  range := fun x _ => u8 x.p 0 < 16
  body := fun x s =>
    let p := serPort s (u8 x.p 0)
    answer ((portCounters p ++ (List.range 32).map (tabGet 0 p.slotClip)).flatMap (le 4)) s

/-- A write of SR_CTRL.APPLY takes the four held words (R409). -/
def portApply (n : Nat) (s : State) : State :=
  let p := serPort s n
  if portAbsent s n ∨ hushPort s n then s
  else match p.held with
    | none => s
    | some c =>
      let k := cleanCfg c
      if serCfgOk s.stem.mult k ∧ ¬ (serShared k ∧ ¬ hasTwin s.variant) then setPortCfg n k s
      else modPort n (fun q => { q with held := none, events := setBit q.events 0 }) s

/-! ### The meanings -/

/-- SER_CONFIG (R407). -/
def execSerConfig (r : Request) (s : State) : Host.Outcome State Fault Refusal := serve 0x0501 cmdSerConfig r s
/-- SER_CONFIG_GET. -/
def execSerConfigGet (r : Request) (s : State) : Host.Outcome State Fault Refusal := serve 0x0502 cmdSerConfigGet r s
/-- SER_STATUS_GET. -/
def execSerStatusGet (r : Request) (s : State) : Host.Outcome State Fault Refusal := serve 0x0503 cmdSerStatusGet r s
/-- SER_COUNTERS_GET. -/
def execSerCountersGet (r : Request) (s : State) : Host.Outcome State Fault Refusal := serve 0x0504 cmdSerCountersGet r s
/-- SR_CTRL_APPLY (R409) of port `n`. -/
def execSrCtrlApply (n : Nat) (s : State) : Host.Outcome State Fault Refusal :=
  .next (if expertMode s then portApply n s else s)
/-- SERIF_FRAME_REFERENCE (R404) of port `n`. -/
def execSerifFrameReference (n : Nat) (s : State) : Host.Outcome State Fault Refusal :=
  .next (if portAbsent s n then s else frameReference n s)
/-- SERIF_FRAME_RX (R397): `len` bit clocks whose bits are `bits`, the first the most significant. -/
def execSerifFrameRx (n len bits : Nat) (s : State) : Host.Outcome State Fault Refusal := .next (frameRx n len bits s)
/-- RATE_MEASUREMENT (R400): `rate` in 0.01 ppm. -/
def execRateMeasurement (n : Nat) (rate : Int) (s : State) : Host.Outcome State Fault Refusal := .next (rateMeasured n rate s)
/-- NO_CLOCK (R401). -/
def execNoClock (n : Nat) (s : State) : Host.Outcome State Fault Refusal := .next (portNoClock n s)
/-- FRAME_ERROR (R401). -/
def execFrameError (n : Nat) (s : State) : Host.Outcome State Fault Refusal := .next (portFrameError n s)
/-- PORT_RUNNING (R403). -/
def execPortRunning (n : Nat) (s : State) : Host.Outcome State Fault Refusal := .next (if portAbsent s n then s else portRunning n s)

end Sys2Proof.Machine
end

