-- ==== Sys2Proof/Machine/Scenes.lean ====
section
/-! DEFINITION. Scenes, safe masks and raw folios (chapter 10, opcodes 0x0801 to 0x0808 and 0x0820 to 0x0822). -/

namespace Sys2Proof.Machine

/-- A warning of group 0x08. -/
def warn8 (code item : Nat) (req app : Int) : Warning :=
  { code := code, group := 8, item := item, requested := req, applied := app }

/-! ### Scene images (R317, R327, R328, R338) -/

/-- The categories that a program's parameters belong to. -/
def progCats (prog : Nat) : List Nat :=
  if prog ≤ 2 then [0, 1, 2, 3, 4, 5, 6, 7, 8, 9, 10, 11, 12, 13]
  else if prog = 3 then [2, 4, 5, 7, 8, 10, 12]
  else if prog = 4 then [2, 4, 5, 7, 8, 12]
  else if prog = 5 then [14]
  else if prog = 6 then [15]
  else []

/-- The bytes of a folio (R327). -/
def folioBytes (v : Variant) (prog : Nat) : Nat :=
  if prog ≤ 2 then 256 + 4 * busesOf v
  else if prog = 3 then 256 + 4 * matricesOf v
  else if prog = 6 then 64
  else 256

/-- Whether a scene of scope `scope` holds a folio of the program. -/
def folioInScope (scope prog : Nat) : Bool := (progCats prog).any (bit scope)

/-- The Sheen settings of the engine as bytes that differ from the defaults, ANALYZE parameters included. -/
def sheenSettings (s : State) : List (Nat × Nat) :=
  let an := (List.range 16).flatMap (fun a => (List.range 4).map (fun f =>
    (3472 + 16 * a + f, (paramAt s (instKey 3 a) (0x9000 + f)).toNat)))
  an.foldl (fun t e => tabPut (sheenDflt e.1) t e.1 e.2) s.sheen.image

/-- The contents of a scene captured now (R317, R328). -/
def captureBody (s : State) (scope : Nat) : SceneBody :=
  let l := s.prog.insts.filter (fun e => e.2.prog ≠ progAnalyze && folioInScope scope e.2.prog)
  { folios := l.map (fun e => { key := e.1, prog := e.2.prog, params := e.2.params, coefs := e.2.coefs }),
    routes := if bit scope 16 then (s.lig.sinks.filter (fun e => e.2.live ≠ 0)).map (fun e => (e.1, e.2.live)) else [],
    sheen := if bit scope 17 then some (sheenSettings s) else none,
    names := if bit scope 18 then s.prog.insts.map (fun e => (e.1, e.2.name)) else [] }

/-- The counts of the image header: strips, buses, matrices, others, sinks. -/
def sceneCounts (s : State) (scope : Nat) (b : SceneBody) : List Nat :=
  let n := fun (f : Nat → Bool) => (b.folios.filter (fun e => f e.prog)).length
  [n (· ≤ 2), n (· = 3), n (· = 4), n (5 ≤ ·), if bit scope 16 then ligSize s.variant else 0]

/-- The bytes of a scene (R327). -/
def sceneSize (s : State) (scope : Nat) (b : SceneBody) : Nat :=
  64 + sumN (b.folios.map (fun f => folioBytes s.variant f.prog)) + (if bit scope 16 then 4 * ligSize s.variant else 0)
    + (if bit scope 17 then 16384 else 0)

/-- A list of numbers with its length before it. -/
def counted (l : List Nat) : List Nat := l.length :: l

/-- The contents of a scene as a list of numbers: the argument of the free image function. -/
def bodyNumbers (b : SceneBody) : List Nat :=
  counted (b.folios.flatMap (fun f => [f.key, f.prog] ++ counted (f.params.flatMap (fun e => [e.1, unsgn 32 e.2])) ++
      counted (f.coefs.flatMap (fun e => e.1 :: e.2.map (·.toNat))))) ++
    counted (b.routes.flatMap (fun r => [r.1, r.2])) ++ counted ((b.sheen.getD []).flatMap (fun r => [r.1, r.2])) ++
    counted (b.names.flatMap (fun e => e.1 :: (padTo 16 e.2).map (·.toNat)))

/-- Read one counted list. -/
def takeCounted : List Nat → List Nat × List Nat
  | [] => ([], [])
  | n :: l => (l.take n, l.drop n)

/-- Numbers in pairs. -/
def pairs : List Nat → List (Nat × Nat)
  | a :: b :: l => (a, b) :: pairs l
  | _ => []

/-- Folios from numbers; `fuel` bounds their count. -/
def foliosOf : Nat → List Nat → List Folio
  | 0, _ => []
  | n + 1, k :: p :: l =>
    match takeCounted l with
    | (ps, l1) => match takeCounted l1 with
      | (cs, l2) =>
        { key := k, prog := p, params := (pairs ps).map (fun e => (e.1, sgn 32 e.2)),
          coefs := ((List.range (cs.length / 6)).map (fun i => (cs.getD (6 * i) 0,
            ((cs.drop (6 * i + 1)).take 5).map (BitVec.ofNat 32)))) } :: foliosOf n l2
  | _, _ => []

/-- Names from numbers: a key and its 16 bytes each. -/
def namesOf (l : List Nat) : List (Nat × Bytes) :=
  (List.range (l.length / 17)).map (fun i => (l.getD (17 * i) 0, ((l.drop (17 * i + 1)).take 16).map (BitVec.ofNat 8)))

/-- What an imported image holds: a free function of its bytes (log 36). -/
def bodyOf (scope : Nat) (img : Bytes) : SceneBody :=
  match takeCounted (Config.sceneNumbers img) with
  | (f, l) => match takeCounted l with
    | (r, l) => match takeCounted l with
      | (h, l) => { folios := foliosOf 4096 f, routes := pairs r, sheen := if bit scope 17 then some (pairs h) else none,
                    names := if bit scope 18 then namesOf (takeCounted l).1 else [] }

/-- The 64-byte header with a CRC (R338). -/
def sceneHeader (sc : Scene) (crc : Nat) : Bytes :=
  padTo 64 (le 4 0x53434E45 ++ le 2 1 ++ le 2 sc.part ++ le 4 sc.fsOp ++ le 4 sc.scope ++ le 4 sc.bytes ++ le 4 crc ++
    padTo 16 sc.name ++ sc.counts.flatMap (le 2))

/-- The bytes of a scene beyond its header: as imported, else the free image of its contents (log 36). -/
def sceneTail (sc : Scene) : Bytes := padTo (sc.bytes - 64) (sc.image.getD (Config.sceneBytes (bodyNumbers sc.body)))

/-- CRC-32C of the whole image, its own field taken as zero (R328, R338). -/
def sceneCrc (sc : Scene) : Nat := (crc32c (sceneHeader sc 0 ++ sceneTail sc)).toNat

/-! ### The store (R327, R337) -/

/-- Bytes of the scene store. -/
def storeSize (s : State) : Nat :=
  if xmiFitted s then min (xmiMib s * 1048576 / 4) 4294967296 else 2097152

/-- Bytes that stored scenes occupy. -/
def storeUsed (s : State) : Nat := sumN (s.prog.scenes.map (fun e => e.2.bytes))

/-- Room for a scene of `n` bytes at a number, the present scene there given up. -/
def storeRoom (s : State) (num n : Nat) : Bool :=
  storeUsed s - ((mapGet s.prog.scenes num).map (·.bytes)).getD 0 + n ≤ storeSize s

/-- Enter a scene. -/
def putScene (num : Nat) (sc : Scene) (s : State) : State :=
  { s with prog := { s.prog with scenes := tabInsert num sc s.prog.scenes } }

/-- A legal scene number. -/
def sceneOk (n : Nat) : Bool := 1 ≤ n && n ≤ 1000

/-- The command SCENE.STORE: its reply waits until the scene is in the store (R328, R337). -/
def cmdSceneStore : Cmd where
  lens := inlineOnly 24
  range := fun x _ => sceneOk (u16 x.p 0)
  body := fun x s =>
    if (mapGet s.prog.scenes (u16 x.p 0)).isSome ∧ ¬ bit (u8 x.p 2) 0 then fail .busy s
    else
      let j : StoreJob := { client := x.client, seq := x.seq, scene := u16 x.p 0, scope := u32 x.p 4 % 2 ^ 19,
                            name := slice x.p 8 16, flags := u8 x.p 2 }
      { st := { s with prog := { s.prog with storing := s.prog.storing ++ [j] } }, wait := true }

/-- One store executes at its boundary. -/
def storeOne (j : StoreJob) (s : State) : State :=
  let b := captureBody s j.scope
  let n := sceneSize s j.scope b
  if (mapGet s.prog.scenes j.scene).isSome ∧ ¬ bit j.flags 0 then finishRunning j.client j.seq .busy [] s
  else if ¬ storeRoom s j.scene n then finishRunning j.client j.seq .capacity [] s
  else
    let sc : Scene := { name := j.name, scope := j.scope, part := partOf s.variant, fsOp := fsOp s, bytes := n, ssi := s.stem.ssi,
                        body := b, counts := sceneCounts s j.scope b }
    let crc := sceneCrc sc
    finishThen j.client j.seq .ok (le 4 n ++ le 4 crc ++ le 8 s.stem.ssi)
      [(s.stem.ssi, 0x0802, le 2 j.scene ++ le 1 j.client ++ zeros 1 ++ le 4 n)] (putScene j.scene { sc with crc := crc } (sealUse (le 4 crc) n s))

/-- The stores that wait execute at the first boundary (R328). -/
def storeScenes (s : State) : State :=
  s.prog.storing.foldl (fun t j => storeOne j t) { s with prog := { s.prog with storing := [] } }

/-- The command SCENE.DELETE: a recall already armed keeps its copy. -/
def cmdSceneDelete : Cmd where
  lens := inlineOnly 2
  range := fun x _ => sceneOk (u16 x.p 0)
  body := fun x s =>
    if (mapGet s.prog.scenes (u16 x.p 0)).isNone then fail .badParam s
    else { st := { s with prog := { s.prog with scenes := tabErase (u16 x.p 0) s.prog.scenes } } }

/-- FS_CODE of a rate in Hz. -/
def fsCode (fs : Nat) : Nat :=
  let fam := if fs % 48000 = 0 then 0 else 1
  let m := fs / (if fam = 0 then 48000 else 44100)
  fam + 2 * (if m = 4 then 2 else if m = 2 then 1 else 0)

/-- One record of SCENE.LIST, 36 bytes. -/
def sceneRecord (e : Nat × Scene) : Bytes :=
  le 2 e.1 ++ le 1 (b2n e.2.corrupt) ++ le 1 (fsCode e.2.fsOp) ++ le 4 e.2.scope ++ le 4 e.2.bytes ++ le 8 e.2.ssi ++ padTo 16 e.2.name

/-- The command SCENE.LIST: scenes numbered START and above (log 37). -/
def cmdSceneList : Cmd where
  lens := inlineOnly 2
  body := fun x s =>
    let l := (s.prog.scenes.filter (fun e => u16 x.p 0 ≤ e.1)).take 113
    { st := s, sheet := some (le 4 (min (storeSize s - storeUsed s) 0xFFFFFFFF) ++ le 2 l.length ++ zeros 2 ++ l.flatMap sceneRecord) }

/-- The parts of an image. -/
def partsOf (n : Nat) : Nat := (n + 4095) / 4096

/-- The command SCENE.EXPORT. -/
def cmdSceneExport : Cmd where
  lens := inlineOnly 4
  range := fun x _ => sceneOk (u16 x.p 0)
  body := fun x s =>
    match mapGet s.prog.scenes (u16 x.p 0) with
    | none => fail .badParam s
    | some sc =>
      if partsOf sc.bytes ≤ u16 x.p 2 then fail .badParam s
      else { st := s, data := le 2 (partsOf sc.bytes),
             sheet := some (((sceneHeader sc sc.crc ++ sceneTail sc).drop (u16 x.p 2 * 4096)).take 4096) }

/-- The scene of a complete image; none when its header or CRC is bad (R338). -/
def sceneOfImage (s : State) (b : Bytes) : Option Scene :=
  let sc : Scene := { name := slice b 24 16, scope := u32 b 12, part := u16 b 6, fsOp := u32 b 8, bytes := u32 b 16, crc := u32 b 20,
                      ssi := s.stem.ssi, image := some (b.drop 64), counts := (List.range 5).map (fun j => u16 b (40 + 2 * j)),
                      body := bodyOf (u32 b 12) (b.drop 64) }
  if b.length < 64 ∨ u32 b 0 ≠ 0x53434E45 ∨ u16 b 4 ≠ 1 ∨ u32 b 16 ≠ b.length
    ∨ (crc32c (b.take 20 ++ zeros 4 ++ b.drop 24)).toNat ≠ u32 b 20 then none
  else some sc

/-- The command SCENE.IMPORT (R338): parts in order from 0, the scene entered with the last. -/
def cmdSceneImport : Cmd where
  lens := inlineWithSheet 7
  range := fun x _ => sceneOk (u16 x.p 0) && 1 ≤ u16 x.p 4 && u16 x.p 2 < u16 x.p 4
  body := fun x s =>
    let num := u16 x.p 0
    let part := u16 x.p 2
    let job : Option ImportJob := if part = 0 then some { scene := num, total := u16 x.p 4, next := 0, bytes := [] } else s.prog.inbound
    match job with
    | none => fail .seqConflict s
    | some j =>
      if j.scene ≠ num ∨ j.total ≠ u16 x.p 4 ∨ j.next ≠ part then fail .seqConflict s
      else
        let b := j.bytes ++ x.sh
        if part + 1 < j.total then
          { st := { s with prog := { s.prog with inbound := some { j with next := part + 1, bytes := b } } } }
        else match sceneOfImage s b with
        | none => fail .badParam s
        | some sc =>
          if (mapGet s.prog.scenes num).isSome ∧ ¬ bit (u8 x.p 6) 0 then fail .busy s
          else if ¬ storeRoom s num sc.bytes then fail .capacity s
          else { st := putScene num sc (sealUse (le 4 sc.crc) b.length { s with prog := { s.prog with inbound := none } }) }

/-! ### Safe masks (R320) -/

/-- The safe mask of an instance, or of a sink (kind 4). -/
def safeOf (s : State) (kind index : Nat) : Nat := tabGet 0 s.prog.safes (instKey kind index)

/-- The numbering range and the variant's count of a KIND of SCENE.SAFE_SET. -/
def safeRange (kind : Nat) : Nat := if kind = 4 then 8192 else kindRange kind
/-- The variant's count. -/
def safeCount (s : State) (kind : Nat) : Nat := if kind = 4 then ligSize s.variant else kindCount s kind

/-- The command SCENE.SAFE_SET. -/
def cmdSceneSafeSet : Cmd where
  lens := inlineOnly 12
  absent := fun x s => u8 x.p 0 = 4 && runAbsent s (u16 x.p 2) (min (u16 x.p 4) 8192)
  range := fun x _ => u8 x.p 0 ≤ 4 && 1 ≤ u16 x.p 4 && u16 x.p 2 + u16 x.p 4 ≤ safeRange (u8 x.p 0)
  body := fun x s =>
    let kind := u8 x.p 0
    let l := sinkRun (u16 x.p 2) (u16 x.p 4)
    let gone := l.filter (fun n => safeCount s kind ≤ n)
    let mask := if kind = 4 then u32 x.p 8 &&& 0x10000 else u32 x.p 8 % 2 ^ 19
    if ¬ gone.isEmpty ∧ ¬ x.fit then fail .capacity s
    else
      let here := l.filter (fun n => ¬ safeCount s kind ≤ n)
      { st := { s with prog := { s.prog with safes := here.foldl (fun t n => tabPut 0 t (instKey kind n) mask) s.prog.safes } },
        warns := gone.map (fun n => warn8 2 n n 0) }

/-- The command SCENE.SAFE_GET: as many masks as exist from START, at most 1,024 (log 37). -/
def cmdSceneSafeGet : Cmd where
  lens := inlineOnly 4
  range := fun x _ => u8 x.p 0 ≤ 4 && u16 x.p 2 < safeRange (u8 x.p 0)
  body := fun x s =>
    let n := min 1024 (safeCount s (u8 x.p 0) - u16 x.p 2)
    { st := s, sheet := sheetOf ((sinkRun (u16 x.p 2) n).flatMap (fun i => le 4 (safeOf s (u8 x.p 0) i))) }

/-! ### SCENE.RECALL (R319 to R324, R336) -/

/-- The categories that a recall changes for an instance or sink (R319). -/
def effective (sc : Scene) (scope flags safe : Nat) : Nat :=
  sc.scope &&& scope &&& (if bit flags 2 then 2 ^ 32 - 1 else 2 ^ 32 - 1 - safe)

/-- The parameters in samples, which a recall at another rate scales (R323). -/
def inSamples (id : Nat) : Bool := id = 0x0401 || id = 0x0501 || (0x8000 ≤ id && id < 0x8080 && id % 16 = 0)

/-- The limit of a recalled parameter that the variant or rate sets. -/
def recallLimit (s : State) (id : Nat) : Option Int :=
  if id = 0x0501 then some 256 else if inSamples id then some (delayMax s) else if isFreq id then some (fmax s) else none

/-- A recalled value: scaled to the present rate (R323). -/
def scaled (s : State) (sc : Scene) (id : Nat) (v : Int) : Int :=
  if inSamples id ∧ sc.fsOp ≠ fsOp s then roundDiv (v * (fsOp s : Nat)) (sc.fsOp : Nat) else v

/-- What a recall brings to one instance: parameters, warnings, and whether something exceeds the variant. -/
structure Brought where
  params : List (Nat × Int) := []
  coefs  : List (Nat × List F32) := []
  warns  : List Warning := []
  excess : Bool := false
  deriving DecidableEq, Repr

/-- The words of a folio within the effective scope, for the instance that takes them. -/
def bring (s : State) (sc : Scene) (eff : Nat) (f : Folio) (i : Inst) : Brought :=
  let n := keyIndex f.key
  let get := fun id => tabGet (((specOf s f.prog id).map (·.dflt)).getD 0) f.params id
  let ids := (idsOf s f.prog).filter (fun id => match specOf s f.prog id with | some p => p.cat ≠ 31 && bit eff p.cat | none => false)
  let skip := fun id => id = 0x0500 && s.power.mode ≠ .commission && (paramsOf s f.key i 0x0500 = 0) ≠ (get id = 0)
  let raw := (ids.filter (fun id => !skip id)).map (fun id => (id, scaled s sc id (get id)))
  let high := fun (e : Nat × Int) => match recallLimit s e.1 with | some m => decide (m < basicValue s f.prog e.1 e.2) | none => false
  let far := f.params.filter (fun e => paramAbsent s f.prog e.1 && e.2 ≠ gainOff && bit eff 10)
  { params := raw.map (fun e => if high e then (e.1, (recallLimit s e.1).getD e.2) else e),
    coefs := f.coefs.filter (fun c => if c.1 < 4 then bit eff 1 else bit eff 2),
    excess := raw.any high || !far.isEmpty,
    warns := (ids.filter skip).map (fun id => warn8 0x0805 n id 0) ++
      (raw.filter (fun e => scaled s sc e.1 (get e.1) ≠ get e.1)).map (fun e => warn8 0x0804 n (get e.1) e.2) ++
      (raw.filter high).map (fun e => warn8 1 n e.2 ((recallLimit s e.1).getD 0)) ++
      far.map (fun e => warn8 2 n e.1 0) }

/-- What a recall arms so far: changes, warnings, excess. -/
structure RecallAcc where
  changes : List Change := []
  warns   : List Warning := []
  excess  : Bool := false
  deriving DecidableEq, Repr

/-- One folio of a recall (R319, R321, R322, R323, R229). -/
def recallFolio (s : State) (sc : Scene) (scope flags at_ : Nat) (acc : RecallAcc) (f : Folio) : RecallAcc :=
  let kind := keyKind f.key
  let n := keyIndex f.key
  let eff := effective sc scope flags (safeOf s kind n)
  if ¬ folioInScope eff f.prog then acc
  else if kindCount s kind ≤ n then
    { acc with excess := true, warns := acc.warns ++ [warn8 2 n n 0] }
  else match mapGet s.prog.insts f.key with
  | none => { acc with warns := acc.warns ++ [warn8 0x0801 n n 0] }
  | some i =>
    if i.prog ≠ f.prog then { acc with warns := acc.warns ++ [warn8 0x0802 n f.prog i.prog] }
    else
      let b := bring s sc eff f i
      let pf := planFades s f.key i at_ b.params b.coefs
      { changes := acc.changes ++ [{ key := f.key, params := b.params, coefs := b.coefs, fades := pf.1 }],
        warns := acc.warns ++ b.warns ++ pf.2, excess := acc.excess || b.excess }

/-- The names that a recall brings, category NAMES. -/
def recallNames (s : State) (sc : Scene) (scope flags : Nat) (l : List Change) : List Change :=
  (sc.body.names.filter (fun e => (mapGet s.prog.insts e.1).isSome
      && bit (effective sc scope flags (safeOf s (keyKind e.1) (keyIndex e.1))) 18)).foldl (fun l e =>
    if l.any (fun c => c.key = e.1) then l.map (fun c => if c.key = e.1 then { c with name := some e.2 } else c)
    else l ++ [{ key := e.1, name := some e.2 }]) l

/-- A stored route names a sink or source beyond the variant's size, or a slot of an absent Serif port (R13, R14, R229). -/
def routeGone (s : State) (r : Nat × Nat) : Bool :=
  ligSize s.variant ≤ r.1 || serifAbsent s.variant r.1 || (wEn r.2 && (wordSources r.2).any (fun n => ligSize s.variant ≤ n || serifAbsent s.variant n))

/-- The route words that a recall brings: those that differ from what the sink would hold. Sinks that the scene stored
without a route take EN 0. -/
def recallRoutes (s : State) (sc : Scene) (scope flags : Nat) : List (Nat × Nat) :=
  let live := (s.lig.sinks.filter (fun e => e.2.live ≠ 0)).map (·.1)
  let sinks := (sc.body.routes.map (·.1) ++ live).dedup
  let word := fun n => ((sc.body.routes.find? (fun r => r.1 = n)).map (·.2)).getD 0
  ((sinks.filter (fun n => !routeGone s (n, word n) && bit (effective sc scope flags (safeOf s 4 n)) 16)).map
    (fun n => (n, word n))).filter (fun r => heldWord s r.1 ≠ r.2 && hairOk s r.1 r.2)

/-- Routes of a stored scene that the variant cannot take (R13, R14, R229). -/
def routesGone (s : State) (sc : Scene) (scope flags : Nat) : List Nat :=
  (sc.body.routes.filter (fun r => routeGone s r && bit (effective sc scope flags 0) 16)).map (·.1)

/-- The records of a settings image that name sources: where each begins, its length and the places of its sources. -/
def sheenRecords (b : Nat → Nat) : List (Nat × Nat × List Nat) :=
  (List.range 64).map (fun g => (groupOfs g, 36, (List.range (min 8 (b (groupOfs g + 1)))).map (fun j => groupOfs g + 4 + 4 * j))) ++
    (List.range 512).map (fun t => (2320 + 2 * t, 2, [2320 + 2 * t])) ++
    (List.range 32).map (fun c => (3344 + 4 * c, 4, [3344 + 4 * c, 3346 + 4 * c]))

/-- The source that a record of a scene's Sheen settings names beyond the variant's (R13, R14, R229); 0xFFFF is an unbound meter. -/
def absentSource (s : State) (b : Nat → Nat) (r : Nat × Nat × List Nat) : Option Nat :=
  (r.2.2.map (fun o => b o + 256 * b (o + 1))).find? (fun n => n ≠ 0xFFFF && (ligSize s.variant ≤ n || serifAbsent s.variant n))

/-- The records of a scene's Sheen settings that name a source beyond the variant's, with that source. -/
def sheenGone (s : State) (l : Tab Nat) : List (Nat × Nat × Nat) :=
  let b := fun o => tabGet (sheenDflt o) l o
  (sheenRecords b).filterMap (fun r => (absentSource s b r).map (fun n => (r.1, r.2.1, n)))

/-- A scene's Sheen settings with the records left out that the variant cannot take: those stay as the engine has them (R14). -/
def sheenKept (s : State) (l : Tab Nat) : Tab Nat :=
  (sheenGone s l).foldl (fun t r => (List.range r.2.1).foldl (fun t j =>
    tabPut (sheenDflt (r.1 + j)) t (r.1 + j) (sheenByte s (r.1 + j))) t) l

/-- The changes of a recall as far as the Reservoir's delay lines let them (R283): in ascending order, a DLY_ON that finds no line left is
kept back; answers the changes, their keys kept back, and the lines taken so far. -/
def fitLines (s : State) (l : List Change) : List Change × List Nat × Nat :=
  l.foldl (fun acc c =>
    match mapGet s.prog.insts c.key with
    | none => (acc.1 ++ [c], acc.2)
    | some i =>
      let n := linesNew s c.key i
      let on : Bool := c.params.contains (0x0400, 1) && decide (i.prog ≤ 4) && !delayTaken s (paramKey s c.key 0x0400)
      if ¬ on then (acc.1 ++ [c], acc.2)
      else if acc.2.2 + n ≤ linesMax s then (acc.1 ++ [c], acc.2.1, acc.2.2 + n)
      else (acc.1 ++ [{ c with params := c.params.filter (fun e => e ≠ (0x0400, 1)) }], acc.2.1 ++ [c.key], acc.2.2)) ([], [], linesTotal s)

/-- The lead of a recall (R324). -/
def recallLead (s : State) : Nat := roundDivN (20 * fsOp s) 1000

/-- The highest planned load in the periods that an action covers, 0.01 %. -/
def actionPeak (a : Armed) (s : State) : Nat :=
  let t := withAction a s
  loadPct t (((coveredPeriods a t).map (fun p => peakTime (loadsIn t p))).foldl max 0)

/-- What a recall asks for beyond the engine: lost routes, Sheen records, delay lines, and instances beyond 90 % (R13, R14, R252, R283). -/
structure Beyond where
  routes : List Nat
  sheen  : List (Nat × Nat × Nat)
  lines  : List Nat
  steady : List Nat

/-- Nothing is beyond the engine. -/
def Beyond.none_ (b : Beyond) : Bool := b.routes.isEmpty && b.sheen.isEmpty && b.lines.isEmpty && b.steady.isEmpty

/-- The warnings of what FIT leaves out. -/
def Beyond.warns (b : Beyond) : List Warning :=
  b.routes.map (fun n => warn8 2 n n 0) ++ b.sheen.map (fun e => warn8 2 e.2.2 e.2.2 0) ++
    b.steady.map (fun k => warn8 6 (keyIndex k) (keyIndex k) 0) ++ b.lines.map (fun k => warn8 1 (keyIndex k) 1 0)

/-- The action of a recall as FIT would arm it, and what it leaves out. -/
def recallAction (op : Nat) (x : Ctx) (num : Nat) (sc : Scene) (scope flags at_ : Nat) (l : List Change) (s : State) : Armed × Beyond :=
  let sheen := if bit (effective sc scope flags 0) 17 then sc.body.sheen else none
  let fl := fitLines s (recallNames s sc scope flags l)
  let st := steadyFit s { client := x.client, seq := x.seq, opcode := op, applySsi := at_, params := x.whole, fit := x.fit,
                          turn := { changes := fl.1, routes := recallRoutes s sc scope flags, scene := num, flags := flags,
                                    sheen := sheen.map (sheenKept s) } }
  (st.1, { routes := routesGone s sc scope flags, sheen := (sheen.map (sheenGone s)).getD [], lines := fl.2.1, steady := st.2 })

/-- Arm a recall of scene `sc` at `at_` under an opcode: on every instance it touches or on none (R336). -/
def armRecall (op : Nat) (x : Ctx) (num : Nat) (sc : Scene) (scope flags at_ : Nat) (s : State) : Res :=
  let acc := sc.body.folios.foldl (recallFolio s sc scope flags at_) {}
  let q := recallAction op x num sc scope flags at_ acc.changes s
  if (acc.excess || !q.2.none_) && !x.fit then fail .capacity s
  else if q.1.turn.routes.any (fun r => routeBusy s at_ r.1) then fail .busy s
  else
    match admitTurn x.fit q.1 s with
    | .error e => fail e s
    | .ok a =>
      { st := schedule x a s,
        data := le 8 at_ ++ le 4 acc.changes.length ++ le 2 a.turn.routes.length ++ le 2 (actionPeak a s),
        warns := acc.warns ++ q.2.warns ++ atomicWarnings s a }

/-- The body of SCENE.RECALL. -/
def recallBody (x : Ctx) (s : State) : Res :=
  match mapGet s.prog.scenes (u16 x.p 0) with
  | none => fail .badParam s
  | some sc =>
    armRecall 0x0802 x (u16 x.p 0) sc (u32 x.p 4) (u8 x.p 2) (if x.timed then x.at_ else up8 (s.stem.ssi + recallLead s)) s

/-- The command SCENE.RECALL. -/
def cmdSceneRecall : Cmd where
  lens := inlineOnly 8
  role := fun x _ => !bit (u8 x.p 2) 2 || roleMeets x.role 3
  range := fun x _ => sceneOk (u16 x.p 0)
  lead := recallLead
  body := recallBody
  arm := some recallBody

/-! ### Execution of a turn (R299, R303, R325) -/

/-- The Sheen settings of a recall take effect: the engine's image and the ANALYZE parameters. -/
def takeSheen (l : List (Nat × Nat)) (s : State) : State :=
  let get := fun o => ((l.find? (fun e => e.1 = o)).map (·.2)).getD (sheenDflt o)
  let s1 := { s with sheen := { s.sheen with image := l.filter (fun e => ¬ (3472 ≤ e.1 ∧ e.1 < 3728)) } }
  (List.range 16).foldl (fun t a => modInst (instKey 3 a) (fun i =>
    { i with params := (List.range 4).foldl (fun p f => tabPut 0 p (0x9000 + f) (get (3472 + 16 * a + f))) i.params }) t) s1

/-- Count a split of an instance: turns of one instance at one SSI off a boundary split it once (R256, DX_SPLITS). -/
def countSplit (k : Nat) (s : State) : State :=
  let l := if s.dx.splitAt.1 = s.stem.ssi then s.dx.splitAt.2 else []
  if s.stem.ssi % 8 = 0 ∨ l.contains k then s
  else { s with dx := { s.dx with splits := s.dx.splits + 1, splitAt := (s.stem.ssi, k :: l) } }

/-- Execute a recall or Flourish: its instances turn, its routes switch, an epoch opens, SCENE_TURN is raised. -/
def executeScene (a : Armed) (late : Bool) (s : State) : State :=
  let live := a.turn.changes.filter (fun c => (mapGet s.prog.insts c.key).isSome)
  let s1 := openEpoch 2 (if bit a.turn.flags 1 then allGroups else []) s
  let s2 := if bit a.turn.flags 1 then restartGroups allGroups s1 else s1
  let s3 := match a.turn.sheen with | some l => takeSheen l s2 | none => s2
  let s4 := live.foldl (fun t c => executeChange c t) s3
  let s5 := takeRoutes a.turn s4
  let n := (live.filter (fun c => !(c.params.isEmpty && c.coefs.isEmpty))).length
  let s6 := live.foldl (fun t c => if c.params.isEmpty && c.coefs.isEmpty then t else countSplit c.key t) s5
  raise 0x0801 (le 2 a.turn.scene ++ le 1 a.client ++ le 1 (b2n late) ++ le 4 n ++ le 8 a.applySsi) s6

/-- Execute a turn of INST.SET, INST.COEF_SET or FOLIO.WRITE; each parameter of INST.SET raises PARAM_CHANGED (R301). A
change of an ANALYZE instance opens an epoch (R515). -/
def executeTurn (a : Armed) (s : State) : State :=
  a.turn.changes.foldl (fun t c =>
    match mapGet t.prog.insts c.key with
    | none => t
    | some i =>
      let t1 := if i.prog = progAnalyze then restartWindow (0x400 + keyIndex c.key) (openEpoch 1 [] t) else t
      let t2 := executeChange c t1
      let t3 := if i.prog = progAnalyze then t2 else countSplit c.key t2
      if a.opcode = 0x0703 then
        c.params.foldl (fun u e => raise 0x0702 (le 1 (keyKind c.key) ++ le 1 a.client ++ le 2 (keyIndex c.key) ++ le 2 e.1 ++
          le 2 a.seq ++ leI 4 e.2) u) t3
      else t3) s

/-- Execute route changes, with one ROUTES_CHANGED event (R363); those armed by a register raise none (log 38). -/
def executeRoutes (a : Armed) (s : State) : State :=
  let s1 := takeRoutes a.turn s
  if a.turn.silent then s1
  else raise 0x0601 (le 1 a.client ++ zeros 1 ++ le 2 a.seq ++ le 2 a.turn.routes.length ++
    le 2 ((a.turn.routes.map (·.1)).foldl min 0xFFFF)) s1

/-! ### Raw folios (R340) -/

/-- The words of a program's folio: its parameters in ascending ID, then five words per coefficient stage (log 39). -/
def folioWords (s : State) (prog : Nat) : Nat :=
  (idsOf s prog).length + 5 * ((List.range 12).filter (stageExists prog)).length

/-- The parameter of a folio word. -/
def wordParam (s : State) (prog w : Nat) : Option Nat := (idsOf s prog)[w]?

/-- The coefficient STAGE and place of a folio word. -/
def wordCoef (s : State) (prog w : Nat) : Option (Nat × Nat) :=
  let n := (idsOf s prog).length
  (((List.range 12).filter (stageExists prog))[(w - n) / 5]?).bind (fun st => if n ≤ w then some (st, (w - n) % 5) else none)

/-- FORMAT of a folio word. -/
def wordFormat (s : State) (prog w : Nat) : Nat :=
  match wordParam s prog w with
  | some id => if inSamples id then 4 else if isGainWord id then 1 else if isFreq id then 2 else 0
  | none => 3

/-- The command FOLIO.MAP: the first 512 words that a sheet holds. -/
def cmdFolioMap : Cmd where
  lens := inlineOnly 1
  range := fun x _ => 1 ≤ u8 x.p 0 && u8 x.p 0 ≤ 7
  body := fun x s =>
    let p := u8 x.p 0
    { st := s, sheet := some ((List.range (min 512 (folioWords s p))).flatMap (fun w =>
        le 2 w ++ le 2 ((wordParam s p w).getD 0xFFFF) ++ le 1 (wordFormat s p w) ++ zeros 3)) }

/-- A parameter's folio word in its FORMAT: linear gain and Hz as binary32, others as in the basic command. -/
def paramWord (id : Nat) (v : Int) : Nat :=
  if isRaw v then (rawWord v).toNat
  else if isGainWord id then (gainF32 v).toNat
  else if isFreq id then (f32Ratio v.toNat 10).toNat
  else unsgn 32 v

/-- The words of a coefficient stage: those written, else those that the basic values give. -/
def stageWords (s : State) (k : Nat) (i : Inst) (st : Nat) : List F32 := (mapGet i.coefs st).getD (designWords s (paramsOf s k i) st)

/-- The value of a folio word of an instance. -/
def wordValue (s : State) (k : Nat) (i : Inst) (w : Nat) : Nat :=
  match wordParam s i.prog w with
  | some id => paramWord id (paramsOf s k i id)
  | none => match wordCoef s i.prog w with
    | some (st, j) => ((stageWords s k i st).getD j 0).toNat
    | none => 0

/-- NEXT of an instance: LIVE with its first armed turn applied. -/
def nextFolio (s : State) (k : Nat) (i : Inst) : Inst :=
  match (inOrder (turnsOn s k)).head? with
  | none => i
  | some a => { projected s k a.applySsi i with coefs := match changeOn a k with
      | some c => c.coefs.foldl (fun t e => tabInsert e.1 e.2 t) i.coefs | none => i.coefs }

/-- The command FOLIO.READ. -/
def cmdFolioRead : Cmd where
  lens := inlineOnly 8
  range := fun x _ => u8 x.p 0 ≤ 3 && u8 x.p 1 ≤ 1 && !indexBad (u8 x.p 0) (u16 x.p 2) && 1 ≤ u16 x.p 6 && u16 x.p 6 ≤ 56
  body := fun x s =>
    if indexAbsent s (u8 x.p 0) (u16 x.p 2) then
      if x.fit then { st := s, warns := [warn8 2 (u16 x.p 2) (u16 x.p 2) 0] } else fail .capacity s
    else match instAt s (u8 x.p 0) (u16 x.p 2) with
    | none => fail .badParam s
    | some (k, i) =>
      if folioWords s i.prog < u16 x.p 4 + u16 x.p 6 then fail .badParam s
      else
        let j := if u8 x.p 1 = 0 then i else nextFolio s k i
        { st := s, data := (sinkRun (u16 x.p 4) (u16 x.p 6)).flatMap (fun w => le 4 (wordValue s k j w)) }

/-- The entries of FOLIO.WRITE. -/
def folioEntries (p : Bytes) : List (Nat × Nat) := (entriesOf 6 8 p).map (fun e => (u16 e 0, u32 e 4))

/-- The coefficient sets that FOLIO.WRITE leaves: each named stage with its words replaced. -/
def folioCoefs (s : State) (k : Nat) (i : Inst) (l : List (Nat × Nat)) : List (Nat × List F32) :=
  let named := (l.filterMap (fun e => (wordCoef s i.prog e.1).map (fun c => (c.1, c.2, e.2))))
  ((named.map (·.1)).dedup).map (fun st => (st, (List.range 5).map (fun j =>
    match named.find? (fun e => e.1 = st && e.2.1 = j) with
    | some e => BitVec.ofNat 32 e.2.2
    | none => (stageWords s k i st).getD j 0)))

/-- The value that a written word gives parameter `id`: a raw word in format 1 or 2, where a gain of 0.0 is "off" (R340). -/
def wordHeld (id w : Nat) : Int :=
  if isGainWord id then (if w % 2 ^ 31 = 0 ∧ offAllowed id then gainOff else rawValue w) else if isFreq id then rawValue w else sgn 32 w

/-- A written word is legal: in format 1 or 2 finite and not negative, in the others as in INST.SET (R340). -/
def folioEntryOk (s : State) (k : Nat) (i : Inst) (id w : Nat) : Bool :=
  if isGainWord id ∨ isFreq id then
    f32Finite (BitVec.ofNat 32 w) && (w < 2 ^ 31 || w = 2 ^ 31) && !sendToMember s i.prog (id, 0)
  else entryOk s k i (id, sgn 32 w)

/-- The body of FOLIO.WRITE: one turn with those words as its scope. -/
def folioBody (x : Ctx) (s : State) : Res :=
  if indexAbsent s (u8 x.p 0) (u16 x.p 2) then
    if x.fit then { st := s, data := le 8 (effectSsi x s) ++ zeros 8, warns := [warn8 2 (u16 x.p 2) (u16 x.p 2) 0] } else fail .capacity s
  else match instAt s (u8 x.p 0) (u16 x.p 2) with
  | none => fail .badParam s
  | some (k, i) =>
    let l := folioEntries x.p
    let named := l.filterMap (fun e => (wordParam s i.prog e.1).map (fun id => (id, e.2)))
    let params := named.map (fun e => (e.1, wordHeld e.1 e.2))
    let coefs := folioCoefs s k i l
    if l.any (fun e => folioWords s i.prog ≤ e.1) ∨ ¬ named.all (fun e => folioEntryOk s k i e.1 e.2) ∨ coefs.any (fun c => !coefStable c.2) then fail .badParam s
    else if params.any (entryCommission s k i) ∧ s.power.mode ≠ .commission then fail .mode s
    else match fitEntries s k i x.fit params with
    | none => fail .capacity s
    | some (p', w) => armChange 0x0822 x k i p' coefs (p'.map (·.1)) (w ++ noBusWarnings s k i p') s

/-- The command FOLIO.WRITE. -/
def cmdFolioWrite : Cmd where
  lens := fun l sl => sl = 0 && 14 ≤ l && (l - 6) % 8 = 0 && l ≤ 222
  fits := countFits 6 8 4
  range := fun x _ => u8 x.p 0 ≤ 3 && !indexBad (u8 x.p 0) (u16 x.p 2)
    && ((folioEntries x.p).map (·.1)).dedup.length = (folioEntries x.p).length
  body := folioBody
  arm := some folioBody

/-! ### Readiness (R308, R341) -/

/-- Replace a waiting action. -/
def mapAction (a : Armed) (f : Armed → Armed) (s : State) : State :=
  let g := fun b => if sameAction a b then f b else b
  { s with ink := { s.ink with armed := s.ink.armed.map g, sched := s.ink.sched.map g } }

/-- A recall is dropped on every instance, and its client told (R341). -/
def dropRecall (st : Status) (a : Armed) (s : State) : State := tellDropped st a (forget a s)

/-- The waiting recall or Flourish of a client and SEQ. -/
def recallOf (s : State) (n q : Nat) : Option Armed :=
  (waiting s).find? (fun a => a.client = n && a.seq = q && (a.opcode = 0x0802 || a.opcode = 0x0C06))

/-! ### The meanings -/

/-- SCENE.STORE. -/
def execSceneStore (r : Request) (s : State) : Host.Outcome State Fault Refusal := serve 0x0801 cmdSceneStore r s
/-- SCENE.RECALL. -/
def execSceneRecall (r : Request) (s : State) : Host.Outcome State Fault Refusal := serve 0x0802 cmdSceneRecall r s
/-- SCENE.DELETE. -/
def execSceneDelete (r : Request) (s : State) : Host.Outcome State Fault Refusal := serve 0x0803 cmdSceneDelete r s
/-- SCENE.LIST. -/
def execSceneList (r : Request) (s : State) : Host.Outcome State Fault Refusal := serve 0x0804 cmdSceneList r s
/-- SCENE.EXPORT. -/
def execSceneExport (r : Request) (s : State) : Host.Outcome State Fault Refusal := serve 0x0805 cmdSceneExport r s
/-- SCENE.IMPORT. -/
def execSceneImport (r : Request) (s : State) : Host.Outcome State Fault Refusal := serve 0x0806 cmdSceneImport r s
/-- SCENE.SAFE_SET. -/
def execSceneSafeSet (r : Request) (s : State) : Host.Outcome State Fault Refusal := serve 0x0807 cmdSceneSafeSet r s
/-- SCENE.SAFE_GET. -/
def execSceneSafeGet (r : Request) (s : State) : Host.Outcome State Fault Refusal := serve 0x0808 cmdSceneSafeGet r s
/-- FOLIO.MAP. -/
def execFolioMap (r : Request) (s : State) : Host.Outcome State Fault Refusal := serve 0x0820 cmdFolioMap r s
/-- FOLIO.READ. -/
def execFolioRead (r : Request) (s : State) : Host.Outcome State Fault Refusal := serve 0x0821 cmdFolioRead r s
/-- FOLIO.WRITE. -/
def execFolioWrite (r : Request) (s : State) : Host.Outcome State Fault Refusal := serve 0x0822 cmdFolioWrite r s

end Sys2Proof.Machine
end

