-- ==== Sys2Proof/Machine/Sheen.lean ====
section
/-! DEFINITION. The Sheen commands and registers, the changes of settings, the report sets and the records (R507 to R527). -/

namespace Sys2Proof.Machine

/-- A warning of group 0x09. -/
def warn9 (code item : Nat) (req app : Int) : Warning :=
  { code := code, group := 9, item := item, requested := req, applied := app }

/-! ### SHEEN.CONFIG and SHEEN.LOUD_RESET (R515 to R518, R523) -/

/-- The waiting actions that open an epoch when they execute (R515). -/
def opensEpoch (a : Armed) : Bool :=
  a.opcode = 0x0901 || a.opcode = 0x0902 || a.opcode = 0x0802 || a.opcode = 0x0C06
    || a.turn.changes.any (fun c => keyKind c.key = 3)

/-- The epoch that a change at `u` opens: one for each SSI up to `u` at which a change waits. -/
def epochAt (s : State) (u : Nat) : Nat :=
  let l := ((waiting s).filter (fun a => opensEpoch a && a.applySsi ≤ u && a.applySsi ≠ u)).map (·.applySsi)
  (s.sheen.epoch + l.dedup.length + 1) % 2 ^ 32

/-- When a Sheen change takes effect: the apply SSI, or the next period boundary (R516). -/
def sheenSsi (x : Ctx) (s : State) : Nat := if x.timed then x.at_ else nextBoundary s

/-- Schedule a Sheen change and reply with its SSI and epoch (R523). -/
def sheenChange (op : Nat) (x : Ctx) (s : State) : Res :=
  let u := sheenSsi x s
  { st := schedule x { client := x.client, seq := x.seq, opcode := op, applySsi := u, params := x.whole, fit := x.fit } s,
    data := le 8 u ++ le 4 (epochAt s u) }

/-- The ballistics of a record within their ranges (R509). -/
def ballOk (d : Bytes) : Bool :=
  u16 d 0 ≤ 10000 && within 10 1000 (u16 d 2) && within 10 3000 (u16 d 4) && within 50 3000 (u16 d 6)
    && decide (-6000 ≤ i16 d 8) && decide (i16 d 8 ≤ 0)

/-- The members of a loudness group's record (R511). -/
def groupMembers (d : Bytes) : List (Nat × Nat) :=
  (List.range (min 8 (u8 d 1))).map (fun j => (u16 d (4 + 4 * j), u8 d (6 + 4 * j)))

/-- The sources that a SHEEN.CONFIG names; an unbound true-peak meter names none. -/
def sheenSources (p : Bytes) : List Nat :=
  let d := p.drop 8
  match u8 p 0 with
  | 1 => (groupMembers d).map (·.1)
  | 2 => ((List.range (u16 p 4)).map (fun j => u16 d (2 * j))).filter (· ≠ 0xFFFF)
  | 3 => [u16 d 0, u16 d 2]
  | _ => []

/-- The bytes of DATA of a section. -/
def sectionBytes (p : Bytes) : Nat :=
  match u8 p 0 with | 0 => 16 | 1 => 36 | 2 => 2 * u16 p 4 | 3 => 4 | _ => 0

/-- The fields of SHEEN.CONFIG within their ranges (R523). -/
def sheenRange (s : State) (p : Bytes) : Bool :=
  let d := p.drop 8
  (sheenSources p).all (· < ligSize s.variant) &&
  match u8 p 0 with
  | 0 => u16 p 2 = 0 && u16 p 4 = 1 && ballOk d
  | 1 => u16 p 2 < 64 && u16 p 4 = 1 && u8 d 0 ≤ 1 && u8 d 1 ≤ 8 && (u8 d 0 = 0 || 1 ≤ u8 d 1) && (groupMembers d).all (·.2 ≤ 2)
  | 2 => within 1 106 (u16 p 4) && u16 p 2 + u16 p 4 ≤ 512
  | 3 => u16 p 2 < 32 && u16 p 4 = 1
  | _ => false

/-- The command SHEEN.CONFIG. -/
def cmdSheenConfig : Cmd where
  lens := fun l sl => sl = 0 && 8 < l
  fits := fun x => 3 < u8 x.p 0 || x.p.length = 8 + sectionBytes x.p
  absent := fun x s => (sheenSources x.p).any (serifAbsent s.variant)
  range := fun x s => sheenRange s x.p
  body := sheenChange 0x0901
  arm := some (sheenChange 0x0901)

/-- The command SHEEN.LOUD_RESET. -/
def cmdSheenLoudReset : Cmd where
  lens := inlineOnly 8
  body := sheenChange 0x0902
  arm := some (sheenChange 0x0902)

/-- Where a section's record lies in the image, and its bytes with reserved bytes zero (R5). -/
def sectionPlace (p : Bytes) : Nat × Bytes :=
  let d := p.drop 8
  match u8 p 0 with
  | 0 => (0, d.take 10)
  | 1 => (groupOfs (u16 p 2), d.take 2 ++ zeros 2 ++ (List.range 8).flatMap (fun j => slice d (4 + 4 * j) 3 ++ zeros 1))
  | 2 => (2320 + 2 * u16 p 2, d)
  | _ => (3344 + 4 * u16 p 2, d)

/-- The windows whose own settings a SHEEN.CONFIG changes from state `s` to state `t` (R517). -/
def changedWindows (p : Bytes) (s t : State) : List Nat :=
  let n := u16 p 2
  let same := fun (o k : Nat) => (List.range k).all (fun j => sheenByte s (o + j) = sheenByte t (o + j))
  match u8 p 0 with
  | 0 => (if same 4 2 then [] else [1]) ++ (if same 0 4 then [] else 0 :: (List.range 512).map (0x200 + ·)) ++
      (if same 6 2 then [] else (List.range 32).map (0x300 + ·))
  | 1 => if same (groupOfs n) 36 then [] else [0x100 + n]
  | 2 => ((List.range (u16 p 4)).filter (fun j => !same (2320 + 2 * (n + j)) 2)).map (fun j => 0x200 + n + j)
  | _ => if same (3344 + 4 * n) 4 then [] else [0x300 + n]

/-- A SHEEN.CONFIG takes effect (R515, R517, R518). -/
def executeSheenConfig (a : Armed) (s : State) : State :=
  let p := a.params
  let g := u16 p 2
  let w := sectionPlace p
  let t := { s with sheen := { s.sheen with image := imagePut w.1 w.2 s.sheen.image } }
  let reset := u8 p 0 = 1 && (bit (u8 p 1) 0 || (!groupOn s g && groupOn t g))
  let same := (List.range 34).all (fun j => sheenByte s (groupOfs g + 2 + j) = sheenByte t (groupOfs g + 2 + j))
    && sheenByte s (groupOfs g + 1) = sheenByte t (groupOfs g + 1)
  let s1 := openEpoch 0 (if reset then [g] else []) s
  let s2 := { s1 with sheen := { s1.sheen with image := imagePut w.1 w.2 s1.sheen.image } }
  let s3 := (changedWindows p s t).foldl (fun r k => restartWindow k r) s2
  if reset then restartGroups [g] s3
  else if u8 p 0 = 1 ∧ ¬ same ∧ ¬ s3.sheen.mixed.contains g then { s3 with sheen := { s3.sheen with mixed := g :: s3.sheen.mixed } }
  else s3

/-- The groups of a mask. -/
def maskGroups (m : Nat) : List Nat := (List.range 64).filter (fun g => bit m g)

/-- A SHEEN.LOUD_RESET takes effect (R518). -/
def executeLoudReset (a : Armed) (s : State) : State :=
  let l := maskGroups (u64 a.params 0)
  restartGroups l (openEpoch 3 l s)

/-! ### Report sets (R519, R520, R524) -/

/-- The items of SHEEN.SET_DEFINE. -/
def setItems (p : Bytes) : List (Nat × Nat) := (entriesOf 8 4 p).map (fun e => (u8 e 0, u16 e 2))

/-- An item's number lies within the ZL9600's numbering. -/
def itemNumbered (it : Nat × Nat) : Bool :=
  match it.1 with
  | 0 | 1 => it.2 < 8192
  | 2 => it.2 < 2048 || (0x1000 ≤ it.2 && it.2 < 0x1100) || (0x2000 ≤ it.2 && it.2 < 0x2080)
  | 3 => it.2 < 512
  | 4 => it.2 < 64
  | 5 => it.2 < 32
  | 6 => it.2 < 16
  | _ => false

/-- An item beyond the variant's counts (R229). -/
def itemGone (s : State) (it : Nat × Nat) : Bool :=
  match it.1 with
  | 0 | 1 => ligSize s.variant ≤ it.2
  | 2 => if it.2 < 0x1000 then kindCount s 0 ≤ it.2 else if it.2 < 0x2000 then kindCount s 1 ≤ it.2 - 0x1000 else kindCount s 2 ≤ it.2 - 0x2000
  | _ => false

/-- An item that names a meter not in use (R524). -/
def itemUnused (s : State) (it : Nat × Nat) : Bool :=
  match it.1 with
  | 3 => tpSource s it.2 = 0xFFFF
  | 4 => !groupOn s it.2
  | 6 => (mapGet s.prog.insts (instKey 3 it.2)).isNone
  | _ => false

/-- The command SHEEN.SET_DEFINE (R524): a replaced set begins anew (log 42). -/
def cmdSheenSetDefine : Cmd where
  lens := listLens 8 4 54 1022
  fits := countFits 8 4 4
  absent := fun x s => (setItems x.whole).any (fun it => it.1 ≤ 1 && serifAbsent s.variant it.2)
  range := fun x s => u8 x.whole 0 < 64 && u8 x.whole 1 ≤ 6 && (setItems x.whole).all (fun it => itemNumbered it && !itemUnused s it)
  body := fun x s =>
    let p := x.whole
    let l := (setItems p).filter (fun it => !itemGone s it)
    let gone := (setItems p).filter (itemGone s)
    if (mapGet s.sheen.sets (u8 p 0)).isSome ∧ ¬ bit (u8 p 2) 1 then fail .busy s
    else if ¬ gone.isEmpty ∧ ¬ x.fit then fail .capacity s
    else if 4096 < 32 + sumN (l.map (entrySize s)) then fail .capacity s
    else
      let r : ReportSet := { owner := x.client, interval := u8 p 1, luRel := bit (u8 p 2) 0, items := l }
      { st := { s with sheen := { s.sheen with sets := tabInsert (u8 p 0) r s.sheen.sets } },
        warns := gone.map (fun it => warn9 2 it.2 it.2 0) }

/-- The command SHEEN.SET_DELETE: by the defining client, or ENGINEER. -/
def cmdSheenSetDelete : Cmd where
  lens := inlineOnly 1
  role := fun x s => roleMeets x.role 3 || (match mapGet s.sheen.sets (u8 x.p 0) with | some r => r.owner = x.client | none => true)
  range := fun x s => (mapGet s.sheen.sets (u8 x.p 0)).isSome
  body := fun x s =>
    let h := s.sheen
    let l := h.closing.filter (fun c => c.set_ ≠ u8 x.p 0)
    { st := { s with sheen := { h with sets := tabErase (u8 x.p 0) h.sets, closing := l } } }

/-- The first intervals of new sets open at a boundary (R524). -/
def startSets (s : State) : State :=
  let u := s.stem.ssi
  { s with sheen := { s.sheen with sets := s.sheen.sets.map (fun e =>
      if e.2.started then e
      else
        let n := setLength s e.2.interval
        (e.1, { e.2 with started := true, opened := u, close := u / n * n + n, partOpen := u % n ≠ 0 })) } }

/-- Records taken oldest first while they fit in a sheet. -/
def fitRecords : Nat → List (Nat × Bytes) → List (Nat × Bytes)
  | _, [] => []
  | room, r :: l => if r.2.length ≤ room then r :: fitRecords (room - r.2.length) l else []

/-- The command SHEEN.SET_READ (R524). -/
def cmdSheenSetRead : Cmd where
  lens := inlineOnly 6
  range := fun x s => (mapGet s.sheen.sets (u8 x.p 0)).isSome
  body := fun x s =>
    match mapGet s.sheen.sets (u8 x.p 0) with
    | none => fail .badParam s
    | some r =>
      let after := u32 x.p 2
      let l := fitRecords 4096 (r.records.filter (fun e => after < e.1))
      { st := s, sheet := sheetOf (l.flatMap (·.2)),
        warns := match l.head? with
          | some e => if after + 1 < e.1 then [warn9 0x0901 (u8 x.p 0) ((after + 1 : Nat)) (e.1 : Nat)] else []
          | none => [] }

/-- The command SHEEN.STATUS_GET. -/
def cmdSheenStatusGet : Cmd where
  lens := inlineOnly 0
  body := fun _ s =>
    let h := s.sheen
    { st := s, sheet := some (le 4 h.epoch ++ le 8 h.epochSsi ++ le 4 h.decimated ++ le 4 h.partials ++
        (List.range 64).flatMap (fun g => le 8 (tabGet 0 h.iStart g))) }

/-- The command SHEEN.CONFIG_GET: the image's first 4,096 bytes, beyond which it is zero (log 43). -/
def cmdSheenConfigGet : Cmd where
  lens := inlineOnly 0
  body := fun _ s =>
    let l := sheenSettings s
    { st := s, sheet := some ((List.range 4096).map (fun o => BitVec.ofNat 8 (tabGet (sheenDflt o) l o))) }

/-! ### Records (R521, R522, R525) -/

/-- The samples of an interval that the class B meters skipped (R522). -/
def lostSamples (s : State) (c : Closing) : Nat :=
  sumN (s.sheen.skipped.map (fun p => min c.stop (8 * p + 8) - max c.start (8 * p)))

/-- The bytes of a record; its number is given when it is written. -/
def recordBytes (s : State) (c : Closing) (no : Nat) : Bytes :=
  let lost := lostSamples s c
  le 1 c.set_ ++ le 1 (b2n c.part + 2 * b2n (lost ≠ 0) + 4 * b2n c.span + 8 * b2n c.fill + 16 * b2n c.luRel) ++ le 2 c.items.length ++
    le 4 c.epoch ++ le 8 c.start ++ le 8 c.stop ++ le 4 (c.stop - c.start - lost) ++ le 4 no ++ recordBody s c

/-- SHEEN_READY of a set whose newest record waits to be announced, when 50 ms have passed since the last (R525). -/
def announceSet (n : Nat) (s : State) : State :=
  match mapGet s.sheen.sets n with
  | none => s
  | some r =>
    match r.due with
    | none => s
    | some f =>
      if r.readyMs ≠ 0 ∧ s.stem.ms + 1 < r.readyMs + 50 then s
      else raise 0x0902 (le 1 n ++ le 1 f ++ zeros 2 ++ le 4 r.recordNo)
        (modSet n (fun q => { q with due := none, readyMs := s.stem.ms + 1 }) s)

/-- Announce every set that waits. -/
def announceSets (s : State) : State := s.sheen.sets.foldl (fun t e => announceSet e.1 t) s

/-- The class A and class B work for an interval's last sample has completed (R521). -/
def recordDue (s : State) (c : Closing) : Bool :=
  (c.stop - 1) / 8 < s.stem.ssi / 8 && s.dx.open_.all (fun p => (c.stop - 1) / 8 < p)

/-- The skipped periods that an open or unwritten interval, or a window, may still hold. -/
def keepSkipped (s : State) : List Nat :=
  s.sheen.skipped.filter (fun p => s.sheen.closing.any (fun c => c.start ≤ 8 * p + 7)
    || s.sheen.sets.any (fun e => e.2.opened ≤ 8 * p + 7) || decide (s.stem.ssi < 8 * p + 3 * fsOp s + 4096))

/-- Write the oldest record whose work is complete: the last 8 of a set are kept (R521). -/
def writeRecord (s : State) : State :=
  match s.sheen.closing.find? (recordDue s) with
  | none => s
  | some c =>
    let s1 := { s with sheen := { s.sheen with closing := s.sheen.closing.erase c } }
    match mapGet s1.sheen.sets c.set_ with
    | none => s1
    | some r =>
      let no := (r.recordNo + 1) % 2 ^ 32
      let b := recordBytes s c no
      let l := r.records ++ [(no, b)]
      let s2 := modSet c.set_ (fun q => { q with recordNo := no, records := l.drop (l.length - 8), due := some (u8 b 1) }) s1
      let h := s2.sheen
      let s3 := { s2 with sheen := { h with records := (h.records + 1) % 2 ^ 32, partials := (h.partials + b2n c.part) % 2 ^ 32 } }
      announceSet c.set_ { s3 with sheen := { s3.sheen with skipped := keepSkipped s3 } }

/-- The class B Sheen work of period `p` was skipped (R522). -/
def skipClassB (p : Nat) (s : State) : State :=
  let h := s.sheen
  let t := { s with sheen := { h with decimated := (h.decimated + 1) % 2 ^ 32, skipped := h.skipped ++ [p] } }
  { t with sheen := { t.sheen with skipped := keepSkipped t } }

/-! ### Registers (R526, R527) -/

/-- The ballistics as the last change that waits for its boundary leaves them. -/
def nextBall (s : State) : Bytes :=
  match (s.ink.sched.filter (fun a => a.opcode = 0x0901 && u8 a.params 0 = 0)).getLast? with
  | some a => slice a.params 8 10
  | none => (List.range 10).map (fun o => BitVec.ofNat 8 (sheenByte s o))

/-- A write of SN_BALL0 or SN_BALL1 is an untimed SHEEN.CONFIG of section 0 (R526). -/
def ballWrite (d : Bytes) (s : State) : State :=
  schedule { client := 0xFF, seq := 0 }
    { client := 0xFF, seq := 0, opcode := 0x0901, applySsi := nextBoundary s, params := zeros 4 ++ le 2 1 ++ zeros 2 ++ padTo 16 d } s

/-- SN_BALL0: out-of-range fields act as the nearest limit. -/
def ball0Write (w : Nat) (s : State) : State :=
  ballWrite (le 2 (min 10000 (fld w 0 16)) ++ le 2 (clampN 10 1000 (fld w 16 10)) ++ (nextBall s).drop 4) s

/-- SN_BALL1. -/
def ball1Write (w : Nat) (s : State) : State :=
  let b := nextBall s
  ballWrite (b.take 4 ++ le 2 (clampN 10 3000 (fld w 0 12)) ++ le 2 (clampN 50 3000 (fld w 16 12)) ++ b.drop 8) s

/-- What the last register read of a host returned. -/
def regRead (v : Nat) (s : State) : State := { s with host := { s.host with readData := v } }

/-- A read of SN_SRC_PEAK returns the value and clears it (R4, R527). -/
def srcPeakRead (n : Nat) (s : State) : State :=
  let h := s.sheen
  regRead (tabGet 0 h.srcPeak n).toNat { s with sheen := { h with srcPeak := tabErase n h.srcPeak } }

/-- A read of SN_SNK_PEAK. -/
def snkPeakRead (n : Nat) (s : State) : State :=
  let h := s.sheen
  regRead (tabGet 0 h.snkPeak n).toNat { s with sheen := { h with snkPeak := tabErase n h.snkPeak } }

/-- A read of SN_EPOCH_SSI_LO latches the high word (R527). -/
def epochSsiRead (s : State) : State :=
  regRead (s.sheen.epochSsi % 2 ^ 32) { s with sheen := { s.sheen with epochHi := s.sheen.epochSsi / 2 ^ 32 } }

/-! ### The meanings -/

/-- SHEEN_CONFIG (R523). -/
def execSheenConfig (r : Request) (s : State) : Host.Outcome State Fault Refusal := serve 0x0901 cmdSheenConfig r s
/-- SHEEN_LOUD_RESET (R518). -/
def execSheenLoudReset (r : Request) (s : State) : Host.Outcome State Fault Refusal := serve 0x0902 cmdSheenLoudReset r s
/-- SHEEN_SET_DEFINE (R524). -/
def execSheenSetDefine (r : Request) (s : State) : Host.Outcome State Fault Refusal := serve 0x0910 cmdSheenSetDefine r s
/-- SHEEN_SET_DELETE. -/
def execSheenSetDelete (r : Request) (s : State) : Host.Outcome State Fault Refusal := serve 0x0911 cmdSheenSetDelete r s
/-- SHEEN_SET_READ. -/
def execSheenSetRead (r : Request) (s : State) : Host.Outcome State Fault Refusal := serve 0x0912 cmdSheenSetRead r s
/-- SHEEN_STATUS_GET. -/
def execSheenStatusGet (r : Request) (s : State) : Host.Outcome State Fault Refusal := serve 0x0913 cmdSheenStatusGet r s
/-- SHEEN_CONFIG_GET. -/
def execSheenConfigGet (r : Request) (s : State) : Host.Outcome State Fault Refusal := serve 0x0914 cmdSheenConfigGet r s
/-- SN_BALL0_WRITE (R526): register commands exist in COMMISSION and MAINTENANCE only (R30). -/
def execSnBall0Write (w : Word) (s : State) : Host.Outcome State Fault Refusal :=
  .next (if expertMode s then ball0Write w.toNat s else s)
/-- SN_BALL1_WRITE (R526). -/
def execSnBall1Write (w : Word) (s : State) : Host.Outcome State Fault Refusal :=
  .next (if expertMode s then ball1Write w.toNat s else s)
/-- SN_SRC_PEAK_READ (R4). -/
def execSnSrcPeakRead (n : Nat) (s : State) : Host.Outcome State Fault Refusal :=
  .next (if expertMode s then srcPeakRead n s else s)
/-- SN_SNK_PEAK_READ (R4). -/
def execSnSnkPeakRead (n : Nat) (s : State) : Host.Outcome State Fault Refusal :=
  .next (if expertMode s then snkPeakRead n s else s)
/-- SN_EPOCH_SSI_LO_READ (R527). -/
def execSnEpochSsiLoRead (s : State) : Host.Outcome State Fault Refusal :=
  .next (if expertMode s then epochSsiRead s else s)
/-- REPORT_INTERVAL_CLOSE (R520): the sets whose regular interval ends at the present sample. -/
def execReportIntervalClose (s : State) : Host.Outcome State Fault Refusal := .next (closeDue s.stem.ssi s)
/-- SHEEN_RECORD_WRITTEN (R521). -/
def execSheenRecordWritten (s : State) : Host.Outcome State Fault Refusal := .next (writeRecord s)

end Sys2Proof.Machine
end

