-- ==== Sys2Proof/Machine/Hush.lean ====
section
/-! DEFINITION. Hush: supervision on AON's tick, HUSH_FAULT, the record, the override's weight, and the commands (R367 to R389). -/

namespace Sys2Proof.Machine

/-! ### The record (R380, R381) -/

/-- The fields of a record's bytes. -/
def hushCfgOf (b : Bytes) : HushCfg :=
  { polA := bit (u8 b 6) 0, polB := bit (u8 b 6) 1, tDisc := 10 * u16 b 8, release := 100 * u16 b 10, mute := u8 b 12,
    ports := ((List.range 16).filter (bit (u16 b 14))).map (fun n => (n, serCfgAt b (32 + 16 * n))),
    entries := (List.range (u8 b 7)).map (fun e => { sink := u16 b (288 + 8 * e), src := u16 b (290 + 8 * e), gain := i16 b (292 + 8 * e) }) }

/-- A stored record passes its check (R117). -/
def hushRecordOk (b : Bytes) : Bool :=
  b.length = 1316 && u32 b 0 = 0x48555348 && u16 b 4 = 1 && u32 b 1312 = (crc32c (b.take 1312)).toNat

/-- A record within its ranges, with announcements between Hush ports alone (R380, R387). -/
def hushRangeOk (mult : Nat) (b : Bytes) : Bool :=
  let c := hushCfgOf b
  let on := fun n => n < 512 && c.ports.any (fun e => e.1 = n / 32)
  u32 b 0 = 0x48555348 && u16 b 4 = 1 && u8 b 7 ≤ 128 && within 2 200 (u16 b 8) && within 5 300 (u16 b 10) && within 5 100 (u8 b 12)
    && c.ports.all (fun e => serCfgOk mult e.2)
    && c.entries.all (fun e => on e.sink && on e.src && (e.gain = gainOff || (decide (-14400 ≤ e.gain) && decide (e.gain ≤ 1200))))
    && (c.entries.map (·.sink)).dedup.length = c.entries.length

/-- Change Hush. -/
def modHush (f : Hush → Hush) (s : State) : State := { s with hush := f s.hush }

/-- Ports that enter PORTS or whose PORT_CFG changes run on it; ports that leave keep their configuration (R382, R388). -/
def takeHushPorts (old : HushCfg) (s : State) : State :=
  s.hush.cfg.ports.foldl (fun t e =>
    if portAbsent t e.1 then t
    else if old.ports.any (fun o => o.1 = e.1) then setPortCfg e.1 e.2 t
    else
      let u := modPort e.1 (fun p => { p with cfg := e.2, due := none, held := none }) t
      if u.stem.stemLock then startPort e.1 u else u) s

/-- Hush hardware loads the record of NVS: the built-in defaults where there is none or it fails (R117, R381). -/
def loadHushRecord (s : State) : State :=
  let h := s.hush
  match h.nvs with
  | none => modHush (fun q => { q with cfg := {}, record := [], defaults := true }) s
  | some b =>
    if hushRecordOk b then takeHushPorts h.cfg (modHush (fun q => { q with cfg := hushCfgOf b, record := b, defaults := false }) s)
    else modHush (fun q => { q with cfg := {}, record := [], defaults := true }) s

/-- The record in NVS is present and fails its check. -/
def hushRecordBad (s : State) : Bool := match s.hush.nvs with | some b => !hushRecordOk b | none => false

/-! ### Events and the override's weight (R376, R378, R379, R384) -/

/-- STATE of Hush: released, asserted, fault. -/
def hushState (s : State) : Nat := if s.hush.fault then 2 else if s.hush.asserted then 1 else 0

/-- An event of Hush: a Scribe restart hides it until it ends, at most one per kind (R384). -/
def hushEvent (type : Nat) (payload : Bytes) (s : State) : State :=
  if s.boot.stage = .scribeRestart then
    modHush (fun h => { h with hidden := h.hidden.filter (fun e => e.1 ≠ type) ++ [(type, s.stem.ssi, payload)] }) s
  else raise type payload s

/-- The events that a Scribe restart has hidden, with their latched SSIs (R384). -/
def showHidden (s : State) : State :=
  s.hush.hidden.foldl (fun t e => raiseAt e.2.1 e.1 e.2.2 t) (modHush (fun h => { h with hidden := [] }) s)

/-- The weight of a fade at sample `i` of `n` from `w0` towards 1 or 0 (R310, R379). -/
def fadeWeight (w0 : F32) (up : Bool) (i n : Nat) : F32 :=
  if n ≤ i then (if up then f32One else 0)
  else f32Mix (rcos i n) w0 (if up then f32One else 0)

/-- The override's weight now. -/
def hushWeight (s : State) : F32 := fadeWeight s.hush.ovFrom s.hush.ovUp s.hush.ovDone s.hush.ovLen

/-- The mute time in samples (R376). -/
def muteSamples (s : State) : Nat := roundDivN (s.hush.cfg.mute * fsOp s) 1000

/-- The override starts to rise or fall from the weight that it has reached (R379). -/
def turnOverride (up : Bool) (s : State) : State :=
  let w := hushWeight s
  modHush (fun h => { h with ovUp := up, ovDone := 0, ovLen := muteSamples s, ovFrom := w }) s

/-- Sinks are tagged FORCED: from the first sample of the mute fade to the last of the release (R378). -/
def hushForced (s : State) : Bool := s.hush.ovUp || s.hush.ovDone < s.hush.ovLen

/-! ### Supervision (R369 to R374) -/

/-- AON is live: 2 ms have passed since POR_N was released (R728). -/
def aonLive (s : State) : Bool := s.power.mode ≠ .held && decide (s.boot.porMs + 2 ≤ s.stem.ms)

/-- One sample of a channel (R369). -/
def sampleChannel (pin pol : Bool) (c : HushCh) : HushCh :=
  let v := pin != pol
  let r := if v = c.last then min (c.run + 1) 4 else 1
  { pin := pin, last := v, run := r, deb := if r = 4 then v else c.deb }

/-- Hush asserts: FIRST names the channel that began it (R370, R152, R195). -/
def hushAssert (first : Nat) (s : State) : State :=
  let s1 := modHush (fun h => { h with asserted := true, asserts := h.asserts + 1, wasOn := s.stem.ms, lastSsi := s.stem.ssi }) s
  latchCause 3 (signalBoth 67 (hushEvent 0x0A01 (le 1 first) (vellumCount 52 (turnOverride true s1))))

/-- HUSH_FAULT is latched (R370, R373). -/
def latchFault (cause : Nat) (s : State) : State :=
  let h := s.hush
  let inputs := b2n h.a.deb + 2 * b2n h.b.deb + 4 * b2n h.a.pin + 8 * b2n h.b.pin
  let s1 := modHush (fun q => { q with fault := true, cause := cause, faults := q.faults + 1, lastSsi := s.stem.ssi, out := false }) s
  vellumLog 11 0 cause h.disc (vellumCount 54 (hushEvent 0x0A03 (le 1 cause ++ le 1 inputs ++ le 2 h.disc) s1))

/-- Hush releases. -/
def hushReleased (s : State) : State :=
  let ms := s.stem.ms - s.hush.wasOn
  let s1 := modHush (fun h => { h with asserted := false, lastSsi := s.stem.ssi }) s
  signalBoth 67 (hushEvent 0x0A02 (le 4 ms) (vellumBin 5 (log2Bin (ms / 1000)) (turnOverride false s1)))

/-- The tick after HUSH.CLEAR judges the clear (R374, R386). -/
def judgeClears (s : State) : State :=
  let h := s.hush
  h.clearDue.foldl (fun t c =>
    if ¬ t.hush.fault then finishRunning c.1 c.2 .ok [] t
    else if t.hush.a.deb ∨ t.hush.b.deb then finishRunning c.1 c.2 .hushActive [] t
    else if t.hush.cause = 2 ∧ hushRecordBad t then finishRunning c.1 c.2 .locked [] t
    else
      finishThen c.1 c.2 .ok [] [(t.stem.ssi, 0x0A04, le 1 c.1)]
        (modHush (fun q => { q with fault := false, cause := 0, quiet := false, lastSsi := t.stem.ssi }) t))
    (modHush (fun q => { q with clearDue := [] }) s)

/-- The part of a tick after the channels' samples, from the debounced channels before it (R369). -/
def hushJudge (a0 b0 : Bool) (s : State) : State :=
  let h := s.hush
  let s1 := if (h.a.deb ∨ h.b.deb) ∧ ¬ h.asserted then
      hushAssert (if h.a.deb ∧ h.b.deb ∧ ¬ a0 ∧ ¬ b0 then 2 else if h.a.deb ∧ ¬ a0 then 0 else if h.b.deb ∧ ¬ b0 then 1 else if h.a.deb then 0 else 1) s
    else s
  let s2 :=
    if h.a.deb ≠ h.b.deb then
      let t := modHush (fun q => { q with disc := q.disc + 1 }) s1
      if h.cfg.tDisc ≤ h.disc + 1 ∧ ¬ h.fault then latchFault 1 t else t
    else
      let t := if 0 < h.disc ∧ ¬ h.fault then
          vellumCount 55 (hushEvent 0x0A05 (le 2 h.disc) (modHush (fun q => { q with disagree := q.disagree + 1 }) s1)) else s1
      modHush (fun q => { q with disc := 0 }) t
  let s3 := judgeClears s2
  let k := s3.hush
  let s4 :=
    if ¬ k.a.deb ∧ ¬ k.b.deb ∧ ¬ k.fault then
      let t := modHush (fun q => { q with quiet := true, hold := if q.quiet then q.hold + 1 else 0 }) s3
      if t.hush.asserted ∧ t.hush.cfg.release ≤ t.hush.hold then hushReleased t else t
    else modHush (fun q => { q with quiet := false }) s3
  if s4.hush.fault then modHush (fun q => { q with asserted := true, out := false }) s4 else s4

/-- A record written by HUSH.CONFIG takes effect at the tick; the events of the ports that it starts follow the reply (R388, R179). -/
def loadDueRecord (s : State) : State :=
  match s.hush.loadDue with
  | none => s
  | some (n, q) =>
    let s1 := modHush (fun h => { h with loadDue := none }) s
    loadHushRecord (finishRunning n q .ok (le 4 (u32 (loadHushRecord s1).hush.record 1312)) s1)

/-- One AON tick of Hush with the levels of HUSH_A and HUSH_B (R369). -/
def hushTick (pinA pinB : Bool) (s : State) : State :=
  let s1 := loadDueRecord s
  let h := s1.hush
  hushJudge h.a.deb h.b.deb (modHush (fun q =>
    { q with a := sampleChannel pinA h.cfg.polA q.a, b := sampleChannel pinB h.cfg.polB q.b }) s1)

/-- A channel's level has lasted four ticks: it becomes the debounced state, and the tick is judged (R371, log 47). -/
def channelDebounced (chB alarm : Bool) (s : State) : State :=
  let h := s.hush
  let c := fun (pol : Bool) => ({ pin := alarm != pol, last := alarm, run := 4, deb := alarm } : HushCh)
  hushJudge h.a.deb h.b.deb (modHush (fun q => if chB then { q with b := c h.cfg.polB } else { q with a := c h.cfg.polA }) s)

/-- A disagreement has lasted T_disc ticks (R370, log 47). -/
def disagreementRuns (s : State) : State :=
  let h := s.hush
  if h.a.deb = h.b.deb ∨ h.fault then s
  else hushJudge h.a.deb h.b.deb (modHush (fun q => { q with disc := h.cfg.tDisc - 1 }) s)

/-- The release hold has run out (R372, log 47). -/
def releaseHolds (s : State) : State :=
  let h := s.hush
  if h.a.deb ∨ h.b.deb ∨ h.fault ∨ ¬ h.asserted then s
  else hushJudge false false (modHush (fun q => { q with quiet := true, hold := h.cfg.release - 1 }) s)

/-- HUSH_OUT toggles; it rests low while a fault is latched, and until AON is live (R101, R368, R373, R728). -/
def toggleHushOut (s : State) : State :=
  modHush (fun h => { h with out := !h.fault && aonLive s && !h.out }) s

/-! ### Commands -/

/-- Milliseconds until release. -/
def holdLeft (s : State) : Nat :=
  let h := s.hush
  if h.asserted ∧ h.quiet ∧ ¬ h.fault then h.cfg.release - h.hold else 0xFFFFFFFF

/-- PORTS of the loaded record. -/
def hushPorts (s : State) : Nat := s.hush.cfg.ports.foldl (fun m e => setBit m e.1) 0

/-- INPUTS of Hush. -/
def hushInputs (s : State) : Nat :=
  b2n s.hush.a.deb + 2 * b2n s.hush.b.deb + 4 * b2n s.hush.a.pin + 8 * b2n s.hush.b.pin

/-- The command HUSH.STATUS_GET. -/
def cmdHushStatusGet : Cmd where
  lens := inlineOnly 0
  body := fun _ s =>
    let h := s.hush
    answer (le 1 (hushState s) ++ le 1 (hushInputs s) ++ le 1 h.cause ++ le 1 (b2n h.defaults + 2 * b2n s.stem.aonInt) ++ le 2 h.disc ++
      le 2 h.cfg.tDisc ++ le 4 (holdLeft s) ++ le 4 h.cfg.release ++ le 1 h.cfg.mute ++ le 1 h.cfg.entries.length ++ le 2 (hushPorts s) ++
      le 4 h.asserts ++ le 4 h.faults ++ le 4 h.disagree ++ le 8 h.lastSsi) s

/-- The command HUSH.CLEAR: judged at the AON tick after its execution (R374, R386). -/
def cmdHushClear : Cmd where
  lens := inlineOnly 0
  body := fun x s =>
    if ¬ s.hush.fault then { st := s }
    else { st := modHush (fun h => { h with clearDue := h.clearDue ++ [(x.client, x.seq)] }) s, wait := true }

/-- The command HUSH.CONFIG (R387). -/
def cmdHushConfig : Cmd where
  lens := fun l sl => l = 0 && sl = 1312
  absent := fun x s => (hushCfgOf x.sh).ports.any (fun e => portAbsent s e.1 || (serShared e.2 && !hasTwin s.variant))
  hush := fun _ s => !s.hush.asserted || (s.hush.fault && s.hush.cause = 2)
  range := fun x s => hushRangeOk s.stem.mult x.sh
  body := fun x s =>
    let b := x.sh ++ le 4 (crc32c x.sh).toNat
    if s.hush.loadDue.isSome then fail .busy s
    else { st := sealUse (le 4 (crc32c x.sh).toNat) 1312 <| modHush (fun h => { h with nvs := some b, loadDue := some (x.client, x.seq) }) s, wait := true }

/-- The bytes of the built-in defaults (R381). -/
def hushDefaults : Bytes :=
  le 4 0x48555348 ++ le 2 1 ++ zeros 2 ++ le 2 50 ++ le 2 20 ++ le 1 20 ++ zeros 1303

/-- The command HUSH.CONFIG_GET. -/
def cmdHushConfigGet : Cmd where
  lens := inlineOnly 0
  body := fun _ s => { st := s, sheet := some (if s.hush.defaults then hushDefaults else s.hush.record) }

/-- A read of HS_LAST_SSI_LO latches the high word. -/
def hushSsiRead (s : State) : State :=
  regRead (s.hush.lastSsi % 2 ^ 32) (modHush (fun h => { h with lastHi := h.lastSsi / 2 ^ 32 }) s)

/-! ### The meanings -/

/-- HUSH_STATUS_GET. -/
def execHushStatusGet (r : Request) (s : State) : Host.Outcome State Fault Refusal := serve 0x0A01 cmdHushStatusGet r s
/-- HUSH_CLEAR (R386). -/
def execHushClear (r : Request) (s : State) : Host.Outcome State Fault Refusal := serve 0x0A02 cmdHushClear r s
/-- HUSH_CONFIG (R387). -/
def execHushConfig (r : Request) (s : State) : Host.Outcome State Fault Refusal := serve 0x0A03 cmdHushConfig r s
/-- HUSH_CONFIG_GET. -/
def execHushConfigGet (r : Request) (s : State) : Host.Outcome State Fault Refusal := serve 0x0A04 cmdHushConfigGet r s
/-- HS_LAST_SSI_LO_READ. -/
def execHsLastSsiLoRead (s : State) : Host.Outcome State Fault Refusal := .next (if expertMode s then hushSsiRead s else s)
/-- HUSH_CHANNEL_DEBOUNCED (R371): channel A or B, in alarm or out of it. -/
def execHushChannelDebounced (chB alarm : Bool) (s : State) : Host.Outcome State Fault Refusal :=
  .next (if aonLive s then channelDebounced chB alarm s else s)
/-- HUSH_FAULT (R370). -/
def execHushFault (s : State) : Host.Outcome State Fault Refusal := .next (if aonLive s then disagreementRuns s else s)
/-- HUSH_RELEASE (R372). -/
def execHushRelease (s : State) : Host.Outcome State Fault Refusal := .next (if aonLive s then releaseHolds s else s)
/-- HUSH_OUT_TOGGLE (R368). -/
def execHushOutToggle (s : State) : Host.Outcome State Fault Refusal := .next (toggleHushOut s)

end Sys2Proof.Machine
end

