-- ==== Sys2Proof/Machine/Hash.lean ====
section
/-! DEFINITION. SHA-256 (R560) and the ECDSA P-256 check of a signature (R113, R606). -/

namespace Sys2Proof.Machine

/-! ### SHA-256 (R560, FIPS 180-4) -/

/-- Whether `n` is divided by no number from 2 to `k`. -/
def noDivisor (n : Nat) : Nat → Bool
  | 0 => true
  | k + 1 => (k + 1 < 2 || n % (k + 1) ≠ 0) && noDivisor n k

/-- The first `k` primes from `n` upwards, within `fuel` numbers. -/
def primesFrom (k : Nat) : Nat → Nat → List Nat
  | 0, _ => []
  | fuel + 1, n => if k = 0 then [] else
      if noDivisor n (n - 1) then n :: primesFrom (k - 1) fuel (n + 1) else primesFrom k fuel (n + 1)

/-- The largest `r` below 2^bits with r^d at most `x`. -/
def rootBits (d x : Nat) : Nat → Nat → Nat
  | 0, r => r
  | b + 1, r => rootBits d x b (if (r + 2 ^ b) ^ d ≤ x then r + 2 ^ b else r)

/-- The first 32 bits of the fraction of the square root of a prime: an initial hash word. -/
def sqrtFrac (p : Nat) : Word := BitVec.ofNat 32 (rootBits 2 (p * 2 ^ 64) 40 0)

/-- The first 32 bits of the fraction of the cube root of a prime: a round constant. -/
def cbrtFrac (p : Nat) : Word := BitVec.ofNat 32 (rootBits 3 (p * 2 ^ 96) 40 0)

/-- The 64 round constants. -/
def shaK : List Word := (primesFrom 64 320 2).map cbrtFrac

/-- The initial hash value. -/
def shaInit : List Word := (primesFrom 8 20 2).map sqrtFrac

/-- The message schedule, newest word first, extended by `n` words. -/
def shaExtend : Nat → List Word → List Word
  | 0, w => w
  | n + 1, w =>
    let a := w.getD 14 0
    let b := w.getD 1 0
    let s0 := a.rotateRight 7 ^^^ a.rotateRight 18 ^^^ (a >>> 3)
    let s1 := b.rotateRight 17 ^^^ b.rotateRight 19 ^^^ (b >>> 10)
    shaExtend n ((s1 + w.getD 6 0 + s0 + w.getD 15 0) :: w)

/-- A big-endian word of four bytes. -/
def beWord (b : Bytes) : Word := b.foldl (fun (a : Word) x => (a <<< 8) ||| (x.zeroExtend 32)) 0

/-- The four bytes of a word, big-endian. -/
def wordBe (w : Word) : Bytes := (le 4 w.toNat).reverse

/-- One round on the eight working words. -/
def shaRound (s : List Word) (kw : Word × Word) : List Word :=
  match s with
  | [a, b, c, d, e, f, g, h] =>
    let t1 := h + (e.rotateRight 6 ^^^ e.rotateRight 11 ^^^ e.rotateRight 25) + ((e &&& f) ^^^ (~~~e &&& g)) + kw.1 + kw.2
    let t2 := (a.rotateRight 2 ^^^ a.rotateRight 13 ^^^ a.rotateRight 22) + ((a &&& b) ^^^ (a &&& c) ^^^ (b &&& c))
    [t1 + t2, a, b, c, d + t1, e, f, g]
  | _ => s

/-- Fold one 64-byte block into the hash value. -/
def shaBlock (h : List Word) (b : Bytes) : List Word :=
  let w := (shaExtend 48 ((List.range 16).map (fun i => beWord (slice b (4 * i) 4))).reverse).reverse
  List.zipWith (· + ·) h ((shaK.zip w).foldl shaRound h)

/-- Fold whole blocks. -/
def shaBlocks (h : List Word) (b : Bytes) : List Word := (chunks 64 b.length b).foldl shaBlock h

/-- The padding after a message of `n` bytes. -/
def shaPad (n : Nat) : Bytes := [0x80#8] ++ zeros ((119 - n % 64) % 64) ++ (le 8 (8 * n)).reverse

/-- The digest of a message that continues from the saved words `h` after `done` bytes, a multiple of 64. -/
def shaFrom (h : List Word) (done : Nat) (b : Bytes) : Bytes :=
  (shaBlocks h (b ++ shaPad (done + b.length))).flatMap wordBe

/-- SHA-256 of a message. -/
def sha256 (b : Bytes) : Bytes := shaFrom shaInit 0 b

/-! ### ECDSA P-256 (R113, R606) -/

/-- The field prime of P-256. -/
def p256P : Nat := 2 ^ 256 - 2 ^ 224 + 2 ^ 192 + 2 ^ 96 - 1
/-- The group order of P-256. -/
def p256N : Nat := 0xFFFFFFFF00000000FFFFFFFFFFFFFFFFBCE6FAADA7179E84F3B9CAC2FC632551
/-- The coefficient b of P-256. -/
def p256B : Nat := 0x5AC635D8AA3A93E7B3EBBD55769886BC651D06B0CC53B0F63BCE3C3E27D2604B
/-- The base point of P-256. -/
def p256G : Nat × Nat := (0x6B17D1F2E12C4247F8BCE6E563A440F277037D812DEB33A0F4A13945D898C296,
  0x4FE342E2FE1A7F9B8EE7EB4A7C0F9E162BCE33576B315ECECBB6406837BF51F5)

/-- x^e modulo m over `n` bits of e. -/
def modPow (m x : Nat) : Nat → Nat → Nat
  | 0, _ => 1 % m
  | n + 1, e => let r := modPow m (x * x % m) n (e / 2); if e % 2 = 1 then r * x % m else r

/-- The inverse modulo a prime. -/
def modInv (m x : Nat) : Nat := modPow m (x % m) 256 (m - 2)

/-- Point addition; none is the point at infinity. -/
def ecAdd (a b : Option (Nat × Nat)) : Option (Nat × Nat) :=
  match a, b with
  | none, q => q
  | p, none => p
  | some p, some q =>
    if p.1 = q.1 ∧ (p.2 + q.2) % p256P = 0 then none
    else
      let l := if p.1 = q.1 then (3 * p.1 * p.1 + (p256P - 3)) * modInv p256P (2 * p.2) % p256P
        else (q.2 + p256P - p.2) * modInv p256P (q.1 + p256P - p.1) % p256P
      let x := (l * l + 2 * p256P - p.1 - q.1) % p256P
      some (x, (l * (p.1 + p256P - x) + p256P - p.2) % p256P)

/-- k times a point, over `n` bits of k. -/
def ecMul : Nat → Nat → Option (Nat × Nat) → Option (Nat × Nat)
  | 0, _, _ => none
  | n + 1, k, p => let r := ecMul n (k / 2) (ecAdd p p); if k % 2 = 1 then ecAdd r p else r

/-- A big-endian number, as FIPS 186 reads a digest. -/
def ofBe (b : Bytes) : Nat := ofLe b.reverse

/-- A key of 64 bytes, X then Y, each little-endian (R6), is a point of the curve. -/
def onCurve (key : Bytes) : Bool :=
  let x := ofLe (slice key 0 32)
  let y := ofLe (slice key 32 32)
  x < p256P && y < p256P && (y * y) % p256P = (x * x * x + (p256P - 3) * x + p256B) % p256P

/-- The signature (r then s, little-endian) over a message is valid under a key (X then Y). -/
def ecdsaOk (key sig msg : Bytes) : Bool :=
  let r := ofLe (slice sig 0 32)
  let s := ofLe (slice sig 32 32)
  let e := ofBe (sha256 msg)
  let w := modInv p256N s
  onCurve key && 0 < r && r < p256N && 0 < s && s < p256N &&
    (match ecAdd (ecMul 256 (e * w % p256N) (some p256G))
        (ecMul 256 (r * w % p256N) (some (ofLe (slice key 0 32), ofLe (slice key 32 32)))) with
     | none => false
     | some q => q.1 % p256N = r)

end Sys2Proof.Machine
end

