-- ==== Sys2Proof/Machine/Vellum.lean ====
section
/-! DEFINITION. Vellum: the record's layout, its writes to NVS, exports and the commands (chapter 22). -/

namespace Sys2Proof.Machine

/-! ### The record (R630, R631, R633, R634, R635) -/

/-- Numbers 0 to n − 1 in turn, each through `f`. -/
def table (n : Nat) (f : Nat → Bytes) : Bytes := (List.range n).flatMap f

/-- One event log entry; an entry not yet written is zero. -/
def logEntryBytes (r : VlRecord) (i : Nat) : Bytes :=
  match r.log.find? (fun e => e.1 = i) with
  | none => zeros 32
  | some e => le 8 e.2.aon ++ le 8 e.2.ssi ++ le 2 e.2.kind ++ le 2 e.2.what ++ le 4 e.2.arg ++ le 4 e.2.value ++ zeros 4

/-- The record before its check. -/
def vlRecordBody (s : State) (r : VlRecord) : Bytes :=
  le 4 0x564C4D52 ++ le 2 1 ++ le 2 r.flags ++ le 4 r.writeNo ++ zeros 4 ++ le 8 s.life.serial ++ le 8 r.aon ++ le 8 r.firstTime ++
    le 2 r.logNext ++ zeros 22 ++ table 256 (fun i => le 8 (tabGet 0 r.counters i)) ++ table 512 (fun i => le 4 (tabGet 0 r.bins i)) ++
    table 64 (logEntryBytes r) ++
    table 24 (fun b => le 8 (tabGet 0 r.bankCe b) ++ le 4 (tabGet 0 r.bankUe b) ++ le 2 (tabGet 0 r.bankRet b) ++ zeros 2) ++
    table 144 (fun n => le 2 (tabGet 0 r.nibFaults n) ++ le 2 (tabGet 0 r.nibOut n) ++ le 4 (tabGet 0 r.nibPasses n)) ++ zeros 444

/-- The 8,192 bytes of a record. -/
def vlRecordBytes (s : State) (r : VlRecord) : Bytes := let b := vlRecordBody s r; b ++ le 4 (crc32c b).toNat

/-- AON's time of day in seconds. -/
def aonSeconds (s : State) : Nat := s.stem.aonMs / 1000

/-! ### Writing (R636 to R639) -/

/-- Change Vellum. -/
def modVl (f : Vellum → Vellum) (s : State) : State := { s with vl := f s.vl }

/-- Begin a write of the live record with the FLAGS into the next erased slot. -/
def beginWrite (flags : Nat) (cmds : List (Nat × Nat)) (s : State) : State :=
  let s1 := modRec (fun r => { r with flags := flags, aon := aonSeconds s, writeNo := (r.writeNo + 1) % 2 ^ 32 }) s
  modVl (fun v => { v with writing := some { slot := v.next, flags := flags, image := v.live, ms := s.stem.ms, cmds := cmds } }) s1

/-- A write event falls due: a flush abandons a write in progress and takes its slot's successor; events of one AON tick
make one write; any other waits for the write in progress (R638). Vellum that has worn out writes nothing (R639). -/
def vellumWrite (flags : Nat) (cmds : List (Nat × Nat)) (s : State) : State :=
  if s.vl.worn then s
  else match s.vl.writing with
  | none => beginWrite flags cmds s
  | some w =>
    if flags = 1 then
      beginWrite (flags ||| (if w.ms = s.stem.ms then w.flags else 0)) (w.cmds ++ cmds)
        (modVl (fun v => { v with next := (w.slot + 1) % v.ring }) s)
    else if w.ms = s.stem.ms then
      modRec (fun r => { r with flags := w.flags ||| flags })
        (modVl (fun v => { v with writing := some { w with flags := w.flags ||| flags, image := { w.image with flags := w.flags ||| flags }, cmds := w.cmds ++ cmds } }) s)
    else
      let a := w.again.getD (0, [])
      modVl (fun v => { v with writing := some { w with again := some (a.1 ||| flags, a.2 ++ cmds) } }) s

/-- The replies to the VL.SAVE commands that a write has served (R645). -/
def saveReplies (l : List (Nat × Nat)) (s : State) : State :=
  let s1 := if l.isEmpty then s else modVl (fun v => { v with saveMs := s.stem.ms + 1 }) s
  l.foldl (fun t c => finishRunning c.1 c.2 .ok [] t) s1

/-- The power-fail flush has ended (R668, FLUSH_DONE). -/
def flushEnds (flags : Nat) (s : State) : State :=
  if bit flags 0 ∧ s.boot.pwrFlush then { s with boot := { s.boot with pwrFlush := false }, host := { s.host with flushDone := true } } else s

/-- A slot has been written and read back well (R637, R639). -/
def slotStored (w : VlWrite) (s : State) : State :=
  let ring := s.vl.ring
  let gone := fun (n : Nat) => n = w.slot || n = (w.slot + 1) % ring || n = (w.slot + 2) % ring
  let s1 := modVl (fun v => { v with slots := (v.slots.filter (fun e => ¬ gone e.1)) ++ [(w.slot, w.image)], next := (w.slot + 1) % ring,
                                     writing := none, lastWrite := w.image.aon, lastMs := w.ms }) s
  let s2 := flushEnds w.flags (saveReplies w.cmds s1)
  match w.again with
  | none => s2
  | some a => beginWrite a.1 a.2 s2

/-- A slot has failed its read-back: it is retired, and the write is repeated in the next slot (R639). -/
def slotRetired (w : VlWrite) (s : State) : State :=
  let v := s.vl
  let spares := v.spares - 1
  let ring := if v.spares = 0 then v.ring - 1 else v.ring
  let s1 := raise 0x0F01 (le 1 ring ++ le 1 spares)
    (vellumCount 78 (modVl (fun q => { q with ring := ring, spares := spares, slots := q.slots.filter (fun e => e.1 ≠ w.slot) }) s))
  if ring < 8 then
    let s2 := raise 0x0F02 (le 1 ring) (modVl (fun q => { q with worn := true, writing := none }) s1)
    (w.cmds ++ (w.again.getD (0, [])).2).foldl (fun t c => finishRunning c.1 c.2 .busy [] t) s2
  else
    modVl (fun q => { q with writing := some { w with slot := (w.slot + 1) % ring } }) s1

/-- VELLUM_WRITE_DONE: the read-back of the slot being written (R639). -/
def writeDone (good : Bool) (s : State) : State :=
  match s.vl.writing with
  | none => s
  | some w => if good then slotStored w s else slotRetired w s

/-- 10 min of AON time have passed since the last write (R636). -/
def periodicDue (s : State) : Bool := s.vl.lastMs + 600000 ≤ s.stem.ms

/-- The valid slot with the highest WRITE_NO (R637). -/
def newestSlot (l : List (Nat × VlRecord)) : Option (Nat × VlRecord) :=
  l.foldl (fun (m : Option (Nat × VlRecord)) e =>
    match m with | none => some e | some b => if b.2.writeNo < e.2.writeNo then some e else m) none

/-- At POR_N the live record is loaded from NVS, and the release is counted (R630, R631, R639). -/
def loadVellum (s : State) : State :=
  let s0 := modVl (fun v => { v with writing := none, export_ := none, saveMs := 0, aonHi := 0, lastMs := s.stem.ms, unwarned := false }) s
  match newestSlot s0.vl.slots with
  | none => vellumCount 3 (modVl (fun v => { v with live := {}, clean := true }) s0)
  | some e =>
    let clean := bit e.2.flags 0 || bit e.2.flags 1
    let v := s0.vl
    let v1 := { v with live := e.2, clean := clean, next := (e.1 + 1) % v.ring, lastWrite := e.2.aon, unwarned := !clean, loadedNo := e.2.writeNo }
    let s1 := vellumCount 3 { s0 with vl := { v1 with loadedAon := e.2.aon } }
    if clean then s1 else vellumLog 14 0 0 e.2.writeNo (vellumCount 6 s1)

/-- VL_UNWARNED, once, at the READY that follows an unwarned power-off (R639). -/
def announceUnwarned (s : State) : State :=
  if s.vl.unwarned then
    raise 0x0F03 (le 4 s.vl.loadedNo ++ zeros 4 ++ le 8 s.vl.loadedAon) (modVl (fun v => { v with unwarned := false }) s)
  else s

/-! ### Exports (R642 to R644) -/

/-- An export of the given KIND over a record, signed with the identity key where there is one (R642). -/
def exportBytes (kind : Nat) (challenge : Bytes) (s : State) : Bytes :=
  let key := hasIdentity s
  let hdr := le 4 0x564C4558 ++ le 2 1 ++ le 1 kind ++ le 1 (b2n key) ++ le 8 s.life.serial ++ le 4 (sysId s) ++ le 4 s.boot.fwVer ++
    le 1 s.life.state ++ zeros 3 ++ le 4 8192 ++ le 8 s.stem.ssi ++ le 8 (aonSeconds s) ++ padTo 16 challenge ++
    le 32 (if key then s.life.idKeyHash else 0) ++ zeros 32
  let body := vlRecordBytes s (if kind = 0 then { s.vl.live with flags := 0 } else s.vl.live)
  hdr ++ body ++ (if key then padTo 64 (Config.signature s.draws) else zeros 64)

/-! ### The commands -/

/-- VL.STATUS_GET. -/
def cmdVlStatusGet : Cmd where
  lens := inlineOnly 0
  body := fun _ s =>
    let v := s.vl
    answer (le 4 v.live.writeNo ++ le 1 v.ring ++ le 1 v.spares ++ le 1 (b2n v.worn + 2 * b2n v.final.isSome + 4 * b2n v.clean) ++ zeros 1 ++
      le 8 v.lastWrite ++ le 8 (tabGet 0 v.live.counters 0)) s

/-- VL.READ. -/
def cmdVlRead : Cmd where
  lens := inlineOnly 4
  range := fun x _ => 1 ≤ u16 x.p 2 && u16 x.p 2 ≤ 4096 && u16 x.p 0 + u16 x.p 2 ≤ 8192
  body := fun x s => { st := s, sheet := some (slice (vlRecordBytes s s.vl.live) (u16 x.p 0) (u16 x.p 2)) }

/-- The live export composed last serves this request (R644). -/
def composedExport (x : Ctx) (s : State) : Option Bytes :=
  match s.vl.export_ with
  | none => none
  | some e => if e.2.1 = slice x.p 4 16 ∧ s.stem.ms ≤ e.2.2 + 10000 then some e.1 else none

/-- VL.EXPORT (R644). -/
def cmdVlExport : Cmd where
  lens := inlineOnly 20
  range := fun x s => u8 x.p 0 ≤ 1 && u16 x.p 2 ≤ 2 && (u8 x.p 0 = 0 || s.vl.final.isSome)
  body := fun x s =>
    let part := fun (b : Bytes) => some (slice b (4096 * u16 x.p 2) 4096)
    if u8 x.p 0 = 1 then { st := s, data := le 2 3, sheet := part (s.vl.final.getD []) }
    else if u16 x.p 2 = 0 then
      let b := exportBytes 0 (slice x.p 4 16) s
      { st := modVl (fun v => { v with export_ := some (b, slice x.p 4 16, s.stem.ms) }) { s with draws := s.draws + 1 },
        data := le 2 3, sheet := part b }
    else match composedExport x s with
    | some b => { st := s, data := le 2 3, sheet := part b }
    | none => fail .seqConflict s

/-- VL.SAVE (R645); a Vellum that has worn out writes no more, so it is refused (log 48). -/
def cmdVlSave : Cmd where
  lens := inlineOnly 0
  body := fun x s =>
    if s.vl.worn ∨ (s.vl.saveMs ≠ 0 ∧ s.stem.ms < s.vl.saveMs - 1 + 60000) then fail .busy s
    else { st := vellumWrite 0 [(x.client, x.seq)] s, wait := true }

/-! ### The meanings -/

/-- VL_STATUS_GET. -/
def execVlStatusGet (r : Request) (s : State) : Host.Outcome State Fault Refusal := serve 0x0F01 cmdVlStatusGet r s
/-- VL_READ. -/
def execVlRead (r : Request) (s : State) : Host.Outcome State Fault Refusal := serve 0x0F02 cmdVlRead r s
/-- VL_EXPORT (R644). -/
def execVlExport (r : Request) (s : State) : Host.Outcome State Fault Refusal := serve 0x0F03 cmdVlExport r s
/-- VL_SAVE (R645). -/
def execVlSave (r : Request) (s : State) : Host.Outcome State Fault Refusal := serve 0x0F04 cmdVlSave r s
/-- VL_AON_LO_READ (R647): the read latches the high word. The counter is read in seconds (log 48). -/
def execVlAonLoRead (s : State) : Host.Outcome State Fault Refusal :=
  .next (if expertMode s then regRead (aonSeconds s % 2 ^ 32) (modVl (fun v => { v with aonHi := aonSeconds s / 2 ^ 32 }) s) else s)
/-- VELLUM_PERIODIC_WRITE (R636). -/
def execVellumPeriodicWrite (s : State) : Host.Outcome State Fault Refusal :=
  .next (if periodicDue s ∧ s.power.mode ≠ .held then vellumWrite 0 [] s else s)
/-- VELLUM_WRITE_DONE (R639): whether the slot read back well. -/
def execVellumWriteDone (good : Bool) (s : State) : Host.Outcome State Fault Refusal := .next (writeDone good s)

end Sys2Proof.Machine
end

