-- ==== Sys2Proof/Machine/Modes.lean ====
section
/-! DEFINITION. The modes: changes at boundaries, MODE.SET's outcomes, DEGRADED, the wake settings, and the resume record
(chapters 04 and 05). -/

namespace Sys2Proof.Machine

/-- Change the Power and wake unit. -/
def modPower (f : Power → Power) (s : State) : State := { s with power := f s.power }

/-! ### The resume record (R127) -/

/-- An instance as it starts again from zero state, with its LIVE parameters (R127, R160). -/
def restInst (i : Inst) : Inst :=
  { i with ramps := [], fades := [], held := [], fadeEnd := none, lines := [], insert := [], sects := [], dyn := {}, olds := [], unfinite := false }

/-- The instances with their LIVE folios, but for those whose removal is in progress. -/
def liveRecords (s : State) : List (Nat × Inst) :=
  (s.prog.insts.filter (fun e => e.2.fadeEnd.isNone)).map (fun e => (e.1, { restInst e.2 with nonfinite := 0 }))

/-- What the engine holds now, as the record keeps it. -/
def snapshotNow (s : State) : ResumeRec :=
  { serif := s.serif.ports.map (fun e => (e.1, e.2.cfg)),
    rx := (s.quill.rx.filter (fun e => e.2.entry ≠ [])).map (fun e => (e.1, e.2.entry)),
    tx := (s.quill.tx.filter (fun e => e.2.entry ≠ [])).map (fun e => (e.1, e.2.entry)),
    sinks := s.lig.sinks.map (fun e => (e.1, e.2.live, e.2.cfg)),
    sheen := s.sheen.image, insts := liveRecords s, prio := s.rt.prio, srcOwn := s.lig.srcOwner, snkOwn := s.lig.snkOwner,
    xbus := s.ms.xbus.map (fun e => (e.1, e.2.role, e.2.headroom, e.2.remotes, e.2.sink)), safes := s.prog.safes }

/-- Write the resume record; every SYS.RESUME_SAVE that waits is answered (R127). -/
def writeResume (s : State) : State :=
  let b := Config.resumeBytes (snapshotNow s)
  s.boot.saving.foldl (fun t c => finishRunning c.1 c.2 .ok [] t)
    (sealUse (le 4 (crc32c b).toNat) b.length { s with resume := some (snapshotNow s), boot := { s.boot with resumeBad := false, saving := [] } })

/-- Something that the record holds has changed since the AUTOSAVE interval began (R127). -/
def resumeStale (s : State) : Bool := s.boot.autoRec ≠ snapshotNow s

/-- An AUTOSAVE interval begins (R127). -/
def startAutosave (s : State) : State := { s with boot := { s.boot with autoMs := s.stem.ms, autoRec := snapshotNow s } }

/-! ### The mode fade (R136, R139) -/

/-- The modes in which program sinks are computed in full (R136). -/
def fullSinks : Mode → Bool
  | .showing | .shadow | .degraded => true
  | _ => false

/-- The weight of the program sinks under the mode fade now. -/
def modeWeight (s : State) : F32 := fadeWeight s.power.fadeFrom s.power.fadeUp s.power.fadeDone s.power.fadeLen

/-- The modes in which the sinks fed by GEN are computed (R136). -/
def genSinks : Mode → Bool
  | .commission | .showing | .shadow | .degraded => true
  | _ => false

/-- The weight of the sinks fed by GEN now. -/
def genWeight (s : State) : F32 := let f := s.power.gen; fadeWeight f.from_ f.up f.done f.len

/-- The samples of a mode fade; a twin change has none (R139). -/
def modeFadeLen (twin : Bool) (s : State) : Nat := if twin then 0 else roundDivN (20 * fsOp s) 1000

/-- The mode fades start from the weights reached, over 20 ms: of the program sinks, and of those that GEN feeds (R139). -/
def startModeFade (up genUp twin : Bool) (s : State) : State :=
  let s1 := if s.power.fadeUp = up then s
    else modPower (fun p => { p with fadeFrom := modeWeight s, fadeUp := up, fadeDone := 0, fadeLen := modeFadeLen twin s }) s
  if s.power.gen.up = genUp then s1
  else modPower (fun p => { p with gen := { up := genUp, done := 0, len := modeFadeLen twin s, from_ := genWeight s } }) s1

/-! ### Changes of mode (R137, R138) -/

/-- Discard every armed action on entry to MAINTENANCE (R215). -/
def discardArmed (s : State) : State :=
  s.ink.armed.foldl (fun t a => tellDropped .mode a t) { s with ink := { s.ink with armed := [] } }

/-- Outside the full modes an OFFSET that still slews is applied at once (R86). -/
def settleOuts (s : State) : State :=
  { s with bl := { s.bl with outs := s.bl.outs.map (fun e => (e.1, { e.2 with now := e.2.ofs })) } }

/-- The mode changes at the latest boundary (R138). While STANDBY entry fades the sinks, no change of mode raises them (R147). -/
def enterMode (m : Mode) (cause : Nat) (s : State) : State :=
  if s.power.mode = m then s
  else
    let old := s.power.mode
    let s0 := if m = .maintenance then { s with entry := some { rec_ := snapshotNow s, sw := s.dx.sw } } else s
    let s1 := modPower (fun p => { p with mode := m, sinceSsi := lastBoundary s }) (if fullMode m then s0 else settleOuts s0)
    let up := !s.power.entering
    let s2 := startModeFade (up && fullSinks m) (up && genSinks m) (cause = 6) s1
    let s3 := if m = .degraded then vellumCount 28 s2 else s2
    let s4 := signalBoth 65 (raiseAt (lastBoundary s) 0x0301 (le 1 (modeCode old) ++ le 1 (modeCode m) ++ le 1 cause) s3)
    if m = .maintenance then discardArmed s4 else s4

/-- STANDBY entry begins at this boundary: ENTERING is set and the program sinks fade (R147). -/
def beginEntry (s : State) : State :=
  startModeFade false false false (modPower (fun p => { p with entering := true, enterFrom := p.mode, stbyDefer := none, wakeHeld := none }) s)

/-! ### MODE.SET (R165) -/

/-- What a MODE.SET comes to. -/
inductive ModeOutcome where
  | refuse (st : Status)
  | same
  | defer
  | go (shed : List Nat)
  deriving DecidableEq, Repr

/-- The transitions of the table to the targets of MODE.SET (R137); DEGRADED to SHOW is among them, though no command makes it (R165). -/
def modeSetAllowed : Mode → Nat → Bool
  | .showing, t => t = 3 || t = 2
  | .degraded, t => t = 3 || t = 2 || t = 4
  | .commission, t => t = 4 || t = 7 || t = 2
  | .maintenance, t => t = 3
  | _, _ => false

/-- The default shed priority of a program (R588). -/
def prioDefault (prog : Nat) : Nat := if prog ≤ 2 then 4 else if prog = 6 then 2 else 6

/-- The shed priority of an instance (R588). -/
def shedPrio (s : State) (k : Nat) (i : Inst) : Nat :=
  let v := tabGet 8 s.rt.prio k
  if v < 8 then v else prioDefault i.prog

/-- `a` is shed before `b`: the lower priority, then the higher index (R589). -/
def shedBefore (s : State) (a b : Nat × Inst) : Bool :=
  let x := shedPrio s a.1 a.2
  let y := shedPrio s b.1 b.2
  if x ≠ y then x < y else keyIndex b.1 < keyIndex a.1

/-- The instance to be shed first among those of a list. -/
def firstToShed (s : State) (l : List (Nat × Inst)) : Option (Nat × Inst) :=
  l.foldl (fun (m : Option (Nat × Inst)) e => match m with | none => some e | some b => if shedBefore s e b then some e else m) none

/-- The instances of class A that run on a Nib. -/
def instsOnNib (s : State) (n : Nat) : List (Nat × Inst) :=
  s.prog.insts.filter (fun e => e.2.prog ≠ progAnalyze && running e.2 && e.2.lane ≠ 0xFFFF && laneNib s e.2.lane = n)

/-- Mark an instance shed: its outputs are ABSENT until it is restored (R291). -/
def shedInst (k : Nat) (s : State) : State := modInst k (fun i => { i with shed := true, ramps := [], fades := [], held := [], lines := [], insert := [], sects := [], dyn := {}, olds := [] }) s

/-- The active Nibs that are planned above 90 %, or that carry a lane without being active. -/
def overfull (s : State) : List Nat :=
  let l := steadyLoads s
  (loadedNibs l).filter (fun n => nibState s n ≠ 1 || budget s * 90 < nibTime l n * 100)

/-- Shed instances until every Nib in service carries at most 90 %. -/
def shedExcess : Nat → State → State
  | 0, s => s
  | k + 1, s =>
    match (overfull s).head? with
    | none => s
    | some n =>
      match firstToShed s (instsOnNib s n) with
      | none => s
      | some e => shedExcess k (shedInst e.1 s)

/-- The instances shed in `t`. -/
def shedKeys (t : State) : List Nat := (t.prog.insts.filter (fun e => e.2.shed)).map (·.1)

/-- The instances that must be shed for SHOW (R165). -/
def excess (s : State) : List Nat := shedKeys (shedExcess s.prog.insts.length s)

/-- MODE.SET's outcome, in the order of R165; a Copybook run makes every MODE.SET BUSY (R627). -/
def modeOutcome (target : Nat) (fit : Bool) (s : State) : ModeOutcome :=
  let m := judgedMode s
  if ¬ (target = 2 ∨ target = 3 ∨ target = 4 ∨ target = 7) then .refuse .badParam
  else if s.power.entering ∨ s.cb.busy then .refuse .busy
  else if target = modeCode m then .same
  else if isPartner s ∨ isMember s then .refuse .busy
  else if ¬ modeSetAllowed m target then .refuse .mode
  else if target = 2 ∧ hushOn s then .refuse .hushActive
  else if target = 2 ∧ s.power.stbyDefer.isSome then .refuse .busy
  else if s.power.waking then (if target = 2 then .defer else .refuse .busy)
  else if m = .degraded ∧ target = 4 then .refuse .mode
  else if m = .commission ∧ target = 4 then
    let l := excess s
    if l.isEmpty then .go [] else if fit then .go l else .refuse .capacity
  else .go []

/-- The warnings that name the instances shed (R165). -/
def shedWarnings (l : List Nat) : List Warning := l.map (fun k => { code := 6, group := 7, item := keyIndex k })

/-- The reply of MODE.SET. -/
def modeSetData (at_ : Nat) (s : State) : Bytes := le 1 (modeCode s.power.mode) ++ zeros 7 ++ le 8 at_

/-- A change of mode accepted for the boundary `at_`. -/
def pendMode (target at_ : Nat) (cmd : Option (Nat × Nat)) (s : State) : State :=
  modPower (fun p => { p with pending := p.pending ++ [{ target := modeOf target, atSsi := at_, cause := 0, cmd := cmd }] }) s

/-- MODE.SET, untimed. -/
def modeSetBody (x : Ctx) (s : State) : Res :=
  match modeOutcome (u8 x.p 0) x.fit s with
  | .refuse st => fail st s
  | .same => answer (modeSetData (nextBoundary s) s) s
  | .defer =>
    { st := modPower (fun p => { p with stbyDefer := some (x.client, x.seq) }) s, data := modeSetData 0 s,
      warns := [{ code := 3, group := 3 }] }
  | .go l =>
    { st := pendMode (u8 x.p 0) (nextBoundary s) (some (x.client, x.seq)) (l.foldl (fun t k => shedInst k t) s),
      data := modeSetData (nextBoundary s) s, warns := shedWarnings l }

/-- MODE.SET, timed: the action is armed (R167). -/
def modeSetArm (x : Ctx) (s : State) : Res :=
  match modeOutcome (u8 x.p 0) x.fit s with
  | .refuse st => fail st s
  | .defer => modeSetBody { x with timed := false } s
  | .same =>
    { st := schedule x { client := x.client, seq := x.seq, opcode := 0x0302, applySsi := x.at_, params := x.p, fit := x.fit } s,
      data := modeSetData (up8 x.at_) s }
  | .go l =>
    { st := schedule x { client := x.client, seq := x.seq, opcode := 0x0302, applySsi := x.at_, params := x.p, fit := x.fit } s,
      data := modeSetData (up8 x.at_) s, warns := shedWarnings l }

/-- MODE.SET: Hush and TARGET are judged at their steps of R210, the other outcomes in their order (R165, log 49). -/
def cmdModeSet : Cmd where
  lens := inlineOnly 4
  hush := fun x s => u8 x.p 0 ≠ 2 || !hushOn s
  range := fun x _ => [2, 3, 4, 7].contains (u8 x.p 0)
  body := modeSetBody
  arm := some modeSetArm

/-- An accepted target takes effect at this boundary. -/
def goMode (target : Nat) (l : List Nat) (s : State) : State :=
  let s1 := l.foldl (fun t k => shedInst k t) s
  if target = 2 then beginEntry s1 else enterMode (modeOf target) 0 s1

/-- MODE_REFUSED to the client that asked (R164). -/
def modeRefused (n target : Nat) (st : Status) (s : State) : State := raiseTo n s.stem.ssi 0x0302 (le 1 target ++ zeros 1 ++ le 2 (statusCode st)) s

/-- Why an accepted change cannot take effect at its boundary: STANDBY entry or a Copybook run is in progress, or the mode reached by then
has no such transition (R137, R165, R627; log 49). -/
def modeBar (target : Nat) (s : State) : Option Status :=
  if s.power.entering ∨ s.cb.busy then some .busy
  else if target = modeCode s.power.mode then none
  else if modeSetAllowed s.power.mode target ∧ ¬ (s.power.mode = .degraded ∧ target = 4) then none
  else some .mode

/-- An accepted change takes effect at its boundary: what exceeds the Nibs in service is shed on the way to SHOW (R165, R167). -/
def turnMode (target : Nat) (s : State) : State :=
  if target = modeCode s.power.mode then s else goMode target (if target = 4 then excess s else []) s

/-- An untimed change falls due. It is reported where its boundary cannot take it (log 49); the end of a Copybook run always can (R618). -/
def applyMode (e : ModePending) (s : State) : State :=
  if e.cause ≠ 0 then enterMode e.target e.cause s
  else match modeBar (modeCode e.target) s with
  | none => turnMode (modeCode e.target) s
  | some st =>
    (match e.cmd with
     | some c => modeRefused c.1 (modeCode e.target) st s
     | none => modPower (fun p => { p with events := setBit p.events 0 }) s)

/-- An armed MODE.SET takes effect at its boundary (R28, R167), where there is such a transition. -/
def executeMode (a : Armed) (s : State) : State :=
  match modeBar (u8 a.params 0) s with
  | none => turnMode (u8 a.params 0) s
  | some st => tellDropped st a s

/-- The changes that fall due at this boundary, in order (R138). -/
def applyModes (s : State) : State :=
  let due := s.power.pending.filter (fun e => decide (e.atSsi ≤ s.stem.ssi))
  due.foldl (fun t e => applyMode e t) (modPower (fun p => { p with pending := p.pending.filter (fun e => decide (s.stem.ssi < e.atSsi)) }) s)

/-! ### DEGRADED (R142, R143, R144) -/

/-- A Ductus watchdog trip lies within the preceding 10 s. -/
def recentTrip (s : State) : Bool := match s.power.wdtTripMs with | none => false | some t => s.stem.ms < t + 10000

/-- An instance is shed because a Nib has failed and no spare remains (R142). -/
def lostToNib (s : State) : Bool := s.prog.insts.any (fun e => e.2.shed && e.2.lost)

/-- DEGRADED is left for SHOW; a partner that has given its claim up meanwhile goes on to SHADOW (R137, R143, R479). -/
def leaveDegraded (s : State) : State :=
  let t := enterMode .showing 5 s
  if isPartner s ∧ (s.twin.state = 2 ∨ s.twin.state = 3) then enterMode .shadow 6 t else t

/-- DEGRADED is entered automatically outside a pair or on a sole unit, and left automatically (R142, R143, R144, R490). -/
def degradedCheck (s : State) : State :=
  if s.power.mode = .showing ∧ ¬ (isPartner s ∧ ¬ s.twin.sole) then
    if lostToNib s then enterMode .degraded 3 s else if recentTrip s then enterMode .degraded 4 s else s
  else if s.power.mode = .degraded then
    if shedCount s = 0 ∧ ¬ recentTrip s then leaveDegraded s else s
  else s

/-! ### A deferred STANDBY (R162, R164) -/

/-- The deferred STANDBY falls due at the first boundary after the wake. -/
def deferredStandby (s : State) : State :=
  match s.power.stbyDefer with
  | none => s
  | some c =>
    if s.power.waking ∨ s.stem.ssi % 8 ≠ 0 ∨ s.power.mode = .standby then s
    else
      let s1 := modPower (fun p => { p with stbyDefer := none }) s
      let st : Option Status := if isPartner s ∨ isMember s then some .busy else if hushOn s then some .hushActive else none
      match st with
      | none => beginEntry s1
      | some st => modPower (fun p => { p with events := setBit p.events 2 }) (modeRefused c.1 2 st s1)

/-! ### The wake settings (R152, R168, R169) -/

/-- WAKE_CAUSE as the register reads. -/
def wakeCauseWord (s : State) : Nat :=
  let p := s.power
  p.causes % 64 + 256 * p.first + 2048 * b2n p.hostRead + 65536 * (min p.wakeMs 65535)

/-- MODE as the register reads. -/
def modeWord (s : State) : Nat :=
  modeCode s.power.mode + 8 * b2n (hushOn s) + 16 * b2n s.power.waking + 32 * b2n s.power.stbyDefer.isSome + 64 * b2n s.power.entering +
    128 * b2n (isPartner s) + 256 * b2n (isMember s)

/-- MODE.GET. -/
def cmdModeGet : Cmd where
  lens := inlineOnly 0
  body := fun _ s =>
    let p := s.power
    answer (le 1 (modeCode p.mode) ++
      le 1 (b2n (hushOn s) + 2 * b2n p.stbyDefer.isSome + 4 * b2n (isPartner s) + 8 * b2n (isMember s) + 16 * b2n p.entering) ++
      le 2 (shedCount s) ++ le 4 (wakeCauseWord s) ++ le 8 p.sinceSsi ++ le 1 p.wakeEn ++ le 1 p.stbyPort ++ zeros 2 ++ le 8 p.wakeAt) s

/-- WAKE_EN with the causes that are always enabled (R152). -/
def wakeEnOf (v : Nat) : Nat := (v % 64) ||| 0x0A

/-- MODE.WAKE_CONFIG (R168). -/
def cmdModeWakeConfig : Cmd where
  lens := inlineOnly 16
  absent := fun x s => u8 x.p 1 ≤ 3 && netPorts s.variant ≤ u8 x.p 1
  range := fun x s => u8 x.p 0 < 64 && u8 x.p 1 ≤ 3 && u8 x.p 2 ≤ 1 && (u64 x.p 8 = 0 || s.stem.ssi + fsOp s ≤ u64 x.p 8)
  body := fun x s =>
    let en := wakeEnOf (u8 x.p 0)
    let s1 := modPower (fun p => { p with wakeEn := en, stbyPort := u8 x.p 1, wakeAt := up8 (u64 x.p 8) }) s
    { st := if u8 x.p 2 = 1 then modPower (fun p => { p with nvsWakeEn := en, nvsStbyPort := u8 x.p 1 }) s1 else s1 }

/-! ### The registers (R165, R169) -/

/-- PW_MODE_REQ: GO requests TARGET under MODE.SET's outcomes; a refused request sets REQ_REJ. -/
def modeReqWrite (w : Nat) (s : State) : State :=
  if ¬ bit w 8 then s
  else match modeOutcome (fld w 0 3) false s with
  | .go _ => pendMode (fld w 0 3) (nextBoundary s) none s
  | .same => s
  | _ => modPower (fun p => { p with events := setBit p.events 0 }) s

/-- PW_WAKE_AT_HI: writing it arms the pair (R169), rounded up to a multiple of 8 as MODE.WAKE_CONFIG rounds (DESIGN CHOICE, log 103). -/
def wakeAtHiWrite (w : Nat) (s : State) : State := modPower (fun p => { p with wakeAt := up8 (w * 2 ^ 32 + p.wakeAtLo) }) s

/-! ### The meanings -/

/-- MODE_GET. -/
def execModeGet (r : Request) (s : State) : Host.Outcome State Fault Refusal := serve 0x0301 cmdModeGet r s
/-- MODE_SET (R165). -/
def execModeSet (r : Request) (s : State) : Host.Outcome State Fault Refusal := serve 0x0302 cmdModeSet r s
/-- MODE_WAKE_CONFIG (R168). -/
def execModeWakeConfig (r : Request) (s : State) : Host.Outcome State Fault Refusal := serve 0x0303 cmdModeWakeConfig r s
/-- PW_MODE_REQ (R165). -/
def execPwModeReq (w : Word) (s : State) : Host.Outcome State Fault Refusal :=
  .next (if expertMode s then modeReqWrite w.toNat s else s)
/-- PW_WAKE_AT_HI_WRITE (R169). -/
def execPwWakeAtHiWrite (w : Word) (s : State) : Host.Outcome State Fault Refusal :=
  .next (if expertMode s then wakeAtHiWrite w.toNat s else s)
/-- DEFERRED_STANDBY (R164). -/
def execDeferredStandby (s : State) : Host.Outcome State Fault Refusal := .next (deferredStandby s)

end Sys2Proof.Machine
end

