-- ==== Sys2Proof/Machine/Clock.lean ====
section
/-! DEFINITION. The SSI, its jams and changes of rate, and the clock commands and registers (chapter 02). -/

namespace Sys2Proof.Machine

/-! ### Moving the SSI (R45, R47, R51) -/

/-- Move the times of one instance: ramps, crossfades and its removal. -/
def moveInst (f : Nat → Nat) (i : Inst) : Inst :=
  { i with fadeEnd := i.fadeEnd.map f, fades := i.fades.map (fun e => { e with start := f e.start, stop := f e.stop }),
           ramps := i.ramps.map (fun e => (e.1, e.2.map (fun r => { r with start := f r.start }))) }

/-- Move an armed or scheduled action with the crossfades planned for it. -/
def moveAction (f : Nat → Nat) (a : Armed) : Armed :=
  let mv := fun (e : Fade) => { e with start := f e.start, stop := f e.stop }
  { a with applySsi := f a.applySsi, turn := { a.turn with changes := a.turn.changes.map (fun c => { c with fades := c.fades.map mv }) } }

/-- Move every time that the engine holds as an SSI of its own schedule, so that each keeps its remaining time (R47). -/
def moveTimes (f : Nat → Nat) (s : State) : State :=
  let p := s.power
  let l := s.lig
  let mvSink := fun (k : Sink) => { k with arm := (if k.arm = 0 then 0 else f k.arm), ramp := k.ramp.map (fun r => { r with start := f r.start }) }
  let ink := { s.ink with armed := s.ink.armed.map (moveAction f), sched := s.ink.sched.map (moveAction f) }
  let lig := { l with patchHole := f l.patchHole, sinks := l.sinks.map (fun e => (e.1, mvSink e.2)) }
  let power := { p with pending := p.pending.map (fun e => { e with atSsi := up8 (f e.atSsi) }), sinceSsi := f p.sinceSsi }
  let bl := { s.bl with stepPend := s.bl.stepPend.map (fun e => { e with atSsi := up8 (f e.atSsi) }) }
  let dx := { s.dx with repeatTo := f s.dx.repeatTo, open_ := s.dx.open_.map (fun k => f (8 * k) / 8) }
  let prog := { s.prog with insts := s.prog.insts.map (fun e => (e.1, moveInst f e.2)) }
  { s with ink := ink, lig := lig, power := power, bl := bl, dx := dx, prog := prog }

/-- SSI_SHIFT to every client with an action armed and to every subscriber (R47, R232). -/
def announceShift (delta : Int) (cause : Nat) (s : State) : State :=
  wellNumbers.foldl (fun t n =>
    let k := (armedBy s n).length
    if 0 < k ∨ subscribes s 0x0101 n then raiseTo n t.stem.ssi 0x0101 (leI 8 delta ++ le 1 cause ++ zeros 3 ++ le 4 k) t else t) s

/-- The SSI takes a new value and every schedule moves with it. -/
def shiftSsi (new : Nat) (f : Nat → Nat) (cause : Nat) (s : State) : State :=
  let delta : Int := (new : Int) - s.stem.ssi
  let s1 := moveSheen f (moveTimes f s)
  vellumCount 20 (announceShift delta cause (regridSets { s1 with stem := { s1.stem with ssi := new, jamDelta := delta }, bl := { s1.bl with captSsi := none } }))

/-- The PTP jam at a boundary: the SSI takes the PTP-derived value, a multiple of 8, and is aligned (R46). AON's time of day
is set from it (log 50). -/
def ptpJam (s : State) : State :=
  if ¬ s.bl.jamDue ∨ ¬ s.stem.jamArmed then s
  else
    let new := (roundDiv ((s.stem.ssi : Int) + s.bl.ptpDelta) 8).toNat * 8
    let d : Int := (new : Int) - s.stem.ssi
    let s1 := shiftSsi new (fun x => ((x : Int) + d).toNat) 0 s
    { s1 with bl := { s1.bl with jamDue := false },
              stem := { s1.stem with aligned := true, jamArmed := false, jams := s1.stem.jams + 1, aonMs := new * 1000 / fsOp s1, aonSet := true } }

/-- ALIGNED is cleared and a jam armed (R46). -/
def armJam (s : State) : State :=
  { s with stem := { s.stem with aligned := false, jamArmed := true },
           bl := { s.bl with aligning := false, thetaStep := false, jamDue := false, theta := 0 } }

/-! ### Changes of rate (R51, R53, R54) -/

/-- The rate multiple of the code of CLK_CFG. -/
def rateMult (c : Nat) : Nat := 2 ^ c

/-- The code of a rate multiple. -/
def rateCode (m : Nat) : Nat := if m = 4 then 2 else if m = 2 then 1 else 0

/-- The channel instances, with the alignment delays and generators that occupy a processing channel each (R270), that lie beyond the
processing channels of a rate multiple, in ascending order. -/
def beyondRate (s : State) (mult : Nat) : List Nat :=
  (s.prog.insts.filter (fun e => keyKind e.1 = 0 && occupiesChannel e.2.prog && decide (channelsAt s.variant mult ≤ keyIndex e.1 + (if e.2.prog = progLink2 then 1 else 0)))).map (·.1)

/-- A rate change begins (the rate change sequence; the SSI counts on to its boundary, R45): transmit streams and Serif ports stop (the rate change sequence). -/
def beginRateChange (c : RateChange) (s : State) : State := stopPorts { s with stem := { s.stem with change := some c } }

/-- SYS.RATE_SET's reply data. -/
def rateData (first : Nat) (delta : Int) : Bytes := le 8 first ++ leI 8 delta

/-- The body of SYS.RATE_SET. DESIGN CHOICE: a request that names the rate in use while the engine is a member or a partner, or while a
change is in progress, gets BUSY by R53 before the OK of R54, which R53 does not except (log 96). -/
def rateSetBody (x : Ctx) (s : State) : Res :=
  let fam := u8 x.p 0
  let mult := u8 x.p 1
  let s0 := if u8 x.p 2 = 1 then { s with stem := { s.stem with nvsFamily := fam, nvsMult := mult } } else s
  if isMember s ∨ isPartner s ∨ s.stem.change.isSome then fail .busy s
  else if fam = s.stem.family ∧ mult = s.stem.mult then answer (rateData (nextBoundary s) 0) s0
  else
    let over_ := beyondRate s mult
    if ¬ over_.isEmpty ∧ ¬ x.fit then fail .capacity s
    else
      let s1 := over_.foldl (fun t k => modInst k (fun i => { i with disabled := true }) t) s0
      { st := beginRateChange { family := fam, mult := mult, cmd := some (x.client, x.seq) } s1, wait := true,
        warns := over_.map (fun k => { code := 6, group := 7, item := keyIndex k }) ++
          (portsTooFast s mult).map (fun n => { code := 0x0501, group := 5, item := n }) }

/-- SYS.RATE_SET. -/
def cmdRateSet : Cmd where
  lens := inlineOnly 4
  range := fun x _ => u8 x.p 0 ≤ 1 && (u8 x.p 1 = 1 || u8 x.p 1 = 2 || u8 x.p 1 = 4) && u8 x.p 2 ≤ 1
  body := rateSetBody

/-- Ductus halts at the first boundary after the acceptance of a rate change; for a change of family the Stem PLL then leaves lock
until it relocks (R54, the rate change sequence). -/
def haltForRate (s : State) : State :=
  match s.stem.change with
  | none => s
  | some c =>
    if c.halted then s
    else { s with stem := { s.stem with change := some { c with halted := true },
                                        stemLock := s.stem.stemLock && decide (c.family = s.stem.family) } }

/-- P lies within 4 samples at the rate in use (R81; log 93). -/
def boundPhase (s : State) : State :=
  { s with bl := { s.bl with phaseOfs := clampI (-phaseLimit s) (phaseLimit s) s.bl.phaseOfs } }

/-- One instance is placed beside those placed already, where its planned finishing time is earliest (R249); `old` is its lane so far. -/
def placeOne (k old : Nat) (s : State) : State :=
  modInst k (fun i =>
    let l := (steadyLoads s).filter (fun e => e.nib ≠ 0xFFFF)
    { i with lane := ((placeNib s l (phaseOf i.prog) (steadyCost s k i)).bind (nibLane s)).getD old }) s

/-- Every instance is placed afresh, in ascending order (R249). -/
def placeAfresh (s : State) : State :=
  let l := s.prog.insts.filter (fun e => phaseOf e.2.prog ≠ 0)
  let none_ := l.foldl (fun t e => modInst e.1 (fun i => { i with lane := 0xFFFF }) t) s
  l.foldl (fun t e => placeOne e.1 e.2.lane t) none_

/-- The rate change reaches its boundary, at or after the one at which Ductus halted: SSI recomputed, actions rescaled, the jam armed, the
instances placed, an epoch opened, and the ports restarted (R46, R47, R51, R249). -/
def stemRelock (s : State) : State :=
  match s.stem.change with
  | none => s
  | some c =>
    if s.stem.ssi % 8 ≠ 0 ∨ ¬ c.halted then s
    else
      let old := fsOp s
      let s0 := boundPhase { s with stem := { s.stem with family := c.family, mult := c.mult, cfgFamily := c.family, cfgRate := rateCode c.mult,
                                                          change := none, stemLock := true } }
      let new := fsOp s0
      let ssi1 := down8 (s.stem.ssi * new / old)
      let delta : Int := (ssi1 : Int) - s.stem.ssi
      let s1 := armJam (shiftSsi ssi1 (fun x => roundDivN (x * new) old) 1 { s0 with dx := { s0.dx with open_ := [] } })
      let s2 := placeAfresh (tellEpoch (restartMeters (restartGroups allGroups (openEpoch 4 allGroups s1))))
      let s3 := match c.cmd with
        | none => (beyondRate s2 c.mult).foldl (fun t k => shedInst k t) s2
        | some _ => s2
      let s4 := startPorts s3
      match c.cmd with
      | none => s4
      | some q => finishRunning q.1 q.2 .ok (rateData ssi1 delta) s4

/-- SYS.CLOCK_GET. -/
def cmdClockGet : Cmd where
  lens := inlineOnly 0
  body := fun _ s =>
    let m := s.stem
    answer (le 1 m.family ++ le 1 m.mult ++ zeros 2 ++ le 4 (fsOp s) ++ le 4 (stemHz s) ++ le 4 (budget s) ++ le 8 (lastBoundary s) ++
      le 1 (b2n m.aligned) ++ le 1 (b2n m.stemLock) ++ zeros 2 ++ le 4 m.jams ++ leI 8 m.jamDelta) s

/-- SYS.SSI_REALIGN (R46). -/
def cmdSsiRealign : Cmd where
  lens := inlineOnly 0
  body := fun _ s => { st := armJam s }

/-! ### Registers (R55, R725) -/

/-- CLK_CTRL acts: in COMMISSION, with no rate change in progress, outside a pair and a manuscript. -/
def clkCtrlOpen (s : State) : Bool := s.power.mode = .commission && s.stem.change.isNone && !isPartner s && !isMember s

/-- CLK_CTRL.APPLY. -/
def clkApply (s : State) : State :=
  let fam := s.stem.cfgFamily
  let mult := rateMult s.stem.cfgRate
  if ¬ clkCtrlOpen s ∨ s.stem.cfgRate = 3 ∨ (fam = s.stem.family ∧ mult = s.stem.mult) then s
  else beginRateChange { family := fam, mult := mult } s

/-- A read of SSI_LO latches the high word. -/
def ssiLoRead (s : State) : State :=
  regRead (s.stem.ssi % 2 ^ 32) { s with stem := { s.stem with ssiHi := s.stem.ssi / 2 ^ 32 } }

/-! ### The lock of the Stem (R44, R118) -/

/-- The Stem PLL locks 10 ms after the release of POR_N or of the internal reset: the rate of NVS is in use, the SSI takes
AON's time of day, the holdover limit of R72 counts from here, and the Serif ports that the Hush record names start. -/
def stemLocks (s : State) : State :=
  if s.stem.stemLock ∨ s.power.mode ≠ .booting ∨ ¬ s.stem.xoIn then s
  else
    let m := s.stem
    let s1 := { s with stem := { m with stemLock := true, xoOk := true, family := m.nvsFamily, mult := m.nvsMult, cfgFamily := m.nvsFamily, cfgRate := rateCode m.nvsMult } }
    let ssi := if m.aonSet then down8 (m.aonMs * fsOp s1 / 1000) else 0
    let s2 := { s1 with stem := { s1.stem with ssi := ssi }, bl := { s1.bl with hoMs := if s1.bl.state = BlState.holdover then m.ms else s1.bl.hoMs, hoWait := false } }
    (s2.hush.cfg.ports.filter (fun e => !portAbsent s2 e.1)).foldl (fun t e => startPort e.1 t) s2

/-! ### The meanings -/

/-- SYS_CLOCK_GET. -/
def execSysClockGet (r : Request) (s : State) : Host.Outcome State Fault Refusal := serve 0x0120 cmdClockGet r s
/-- SYS_RATE_SET (R53). -/
def execSysRateSet (r : Request) (s : State) : Host.Outcome State Fault Refusal := serve 0x0121 cmdRateSet r s
/-- SYS_SSI_REALIGN (R46). -/
def execSysSsiRealign (r : Request) (s : State) : Host.Outcome State Fault Refusal := serve 0x0122 cmdSsiRealign r s
/-- CLK_CTRL_APPLY (R725). -/
def execClkCtrlApply (s : State) : Host.Outcome State Fault Refusal := .next (clkApply s)
/-- CLK_CTRL_REALIGN (R725). -/
def execClkCtrlRealign (s : State) : Host.Outcome State Fault Refusal := .next (if clkCtrlOpen s then armJam s else s)
/-- SSI_LO_READ (R55). -/
def execSsiLoRead (s : State) : Host.Outcome State Fault Refusal := .next (if expertMode s then ssiLoRead s else s)
/-- STEM_LOCK (R44). -/
def execStemLock (s : State) : Host.Outcome State Fault Refusal := .next (stemLocks s)
/-- STEM_RELOCK (R51). -/
def execStemRelock (s : State) : Host.Outcome State Fault Refusal := .next (stemRelock s)

end Sys2Proof.Machine
end

