-- ==== Sys2Proof/Machine/Session.lean ====
section
/-! DEFINITION. Identity, capabilities, roles, grants, Inkwells, subscriptions and armed actions
(chapters 06 and 07, opcodes 0x0101 to 0x0153). -/

namespace Sys2Proof.Machine

/-! ### Grants and roles (R219 to R228) -/

/-- The role of a certificate entry, or none. -/
def certRole (s : State) (key : Nat) : Option Nat := (s.ink.certs.find? (fun e => e.1 = key)).map (·.2)

/-- The grant of an identity key: its certificate entry, or ANON_ROLE (R222). -/
def keyGrant (s : State) (key : Nat) : Nat := (certRole s key).getD s.ink.anonRole

/-- The grant of client `n` (R222, R223). -/
def grantOf (s : State) (n : Nat) : Nat :=
  if (well s n).bind = .net then keyGrant s (well s n).keyHash else s.ink.hostGrants.getD n 0

/-- A grant permits a client to hold a role (R225). -/
def grantPermits (grant role : Nat) : Bool :=
  if grant = 4 then role = 1 || role = 4
  else (role = 1 || role = 2 || role = 3 || role = 5) && roleRank role ≤ roleRank grant

/-- ROLE_CHANGED to the client (R227, R233). -/
def roleChanged (n old new cause : Nat) (s : State) : State :=
  raiseTo n s.stem.ssi 0x0102 (le 1 old ++ le 1 new ++ le 1 cause) s

/-- SYS.IDENTITY_GET: who the engine is and who asks. -/
def identityData (n : Nat) (s : State) : Bytes :=
  le 4 (sysId s) ++ le 4 s.boot.fwVer ++ le 1 s.boot.svnImg ++ le 1 s.life.state ++ le 1 s.boot.slot ++
    le 1 (b2n s.boot.unverified) ++ le 8 s.life.serial ++ le 32 (if s.life.state = 0 then 0 else s.life.idKeyHash) ++
    le 1 n ++ le 1 (well s n).role ++ le 1 (grantOf s n) ++ zeros 1

/-- The command SYS.IDENTITY_GET. -/
def cmdIdentityGet : Cmd := { lens := inlineOnly 0, body := fun x s => answer (identityData x.client s) s }

/-- UNITS: the register blocks present (R235). -/
def unitsMask (v : Variant) : Nat := if hasXmi v then 0xFFFF else 0xEEFF

/-- SYS.CAPS_GET: the counts of the variant and the present state. -/
def capsData (s : State) : Bytes :=
  let v := s.variant
  le 4 (caps0 s) ++ le 4 (caps1 s) ++ le 2 (unitsMask v) ++ le 1 (2 ^ netPorts v - 1) ++ le 1 s.stem.mult ++
    le 2 (2 ^ serifPorts v - 1) ++ le 2 (nibLanes v) ++ le 2 (sparesLeft s) ++ le 2 (channelsAt v s.stem.mult) ++
    le 2 (busesOf v) ++ le 2 (matricesOf v) ++ le 2 (ligSize v) ++ le 2 (streamsOf v) ++ le 2 (streamsOf v) ++
    le 2 (netChannels v) ++ le 4 (banksOf v * 2048) ++ le 4 (xmiMib s) ++ le 4 (delayMax s) ++ le 2 64 ++
    le 2 1024 ++ le 2 2048 ++ zeros 2

/-- The command SYS.CAPS_GET. -/
def cmdCapsGet : Cmd := { lens := inlineOnly 0, body := fun _ s => answer (capsData s) s }

/-- Move client `n` to a role, with its event when the role changes. -/
def changeRole (n role : Nat) (s : State) : State := modWell n (fun w => { w with role := role }) s

/-- The command SYS.ROLE_SET: any target that the grant does not permit is refused with ROLE, a code that names no role included (R225;
log 92). -/
def cmdRoleSet : Cmd where
  lens := inlineOnly 4
  body := fun x s =>
    let role := u8 x.p 0
    if ¬ grantPermits (grantOf s x.client) role then fail .role s
    else
      let old := (well s x.client).role
      { st := changeRole x.client role s, data := le 1 role ++ zeros 3,
        after := if old = role then id else roleChanged x.client old role 0 }

/-- One entry of SYS.GRANT_GET, 40 bytes. -/
def grantEntry (kind role : Nat) (key : Bytes) : Bytes := le 1 kind ++ le 1 role ++ zeros 2 ++ padTo 36 key

/-- The grant table as SYS.GRANT_GET lists it: host entries first, then certificates, then ANON_ROLE. -/
def grantEntries (s : State) : List Bytes :=
  (List.range 8).map (fun n => grantEntry 0 (s.ink.hostGrants.getD n 0) (le 1 n)) ++
    s.ink.certs.map (fun e => grantEntry 1 e.2 (le 32 e.1)) ++ [grantEntry 2 s.ink.anonRole []]

/-- The command SYS.GRANT_GET. -/
def cmdGrantGet : Cmd where
  lens := inlineOnly 2
  body := fun x s => { st := s, sheet := sheetOf (((grantEntries s).drop (u16 x.p 0)).take 102).flatten }

/-- The grant table after SYS.GRANT_SET; none when a new certificate entry finds 128 (R236). -/
def grantWrite (kind role key : Nat) (s : State) : Option State :=
  let k := s.ink
  if kind = 0 then some { s with ink := { k with hostGrants := k.hostGrants.set key role } }
  else if kind = 2 then some { s with ink := { k with anonRole := role } }
  else if role = 0 then some { s with ink := { k with certs := k.certs.filter (fun e => e.1 ≠ key) } }
  else if (certRole s key).isSome then
    some { s with ink := { k with certs := k.certs.map (fun e => if e.1 = key then (key, role) else e) } }
  else if 128 ≤ k.certs.length then none
  else some { s with ink := { k with certs := k.certs ++ [(key, role)] } }

/-- Some host or certificate entry is at ADMIN (R228). -/
def someAdmin (s : State) : Bool := s.ink.hostGrants.contains 5 || s.ink.certs.any (fun e => e.2 = 5)

/-- The clients whose role exceeds their grant. -/
def overGrant (s : State) : List Nat :=
  wellNumbers.filter (fun n => (well s n).bind ≠ .unbound && (well s n).role ≠ 0
    && (well s n).role ≠ grantOf s n && !grantPermits (grantOf s n) (well s n).role)

/-- Each client whose role exceeds its grant falls to it at once (R227). -/
def lowerRoles (s : State) : State := (overGrant s).foldl (fun t n => changeRole n (grantOf s n) t) s

/-- The command SYS.GRANT_SET (R227, R228, R236). -/
def cmdGrantSet : Cmd where
  lens := inlineOnly 36
  range := fun x _ => u8 x.p 0 ≤ 2 && u8 x.p 1 ≤ 5 && (u8 x.p 0 ≠ 0 || u8 x.p 4 ≤ 7)
    && (u8 x.p 0 ≠ 2 || ofLe (slice x.p 4 32) = 0)
  body := fun x s =>
    let kind := u8 x.p 0
    let key := if kind = 0 then u8 x.p 4 else ofLe (slice x.p 4 32)
    match grantWrite kind (u8 x.p 1) key s with
    | none => fail .capacity s
    | some t =>
      if ¬ someAdmin t then fail .badParam s
      else
        { st := lowerRoles t,
          after := fun u => (overGrant t).foldl (fun v n => roleChanged n (well t n).role (grantOf t n) 1 v) u }

/-! ### Inkwells (R204 to R206) -/

/-- BIND as a code. -/
def bindCode : Bind → Nat
  | .unbound => 0 | .pcie => 1 | .hspi => 2 | .net => 3

/-- The client that a CLIENT byte names: 0xFF is the requester. -/
def namedClient (x : Ctx) (b : Nat) : Nat := if b = 0xFF then x.client else b

/-- Whole seconds left to resume a dropped session, rounded up. -/
def resumeLeft (w : Inkwell) (s : State) : Nat :=
  if w.dropped then (w.dropMs + 30000 - s.stem.ms + 999) / 1000 else 0

/-- SYS.INK_GET: the 40 bytes of an Inkwell; an unbound one has BIND 0 and zero counters (R204), and zero in RESERVE, SHARED_FREE, CREDIT
and FRESH too (DESIGN CHOICE, log 105). -/
def inkData (n : Nat) (s : State) : Bytes :=
  let w := well s n
  if w.bind = .unbound then le 1 n ++ zeros 39
  else
    le 1 n ++ le 1 (bindCode w.bind) ++ le 1 w.role ++ le 1 (b2n w.fresh + 2 * b2n w.dropped) ++ le 2 w.lastSeq ++
      le 2 (inkCredit w) ++ le 4 w.executed ++ le 4 w.dups ++ le 4 w.conflicts ++ le 4 w.notReady ++ le 4 w.evtLost ++
      le 2 (sheetsHeld s n) ++ le 1 (reserveFree s n) ++ zeros 1 ++ le 2 (sharedFree s) ++ le 2 (resumeLeft w s) ++
      le 4 w.resumes

/-- The command SYS.INK_GET (R204). -/
def cmdInkGet : Cmd where
  lens := inlineOnly 4
  role := fun x _ => namedClient x (u8 x.p 0) = x.client || roleMeets x.role 3
  range := fun x _ => u8 x.p 0 < 64 || u8 x.p 0 = 0xFF
  body := fun x s => answer (inkData (namedClient x (u8 x.p 0)) s) s

/-- Make a client fresh: its cache is cleared and its mask is zero (R190, R231). -/
def makeFresh (n : Nat) (s : State) : State :=
  modWell n (fun w => { w with fresh := true, cache := [], mask := 0 }) s

/-- The commands in execution of a closed Inkwell complete without a reply, since its ring is gone; the events of those that had ended
are raised (DESIGN CHOICE, log 104). -/
def dropRunning (n : Nat) (s : State) : State :=
  (s.ink.running.filter (fun e => e.client = n)).foldl (fun t e => e.events.foldl (fun u v => raiseAt v.1 v.2.1 v.2.2 u) t)
    { s with ink := { s.ink with running := s.ink.running.filter (fun e => e.client ≠ n) } }

/-- Close an Inkwell: free its sheets, clear its cache and unbind it; Inkwells 0 and 1 keep their binding
and become fresh (R205, INK_CTRL.CLOSE), and their commands in execution complete and reply (R175; log 104). -/
def closeInk (n : Nat) (s : State) : State :=
  let s' := freeAllSheets n s
  if n < 2 then makeFresh n s' else dropRunning n (setWell n {} s')

/-- The command SYS.INK_CLOSE (R205). -/
def cmdInkClose : Cmd where
  lens := inlineOnly 1
  range := fun x _ => u8 x.p 0 < 64
  body := fun x s => if u8 x.p 0 = x.client then fail .badParam s else { st := closeInk (u8 x.p 0) s }

/-! ### Subscriptions and warnings -/

/-- The bits of SET and CLEAR that must be zero (R237). -/
def maskLegal (m : Nat) : Bool := m % 2 = 0 && m < 2 ^ 17

/-- The command SYS.SUBSCRIBE (R237). -/
def cmdSubscribe : Cmd where
  lens := inlineOnly 8
  range := fun x _ => maskLegal (u32 x.p 0) && maskLegal (u32 x.p 4)
  body := fun x s =>
    let m := w1c ((well s x.client).mask ||| u32 x.p 0) (u32 x.p 4)
    { st := modWell x.client (fun w => { w with mask := m }) s, data := le 4 m }

/-- The warning list of the cached reply of SEQ `q`. -/
def cachedWarns (s : State) (n q : Nat) : List Warning :=
  match (well s n).cache.find? (fun e => e.seq = q) with
  | some e => e.warns
  | none => []

/-- The command SYS.WARN_GET (R238). -/
def cmdWarnGet : Cmd where
  lens := inlineOnly 4
  body := fun x s =>
    let l := cachedWarns s x.client (u16 x.p 0)
    if l.isEmpty then fail .badParam s
    else
      let k := (l.drop (u16 x.p 2)).take 255
      { st := s, sheet := some (le 2 k.length ++ le 2 l.length ++ zeros 4 ++ k.flatMap warnBytes) }

/-! ### Armed actions (R213, R214) -/

/-- Insert an action in APPLY_SSI order, after those with the same SSI. -/
def insertArmed (a : Armed) : List Armed → List Armed
  | [] => [a]
  | b :: l => if a.applySsi < b.applySsi then a :: b :: l else b :: insertArmed a l

/-- Actions in APPLY_SSI order; equal SSIs keep Scribe's execution order. -/
def sortArmed (l : List Armed) : List Armed := l.foldl (fun t a => insertArmed a t) []

/-- One entry of SYS.ARMED_GET, 16 bytes. -/
def armedEntry (a : Armed) : Bytes :=
  le 2 a.seq ++ le 2 a.opcode ++ le 1 a.client ++ zeros 3 ++ le 8 a.applySsi

/-- A number that names a client, internal ones included. -/
def isClient (b : Nat) : Bool := b < 64 || (0xFC ≤ b && b ≤ 0xFF)

/-- The command SYS.ARMED_GET. -/
def cmdArmedGet : Cmd where
  lens := inlineOnly 4
  role := fun x _ => namedClient x (u8 x.p 0) = x.client || roleMeets x.role 3
  range := fun x _ => isClient (u8 x.p 0)
  body := fun x s =>
    let l := sortArmed (armedBy s (namedClient x (u8 x.p 0)))
    let rest := l.drop (u16 x.p 2)
    let k := rest.take (if rest.length ≤ 13 then 13 else 255)
    let head := le 2 l.length ++ le 2 k.length ++ zeros 4
    let bytes := k.flatMap armedEntry
    if rest.length ≤ 13 then answer (head ++ bytes) s else { st := s, data := head, sheet := some bytes }

/-! ### The meanings -/

/-- SYS.IDENTITY_GET. -/
def execSysIdentityGet (r : Request) (s : State) : Host.Outcome State Fault Refusal := serve 0x0101 cmdIdentityGet r s
/-- SYS.CAPS_GET. -/
def execSysCapsGet (r : Request) (s : State) : Host.Outcome State Fault Refusal := serve 0x0102 cmdCapsGet r s
/-- SYS.ROLE_SET. -/
def execSysRoleSet (r : Request) (s : State) : Host.Outcome State Fault Refusal := serve 0x0110 cmdRoleSet r s
/-- SYS.GRANT_GET. -/
def execSysGrantGet (r : Request) (s : State) : Host.Outcome State Fault Refusal := serve 0x0111 cmdGrantGet r s
/-- SYS.GRANT_SET. -/
def execSysGrantSet (r : Request) (s : State) : Host.Outcome State Fault Refusal := serve 0x0112 cmdGrantSet r s
/-- SYS.INK_GET. -/
def execSysInkGet (r : Request) (s : State) : Host.Outcome State Fault Refusal := serve 0x0140 cmdInkGet r s
/-- SYS.INK_CLOSE. -/
def execSysInkClose (r : Request) (s : State) : Host.Outcome State Fault Refusal := serve 0x0141 cmdInkClose r s
/-- SYS.SUBSCRIBE. -/
def execSysSubscribe (r : Request) (s : State) : Host.Outcome State Fault Refusal := serve 0x0150 cmdSubscribe r s
/-- SYS.WARN_GET. -/
def execSysWarnGet (r : Request) (s : State) : Host.Outcome State Fault Refusal := serve 0x0151 cmdWarnGet r s
/-- SYS.ARMED_GET. -/
def execSysArmedGet (r : Request) (s : State) : Host.Outcome State Fault Refusal := serve 0x0152 cmdArmedGet r s
/-- A request whose opcode the engine does not know: BAD_OPCODE (R714). -/
def execUnknownOpcodeRequest (op : Nat) (r : Request) (s : State) : Host.Outcome State Fault Refusal :=
  if (opRow op).isSome then .next s
  else serve op { lens := fun _ _ => true, body := fun _ t => fail .badOpcode t } r s
/-- A command in execution completes: its reply is written (R179). -/
def execCommandCompletes (client seq : Nat) (s : State) : Host.Outcome State Fault Refusal :=
  .next (completeRunning client seq s)

end Sys2Proof.Machine
end

