-- ==== Sys2Proof/Machine/Inkwell.lean ====
section
/-! DEFINITION. The Inkwell registers, the sheet pool, the sheet window and the network sessions
(chapter 06). -/

namespace Sys2Proof.Machine

/-- A host transport reaches the engine's registers: PCIe with the link up (an access takes it out of L1), in D0 and out of PERST#; HSPI
once its target answers (R651, R658). -/
def reach (v : Via) (s : State) : Bool :=
  match v with
  | .pcie => s.host.pcie.trained && !s.host.pcie.perst && s.host.pcie.dstate = 0
  | .hspi => s.host.hspiUp

/-- An access over `v`: one over PCIe takes the link out of L1 (R653). -/
def access (v : Via) (s : State) : State := match v with | .pcie => leaveL1 s | .hspi => s

/-- The binding of a host transport. -/
def bindOf : Via → Bind
  | .pcie => .pcie | .hspi => .hspi

/-- Inkwell `n` is bound to transport `v`. -/
def boundTo (v : Via) (n : Nat) (s : State) : Bool := n < 64 && (well s n).bind = bindOf v

/-- Inkwell `n` is unbound and open to the host transports (R171). -/
def openable (n : Nat) (s : State) : Bool := 2 ≤ n && n ≤ 7 && (well s n).bind = .unbound

/-- The hardware answers the oldest waiting request of Inkwell `n` with NOT_READY (R120). -/
def answerOne (n : Nat) (s : State) : State :=
  match (well s n).waiting with
  | [] => s
  | h :: _ => replyNotReady n h.opcode h.seq (takeSlot n s)

/-- The hardware answers every waiting request of Inkwell `n`: at most 16 can wait. -/
def answerAll (n : Nat) (s : State) : State := (List.range 16).foldl (fun t _ => answerOne n t) s

/-- The doorbell's range rule (R174). -/
def doorbellOk (w : Inkwell) (v : Nat) : Bool :=
  1 ≤ (v + 65536 - w.reqProd) % 65536 && (v + 65536 - w.reqProd) % 65536 ≤ 16
    && (v + 65536 - w.repCons) % 65536 ≤ 16

/-- A doorbell that is accepted: REQ_PROD takes the value, the requests wait, DOORBELL is latched as a
wake cause, and while commands are not served the hardware answers at once (R120, R152, R174). -/
def acceptDoorbell (n v : Nat) (heads : List Head) (s : State) : State :=
  let w := well s n
  let k := (v + 65536 - w.reqProd) % 65536
  let s' := latchCause 0 (setWell n { w with reqProd := v % 65536,
                                             waiting := w.waiting ++ (List.range k).map (fun i => { heads.getD i {} with misfit := false }) } s)
  if s.boot.inkBasic then s' else answerAll n s'

/-- DOORBELL: `heads` are the heads of the requests that the client has written into the slots. -/
def doorbell (v : Via) (n x : Nat) (heads : List Head) (s : State) : State :=
  if ¬ reach v s then s
  else if boundTo v n s then
    if doorbellOk (well s n) (x % 65536) then acceptDoorbell n (x % 65536) heads s else inkErr n 0 s
  else if openable n s then inkErr n 1 s
  else s

/-- INK_CTRL.OPEN: bind an unbound Inkwell from 2 to 7 to the writing transport (R170, R206). -/
def inkOpen (v : Via) (n : Nat) (s : State) : State :=
  if reach v s ∧ openable n s then
    setWell n { bind := bindOf v, role := s.ink.hostGrants.getD n 0, err := (well s n).err } s
  else s

/-- INK_CTRL.CLOSE acts on Inkwells 2 to 7 bound to the writing transport (R206). -/
def inkCtrlClose (v : Via) (n : Nat) (s : State) : State :=
  if reach v s ∧ boundTo v n s ∧ 2 ≤ n then closeInk n s else s

/-- INK_CTRL.RESYNC clears the cache and makes the client fresh (R206). -/
def inkCtrlResync (v : Via) (n : Nat) (s : State) : State :=
  if reach v s ∧ boundTo v n s then makeFresh n s else s

/-- REP_CONS: the index moves over unread replies only (R178). A write that moves it by 0 is accepted, here and at EVT_CONS (DESIGN CHOICE,
log 106). -/
def repConsWrite (v : Via) (n x : Nat) (s : State) : State :=
  if ¬ (reach v s ∧ boundTo v n s) then s
  else
    let w := well s n
    let k := (x % 65536 + 65536 - w.repCons) % 65536
    if k ≤ w.replies.length then setWell n { w with repCons := x % 65536, replies := w.replies.drop k } s
    else inkErr n 2 s

/-- EVT_CONS: the index moves over unread events only (R178). -/
def evtConsWrite (v : Via) (n x : Nat) (s : State) : State :=
  if ¬ (reach v s ∧ boundTo v n s) then s
  else
    let w := well s n
    let k := (x % 65536 + 65536 - w.evtCons) % 65536
    if k ≤ w.events.length then setWell n { w with evtCons := x % 65536, events := w.events.drop k } s
    else inkErr n 2 s

/-! ### The sheet pool (R183 to R187, R207) -/

/-- The word that a read of SHEET_ALLOC returned to client `n`. -/
def setAllocRead (n v : Nat) (s : State) : State :=
  { s with ink := { s.ink with allocRead := tabPut 0 s.ink.allocRead n v } }

/-- Insert a client by its distance from the pointer, smallest first (R186). -/
def insertByDistance (ptr c : Nat) : List Nat → List Nat
  | [] => [c]
  | d :: l => if (c + 64 - ptr) % 64 < (d + 64 - ptr) % 64 then c :: d :: l else d :: insertByDistance ptr c l

/-- The clients of one cycle's allocations in the order that the pointer gives (R186). -/
def contestOrder (ptr : Nat) (l : List Nat) : List Nat := l.foldl (fun t c => insertByDistance ptr c t) []

/-- Serve one client's read of SHEET_ALLOC (R186, R187). -/
def allocFor (n : Nat) (s : State) : State :=
  match allocSheet n (.client n) s with
  | (some (h, res), s') => setAllocRead n (h + 0x10000 * b2n res) s'
  | (none, s') => setAllocRead n 0x8000 s'

/-- The reads of SHEET_ALLOC in one FEED_CLK cycle: a client not bound to its transport gets EMPTY and
takes no part (R186, R207). -/
def sheetAlloc (l : List (Via × Nat)) (s : State) : State :=
  let here := l.filter (fun e => reach e.1 s)
  let out := (here.filter (fun e => !boundTo e.1 e.2 s)).foldl (fun t e => setAllocRead e.2 0x8000 t) s
  let cs := ((here.filter (fun e => boundTo e.1 e.2 s)).map (·.2)).dedup
  let contended := 2 ≤ cs.length && 1 ≤ sharedFree s && sharedFree s < cs.length
  let t := (contestOrder s.ink.ptr cs).foldl (fun t c => allocFor c t) out
  if contended then { t with ink := { t.ink with ptr := (t.ink.ptr + 1) % 64, contended := t.ink.contended + 1 } } else t

/-- SHEET_FREE of sheet `h` by client `n` (R184, R207). -/
def sheetFree (v : Via) (n h : Nat) (s : State) : State :=
  if ¬ (reach v s ∧ boundTo v n s) then s
  else if holderOf s (h % 2048) = .client n then freeSheet n (h % 2048) s
  else inkErr n 3 s

/-- The boot ROM runs, and the window's first bytes are the host image load area (R114, R185). -/
def romRuns (s : State) : Bool :=
  s.boot.stage = .rom || s.boot.stage = .header || s.boot.stage = .verifying || s.boot.stage = .waitHost

/-- A client bound to a host transport holds the sheet (R185). -/
def localHolder (s : State) (h : Nat) : Bool :=
  match holderOf s h with
  | .client n => (well s n).bind = .pcie || (well s n).bind = .hspi
  | _ => false

/-- Write bytes that lie within one sheet of the window (R185). -/
def writeWindowSheet (v : Via) (off : Nat) (b : Bytes) (s : State) : State :=
  if b.isEmpty ∨ 0x00800000 ≤ off then s
  else if localHolder s (off / 4096) then poolWrite (match v with | .pcie => 4 | .hspi => 5) off b s
  else { s with ink := { s.ink with wrRej := true } }

/-- In STANDBY the memories keep their contents without access, until 20 ms into a wake (R145, R157; log 102). -/
def memoriesHeld (s : State) : Bool := s.power.mode = .standby && !(s.power.waking && s.power.wakeMs0 + 20 ≤ s.stem.ms)

/-- A write to the BAR2 window: the load area while the boot ROM runs, else sheets, each judged by itself. -/
def windowWrite (v : Via) (off : Nat) (b : Bytes) (s : State) : State :=
  if memoriesHeld s then s
  else if romRuns s ∧ off < 0x00801000 then
    { s with boot := { s.boot with loadArea := memPut 0 s.boot.loadArea off (b.take (0x00801000 - off)) } }
  else
    let k := 4096 - off % 4096
    writeWindowSheet v (off + k) (b.drop k) (writeWindowSheet v off (b.take k) s)

/-! ### MSI-X (R108, R731) -/

/-- The PCIe-bound Inkwells with unread work on an enabled ring. -/
def unreadWork (s : State) : List Nat :=
  wellNumbers.filter (fun n => (well s n).bind = .pcie
    && ((bit (well s n).irqEn 0 && !(well s n).replies.isEmpty) || (bit (well s n).irqEn 1 && !(well s n).events.isEmpty)))

/-- The host enables or disables MSI-X. The first enabling after PERST# signals every Inkwell vector that
has unread work exactly once, and none of vectors 64 to 69 (R108, R731). -/
def msixEnable (on fnMask : Bool) (s : State) : State :=
  let p := s.host.pcie
  if ¬ (p.trained ∧ ¬ p.perst) then s
  else
    let pend := if on ∧ p.stale then unreadWork s else p.pending
    flushVectors { s with host := { s.host with pcie :=
      { p with msixEn := on, fnMask := fnMask, pending := pend, stale := p.stale && !on } } }

/-! ### Network sessions (R197 to R203, R221, R222) -/

/-- TLS connection attempts are served: a port is up and the firmware serves commands (R123, R157). -/
def tlsOpen (s : State) : Bool := s.boot.netUp && s.boot.inkBasic

/-- A connection attempt: a handshake starts, in which the engine presents its certificate, or waits or is refused (R124, R604). -/
def tlsConnect (s : State) : State :=
  let k := s.ink
  if ¬ tlsOpen s then s
  else if k.tls < 8 then { s with ink := { k with tls := k.tls + 1, presented := some (commonName s, tlsKey s) } }
  else if k.tlsQueue < 64 then { s with ink := { k with tlsQueue := k.tlsQueue + 1 } }
  else { s with ink := { k with tlsRefused := k.tlsRefused + 1 } }

/-- A handshake ends, and the next queued attempt starts (R124). -/
def tlsDone (s : State) : State :=
  let k := s.ink
  if 0 < k.tlsQueue then { s with ink := { k with tlsQueue := k.tlsQueue - 1, presented := some (commonName s, tlsKey s) } }
  else { s with ink := { k with tls := k.tls - 1 } }

/-- The session control message that the engine sends, in its frame (R197). -/
def sendControl (b : Bytes) (s : State) : State := { s with ink := { s.ink with control := frame 3 b } }

/-- REFUSED with a status (R200, R202, R222). -/
def refuseSession (st : Status) (s : State) : State := sendControl (le 1 5 ++ zeros 1 ++ le 2 (statusCode st)) s

/-- The Inkwell that a session takes: the lowest unbound from 8 to 63, else from 2 to 7 (R170). -/
def sessionWell (s : State) : Option Nat :=
  match (wellNumbers.drop 8).find? (fun n => (well s n).bind = .unbound) with
  | some n => some n
  | none => [2, 3, 4, 5, 6, 7].find? (fun n => (well s n).bind = .unbound)

/-- OPEN on an authenticated connection of identity `key` (R200, R222, R224). -/
def sessionOpen (key : Nat) (s : State) : State :=
  if s.ink.tls = 0 ∨ ¬ tlsOpen s then s
  else
    let s0 := tlsDone s
    if keyGrant s key = 0 then refuseSession .role s0
    else match sessionWell s0 with
      | none => refuseSession .capacity s0
      | some n =>
        let tok := Config.token s0.draws % 2 ^ 64
        sendControl (le 1 2 ++ le 1 n ++ zeros 2 ++ le 8 tok)
          (setWell n { bind := .net, role := keyGrant s key, token := tok, keyHash := key, connected := true,
                       lastMs := s.stem.ms } { s0 with draws := s0.draws + 1 })

/-- The dropped session that a RESUME can take (R202). -/
def resumable (s : State) (tok key : Nat) : Option Nat :=
  wellNumbers.find? (fun n => (well s n).bind = .net && (well s n).dropped && (well s n).token = tok
    && (well s n).keyHash = key && s.stem.ms < (well s n).dropMs + 30000)

/-- RESUME: a new token, and every event above LAST_EVT_SEQ is sent; any other RESUME changes nothing (R202). -/
def sessionResume (key tok lastEvt : Nat) (s : State) : State :=
  if s.ink.tls = 0 ∨ ¬ tlsOpen s then s
  else
    let s0 := tlsDone s
    if keyGrant s key = 0 then refuseSession .role s0
    else match resumable s0 tok key with
      | none => refuseSession .seqConflict s0
      | some n =>
        let w := well s0 n
        let t2 := Config.token s0.draws % 2 ^ 64
        let gone := w.events.filter (fun e => e.evtSeq ≤ lastEvt)
        sendControl (le 1 4 ++ le 1 n ++ zeros 2 ++ le 8 t2 ++ le 2 w.lastSeq)
          (setWell n { w with token := t2, connected := true, dropped := false, lastMs := s.stem.ms, role := keyGrant s key,
                              resumes := w.resumes + 1, events := w.events.drop gone.length, out := (w.events.drop gone.length).map eventFrame,
                              evtCons := (w.evtCons + gone.length) % 65536 } { s0 with draws := s0.draws + 1 })

/-- A message from the client of session `n` arrived (R201). -/
def heard (n : Nat) (s : State) : State := modWell n (fun w => { w with lastMs := s.stem.ms }) s

/-- Inkwell `n` is a session with a standing connection. -/
def live (n : Nat) (s : State) : Bool := n < 64 && (well s n).bind = .net && (well s n).connected

/-- The engine declares a session dropped: its connection closed, or 15 s without a message (R201). Its unsent replies stay in their ring and
are sent after a RESUME, and none of its requests counts as unanswered any more (DESIGN CHOICE, log 107). -/
def sessionDrop (n : Nat) (closed : Bool) (s : State) : State :=
  if live n s ∧ (closed ∨ (well s n).lastMs + 15000 ≤ s.stem.ms) then
    modWell n (fun w => { w with connected := false, dropped := true, dropMs := s.stem.ms, unanswered := 0 }) s
  else s

/-- A request frame on session `n` (R198, R199): while 16 are unanswered the connection is not read. The request waits for Scribe, which
answers one whose SIZE or SHEET does not fit with BAD_LENGTH under the sequence rule (R190), or the hardware answers it NOT_READY. -/
def sessionFrame (n size length : Nat) (h : Head) (s : State) : State :=
  if ¬ live n s ∨ 16 ≤ (well s n).unanswered then s
  else
    let s1 := heard n s
    let w := well s1 n
    let s2 := setWell n { w with unanswered := w.unanswered + 1, reqProd := (w.reqProd + 1) % 65536,
                                 waiting := w.waiting ++ [{ h with misfit := decide (size ≠ 32 + length + h.sheetLen ∨ h.sheet ≠ 0) }] } s1
    if ¬ s.boot.inkBasic then answerAll n s2 else s2

/-- A frame with an unknown TYPE or SIZE above 4,352 ends the connection and is counted (R198). -/
def sessionBadFrame (n : Nat) (s : State) : State :=
  if live n s then
    sessionDrop n true { s with ink := { s.ink with badFrames := s.ink.badFrames + 1 } }
  else s

/-- The oldest reply of a session has been written to the connection: it is consumed, and Scribe frees its
sheet, unless it no longer is the session's or a resend of the reply still waits in it (R182, R199). -/
def replySent (n : Nat) (s : State) : State :=
  if ¬ live n s then s
  else match (well s n).replies with
    | [] => s
    | r :: rest =>
      let s1 := modWell n (fun w => { w with replies := rest, repCons := (w.repCons + 1) % 65536, unanswered := w.unanswered - 1,
                                             out := [replyFrame r (if r.sheetLen = 0 then [] else readSheet s r.sheet r.sheetLen)] }) s
      if r.sheetLen = 0 ∨ holderOf s r.sheet ≠ .client n ∨ rest.any (fun q => q.sheetLen ≠ 0 && q.sheet = r.sheet) then s1
      else freeSheet n r.sheet s1

/-! ### The meanings -/

/-- A doorbell (R174). -/
def execDoorbell (via : Via) (n v : Nat) (heads : List Head) (s : State) : Host.Outcome State Fault Refusal :=
  .next (doorbell via n v heads (access via s))
/-- INK_CTRL.OPEN. -/
def execInkCtrlOpen (via : Via) (n : Nat) (s : State) : Host.Outcome State Fault Refusal := .next (inkOpen via n (access via s))
/-- INK_CTRL.CLOSE. -/
def execInkCtrlClose (via : Via) (n : Nat) (s : State) : Host.Outcome State Fault Refusal := .next (inkCtrlClose via n (access via s))
/-- INK_CTRL.RESYNC. -/
def execInkCtrlResync (via : Via) (n : Nat) (s : State) : Host.Outcome State Fault Refusal := .next (inkCtrlResync via n (access via s))
/-- A write of REP_CONS. -/
def execRepConsWrite (via : Via) (n v : Nat) (s : State) : Host.Outcome State Fault Refusal := .next (repConsWrite via n v (access via s))
/-- A write of EVT_CONS. -/
def execEvtConsWrite (via : Via) (n v : Nat) (s : State) : Host.Outcome State Fault Refusal := .next (evtConsWrite via n v (access via s))
/-- The SHEET_ALLOC reads of one cycle. -/
def execSheetAlloc (reads : List (Via × Nat)) (s : State) : Host.Outcome State Fault Refusal := .next (sheetAlloc reads (reads.foldl (fun t e => access e.1 t) s))
/-- A write of SHEET_FREE. -/
def execSheetFree (via : Via) (n h : Nat) (s : State) : Host.Outcome State Fault Refusal := .next (sheetFree via n h (access via s))
/-- A write to the sheet window. -/
def execBar2Write (via : Via) (off : Nat) (data : Bytes) (s : State) : Host.Outcome State Fault Refusal :=
  .next (if reach via s then windowWrite via off data (access via s) else s)
/-- The host enables or disables MSI-X. -/
def execMsixEnable (on fnMask : Bool) (s : State) : Host.Outcome State Fault Refusal := .next (msixEnable on fnMask (access .pcie s))
/-- A TLS connection attempt; a handshake without a client certificate fails at once (R221). -/
def execTlsConnect (cert : Bool) (s : State) : Host.Outcome State Fault Refusal :=
  .next (if cert ∨ ¬ (tlsOpen s ∧ (s.ink.tls < 8 ∨ s.ink.tlsQueue < 64)) then tlsConnect s else tlsDone (tlsConnect s))
/-- OPEN on a new connection. -/
def execSessionOpen (key : Nat) (s : State) : Host.Outcome State Fault Refusal := .next (sessionOpen key s)
/-- RESUME on a new connection. -/
def execSessionResume (key token lastEvt : Nat) (s : State) : Host.Outcome State Fault Refusal :=
  .next (sessionResume key token lastEvt s)
/-- KEEPALIVE (R201). -/
def execSessionKeepalive (n : Nat) (s : State) : Host.Outcome State Fault Refusal := .next (if live n s then heard n s else s)
/-- CLOSE by the client: the session is closed (R203). -/
def execSessionClose (n : Nat) (s : State) : Host.Outcome State Fault Refusal := .next (if live n s then closeInk n s else s)
/-- A request frame. -/
def execSessionRequestFrame (n size length : Nat) (h : Head) (s : State) : Host.Outcome State Fault Refusal :=
  .next (sessionFrame n size length h s)
/-- A frame that ends the connection. -/
def execSessionBadFrame (n : Nat) (s : State) : Host.Outcome State Fault Refusal := .next (sessionBadFrame n s)
/-- A reply written to the connection. -/
def execSessionReplySent (n : Nat) (s : State) : Host.Outcome State Fault Refusal := .next (replySent n s)
/-- A session is declared dropped. -/
def execSessionDrop (n : Nat) (closed : Bool) (s : State) : Host.Outcome State Fault Refusal := .next (sessionDrop n closed s)
/-- A dropped session not resumed within 30 s is closed (R203). -/
def execSessionExpire (n : Nat) (s : State) : Host.Outcome State Fault Refusal :=
  .next (if n < 64 ∧ (well s n).bind = .net ∧ (well s n).dropped ∧ (well s n).dropMs + 30000 ≤ s.stem.ms
    then closeInk n s else s)

end Sys2Proof.Machine
end

