-- ==== Sys2Proof/Machine/Host.lean ====
section
/-! DEFINITION. The board record, GPIO, the power-fail warning, AVSBus, the I2C target, the PCIe endpoint's events and their
commands (chapter 23). -/

namespace Sys2Proof.Machine

/-- Change the host and board interfaces. -/
def modHost (f : HostIf → HostIf) (s : State) : State := { s with host := f s.host }

/-- Change the PCIe endpoint. -/
def modPcie (f : Pcie → Pcie) (s : State) : State := modHost (fun h => { h with pcie := f h.pcie }) s

/-! ### The board record (R666, R677) -/

/-- A record with its check. -/
def withBoardCrc (b : Bytes) : Bytes := padTo 252 b ++ le 4 (crc32c (padTo 252 b)).toNat

/-- The record that the defaults spell. -/
def boardDefault (v : Variant) : Bytes :=
  withBoardCrc (le 4 0x42524443 ++ le 2 1 ++ le 2 0 ++ le 2 0x1E5A ++ le 2 (partOf v) ++ le 1 4 ++ le 1 4 ++ le 1 0x4C ++ le 1 100 ++ zeros 4 ++
    le 4 2 ++ zeros 60)

/-- The record in force. -/
def boardBytes (s : State) : Bytes := if s.host.board.isEmpty then boardDefault s.variant else s.host.board

/-- The pins that a record makes PWR_FAIL_N. -/
def boardFails (b : Bytes) : Nat := ((List.range 16).filter (fun n => u8 b (20 + 4 * n) = 2)).length

/-- Every field of a record is within its range, with at most one PWR_FAIL_N (R674). -/
def boardOk (b : Bytes) : Bool :=
  u32 b 0 = 0x42524443 && u16 b 4 = 1 && 1 ≤ u8 b 12 && u8 b 12 ≤ 4 && (u8 b 13 = 1 || u8 b 13 = 2 || u8 b 13 = 4)
    && within 0x08 0x77 (u8 b 14) && within 60 125 (u8 b 15) && (List.range 16).all (fun n => u8 b (20 + 4 * n) ≤ 7) && boardFails b ≤ 1

/-- The bytes of the flash from `o`; an erased byte reads 0xFF. -/
def flashRead (s : State) (o n : Nat) : Bytes := memRead 0xFF s.boot.flash o n

/-- Write the flash. -/
def flashWrite (o : Nat) (b : Bytes) (s : State) : State := { s with boot := { s.boot with flash := memPut 0xFF s.boot.flash o b } }

/-- Erase `n` bytes of the flash from `o`. -/
def flashErase (o n : Nat) (s : State) : State :=
  { s with boot := { s.boot with flash := s.boot.flash.filter (fun e => ¬ (o ≤ e.1 ∧ e.1 < o + n)) } }

/-- The flash holds a record that passes its check. -/
def flashBoard (s : State) : Option Bytes :=
  let b := flashRead s 0 256
  if boardOk b ∧ u32 b 252 = (crc32c (b.take 252)).toNat then some b else none

/-- The pin that a record gives. -/
def pinOf (b : Bytes) (n : Nat) : GpioPin :=
  let f := u8 b (21 + 4 * n)
  { func := u8 b (20 + 4 * n), init := bit f 0, pullup := bit f 1, event := bit f 2 }

/-- The boot ROM reads the board record: it governs until the next POR_N (R666). -/
def readBoard (s : State) : State :=
  let b := (flashBoard s).getD (boardDefault s.variant)
  let pins := (List.range 16).foldl (fun t n => tabPut {} t n (pinOf b n)) []
  let out := (List.range 16).foldl (fun m n => if (pinOf b n).func = 1 ∧ (pinOf b n).init then setBit m n else m) 0
  modHost (fun h => { h with board := b, fromFlash := (flashBoard s).isSome, gpio := pins, out := out }) s

/-- Write a record to flash sector 0. -/
def writeBoard (b : Bytes) (s : State) : State := flashWrite 0 (withBoardCrc b) (flashErase 0 4096 s)

/-- SYS.BOARD_GET. -/
def cmdBoardGet : Cmd where
  lens := inlineOnly 0
  body := fun _ s => { st := s, sheet := some (boardBytes s ++ le 1 (b2n s.host.fromFlash)) }

/-- SYS.BOARD_SET (R677). -/
def cmdBoardSet : Cmd where
  lens := fun l sl => l = 0 && sl = 252
  range := fun x _ => boardOk x.sh
  body := fun x s => { st := writeBoard x.sh s }

/-! ### GPIO (R673, R674, R678, R679) -/

/-- Pin `n`. -/
def gpioPin (s : State) (n : Nat) : GpioPin := tabGet {} s.host.gpio n

/-- The pin that is PWR_FAIL_N, if one is. -/
def failPin (s : State) : Option Nat := (List.range 16).find? (fun n => (gpioPin s n).func = 2)

/-- The FAULTS summary of the I2C target (R668). -/
def faultBits (s : State) : Nat :=
  b2n (hushOn s) + 2 * b2n s.hush.fault + 4 * b2n (s.power.mode = .degraded) + 8 * b2n (s.bl.state ≠ .locked) + 16 * b2n (!s.boot.inkBasic) +
    32 * b2n s.host.tempAlert + 64 * b2n s.vl.worn + 128 * b2n s.host.avs.fault

/-- The level at pin `n`, whatever its function (R673). An input, or an open-drain output at rest, shows the board's level. -/
def pinLevel (s : State) (n : Nat) : Bool :=
  match (gpioPin s n).func with
  | 1 => bit s.host.out n
  | 3 => !s.host.tempAlert && bit s.host.pins n
  | 4 => s.power.mode = .showing || s.power.mode = .degraded
  | 5 => s.bl.state = .locked
  | 6 => !isPartner s || s.twin.state = 1
  | 7 => faultBits s / 2 = 0 && bit s.host.pins n
  | _ => bit s.host.pins n

/-- GPIO_IN: the levels of the sixteen pins. -/
def gpioLevels (s : State) : Nat := (List.range 16).foldl (fun m n => if pinLevel s n then setBit m n else m) 0

/-- Less than `k` ms have passed since the instant held. -/
def recentMs (t : Option Nat) (k : Nat) (s : State) : Bool := match t with | none => false | some x => decide (s.stem.ms < x + k)

/-- GPIO_CHANGE covers every edge since the last one, at most once in 10 ms. -/
def announceGpio (s : State) : State :=
  let h := s.host
  if h.gpioAcc = 0 ∨ recentMs h.gpioMs 10 s then s
  else raise 0x0107 (le 2 (gpioLevels s) ++ le 2 h.gpioAcc) (modHost (fun q => { q with gpioAcc := 0, gpioMs := some s.stem.ms }) s)

/-- An edge at an input pin (R673). -/
def gpioEdge (n : Nat) (level : Bool) (s : State) : State :=
  if 16 ≤ n ∨ bit s.host.pins n = level then s
  else
    let s1 := modHost (fun h => { h with pins := putBit h.pins n level }) s
    let p := gpioPin s n
    if p.func = 0 ∧ p.event then announceGpio (modHost (fun h => { h with gpioAcc := setBit h.gpioAcc n }) s1) else s1

/-- Give pin `n` its function and flags. -/
def setPin (n : Nat) (p : GpioPin) (s : State) : State :=
  modHost (fun h => { h with gpio := tabPut {} h.gpio n p, out := if p.func = 1 then putBit h.out n p.init else h.out }) s

/-- The record with pin `n` changed. -/
def recordPin (b : Bytes) (n func flags : Nat) : Bytes := b.take (20 + 4 * n) ++ le 1 func ++ le 1 flags ++ b.drop (22 + 4 * n)

/-- SYS.GPIO_CONFIG (R678). PERSIST rewrites the record of the flash, or the defaults where there is none (log 52). -/
def cmdGpioConfig : Cmd where
  lens := inlineOnly 4
  body := fun x s =>
    let n := u8 x.p 0
    let f := u8 x.p 1
    let g := u8 x.p 2
    if u8 x.p 3 = 1 ∧ s.power.mode ≠ .commission then fail .mode s
    else if 16 ≤ n ∨ 8 ≤ f ∨ 2 ≤ u8 x.p 3 then fail .badParam s
    else if f = 2 ∧ (failPin s).isSome ∧ failPin s ≠ some n then fail .badParam s
    else
      let s1 := setPin n { func := f, init := bit g 0, pullup := bit g 1, event := bit g 2 } s
      let b := recordPin ((flashBoard s).getD (boardDefault s.variant)) n f g
      if u8 x.p 3 = 1 ∧ 1 < boardFails b then fail .badParam s
      else
        { st := if u8 x.p 3 = 1 then writeBoard b s1 else s1,
          warns := if (failPin s1).isNone then [{ code := 0x0102, group := 1 }] else [] }

/-- SYS.GPIO_GET. -/
def cmdGpioGet : Cmd where
  lens := inlineOnly 0
  body := fun _ s => answer (le 2 (gpioLevels s) ++ le 2 s.host.out ++ table 16 (fun n => le 1 (gpioPin s n).func)) s

/-- Drive the GPIO_OUT pins of a mask. -/
def driveGpio (mask level : Nat) (s : State) : State :=
  let put := fun (o n : Nat) => if bit mask n && (gpioPin s n).func = 1 then putBit o n (bit level n) else o
  modHost (fun h => { h with out := (List.range 16).foldl put h.out }) s

/-- The untimed settings of SYS.GPIO_SET that wait for the boundary (R679). -/
def dueGpio (s : State) : State :=
  s.host.gpioPend.foldl (fun t e => driveGpio e.1 e.2 t) (modHost (fun h => { h with gpioPend := [] }) s)

/-- SYS.GPIO_SET. -/
def cmdGpioSet : Cmd where
  lens := inlineOnly 4
  range := fun x s => (List.range 16).all (fun n => !bit (u16 x.p 0) n || (gpioPin s n).func = 1)
  body := fun x s => { st := modHost (fun h => { h with gpioPend := h.gpioPend ++ [(u16 x.p 0, u16 x.p 2)] }) s }

/-! ### The power-fail warning (R102 to R104, R150, R669) -/

/-- The warning asserts: Vellum and the holdover frequency are flushed (R71, R102, R150, R636). -/
def warningAsserts (s : State) : State :=
  let s1 := { s with boot := { s.boot with pwrFail := true, pwrFlush := !s.vl.worn } }
  let s2 := if s1.bl.hoValid then { s1 with bl := { s1.bl with nvsFreq := some s1.bl.hoFreq } } else s1
  vellumWrite 1 [] (vellumCount 5 (modHost (fun h => { h with flushDone := s.vl.worn }) s2))

/-- The warning is the OR of the pin and PWR_WARN (R669). -/
def judgeWarning (s : State) : State :=
  let on := s.host.pwrLow || s.host.bmcWarn
  if s.power.mode = .held then s
  else if on ∧ ¬ s.boot.pwrFail then warningAsserts s
  else if ¬ on ∧ s.boot.pwrFail then { s with boot := { s.boot with pwrFail := false } }
  else s

/-- The pin is taken as asserted or not. -/
def takeFailPin (low : Bool) (s : State) : State := judgeWarning (modHost (fun h => { h with pwrLow := low && (failPin s).isSome }) s)

/-- One sample of PWR_FAIL_N on the AON tick (R674). -/
def sampleFailPin (s : State) : State :=
  match failPin s with
  | none => modHost (fun h => { h with lowRun := 0, highRun := 0 }) s
  | some n =>
    if bit s.host.pins n then modHost (fun h => { h with lowRun := 0, highRun := min 10 (h.highRun + 1) }) s
    else modHost (fun h => { h with lowRun := min 2 (h.lowRun + 1), highRun := 0 }) s

/-- PWR_FAIL_N_FILTER: 2 low or 10 high samples are taken (R674). -/
def filterFailPin (s : State) : State :=
  if 2 ≤ s.host.lowRun then takeFailPin true s else if 10 ≤ s.host.highRun then takeFailPin false s else s

/-! ### AVSBus (R670 to R672) -/

/-- The AVS_EN flag of the board record. -/
def avsEn (s : State) : Bool := bit (u16 (boardBytes s) 6) 0

/-- The set point that the mode and the bin ask for: a wake raises it from its start on (R157, R670). -/
def avsWant (s : State) : Nat :=
  (if s.power.mode = .standby ∧ ¬ s.power.waking then 700 else 800 - 25 * (s.life.avsBin % 4)) + (if s.host.temp < 0 then 15 else 0)

/-- A request of `mv` that the regulator acknowledges or not, and reads back (R672). -/
def avsRequest (req : Nat) (ack : Bool) (mv : Nat) (s : State) : State :=
  let good := ack && decide (mv ≤ req + 10) && decide (req ≤ mv + 10)
  let s1 := modHost (fun h => { h with avs := { h.avs with setMv := req, fault := !good, faultReq := if good then 0 else req, faultMs := s.stem.ms } }) s
  if good then s1 else raise 0x0108 (le 2 req ++ le 2 (if ack then mv else 0xFFFF)) s1

/-- A step of at most 10 mV towards the set point; no lower one while the fault stands (R671, R672). -/
def avsStep (ack : Bool) (mv : Nat) (s : State) : State :=
  let a := s.host.avs
  let want := avsWant s
  if ¬ avsEn s ∨ s.power.mode = .held ∨ a.setMv = want ∨ (a.fault ∧ want < a.setMv) then s
  else avsRequest (if a.setMv < want then min want (a.setMv + 10) else max want (a.setMv - 10)) ack mv s

/-! ### Temperature (R668, R673) -/

/-- The die temperature, in 0.125 °C: the alert has 5 °C of hysteresis. -/
def takeTemp (t : Int) (s : State) : State :=
  let lim : Int := 8 * (u8 (boardBytes s) 15 : Nat)
  modHost (fun h => { h with temp := t, tempMax := max h.tempMax t, tempAlert := if h.tempAlert then decide (lim - 40 < t) else decide (lim ≤ t) }) s

/-! ### LTC settings (R676) -/

/-- The settings of SYS.LTC_CONFIG. -/
def ltcCfgOf (p : Bytes) : LtcCfg := { rate := u8 p 0, flags := u8 p 1 % 4, tzOfs := i32 p 4, user := u32 p 8 }

/-- LTC_OUT runs under its settings of BL.OUT_CONFIG (R85, R676). -/
def ltcRuns (s : State) : Bool := (blOut s 3).en && ((blOut s 3).always || s.stem.aligned)

/-- SYS.LTC_CONFIG: it takes effect at the next frame boundary, or at once while no frame is sent (log 52). -/
def cmdLtcConfig : Cmd where
  lens := inlineOnly 12
  range := fun x _ => u8 x.p 0 ≤ 4 && u8 x.p 2 ≤ 1 && (i32 x.p 4).natAbs ≤ 86400
  body := fun x s =>
    let c := ltcCfgOf x.p
    let put := fun (l : Ltc) =>
      { l with cfg := if ltcRuns s then l.cfg else c, next := if ltcRuns s then some c else none, nvs := if u8 x.p 2 = 1 then c else l.nvs }
    { st := modHost (fun h => { h with ltc := put h.ltc }) s }

/-- SYS.LTC_STATUS_GET. -/
def cmdLtcStatusGet : Cmd where
  lens := inlineOnly 0
  body := fun _ s =>
    let l := s.host.ltc
    let t := fun (v : Nat) => le 1 (v / 16777216) ++ le 1 (v / 65536) ++ le 1 (v / 256) ++ le 1 v
    answer (le 1 l.state ++ le 1 l.rate ++ le 1 (b2n l.df + 2 * b2n l.cf) ++ zeros 1 ++ t l.time ++ le 4 l.user ++ le 4 l.errors ++ t l.outTime) s

/-! ### The PCIe endpoint (R105, R108, R161, R651 to R654) -/

/-- WAKE# is deasserted once the link is in L0 and a PCIe client has read WAKE_CAUSE (R161). -/
def settleWakePin (s : State) : State :=
  if s.host.pcie.linkL0 ∧ s.power.hostRead then modPower (fun p => { p with wakePin := false }) s else s

/-- PERST#, or a link loss handled as PERST#: link, configuration space and MSI-X are reset; PME is kept (R105, R652). -/
def perstReset (pin : Bool) (s : State) : State :=
  let p := s.host.pcie
  let q : Pcie := { perst := pin, pmeEn := p.pmeEn, pmeStatus := p.pmeStatus, stale := true, sent := p.sent, persts := p.persts,
                    surprise := p.surprise, aerCorr := p.aerCorr, aerUncorr := p.aerUncorr }
  modHost (fun h => { h with pcie := q }) { s with boot := { s.boot with resetCause := setBit s.boot.resetCause 2 } }

/-- PERST# is asserted. -/
def perstAssert (s : State) : State :=
  if s.power.mode = .held ∨ s.host.pcie.perst then s
  else modPcie (fun p => { p with persts := p.persts + 1 }) (vellumCount 10 (perstReset true s))

/-- The link trains, with the deassertion of PERST# where it was asserted, at the speed and width that the board allows (R666). -/
def linkTrained (gen lanes : Nat) (s : State) : State :=
  let b := boardBytes s
  if s.power.mode = .held ∨ ¬ s.stem.xoIn ∨ ¬ (1 ≤ gen ∧ gen ≤ u8 b 12) ∨ ¬ ((lanes = 1 ∨ lanes = 2 ∨ lanes = 4) ∧ lanes ≤ u8 b 13) then s
  else settleWakePin (flushVectors (modPcie (fun p => { p with perst := false, trained := true, linkL0 := true, inL1 := false, gen := gen, lanes := lanes }) s))

/-- The link has been down for 100 ms without PERST# (R654). -/
def linkDropped (s : State) : State :=
  if ¬ s.host.pcie.trained then s
  else modPcie (fun p => { p with surprise := p.surprise + 1 }) (vellumCount 10 (perstReset false s))

/-- SYS.LINK_GET. -/
def cmdLinkGet : Cmd where
  lens := inlineOnly 0
  body := fun _ s =>
    let p := s.host.pcie
    answer (le 1 p.gen ++ le 1 p.lanes ++ le 1 p.dstate ++ le 1 (b2n p.l1En + 2 * b2n p.pmeEn + 4 * b2n p.msixEn) ++ le 4 p.persts ++ le 4 p.surprise ++
      le 4 p.aerCorr ++ le 4 p.aerUncorr) s

/-- HOST_STATUS as it reads (R133). -/
def stageCode : Stage → Nat
  | .rom => 0 | .header => 1 | .verifying => 2 | .fwInit => 3 | .restoring => 4 | .ready => 5 | .scribeRestart => 6 | .waitHost => 7
  | .standby => 8 | .waking => 9

/-- HOST_STATUS (chapter 04). -/
def hostStatusWord (s : State) : Nat :=
  stageCode s.boot.stage + 16 * b2n s.boot.inkBasic + 32 * b2n s.boot.netUp + 64 * b2n s.stem.stemLock + 128 * b2n (hushOn s) + 256 * (s.boot.retryMs % 65536)

/-! ### The I2C target (R667, R668) -/

/-- A register of the I2C target, by its pointer. -/
def i2cWord (s : State) (ptr : Nat) : Option Nat :=
  let a := s.host.avs
  match ptr with
  | 0x00 => some (sysId s)
  | 0x04 => some (caps0 s)
  | 0x08 => some (hostStatusWord s)
  | 0x0C => some (modeWord s)
  | 0x10 => some (unsgn 16 s.host.temp + 65536 * unsgn 16 s.host.tempMax)
  | 0x14 => some (a.setMv + 65536 * s.life.avsBin + 16777216 * b2n a.fault)
  | 0x18 => some (Config.powerMw (s.stem.ms / 100) % 2 ^ 32)
  | 0x1C => some (faultBits s)
  | 0x20 => some (s.host.uptime % 2 ^ 32)
  | 0x24 => some (s.host.heartbeat % 2 ^ 32)
  | 0x28 => some (b2n s.host.bmcWarn)
  | 0x2C => some (b2n s.host.flushDone + 2 * b2n (match failPin s with | some n => bit s.host.pins n | none => true))
  | _ => none

/-- `n` bytes from the pointer onwards; 0xFF where no register is named. -/
def i2cBytes (s : State) (ptr n : Nat) : Bytes :=
  (List.range n).map (fun i => match i2cWord s ((ptr + i) / 4 * 4) with
    | some w => if ptr % 4 = 0 then BitVec.ofNat 8 (w / 256 ^ ((ptr + i) % 4)) else 0xFF
    | none => 0xFF)

/-- The I2C target answers: from 20 ms after the release of POR_N, in every mode but HELD. -/
def i2cUp (s : State) : Bool := s.host.hspiUp && s.power.mode ≠ .held

/-- PWR_WARN is written (R669). -/
def bmcWrite (on : Bool) (s : State) : State := judgeWarning (modHost (fun h => { h with bmcWarn := on }) s)

/-- An I2C write: the one writable register is BMC_CTRL. -/
def i2cWrite (ptr : Nat) (data : Bytes) (s : State) : State :=
  if ¬ i2cUp s ∨ ptr ≠ 0x28 ∨ data.isEmpty then s else bmcWrite (bit (u8 data 0) 0) s

/-- An I2C read. Reading a register's first byte latches its four bytes. -/
def i2cRead (ptr n : Nat) (s : State) : State :=
  if ¬ i2cUp s then s
  else modHost (fun h => { h with i2cOut := i2cBytes s ptr n, i2cLatch := if n = 0 ∨ ptr % 4 ≠ 0 then h.i2cLatch else (i2cWord s ((ptr + n - 1) / 4 * 4)).map (fun w => ((ptr + n - 1) / 4 * 4, le 4 w)) }) s

/-! ### The meanings -/

/-- SYS_BOARD_GET. -/
def execSysBoardGet (r : Request) (s : State) : Host.Outcome State Fault Refusal := serve 0x0190 cmdBoardGet r s
/-- SYS_BOARD_SET (R677). -/
def execSysBoardSet (r : Request) (s : State) : Host.Outcome State Fault Refusal := serve 0x0191 cmdBoardSet r s
/-- SYS_GPIO_CONFIG (R678). -/
def execSysGpioConfig (r : Request) (s : State) : Host.Outcome State Fault Refusal := serve 0x0192 cmdGpioConfig r s
/-- SYS_GPIO_GET. -/
def execSysGpioGet (r : Request) (s : State) : Host.Outcome State Fault Refusal := serve 0x0193 cmdGpioGet r s
/-- SYS_GPIO_SET (R679). -/
def execSysGpioSet (r : Request) (s : State) : Host.Outcome State Fault Refusal := serve 0x0194 cmdGpioSet r s
/-- SYS_LTC_CONFIG. -/
def execSysLtcConfig (r : Request) (s : State) : Host.Outcome State Fault Refusal := serve 0x0195 cmdLtcConfig r s
/-- SYS_LTC_STATUS_GET. -/
def execSysLtcStatusGet (r : Request) (s : State) : Host.Outcome State Fault Refusal := serve 0x0196 cmdLtcStatusGet r s
/-- SYS_LINK_GET. -/
def execSysLinkGet (r : Request) (s : State) : Host.Outcome State Fault Refusal := serve 0x0197 cmdLinkGet r s
/-- GPIO_EDGE: a pin takes a level. -/
def execGpioEdge (pin : Nat) (level : Bool) (s : State) : Host.Outcome State Fault Refusal := .next (if s.power.mode = .held then modHost (fun h => { h with pins := putBit h.pins (pin % 16) level }) s else gpioEdge pin level s)
/-- PWR_FAIL_ASSERT: the pin is taken as asserted (R102). -/
def execPwrFailAssert (s : State) : Host.Outcome State Fault Refusal := .next (takeFailPin true s)
/-- PWR_FAIL_DEASSERT (R104). -/
def execPwrFailDeassert (s : State) : Host.Outcome State Fault Refusal := .next (takeFailPin false s)
/-- PWR_FAIL_N_FILTER (R674). -/
def execPwrFailNFilter (s : State) : Host.Outcome State Fault Refusal := .next (filterFailPin s)
/-- AVS_STEP: acknowledged or not, and the millivolts read back. -/
def execAvsStep (ack : Bool) (mv : Nat) (s : State) : Host.Outcome State Fault Refusal := .next (avsStep ack mv s)
/-- AVS_RETRY, 10 ms after the step or the retry before it (R672). -/
def execAvsRetry (ack : Bool) (mv : Nat) (s : State) : Host.Outcome State Fault Refusal :=
  .next (if s.host.avs.fault ∧ avsEn s ∧ s.power.mode ≠ .held ∧ s.host.avs.faultMs + 10 ≤ s.stem.ms then avsRequest s.host.avs.faultReq ack mv s else s)
/-- TEMP_ALERT: the die temperature in 0.125 °C. -/
def execTempAlert (temp : Int) (s : State) : Host.Outcome State Fault Refusal := .next (if s.power.mode = .held then s else takeTemp temp s)
/-- I2C_WRITE (R667). -/
def execI2cWrite (ptr : Nat) (data : Bytes) (s : State) : Host.Outcome State Fault Refusal := .next (i2cWrite ptr data s)
/-- I2C_READ (R667). -/
def execI2cRead (ptr n : Nat) (s : State) : Host.Outcome State Fault Refusal := .next (i2cRead ptr n s)
/-- BMC_CTRL_WRITE (R669). -/
def execBmcCtrlWrite (on : Bool) (s : State) : Host.Outcome State Fault Refusal := .next (if i2cUp s then bmcWrite on s else s)
/-- PERST_ASSERT (R105). -/
def execPerstAssert (s : State) : Host.Outcome State Fault Refusal := .next (perstAssert s)
/-- PCIE_LINK_TRAINED: the speed and the width. -/
def execPcieLinkTrained (gen lanes : Nat) (s : State) : Host.Outcome State Fault Refusal := .next (linkTrained gen lanes s)
/-- PCIE_LINK_DROP (R654). -/
def execPcieLinkDrop (s : State) : Host.Outcome State Fault Refusal := .next (linkDropped s)
/-- D3HOT_ENTRY (R651). -/
def execD3hotEntry (s : State) : Host.Outcome State Fault Refusal :=
  .next (if s.host.pcie.trained ∧ s.host.pcie.dstate = 0 then modPcie (fun p => { p with dstate := 3 }) s else s)
/-- D3HOT_TO_D0: always latched as a wake cause (R651, R152). -/
def execD3hotToD0 (s : State) : Host.Outcome State Fault Refusal :=
  .next (if s.host.pcie.trained ∧ s.host.pcie.dstate = 3 then flushVectors (latchCause 1 (modPcie (fun p => { p with dstate := 0 }) (access .pcie s))) else s)
/-- PME_EN_WRITE (R161). -/
def execPmeEnWrite (on : Bool) (s : State) : Host.Outcome State Fault Refusal :=
  .next (if s.host.pcie.trained then modPcie (fun p => { p with pmeEn := on }) (access .pcie s) else s)
/-- L1_ENTRY (R653): the host has enabled ASPM L1. -/
def execL1Entry (s : State) : Host.Outcome State Fault Refusal :=
  .next (if s.host.pcie.trained ∧ s.host.pcie.linkL0 then modPcie (fun p => { p with l1En := true, inL1 := true, linkL0 := false }) s else s)

end Sys2Proof.Machine
end

