-- ==== Sys2Proof/Machine/Stream.lean ====
section
/-! DEFINITION. Quill's streams: entries, the receive path with merging and Ferrule, presentation, and the transmit path
(chapter 14, R419 to R443). -/

namespace Sys2Proof.Machine

/-! ### Access -/

/-- Change Quill. -/
def modQuill (f : Quill → Quill) (s : State) : State := { s with quill := f s.quill }

/-- Receive stream `n`. -/
def rxStream (s : State) (n : Nat) : RxStream := tabGet {} s.quill.rx n
/-- Change receive stream `n`. -/
def modRx (n : Nat) (f : RxStream → RxStream) (s : State) : State := modQuill (fun q => { q with rx := tabMod {} q.rx n f }) s
/-- Transmit stream `n`. -/
def txStream (s : State) (n : Nat) : TxStream := tabGet {} s.quill.tx n
/-- Change transmit stream `n`. -/
def modTx (n : Nat) (f : TxStream → TxStream) (s : State) : State := modQuill (fun q => { q with tx := tabMod {} q.tx n f }) s
/-- Network port `n`. -/
def netPort (s : State) (n : Nat) : NetPort := tabGet {} s.quill.ports n
/-- Change network port `n`. -/
def modNet (n : Nat) (f : NetPort → NetPort) (s : State) : State := modQuill (fun q => { q with ports := tabMod {} q.ports n f }) s
/-- Set a flag of QL_EVENTS. -/
def qlEvent (i : Nat) (s : State) : State := modQuill (fun q => { q with events := setBit q.events i }) s

/-! ### The fields of an entry (chapter 14) -/

/-- A receive entry with its reserved bits and bytes read as zero (R5). -/
def cleanRx (e : Bytes) : Bytes := slice e 0 2 ++ le 1 (u8 e 2 % 32) ++ slice (padTo 64 e) 3 55 ++ zeros 6
/-- A transmit entry with its reserved bits and bytes read as zero (R5). -/
def cleanTx (e : Bytes) : Bytes :=
  slice e 0 2 ++ le 1 (u8 e 2 % 16) ++ slice (padTo 64 e) 3 23 ++ zeros 2 ++ slice (padTo 64 e) 28 6 ++ zeros 6 ++ slice (padTo 64 e) 40 8 ++ zeros 16
/-- EN of a receive or transmit entry. -/
def enOf (e : Bytes) : Bool := bit (u8 e 2) 0
/-- SEVEN: two legs (R430, R438). -/
def sevenOf (e : Bytes) : Bool := bit (u8 e 2) 1
/-- FERRULE of a receive entry, CLAIM_EXT of a transmit entry. -/
def claimOf (e : Bytes) : Bool := bit (u8 e 2) 2
/-- SSM of a receive entry. -/
def ssmOf (e : Bytes) : Bool := bit (u8 e 2) 3
/-- UNICAST of a receive entry. -/
def rxUnicast (e : Bytes) : Bool := bit (u8 e 2) 4
/-- UNICAST of a transmit entry. -/
def txUnicast (e : Bytes) : Bool := bit (u8 e 2) 3
/-- Leg 1's port. -/
def portOf (e : Bytes) : Nat := u8 e 3
/-- The ports of the legs. -/
def legPorts (e : Bytes) : List Nat := if sevenOf e then [portOf e, portOf e + 1] else [portOf e]
/-- Bits per sample: L16 or L24. -/
def encBits (e : Bytes) : Nat := if u8 e 6 = 0 then 16 else 24
/-- Samples per packet of a PTIME code at 1× (R419). -/
def ptimeOf (c : Nat) : Nat := [6, 12, 16, 48].getD c 6
/-- SPP at a rate multiple (R419). -/
def sppAt (mult : Nat) (e : Bytes) : Nat := ptimeOf (u8 e 7) * mult
/-- CHANNELS. -/
def chansOf (e : Bytes) : Nat := u8 e 8
/-- LINK_OFS. -/
def linkOfs (e : Bytes) : Nat := u16 e 10
/-- Payload bytes of a packet (R419). -/
def payloadOf (mult : Nat) (e : Bytes) : Nat := sppAt mult e * chansOf e * (encBits e / 8)
/-- BIND_MASK of a receive entry. -/
def rxMask (e : Bytes) : Nat := u64 e 48
/-- BIND_MASK of a transmit entry. -/
def txMask (e : Bytes) : Nat := u64 e 40
/-- The pool sources of the bound channels. -/
def rxSources (e : Bytes) : List Nat := ((List.range (chansOf e)).filter (bit (rxMask e))).map (· + u16 e 44)
/-- The pool sinks of the bound channels. -/
def txSinks (e : Bytes) : List Nat := ((List.range (chansOf e)).filter (bit (txMask e))).map (· + u16 e 32)

/-- The smallest power of 2 at least `n`. -/
def powerAbove (n : Nat) : Nat := if n ≤ 1 then 1 else 2 ^ ((n - 1).log2 + 1)
/-- RING: the smallest power of 2 at least LINK_OFS + 2 × SPP (R428). -/
def ringOf (mult : Nat) (e : Bytes) : Nat := powerAbove (linkOfs e + 2 * sppAt mult e)

/-! ### Events of a stream or port, at most one of a type per 100 ms (R449) -/

/-- An event of a stream or port may be raised now. -/
def noticeOpen (n : Notice) (s : State) : Bool := match n.ms with | none => true | some t => decide (t + 100 ≤ s.stem.ms)

/-- A state changes from `old`: what the notice becomes, and the old state that an event raised now reports. -/
def notice (n : Notice) (old : Nat) (s : State) : Notice × Option Nat :=
  if noticeOpen n s then ({ ms := some s.stem.ms, old := none }, some (n.old.getD old))
  else ({ n with old := some (n.old.getD old) }, none)

/-- STATE of a receive stream (R429). -/
def rxState (s : State) (r : RxStream) : Nat :=
  if ¬ enOf r.entry then 0 else if ¬ s.stem.aligned then 3 else if r.offsetErr then 4 else if r.running then 2 else 1

/-- A receive stream's state is brought up to date, with RX_STATE when it changes. -/
def settleRx (n : Nat) (s : State) : State :=
  let r := rxStream s n
  let st := rxState s r
  if st = r.state then s
  else
    let v := notice r.note r.state s
    let s1 := qlEvent 3 (modRx n (fun q => { q with state := st, note := v.1 }) s)
    match v.2 with
    | some old => raise 0x0402 (le 2 n ++ le 1 old ++ le 1 st) s1
    | none => s1

/-- LEG_STATE of one leg of a stream, at most once per 100 ms per stream. -/
def announceLeg (n leg old new : Nat) (s : State) : State :=
  let r := rxStream s n
  let s1 := qlEvent 2 s
  if noticeOpen { ms := r.legMs } s then
    raise 0x0403 (le 2 n ++ le 1 leg ++ le 1 old ++ le 1 new) (modRx n (fun q => { q with legMs := some s.stem.ms }) s1)
  else if r.legPend.any (fun e => e.1 = leg) then s1
  else modRx n (fun q => { q with legPend := q.legPend ++ [(leg, old)] }) s1

/-! ### Legs (R430, R431) -/

/-- The state of a leg of a buffer. -/
def legOf (b : RxBuf) (leg : Nat) : Nat := if leg = 1 then b.leg1 else b.leg2
/-- Set the state of a leg; its count of agreeing packets restarts. -/
def putLeg (leg v : Nat) (b : RxBuf) : RxBuf := if leg = 1 then { b with leg1 := v, agree1 := 0 } else { b with leg2 := v, agree2 := 0 }
/-- The count of agreeing packets of a leg. -/
def agreeOf (b : RxBuf) (leg : Nat) : Nat := if leg = 1 then b.agree1 else b.agree2
/-- Set that count. -/
def putAgree (leg v : Nat) (b : RxBuf) : RxBuf := if leg = 1 then { b with agree1 := v } else { b with agree2 := v }
/-- A leg has delivered a packet at an SSI. -/
def putSeen (leg u : Nat) (b : RxBuf) : RxBuf := if leg = 1 then { b with seen1 := u } else { b with seen2 := u }

/-- The leg of an entry on which a packet arrived, if any (R430). -/
def packetLeg (e : Bytes) (p : MediaPacket) : Option Nat :=
  if ¬ enOf e then none
  else if p.port = portOf e ∧ p.udp = u16 e 20 ∧ (rxUnicast e ∨ p.dst = u32 e 12) then some 1
  else if sevenOf e ∧ p.port = portOf e + 1 ∧ p.udp = u16 e 22 ∧ (rxUnicast e ∨ p.dst = u32 e 16) then some 2
  else none

/-- A leg's first on-time packet: it leaves DOWN (R431). -/
def leaveDown (leg : Nat) (b : RxBuf) : RxBuf :=
  if legOf b leg ≠ 2 then b else putLeg leg (if legOf b (3 - leg) = 0 then 1 else 0) b

/-! ### One packet (R423 to R426, R431, R432, R442) -/

/-- The media SSI T of a packet: the SSI whose low word its timestamp gives, nearest the SSI at arrival (R423). -/
def mediaSsi (u ts ofs : Nat) : Int := (u : Int) + sgn 32 (ts + 2 ^ 33 - ofs % 2 ^ 32 - u % 2 ^ 32)

/-- The claim that a packet carries, and its pair (R439, R441). -/
def packetClaim (p : MediaPacket) : Nat × Nat :=
  match p.ext with
  | some (prof, words, b) =>
    if prof = 0xA7E5 ∧ words = 2 ∧ u8 b 0 = 1 then (u8 b 1, u8 b 2 * 256 + u8 b 3) else (0, 0)
  | none => (0, 0)

/-- The samples of a payload: SPP lists of CHANNELS values, big-endian integers left in their width (R419). -/
def payloadSamples (mult : Nat) (e : Bytes) (b : Bytes) : List (List F32) :=
  let w := encBits e / 8
  (chunks (w * chansOf e) (sppAt mult e) b).map (fun f =>
    (chunks w (chansOf e) f).map (fun x => f32OfInt (encBits e) (sgn (encBits e) (ofLe x.reverse))))

/-- What a packet came to, for the stream's counters: the buffer after it, the counters, and whether it was LATE or EARLY. -/
structure PacketOut where
  buf   : RxBuf
  count : RxCount
  bad   : Bool := false

/-- The packet breaks the stream's format (R425). -/
def badFormat (mult : Nat) (e : Bytes) (p : MediaPacket) : Bool :=
  p.ver ≠ 2 || p.pt ≠ u8 e 9 || p.payload.length ≠ payloadOf mult e || p.over_

/-- Ferrule's verdict on a packet whose last media sample is `last`: the held claim after it and whether it proceeds
(R442). -/
def ferrule (e : Bytes) (p : MediaPacket) (last : Int) (b : RxBuf) : Option RxBuf :=
  if ¬ claimOf e then some b
  else
    let c := packetClaim p
    if u16 e 56 ≠ 0 ∧ c.2 ≠ u16 e 56 then none
    else if b.claim ≤ c.1 then some { b with claim := c.1 }
    else
      match b.lastHeld with
      | some h => if (h : Int) + 8 < last then some { b with claim := c.1 } else none
      | none => some { b with claim := c.1 }

/-- Compare a packet of a leg on probation with the accepted packet of the same sequence number (R431). -/
def compareProbe (leg : Nat) (k acc : Packet) (o : PacketOut) : PacketOut :=
  if k.ts = acc.ts ∧ k.payload = acc.payload then
    let a := agreeOf o.buf leg + 1
    { o with buf := if 64 ≤ a then putLeg leg 0 o.buf else putAgree leg a o.buf }
  else { o with buf := putAgree leg 0 o.buf, count := { o.count with mismatch := o.count.mismatch + 1 } }

/-- The path differential of two arrivals, in µs. -/
def skewUs (fs : Nat) (a b : Packet) : Nat :=
  roundDivN ((a.ssi * 1000000000 + a.ns * fs : Int) - (b.ssi * 1000000000 + b.ns * fs : Int)).natAbs (1000 * fs)

/-- A packet of a leg on probation is compared, now or when the other leg's copy is accepted, and never used (R431). -/
def takeProbe (leg : Nat) (k : Packet) (o : PacketOut) : PacketOut :=
  match o.buf.packets.find? (fun a => a.seq = k.seq && a.leg ≠ leg) with
  | some a => compareProbe leg k a o
  | none => { o with buf := { o.buf with probe := k :: o.buf.probe } }

/-- A packet is accepted: its samples take their places, and a waiting packet on probation is compared. -/
def acceptPacket (mult : Nat) (e : Bytes) (t : Nat) (k : Packet) (o : PacketOut) : PacketOut :=
  let b := o.buf
  let vals := (payloadSamples mult e k.payload).zipIdx.map (fun v => (t + v.2 + linkOfs e, v.1))
  let last := t + sppAt mult e - 1
  let o1 : PacketOut :=
    { o with buf := { b with packets := k :: b.packets, samples := b.samples ++ vals, base := some (t + linkOfs e),
                             lastHeld := some last },
             count := { o.count with packets := o.count.packets + 1, lastSsi := last } }
  match b.probe.find? (fun a => a.seq = k.seq) with
  | some a => if legOf b (3 - k.leg) = 1 then compareProbe (3 - k.leg) a k { o1 with buf := { o1.buf with probe := o1.buf.probe.filter (fun x => x.seq ≠ k.seq) } } else o1
  | none => o1

/-- One packet of an entry, from its arrival at SSI `u` on a leg (R423 to R426, R431, R432, R442). -/
def takePacket (mult fs u : Nat) (e : Bytes) (leg : Nat) (p : MediaPacket) (b0 : RxBuf) (c : RxCount) : PacketOut :=
  let ring := ringOf mult e
  let fresh := fun (l : List Packet) => l.filter (fun a => decide (u < a.ssi + ring))
  let b := putSeen leg u { b0 with packets := fresh b0.packets, probe := fresh b0.probe }
  let t := mediaSsi u p.ts (u32 e 40)
  let spp := sppAt mult e
  let due := t + (linkOfs e : Int) - u
  if due * 1000000000 < (5000 + p.ns) * fs then { buf := b, count := { c with late := c.late + 1 }, bad := true }
  else if (ring : Int) - spp ≤ due + spp - 1 then { buf := b, count := { c with early := c.early + 1 }, bad := true }
  else
    let b1 := leaveDown leg b
    if badFormat mult e p then { buf := b1, count := { c with format := c.format + 1 } }
    else match ferrule e p (t + spp - 1) b1 with
    | none => { buf := b1, count := { c with claimDrop := c.claimDrop + 1 } }
    | some b2 =>
      let k : Packet := { seq := p.seq, ts := p.ts, payload := p.payload, leg := leg, ssi := u, ns := p.ns }
      if legOf b2 leg = 1 then takeProbe leg k { buf := b2, count := c }
      else match b2.packets.find? (fun a => a.seq = p.seq) with
      | some a =>
        let diff : Bool := a.leg ≠ leg && (a.ts ≠ k.ts || a.payload ≠ k.payload)
        let skew := if a.leg ≠ leg then max c.skewMax (skewUs fs k a) else c.skewMax
        { buf := b2, count := { c with dup := c.dup + 1, mismatch := c.mismatch + b2n diff, skewMax := skew } }
      | none => acceptPacket mult e t.toNat k { buf := b2, count := c }

/-- The legs' states after a packet or a loss are announced where they differ. -/
def announceLegs (n : Nat) (old : RxBuf) (s : State) : State :=
  [1, 2].foldl (fun t leg =>
    let new := legOf (rxStream t n).buf leg
    if legOf old leg = new then t else announceLeg n leg (legOf old leg) new t) s

/-- The pending entry of a stream: its waiting NET.RX_SET or NET.TX_SET (R443). -/
def pendingEntry (op n : Nat) (s : State) : Option Armed :=
  (s.ink.armed ++ s.ink.sched).find? (fun a => a.opcode = op && u16 a.params 0 = n)

/-- A packet for the entry in force. -/
def packetNow (p : MediaPacket) (s : State) : State :=
  let n := p.stream
  let r := rxStream s n
  match packetLeg r.entry p with
  | none => s
  | some leg =>
    let o := takePacket s.stem.mult (fsOp s) s.stem.ssi r.entry leg p r.buf r.count
    settleRx n (announceLegs n r.buf (modRx n (fun q =>
      { q with buf := o.buf, count := o.count, badMs := if o.bad then some (q.badMs.getD s.stem.ms) else none,
               offsetErr := q.offsetErr && o.bad }) s))

/-- A packet for an entry that waits for its apply SSI: Quill buffers it from the arming on (R443). -/
def packetNext (p : MediaPacket) (s : State) : State :=
  match pendingEntry 0x0410 p.stream s with
  | none => s
  | some a =>
    match packetLeg a.params p with
    | none => s
    | some leg => modRx p.stream (fun q => { q with next := (takePacket s.stem.mult (fsOp s) s.stem.ssi a.params leg p q.next {}).buf }) s

/-- The stream is named by an enabled entry, now or pending. -/
def streamHeard (p : MediaPacket) (s : State) : Bool :=
  (packetLeg (rxStream s p.stream).entry p).isSome ||
    (match pendingEntry 0x0410 p.stream s with | some a => (packetLeg a.params p).isSome | none => false)

/-- MEDIA_PACKET_RX: a packet admitted for a stream; before alignment it is dropped and counted (R126). In STANDBY the streams are stopped
(R136). -/
def mediaPacket (p : MediaPacket) (s : State) : State :=
  if s.power.mode = .standby ∨ streamsOf s.variant ≤ p.stream ∨ netPorts s.variant ≤ p.port ∨ ¬ (netPort s p.port).link ∨ ¬ streamHeard p s then s
  else if ¬ s.stem.aligned then modNet p.port (fun q => { q with unaligned := q.unaligned + 1 }) s
  else packetNow p (packetNext p s)

/-- A leg of a stream becomes DOWN. -/
def legFalls (n leg : Nat) (s : State) : State :=
  let r := rxStream s n
  if legOf r.buf leg = 2 then s
  else announceLegs n r.buf (modRx n (fun q => { q with buf := putLeg leg 2 q.buf, next := putLeg leg 2 q.next }) s)

/-- LEG_DOWN: a leg that has delivered no packet for 16 × SPP samples becomes DOWN (R431). -/
def legTimeout (n leg : Nat) (s : State) : State :=
  let r := rxStream s n
  let seen := if leg = 1 then r.buf.seen1 else r.buf.seen2
  if enOf r.entry ∧ (leg = 1 ∨ leg = 2) ∧ seen + 16 * sppAt s.stem.mult r.entry ≤ s.stem.ssi then legFalls n leg s else s

/-- OFFSET_ERROR: every packet of the last 100 ms was LATE or EARLY (R429). -/
def offsetError (n : Nat) (s : State) : State :=
  match (rxStream s n).badMs with
  | some t => if enOf (rxStream s n).entry ∧ t + 100 ≤ s.stem.ms then settleRx n (modRx n (fun q => { q with offsetErr := true }) s) else s
  | none => s

/-! ### Presentation (R423, R427) -/

/-- A sequence number whose first sample would be presented at `u` was never accepted. -/
def slotLost (mult : Nat) (r : RxStream) (u : Nat) : Bool :=
  match r.buf.base with
  | some b => r.running && (u + sppAt mult r.entry * (b / sppAt mult r.entry + 1) - b) % sppAt mult r.entry = 0
  | none => false

/-- The repeats of a stream run out: it presents ABSENT and waits (R427, R429). -/
def repeatsExpire (n : Nat) (s : State) : State :=
  let r := rxStream s n
  if r.running ∧ u16 r.entry 46 ≤ r.repeats then settleRx n (modRx n (fun q => { q with running := false }) s) else s

/-- One stream presents its samples for the present SSI: ABSENT before alignment and in STANDBY (R126, R136). -/
def presentStream (n : Nat) (s : State) : State :=
  let r := rxStream s n
  let u := s.stem.ssi
  let bound := (rxSources r.entry).length
  let rest := r.buf.samples.filter (fun e => decide (u < e.1))
  if ¬ enOf r.entry then s
  else if ¬ s.stem.aligned ∨ s.power.mode = .standby then settleRx n (modRx n (fun q => { q with now := [], running := false, buf := { q.buf with samples := rest } }) s)
  else
    match r.buf.samples.find? (fun e => e.1 = u) with
    | some e =>
      settleRx n (modRx n (fun q => { q with now := e.2.map (fun v => { v := v, tag := 0 }), last := e.2, repeats := 0, running := true,
                                             buf := { q.buf with samples := rest } }) s)
    | none =>
      let lost := b2n (slotLost s.stem.mult r u)
      if r.running ∧ r.repeats < u16 r.entry 46 then
        vellumAdd 69 lost (modRx n (fun q =>
          { q with now := q.last.map (fun v => { v := v, tag := 1 }), repeats := q.repeats + 1,
                   count := { q.count with repeated := q.count.repeated + bound, lost := q.count.lost + lost },
                   buf := { q.buf with samples := rest } }) s)
      else
        vellumAdd 69 lost (repeatsExpire n (modRx n (fun q =>
          { q with now := [], count := { q.count with lost := q.count.lost + lost }, buf := { q.buf with samples := rest } }) s))

/-- The streams present their samples for the present SSI. -/
def presentStreams (s : State) : State := s.quill.rx.foldl (fun t e => presentStream e.1 t) s

/-- The sample that a pool source bound to a stream carries now (R422). -/
def quillSource (s : State) (n : Nat) : Sample :=
  let r := rxStream s (tabGet 0 s.lig.srcOwner n - 0x1000000)
  r.now.getD (n - u16 r.entry 44) {}

/-! ### Changes at an SSI (R443, R344) -/

/-- Give the pool sources of an entry to an owner; 0 frees them. -/
def ownSources (owner : Nat) (l : List Nat) (s : State) : State :=
  { s with lig := { s.lig with srcOwner := l.foldl (fun t n => tabPut 0 t n owner) s.lig.srcOwner } }

/-- The transmit streams' pool sinks (R343): a sink is owned while any entry reads it. -/
def ownSinks (owner : Nat) (l : List Nat) (s : State) : State :=
  { s with lig := { s.lig with snkOwner := l.foldl (fun t n => tabPut 0 t n owner) s.lig.snkOwner } }

/-- A receive entry takes effect: it begins with what Quill has buffered for it. -/
def takeRxEntry (n : Nat) (e : Bytes) (s : State) : State :=
  let old := rxStream s n
  let s1 := ownSources 0 (if enOf old.entry then rxSources old.entry else []) s
  let s2 := ownSources (0x1000000 + n) (if enOf e then rxSources e else []) s1
  let s3 := modRx n (fun q => { q with entry := cleanRx e, window := none, buf := q.next, next := {}, repeats := 0, running := false,
                                       last := [], now := [], badMs := none, offsetErr := false }) s2
  settleRx n (announceLegs n old.buf s3)

/-- The sinks that transmit streams other than `n` read. -/
def otherSinks (n : Nat) (s : State) : List Nat :=
  s.quill.tx.flatMap (fun e => if e.1 ≠ n ∧ enOf e.2.entry then txSinks e.2.entry else [])

/-- A transmit entry takes effect. -/
def takeTxEntry (n : Nat) (e : Bytes) (s : State) : State :=
  let old := (txStream s n).entry
  let s1 := ownSinks 0 ((if enOf old then txSinks old else []).filter (fun k => !(otherSinks n s).contains k)) s
  let s2 := ownSinks (0x1000000 + n) ((if enOf e then txSinks e else []).filter (fun k => !(otherSinks n s).contains k)) s1
  let s3 := modTx n (fun q => { q with entry := cleanTx e, window := none, acc := [], due := none, sending := q.sending && enOf e,
                                       arp := q.arp && u32 e 12 = u32 old 12 }) s2
  { s3 with twin := { s3.twin with gatedTx := s3.twin.gatedTx.filter (· ≠ n) } }

/-! ### Transmission (R434 to R440) -/

/-- The Twin unit allows a stream with CLAIM_EXT to transmit now (R436, R496). -/
def claimMaySend (n : Nat) (s : State) : Bool :=
  let w := s.twin
  let due := fun (o : Option Nat) => match o with | some u => decide (u ≤ s.stem.ssi) | none => false
  (w.gateOpen || due w.openAt) && !due w.closeAt && !w.gatedTx.contains n

/-- STATE of a transmit stream: the first condition of R436 that fails. -/
def txState (s : State) (n : Nat) (t : TxStream) : Nat :=
  let e := t.entry
  if ¬ enOf e then 0
  else if ¬ (legPorts e).any (fun p => (netPort s p).link) then 4
  else if txUnicast e ∧ ¬ t.arp then 5
  else if s.quill.txOff ∨ (¬ s.quill.cfg.txUnlocked ∧ (¬ s.stem.aligned ∨ (¬ t.sending ∧ s.bl.state ≠ .locked))) then 1
  else if claimOf e ∧ ¬ claimMaySend n s then 3
  else 2

/-- A transmit stream's state is brought up to date, with TX_STATE when it changes; a stream held by timing, or stopped for STANDBY, has to
start again (R73, R159). -/
def settleTx (n : Nat) (s : State) : State :=
  let t := txStream s n
  let st := txState s n t
  let s1 := modTx n (fun q => { q with sending := st = 2 || (q.sending && !s.quill.txOff && (st = 3 || st = 4 || st = 5)) }) s
  if st = t.state then s1
  else
    let v := notice t.note t.state s
    let s2 := qlEvent 4 (modTx n (fun q => { q with state := st, note := v.1 }) s1)
    match v.2 with
    | some old => raise 0x0404 (le 2 n ++ le 1 old ++ le 1 st) s2
    | none => s2

/-- The transmit streams gather one sample of each sink and close the packets that it fills (R434). -/
def gatherTx (out : Nat → Sample) (n : Nat) (s : State) : State :=
  let t := txStream s n
  let e := t.entry
  if ¬ enOf e ∨ s.quill.txOff then s
  else
    let spp := sppAt s.stem.mult e
    let u := s.stem.ssi
    let f := (List.range (chansOf e)).map (fun i => if bit (txMask e) i then out (u16 e 32 + i) else { v := 0, tag := 0 })
    let acc := (if u % spp = 0 then [] else t.acc) ++ [f]
    if (u + 1) % spp = 0 then
      modTx n (fun q => { q with acc := [], due := if acc.length = spp then some (u + 1 - spp, acc) else none }) s
    else modTx n (fun q => { q with acc := acc }) s

/-- Every transmit stream gathers. -/
def gatherStreams (out : Nat → Sample) (s : State) : State := s.quill.tx.foldl (fun t e => gatherTx out e.1 t) s

/-- Big-endian bytes of a number. -/
def be (n v : Nat) : Bytes := (le n v).reverse

/-- The claim header extension (R439, R440). -/
def claimExt (s : State) : Bytes :=
  let w := s.twin
  let claim := if w.partner then w.claim else 0
  let hand := match w.handover with | some h => h.began | none => false
  be 2 0xA7E5 ++ be 2 2 ++ le 1 1 ++ le 1 claim ++ be 2 w.cfg.pair ++ le 1 w.cfg.unit ++ le 1 (b2n hand) ++ zeros 2

/-- The integers of a packet with whether each was clipped, sample by sample. -/
def txWords (e : Bytes) (l : List (List Sample)) : List (Nat × Sample × Int × Bool) :=
  l.flatMap (fun f => f.zipIdx.map (fun v => (v.2, v.1, f32ToInt (encBits e) v.1.v)))

/-- The RTP packet of stream `e` whose first sample is `u` (R434, R439). -/
def rtpBytes (s : State) (e : Bytes) (u : Nat) (l : List (List Sample)) : Bytes :=
  let w := encBits e / 8
  le 1 (0x80 + 0x10 * b2n (claimOf e)) ++ le 1 (u8 e 9) ++ be 2 (u / sppAt s.stem.mult e % 65536) ++ be 4 (u % 2 ^ 32) ++
    be 4 (u32 e 28) ++ (if claimOf e then claimExt s else []) ++
    (txWords e l).flatMap (fun v => be w (unsgn (8 * w) v.2.2.1))

/-- The DSCP of a stream (R414). -/
def txDscp (s : State) (e : Bytes) : Nat := if u8 e 11 = 0xFF then s.quill.cfg.dscpMedia else u8 e 11

/-- The interface of a leg. -/
def ifaceOf (s : State) (p i : Nat) : Iface := (netPort s p).cfg.ifaces.getD i {}

/-- The current address of interface `i` of port `n`: its static address, or the one that it was given (R411). -/
def addrOf (s : State) (n i : Nat) : Nat :=
  let f := ifaceOf s n i
  if (netPort s n).cfg.ifaces.length ≤ i then 0 else if f.mode = 0 then f.addr else Config.leasedAddr (8 * n + i) % 2 ^ 32

/-- The PCP of the frames of an interface: none when they are untagged (R413, R414). -/
def pcpOf (s : State) (n i : Nat) : Option Nat := if (ifaceOf s n i).vid = 0 then none else some (ifaceOf s n i).pcp

/-- Leg `i` of a transmit entry: each leg carries its own interface address as source (R438). -/
def sentLeg (s : State) (e : Bytes) (i : Nat) : SentLeg :=
  let p := portOf e + i
  let f := u8 e (4 + i)
  { port := p, src := addrOf s p f, dst := u32 e (12 + 4 * i), udp := u16 e (20 + 2 * i), srcUdp := u16 e 24, ttl := u8 e 10, pcp := pcpOf s p f }

/-- Count the samples of a sent packet (R26, R294). -/
def countWords (n : Nat) (l : List (Nat × Sample × Int × Bool)) (s : State) : State :=
  let clips := l.filter (fun v => v.2.2.2)
  vellumAdd 70 clips.length (modTx n (fun q =>
    { q with txRep := q.txRep + (l.filter (fun v => v.2.1.tag = 1)).length,
             txAbs := q.txAbs + (l.filter (fun v => v.2.1.tag = 2)).length,
             clips := q.clips + clips.length,
             chClips := clips.foldl (fun t v => tabMod 0 t v.1 (· + 1)) q.chClips }) s)

/-- A packet leaves on every leg whose port is up (R438). -/
def sendPacket (n u : Nat) (l : List (List Sample)) (s : State) : State :=
  let e := (txStream s n).entry
  let legs := ((List.range (legPorts e).length).map (sentLeg s e)).filter (fun g => (netPort s g.port).link)
  let s1 := countWords n (txWords e l) s
  let s2 := legs.foldl (fun t g => modNet g.port (fun q => { q with txFrames := q.txFrames + 1 }) t) s1
  modTx n (fun q => { q with due := none, packets := q.packets + 1, lastSeq := u / sppAt s.stem.mult e % 65536,
                             sent := rtpBytes s e u l, sentTo := legs, dscp := txDscp s e }) s2

/-- TX_PACKET_SEND: the packet that is due is sent, or gated and never sent later (R435, R436). -/
def txPacket (n : Nat) (s : State) : State :=
  match (txStream s n).due with
  | none => s
  | some (u, l) =>
    let s1 := settleTx n s
    if (txStream s1 n).state = 2 then sendPacket n u l s1
    else modTx n (fun q => { q with due := none, gated := q.gated + 1, lastSeq := q.lastSeq }) s1

end Sys2Proof.Machine
end

