-- ==== Sys2Proof/Machine/Net.lean ====
section
/-! DEFINITION. Quill's ports: the admission filter, PTP, NMOS and the network commands (chapter 14, opcodes 0x0401 to
0x0420). -/

namespace Sys2Proof.Machine

/-! ### Ports and their events (R410, R412, R449) -/

/-- The PTP instance of port `n`. -/
def ptpPort (s : State) (n : Nat) : PtpPort := tabGet {} s.quill.ptp n
/-- Change the PTP instance of port `n`. -/
def modPtp (n : Nat) (f : PtpPort → PtpPort) (s : State) : State := modQuill (fun q => { q with ptp := tabMod {} q.ptp n f }) s

/-- The MAC address of a port (R412). -/
def macOf (s : State) (n : Nat) : Nat := s.quill.macBase + n

/-- A frame of the PTP queue (0) or the control queue (2) leaves port `n` from interface `i`; an ARP frame carries no DSCP (R414). -/
def sendNet (n i queue : Nat) (ip : Bool) (m : NetMsg) (s : State) : State :=
  let d := if queue = 0 then s.quill.cfg.dscpPtp else s.quill.cfg.dscpCtrl
  modNet n (fun q => { q with txFrames := q.txFrames + 1, sent := some { queue := queue, dscp := if ip then some d else none, pcp := pcpOf s n i, msg := m } }) s

/-! ### Groups and addresses (R411, R443) -/

/-- The universes that the cue map names (R330). -/
def sacnJoined (s : State) : List Nat := ((s.prog.cue.map.filter (fun e => e.2.source = 1)).map (·.2.univ)).dedup

/-- The group of a universe: 239.255 and the universe. -/
def sacnGroup (u : Nat) : Nat := 239 * 2 ^ 24 + 255 * 2 ^ 16 + u

/-- The group of a receive entry's leg on port `n`, with the sources that SSM allows. -/
def legGroups (n : Nat) (e : Bytes) : List (Nat × List Nat) :=
  if ¬ enOf e ∨ rxUnicast e then []
  else (legPorts e).zipIdx.filterMap (fun v =>
    if v.1 = n then some (u32 e (12 + 4 * v.2), if ssmOf e then ((List.range 4).map (fun i => u32 e (24 + 4 * i))).filter (· ≠ 0) else []) else none)

/-- The groups that Quill has joined on a port: those of the receive entries in force and armed, and of the universes on a port of
SACN_PORTS; an IGMPv2 querier's network keeps no source filters (R330, R411, R443). -/
def groupsOf (s : State) (n : Nat) : List (Nat × List Nat) :=
  let armed := ((s.ink.armed ++ s.ink.sched).filter (fun a => a.opcode = 0x0410)).map (·.params)
  let l := (s.quill.rx.map (·.2.entry) ++ armed).flatMap (legGroups n) ++
    (if bit s.prog.cue.cfg.sacnPorts n then (sacnJoined s).map (fun u => (sacnGroup u, [])) else [])
  (if (netPort s n).igmpV2 then l.map (fun g => (g.1, [])) else l).dedup

/-- A port whose groups are no longer those of `old` reports them (R411, R443). -/
def reportGroups (old s : State) : State :=
  ((List.range (netPorts s.variant)).filter (fun n => (netPort s n).link && groupsOf old n ≠ groupsOf s n)).foldl (fun t n =>
    sendNet n 0 2 true (.igmpReport (netPort t n).igmpV2 (groupsOf t n)) t) s

/-- A gratuitous ARP for every address of a port's interfaces (R411). -/
def announceAddrs (n : Nat) (s : State) : State :=
  ((List.range (netPort s n).cfg.ifaces.length).filter (fun i => addrOf s n i ≠ 0)).foldl (fun t i =>
    sendNet n i 2 false (.arpAnnounce (addrOf t n i)) t) s

/-- The address that an interface asks ARP for: the destination in its own network, else the gateway (R413). -/
def nextHop (s : State) (n i dst : Nat) : Nat :=
  let f := ifaceOf s n i
  if dst / 2 ^ (32 - f.plen) = addrOf s n i / 2 ^ (32 - f.plen) ∨ f.gateway = 0 then dst else f.gateway

/-- An address and its MAC enter a port's ARP cache of 256 entries (R411). -/
def learnArp (n addr mac : Nat) (s : State) : State :=
  modNet n (fun q => { q with arp := ((addr, mac) :: q.arp.filter (fun e => e.1 ≠ addr)).take 256 }) s

/-- The unicast transmit streams of a port whose destination is reached through an address that ARP now knows are resolved (R436). -/
def resolveStreams (n addr : Nat) (s : State) : State :=
  s.quill.tx.foldl (fun t e =>
    let k := e.2.entry
    if enOf k ∧ txUnicast k ∧ portOf k = n ∧ nextHop t n (u8 k 4) (u32 k 12) = addr then settleTx e.1 (modTx e.1 (fun q => { q with arp := true }) t)
    else t) s

/-- NET_LINK of a port, at most once per 100 ms. -/
def announceLink (n : Nat) (s : State) : State :=
  let p := netPort s n
  let v := notice p.note 0 s
  let s1 := qlEvent 1 (modNet n (fun q => { q with note := v.1 }) s)
  match v.2 with
  | some _ => raise 0x0401 (le 1 n ++ le 1 (b2n p.link) ++ le 1 p.cfg.speed) s1
  | none => s1

/-- NET_DROP of a port for the first class that has drops to report, at most once per second (R449). -/
def announceDrops (n : Nat) (s : State) : State :=
  let p := netPort s n
  match p.dropped with
  | (c, k) :: rest =>
    if (match p.dropMs with | none => true | some t => decide (t + 1000 ≤ s.stem.ms)) then
      raise 0x0406 (le 1 n ++ le 1 c ++ zeros 2 ++ le 4 k) (modNet n (fun q => { q with dropped := rest, dropMs := some s.stem.ms }) s)
    else s
  | [] => s

/-- A frame of admission class `c` is dropped. -/
def dropFrame (n c : Nat) (f : NetPort → NetPort) (s : State) : State :=
  announceDrops n (modNet n (fun q => { f q with dropped := tabMod 0 q.dropped c (· + 1) }) s)

/-! ### PTP (R416 to R418) -/

/-- The state of a port's PTP instance changes, with PTP_STATE. -/
def setPtp (n st : Nat) (s : State) : State :=
  let p := ptpPort s n
  if p.state = st then s
  else
    let v := notice p.note p.state s
    let s1 := modPtp n (fun q => { q with state := st, since := s.stem.ssi, note := v.1 }) s
    match v.2 with
    | some old => raise 0x0405 (le 1 n ++ le 1 old ++ le 1 st ++ zeros 5 ++ le 8 p.foreign.gmId) s1
    | none => s1

/-- A port leaves follower state for `st`: its candidate is disqualified for `cause` (R59). -/
def leaveFollower (n st cause : Nat) (s : State) : State :=
  if (ptpPort s n).state = 2 then causeArises n cause (setPtp n st s) else setPtp n st s

/-- Where a port's PTP instance stands while its link is up and no leader has been heard: a LEADER port always leads. -/
def ptpIdle (s : State) (n : Nat) : Nat :=
  let c := (ptpPort s n).cfg
  if c.role = 0 then 0 else if ¬ (netPort s n).link then 5 else if c.role = 2 then 3 else 1

/-- clockClass of the engine's own dataset (R418). -/
def ownClass (s : State) (c : PtpCfg) : Nat :=
  match s.bl.state with
  | .locked => c.classLocked
  | .holdover => if c.classLocked = 6 then 7 else c.classLocked
  | _ => 248

/-- clockIdentity: NET0's MAC with 0xFFFE after its third byte. -/
def clockId (s : State) : Nat := macOf s 0 / 2 ^ 24 * 2 ^ 40 + 0xFFFE * 2 ^ 24 + macOf s 0 % 2 ^ 24

/-- The engine's own dataset on port `n`. -/
def ownData (s : State) (n : Nat) : PtpData :=
  let c := (ptpPort s n).cfg
  { prio1 := c.prio1, cls := ownClass s c, acc := 0xFE, prio2 := c.prio2, gmId := clockId s, steps := 0 }

/-- What a leading port announces: the followed grandmaster's dataset, one step further, while Baseline is LOCKED to a PTP
candidate, and its own otherwise (R418). -/
def announced (s : State) (n : Nat) : PtpData :=
  if s.bl.state = .locked ∧ s.bl.sel < 4 then
    let f := (ptpPort s s.bl.sel).foreign
    { f with steps := f.steps + 1 }
  else ownData s n

/-- The fields that the best-leader algorithm compares, in order (R417). -/
def rankOf (d : PtpData) : List Nat := [d.prio1, d.cls, d.acc, d.prio2, d.gmId, d.steps]

/-- `a` comes before `b`, field by field. -/
def lexLess : List Nat → List Nat → Bool
  | x :: xs, y :: ys => if x = y then lexLess xs ys else decide (x < y)
  | _, _ => false

/-- An Announce from a foreign leader (R417): the best foreign leader heard counts, so one that is no better than the leader followed
changes nothing. Where it brings both causes 6 and 7, the lower is recorded (R59). -/
def takeAnnounce (n : Nat) (d : PtpData) (s0 : State) : State :=
  let c := (ptpPort s0 n).cfg
  let old := ptpPort s0 n
  let worse : Bool := decide (old.state = 2) && decide (d.gmId ≠ old.foreign.gmId) && !lexLess (rankOf d) (rankOf old.foreign)
  let s := modPtp n (fun q => { q with annMs := s0.stem.ms }) s0
  if c.role = 2 ∨ worse then s0
  else if c.role = 3 ∧ ¬ lexLess (rankOf d) (rankOf (ownData s n)) then
    leaveFollower n 3 5 s
  else
    let s1 := modRef n (fun r => { r with gm := d.gmId }) (modPtp n (fun q => { q with foreign := d }) s)
    let s2 := if old.state = 2 ∧ (refCfg s n).param < d.cls then causeArises n 6 s1 else s1
    let s3 := if old.state = 2 ∧ d.gmId ≠ old.foreign.gmId then causeArises n 7 s2 else s2
    setPtp n 2 s3

/-- A Sync measured by a following port: Baseline takes the measurement, `dev` being its deviation from the loop's prediction, with B and
P out of it (R416, R726, R59). -/
def takeSync (m : PtpMsg) (s : State) : State :=
  let off := m.offset - (ptpPort s m.port).cfg.asymmetry
  refEdge m.port m.dev m.fofs m.build
    (modPtp m.port (fun q => { q with syncRx := q.syncRx + 1, offset := sat32 off, meanPath := min (2 ^ 32 - 1) m.path }) s)

/-- PTP_MESSAGE_RX: messages of other domains, of an interface that has no PTP, and of other kinds are dropped. -/
def ptpMessage (m : PtpMsg) (s : State) : State :=
  let p := ptpPort s m.port
  if netPorts s.variant ≤ m.port ∨ ¬ (netPort s m.port).link ∨ p.cfg.role = 0 ∨ m.domain ≠ p.cfg.domain ∨ m.iface ≠ p.cfg.iface then s
  else if m.kind = 1 then takeAnnounce m.port m.data s
  else if m.kind = 0 ∧ p.state = 2 then takeSync m s
  else if m.kind = 2 ∧ p.state = 3 then sendNet m.port p.cfg.iface 0 true .delayResp s
  else s

/-- The time that a leading port distributes, in ps after the PTP epoch: the sample of SSI n stands at n ÷ Fs_op seconds (R418). -/
def gridPs (s : State) : Nat := s.stem.ssi * 1000000000000 / fsOp s

/-- PTP_SYNC_TX: a leading port sends Sync and Announce (R418). -/
def ptpSyncTx (n : Nat) (s : State) : State :=
  if netPorts s.variant ≤ n ∨ ¬ (netPort s n).link ∨ (ptpPort s n).state ≠ 3 then s
  else
    let frames := if (ptpPort s n).cfg.oneStep then 2 else 3
    let t := modPtp n (fun q => { q with syncTx := q.syncTx + 1, sent := announced s n, sentPs := gridPs s }) s
    sendNet n (ptpPort s n).cfg.iface 0 true (.ptpSync (gridPs s)) (modNet n (fun q => { q with txFrames := q.txFrames + (frames - 1) }) t)

/-- ANNOUNCE_TO Announce intervals have passed since a port's last Announce (R416). -/
def announceLate (s : State) (n : Nat) : Bool :=
  let p := ptpPort s n
  let up := p.cfg.logAnnounce.toNat
  let down := (-p.cfg.logAnnounce).toNat
  decide (p.cfg.announceTo * 1000 * 2 ^ up ≤ (s.stem.ms - p.annMs) * 2 ^ down)

/-- ANNOUNCE_RECEIPT_TIMEOUT: the follower state ends and the candidate loses its signal; an AUTO port leads (R417, R58). -/
def announceTimeout (n : Nat) (s : State) : State :=
  let p := ptpPort s n
  if netPorts s.variant ≤ n ∨ p.cfg.role = 0 ∨ p.cfg.role = 2 ∨ p.state = 3 ∨ p.state = 5 ∨ ¬ announceLate s n then s
  else leaveFollower n (if p.cfg.role = 3 then 3 else 1) 2 (modPtp n (fun q => { q with timeouts := q.timeouts + 1 }) s)

/-! ### Links (R123, R431, R447) -/

/-- The legs of the streams on a port whose link drops become DOWN (R431). -/
def legsFall (n : Nat) (s : State) : State :=
  s.quill.rx.foldl (fun t e =>
    (legPorts e.2.entry).zipIdx.foldl (fun t v => if enOf e.2.entry ∧ v.1 = n then legFalls e.1 (v.2 + 1) t else t) t) s

/-- NET_UP of HOST_STATUS: at least one port is up. -/
def settleNetUp (s : State) : State :=
  { s with boot := { s.boot with netUp := (List.range (netPorts s.variant)).any (fun n => (netPort s n).link) } }

/-- The transmit streams' states follow a change that concerns them. -/
def settleStreams (s : State) : State := s.quill.tx.foldl (fun t e => settleTx e.1 t) s

/-- The receive streams' states follow alignment. -/
def settleReceivers (s : State) : State := s.quill.rx.foldl (fun t e => settleRx e.1 t) s

/-- A port's link drops. -/
def linkDown (n : Nat) (s : State) : State :=
  if ¬ (netPort s n).link then s
  else
    let s1 := vellumCount 66 (modNet n (fun q => { q with link := false, linkDowns := q.linkDowns + 1, arp := [], igmpV2 := false }) s)
    let s2 := legsFall n (leaveFollower n (if (ptpPort s n).cfg.role = 0 then 0 else 5) 2 s1)
    settleStreams (settleNetUp (announceLink n s2))

/-- A port's link comes up: in STANDBY only the standby port's SerDes is powered, until a wake enables the others as commands are served
(R145, R157), and none is before the image runs. -/
def linkUp (n : Nat) (s : State) : State :=
  let held : Bool := s.power.mode = .held || s.boot.stage = .rom || s.boot.stage = .header || s.boot.stage = .verifying || s.boot.stage = .waitHost
  if (netPort s n).link ∨ held ∨ (s.power.mode = .standby ∧ n ≠ s.power.stbyPort ∧ ¬ (s.power.waking ∧ s.boot.inkBasic)) then s
  else
    let s1 := modNet n (fun q => { q with link := true }) s
    announceAddrs n (settleStreams (settleNetUp (announceLink n (modPtp n (fun q => { q with annMs := s.stem.ms }) (setPtp n (ptpIdle s1 n) s1)))))

/-- NET_LINK. -/
def netLink (n : Nat) (up : Bool) (s : State) : State :=
  if netPorts s.variant ≤ n then s else if up then linkUp n s else linkDown n s

/-! ### The admission filter (R411, R415) -/

/-- The interface on which a frame arrives: that of its VID. -/
def frameIface (s : State) (f : Frame) : Option Nat :=
  (List.range (netPort s f.port).cfg.ifaces.length).find? (fun i => (ifaceOf s f.port i).vid = f.tags.headD 0)

/-- A frame that Quill does not support: jumbo, with several tags, IPv6 or fragmented (R411). -/
def unsupported (f : Frame) : Bool :=
  (if f.tags.isEmpty then 1518 else 1522) < f.len || 2 ≤ f.tags.length || f.ether = 0x86DD || (f.ether = 0x0800 && f.frag)

/-- The frame reaches an enabled leg of entry `e`. -/
def legTakes (s : State) (e : Bytes) (f : Frame) : Bool :=
  enOf e && (legPorts e).zipIdx.any (fun v =>
    v.1 = f.port && frameIface s f = some (u8 e (4 + v.2)) && f.udp = u16 e (20 + 2 * v.2) &&
      (if rxUnicast e then f.dst = addrOf s f.port (u8 e (4 + v.2)) else f.dst = u32 e (12 + 4 * v.2)))

/-- The receive stream that takes the frame: its number and its entry. -/
def frameStream (s : State) (f : Frame) : Option (Nat × Bytes) :=
  match s.quill.rx.find? (fun e => legTakes s e.2.entry f) with
  | some e => some (e.1, e.2.entry)
  | none =>
    match (s.ink.armed ++ s.ink.sched).find? (fun a => a.opcode = 0x0410 && legTakes s a.params f) with
    | some a => some (u16 a.params 0, a.params)
    | none => none

/-- The frame is addressed to an interface of its port. -/
def toInterface (s : State) (f : Frame) : Bool := match frameIface s f with | some i => f.dst = addrOf s f.port i && f.dst ≠ 0 | none => false

/-- Scribe's TCP and UDP services (R415; the manuscript peer port is 4717). -/
def forScribe (s : State) (f : Frame) : Bool :=
  f.ether = 0x0800 &&
    ((f.proto = 6 && (f.udp = 4716 || f.udp = 4717 || (s.quill.nmos.en && f.udp = s.quill.nmos.port))) ||
     (f.proto = 17 && ((f.udp = 5568 && bit s.prog.cue.cfg.sacnPorts f.port && ((sacnJoined s).any (fun u => sacnGroup u = f.dst) || (toInterface s f && !(sacnJoined s).isEmpty))) ||
       (s.prog.cue.cfg.oscPort ≠ 0 && f.udp = s.prog.cue.cfg.oscPort) || f.udp = 5353 || f.udp = 68)))

/-- The groups joined on a port. -/
def joined (s : State) (n : Nat) : List Nat := (groupsOf s n).map (·.1)

/-- The class that handles a frame, by its row (R415, log 55). -/
def frameClass (s : State) (f : Frame) : Nat :=
  let ip : Bool := f.ether = 0x0800
  if unsupported f then 7
  else if ip ∧ f.proto = 17 ∧ (f.udp = 319 ∨ f.udp = 320) ∧ (ptpPort s f.port).cfg.role ≠ 0 ∧ frameIface s f = some (ptpPort s f.port).cfg.iface then 0
  else if f.ether = 0x0806 then 1
  else if ip ∧ f.proto = 1 ∧ f.icmp = 8 ∧ toInterface s f then 2
  else if ip ∧ f.proto = 2 then 3
  else if ip ∧ f.proto = 17 ∧ (frameStream s f).isSome then 4
  else if forScribe s f then 6
  else if ip ∧ f.proto = 17 ∧ ((joined s f.port).contains f.dst ∨ toInterface s f) then 5
  else 7

/-- A wake packet (R153). -/
def wakePacket (s : State) (f : Frame) : Bool :=
  let mac := macOf s f.port
  f.port = s.power.stbyPort && (f.mac = mac || f.mac = 2 ^ 48 - 1) && (f.tags.isEmpty || (f.tags.length = 1 && (frameIface s f).isSome)) &&
    ((f.ether = 0x0800 && f.proto = 17 && f.udp = 9 && !f.frag) || f.ether = 0x0842) &&
    f.data.take 102 = List.replicate 6 0xFF ++ (List.replicate 16 (be 6 mac)).flatten

/-- The counts of the present second begin anew with the second. -/
def newSecond (s : State) (p : NetPort) : NetPort :=
  if p.sec = s.stem.ms / 1000 then p else { p with sec := s.stem.ms / 1000, scribe := 0, arps := 0, echoes := 0 }

/-- A media frame: with SSM set, a source outside the list is dropped (R415). -/
def mediaFrame (f : Frame) (s : State) : State :=
  match frameStream s f with
  | none => s
  | some (n, e) =>
    if ssmOf e ∧ ¬ ((List.range 4).map (fun i => u32 e (24 + 4 * i))).any (fun a => a = f.src ∧ a ≠ 0) then
      dropFrame f.port 4 id (modRx n (fun q => { q with count := { q.count with sourceDrop := q.count.sourceDrop + 1 } }) s)
    else s

/-- An ARP message: a question for an interface's address is answered, at most 1,000 per second, and an answer is learnt (R411, R415). -/
def arpFrame (f : Frame) (s : State) : State :=
  let n := f.port
  if f.icmp = 2 then resolveStreams n f.src (learnArp n f.src f.smac s)
  else if ¬ toInterface s f then s
  else if 1000 ≤ (netPort s n).arps then dropFrame n 1 (fun q => { q with answerDrop := q.answerDrop + 1 }) s
  else sendNet n ((frameIface s f).getD 0) 2 false (.arpReply f.src) (modNet n (fun q => { q with arps := q.arps + 1 }) s)

/-- An IGMP message: a query is answered with a report. A query of 8 bytes is an IGMPv2 querier's, after which the port keeps to version 2
(R411, R415, log 114). -/
def igmpFrame (f : Frame) (s : State) : State :=
  if f.icmp ≠ 0x11 then s
  else
    let t := if f.data.length = 8 then modNet f.port (fun q => { q with igmpV2 := true }) s else s
    sendNet f.port ((frameIface s f).getD 0) 2 true (.igmpReport (netPort t f.port).igmpV2 (groupsOf t f.port)) t

/-- What its class does with a frame. -/
def admitFrame (f : Frame) (s : State) : State :=
  let n := f.port
  let p := netPort s n
  match frameClass s f with
  | 0 => s
  | 1 => arpFrame f s
  | 2 =>
    if 1000 ≤ p.echoes then dropFrame n 2 (fun q => { q with answerDrop := q.answerDrop + 1 }) s
    else sendNet n ((frameIface s f).getD 0) 2 true (.echoReply f.src) (modNet n (fun q => { q with echoes := q.echoes + 1 }) s)
  | 3 => igmpFrame f s
  | 4 => mediaFrame f s
  | 5 => dropFrame n 5 (fun q => { q with unconf := q.unconf + 1 }) s
  | 6 =>
    if 20000 ≤ p.scribe then dropFrame n 6 (fun q => { q with scribeDrop := q.scribeDrop + 1 }) s
    else modNet n (fun q => { q with scribe := q.scribe + 1 }) s
  | _ => dropFrame n 7 (fun q => { q with otherDrop := q.otherDrop + 1 }) s

/-- FRAME_RX. -/
def frameRxNet (f : Frame) (s : State) : State :=
  if netPorts s.variant ≤ f.port ∨ ¬ (netPort s f.port).link then s
  else if ¬ f.fcs then modNet f.port (fun q => { q with fcsErr := q.fcsErr + 1 }) s
  else
    let s1 := modNet f.port (fun q => { newSecond s q with rxFrames := q.rxFrames + 1 }) s
    if f.ether = 0x8808 then modNet f.port (fun q => { q with pause := q.pause + 1 }) s1
    else if wakePacket s f then latchCause 2 s1
    else admitFrame f s1

/-! ### NET.PORT_CONFIG and its status (R410, R413, R447) -/

/-- Interface record `i` of the payload. -/
def ifaceAt (p : Bytes) (i : Nat) : Iface :=
  let o := 8 + 16 * i
  { vid := u16 p o, pcp := u8 p (o + 2), mode := u8 p (o + 3), addr := u32 p (o + 4), plen := u8 p (o + 8), gateway := u32 p (o + 12) }

/-- An interface record is within range. -/
def ifaceOk (f : Iface) : Bool := f.vid ≤ 4094 && f.pcp ≤ 7 && f.mode ≤ 2 && 8 ≤ f.plen && f.plen ≤ 30

/-- The static addresses of the other ports. -/
def otherAddrs (s : State) (n : Nat) : List Nat :=
  s.quill.ports.flatMap (fun e => if e.1 = n then [] else (e.2.cfg.ifaces.filter (fun f => f.mode = 0)).map (·.addr))

/-- The interfaces of a payload are within range and break nothing of R413. -/
def ifacesOk (s : State) (p : Bytes) : Bool :=
  let l := (List.range (u8 p 4)).map (ifaceAt p)
  let a := (l.filter (fun f => f.mode = 0)).map (·.addr) ++ otherAddrs s (u8 p 0)
  l.all ifaceOk && (l.map (·.vid)).dedup.length = l.length && (a.filter (· ≠ 0)).dedup.length = (a.filter (· ≠ 0)).length &&
    (slice p (8 + 16 * u8 p 4) 128).all (· = 0)

/-- A port number that exists on some variant names an absent port here. -/
def netAbsent (s : State) (n : Nat) : Bool := n < 4 && netPorts s.variant ≤ n

/-- NET.PORT_CONFIG. -/
def cmdNetPortConfig : Cmd where
  lens := inlineOnly 136
  absent := fun x s => netAbsent s (u8 x.p 0)
  range := fun x s =>
    let p := x.p
    u8 p 0 ≤ 3 && u8 p 1 ≤ 1 && u8 p 2 ≤ 2 && (u8 p 1 = 1 || u8 p 2 = 0) && u8 p 3 ≤ 1 && 1 ≤ u8 p 4 && u8 p 4 ≤ 8 && ifacesOk s p
  body := fun x s =>
    let n := u8 x.p 0
    let clamp : Bool := u8 x.p 1 = 1 && !has25G s.variant
    if clamp ∧ ¬ x.fit then fail .capacity s
    else
      let c : PortCfg := { speed := if clamp then 0 else u8 x.p 1, fec := if clamp then 0 else u8 x.p 2, ifaces := (List.range (u8 x.p 4)).map (ifaceAt x.p) }
      let s1 := modNet n (fun q => { q with cfg := c, nvs := if u8 x.p 3 = 1 then c else q.nvs }) s
      { st := s1, after := linkDown n, warns := if clamp then [{ code := 1, group := 4, item := n, requested := 1, applied := 0 }] else [] }

/-- The status record of a port, 96 bytes. -/
def netPortRecord (s : State) (n : Nat) : Bytes :=
  let p := netPort s n
  if netPorts s.variant ≤ n then zeros 96
  else
    le 1 n ++ le 1 (b2n p.link) ++ le 1 p.cfg.speed ++ le 1 p.cfg.fec ++ be 6 (macOf s n) ++ zeros 2 ++
      (List.range 8).flatMap (fun i => le 4 (addrOf s n i)) ++ le 4 p.linkDowns ++ le 4 p.fcsErr ++ le 4 p.pause ++ le 4 p.unconf ++
      le 4 p.unaligned ++ le 4 p.scribeDrop ++ le 4 p.otherDrop ++ le 4 p.answerDrop ++ le 4 s.ink.tlsRefused ++ le 8 p.rxFrames ++ le 8 p.txFrames

/-- NET.PORT_STATUS_GET. -/
def cmdNetPortStatusGet : Cmd where
  lens := inlineOnly 0
  body := fun _ s => { st := s, sheet := some ((List.range 4).flatMap (netPortRecord s)) }

/-! ### NET.PTP_CONFIG and its status -/

/-- The ranges of logSyncInterval and logAnnounceInterval of a profile (R416). -/
def ptpRanges (prof : Nat) : (Int × Int) × (Int × Int) :=
  if prof = 1 then ((-7, -1), (-3, 1)) else if prof = 2 then ((-4, 1), (0, 4)) else ((-1, 1), (0, 4))

/-- The settings of a payload. -/
def ptpCfgOf (p : Bytes) : PtpCfg :=
  { role := u8 p 1, profile := u8 p 2, domain := u8 p 3, iface := u8 p 4, oneStep := bit (u8 p 5) 0, logSync := i8 p 6,
    logAnnounce := i8 p 7, logDelay := i8 p 8, announceTo := u8 p 9, prio1 := u8 p 10, prio2 := u8 p 11, classLocked := u8 p 12,
    asymmetry := i32 p 16 }

/-- NET.PTP_CONFIG. -/
def cmdNetPtpConfig : Cmd where
  lens := inlineOnly 24
  absent := fun x s => netAbsent s (u8 x.p 0)
  range := fun x _ =>
    let c := ptpCfgOf x.p
    let r := ptpRanges c.profile
    u8 x.p 0 ≤ 3 && c.role ≤ 3 && c.profile ≤ 2 && c.domain ≤ 127 && c.iface ≤ 7 && decide (r.1.1 ≤ c.logSync) && decide (c.logSync ≤ r.1.2) &&
      decide (r.2.1 ≤ c.logAnnounce) && decide (c.logAnnounce ≤ r.2.2) && decide (-7 ≤ c.logDelay) && decide (c.logDelay ≤ 5) &&
      2 ≤ c.announceTo && c.announceTo ≤ 10 && u8 x.p 20 ≤ 1
  body := fun x s =>
    let n := u8 x.p 0
    let c := ptpCfgOf x.p
    let s1 := modPtp n (fun q => { q with cfg := c, nvs := if u8 x.p 20 = 1 then c else q.nvs }) s
    { st := s1, after := fun t => leaveFollower n (ptpIdle t n) 5 (modPtp n (fun q => { q with annMs := t.stem.ms }) t) }

/-- The status record of a port's PTP instance, 48 bytes: the grandmaster is the one that the port follows or announces. -/
def ptpRecord (s : State) (n : Nat) : Bytes :=
  let p := ptpPort s n
  let d := if p.state = 2 then p.foreign else if p.state = 3 then announced s n else { prio1 := 0, cls := 0, acc := 0, prio2 := 0 }
  if netPorts s.variant ≤ n then zeros 48
  else
    le 1 n ++ le 1 p.state ++ le 1 p.cfg.profile ++ le 1 p.cfg.domain ++ le 8 d.gmId ++ le 1 d.cls ++ zeros 1 ++ le 2 d.steps ++
      leI 4 p.offset ++ le 4 p.meanPath ++ le 4 p.syncRx ++ le 4 p.timeouts ++ le 8 p.since ++ zeros 8

/-- NET.PTP_STATUS_GET. -/
def cmdNetPtpStatusGet : Cmd where
  lens := inlineOnly 0
  body := fun _ s => { st := s, sheet := some ((List.range 4).flatMap (ptpRecord s)) }

/-! ### NET.QUILL_CONFIG and NET.NMOS_CONFIG -/

/-- NET.QUILL_CONFIG. -/
def cmdNetQuillConfig : Cmd where
  lens := inlineOnly 8
  range := fun x _ => u8 x.p 0 ≤ 1 && u8 x.p 1 ≤ 63 && u8 x.p 2 ≤ 63 && u8 x.p 3 ≤ 63 && 250 ≤ u16 x.p 4 && u16 x.p 4 ≤ 20000 && u8 x.p 6 ≤ 1
  body := fun x s =>
    let c : QuillCfg := { txUnlocked := u8 x.p 0 = 1, dscpPtp := u8 x.p 1, dscpMedia := u8 x.p 2, dscpCtrl := u8 x.p 3, defOfs := u16 x.p 4 }
    { st := modQuill (fun q => { q with cfg := c, nvs := if u8 x.p 6 = 1 then c else q.nvs }) s, after := settleStreams }

/-- NET.NMOS_CONFIG. -/
def cmdNetNmosConfig : Cmd where
  lens := inlineOnly 40
  range := fun x _ => u8 x.p 0 ≤ 1 && u8 x.p 1 ≤ 1 && u8 x.p 4 ≤ 1
  body := fun x s =>
    let c : NmosCfg := { en := u8 x.p 0 = 1, write := u8 x.p 1 = 1, port := u16 x.p 2, domain := slice x.p 8 32 }
    { st := modQuill (fun q => { q with nmos := c, nmosNvs := if u8 x.p 4 = 1 then c else q.nmosNvs }) s }

/-! ### NET.RX_SET and NET.TX_SET (R419, R422, R428, R437, R443, R444, R448) -/

/-- The lead of a stream change: round(20 × Fs_op ÷ 1,000) samples (R444). -/
def streamLead (s : State) : Nat := roundDivN (20 * fsOp s) 1000

/-- The apply SSI before any rounding to packets (R444). -/
def streamAt (x : Ctx) (s : State) : Nat := if x.timed then x.at_ else up8 (s.stem.ssi + streamLead s)

/-- A stream number that R229 answers with CAPACITY. -/
def streamBeyond (s : State) (n : Nat) : Bool := streamsOf s.variant ≤ n && n < 4096

/-- Ports, formats and interfaces of an entry that both directions share (R419, R430). -/
def formatOk (mult : Nat) (e : Bytes) : Bool :=
  portOf e ≤ 3 && u8 e 4 ≤ 7 && u8 e 5 ≤ 7 && u8 e 6 ≤ 1 && u8 e 7 ≤ 3 && 1 ≤ chansOf e && chansOf e ≤ 64 && 96 ≤ u8 e 9 && u8 e 9 ≤ 127 &&
    payloadOf mult e ≤ 1440 && (!sevenOf e || portOf e = 0 || portOf e = 2)

/-- A receive entry is within range. -/
def rxOk (s : State) (e : Bytes) : Bool :=
  let m := s.stem.mult
  formatOk m e && 12 * m ≤ linkOfs e && linkOfs e ≤ 960 * m && sppAt m e + 6 * m ≤ linkOfs e && u16 e 46 ≤ 960 * m &&
    (rxSources e).all (fun n => srcPool s.variant ≤ n && n < ligSize s.variant)

/-- A transmit entry is within range. -/
def txOk (s : State) (e : Bytes) : Bool :=
  formatOk s.stem.mult e && 1 ≤ u8 e 10 && (u8 e 11 ≤ 63 || u8 e 11 = 0xFF) &&
    (txSinks e).all (fun n => snkPool s.variant ≤ n && n < ligSize s.variant)

/-- An entry names an absent port, or a claim on a variant without Twin (R448). -/
def entryAbsent (s : State) (e : Bytes) : Bool :=
  netAbsent s (portOf e) || (sevenOf e && netAbsent s (portOf e + 1)) || (claimOf e && !hasTwin s.variant)

/-- The entries that govern the streams once every pending change has applied, without stream `n`. -/
def otherEntries (op n : Nat) (s : State) : List Bytes :=
  let now := if op = 0x0410 then s.quill.rx.map (fun e => (e.1, e.2.entry)) else s.quill.tx.map (fun e => (e.1, e.2.entry))
  let pend := ((s.ink.armed ++ s.ink.sched).filter (fun a => a.opcode = op)).map (fun a => (u16 a.params 0, a.params))
  ((now.filter (fun e => e.1 ≠ n ∧ pend.all (fun v => v.1 ≠ e.1))) ++ pend.filter (fun e => e.1 ≠ n)).map (·.2) |>.filter enOf

/-- The bytes of the rings of an entry (R428). -/
def ringBytes (mult : Nat) (e : Bytes) : Nat := if enOf e then (rxSources e).length * ringOf mult e * 4 else 0

/-- The receive buffer in bytes (R428). -/
def rxBuffer (v : Variant) : Nat := (match v with | .zl9600 => 8 | .zl9400 => 4 | .zl9200 => 2) * 1048576

/-- The receive buffer in use with entry `e`, and without stream `n`. -/
def rxUsed (s : State) (n : Nat) (e : Bytes) : Nat := ringBytes s.stem.mult e + sumN ((otherEntries 0x0410 n s).map (ringBytes s.stem.mult))

/-- The enabled channels with entry `e`, and without stream `n`. -/
def chansUsed (op : Nat) (s : State) (n : Nat) (e : Bytes) : Nat := (if enOf e then chansOf e else 0) + sumN ((otherEntries op n s).map chansOf)

/-- Bytes of a packet on the wire on a leg (R437). -/
def wireBytes (s : State) (e : Bytes) (leg : Nat) : Nat :=
  payloadOf s.stem.mult e + 78 + (if (ifaceOf s (portOf e + leg) (u8 e (4 + leg))).vid ≠ 0 then 4 else 0)

/-- Bits per 48 s that a leg of an entry sends: packets per second are Fs_base ÷ (6, 12, 16 or 48). -/
def wireRate (s : State) (e : Bytes) (leg : Nat) : Nat := wireBytes s e leg * 8 * (fsBase s * 48 / ptimeOf (u8 e 7))

/-- Bits per 48 s that the enabled transmit streams send on port `p`, with entry `e` and without stream `n`. -/
def portLoad (s : State) (n : Nat) (e : Bytes) (p : Nat) : Nat :=
  sumN (((if enOf e then [e] else []) ++ otherEntries 0x0412 n s).map (fun k =>
    sumN ((legPorts k).zipIdx.map (fun v => if v.1 = p then wireRate s k v.2 else 0))))

/-- A port's line rate in bits per 48 s. -/
def lineRate (s : State) (p : Nat) : Nat := (if (netPort s p).cfg.speed = 1 then 25 else 10) * 1000000000 * 48

/-- A pool source is held by another stream's entry, now or pending, or by an ALIGN.DELAY (R422). -/
def sourceTaken (s : State) (n k : Nat) : Bool :=
  let o := tabGet 0 s.lig.srcOwner k
  (o ≠ 0 && o < 0x1000000) || (otherEntries 0x0410 n s).any (fun e => (rxSources e).contains k) ||
    s.quill.rx.any (fun e => e.1 ≠ n && enOf e.2.entry && (rxSources e.2.entry).contains k)

/-- NET.RX_SET after the common checks, in the order of R448. -/
def rxSetBody (x : Ctx) (s : State) : Res :=
  let e := x.p
  let n := u16 e 0
  if streamBeyond s n then fail .capacity s
  else if (pendingEntry 0x0410 n s).isSome ∨ (enOf e ∧ (rxSources e).any (sourceTaken s n)) then fail .busy s
  else if netChannels s.variant < chansUsed 0x0410 s n e ∨ rxBuffer s.variant < rxUsed s n e then fail .capacity s
  else
    let at_ := streamAt x s
    { st := reportGroups s (modRx n (fun q => { q with next := {} })
        (schedule x { client := x.client, seq := x.seq, opcode := 0x0410, applySsi := at_, params := e } s)),
      data := le 8 at_ ++ le 2 (if enOf e then ringOf s.stem.mult e else 0) ++ zeros 2 ++ le 4 ((rxUsed s n e + 1023) / 1024) }

/-- NET.RX_SET. An entry that disables its stream is judged in full as well (R734; log 56). -/
def cmdNetRxSet : Cmd where
  lens := inlineOnly 64
  absent := fun x s => entryAbsent s x.p
  range := fun x s => u16 x.p 0 < 4096 && (streamBeyond s (u16 x.p 0) || rxOk s x.p)
  lead := streamLead
  body := rxSetBody
  arm := some rxSetBody

/-- The entry with the SSRC that Scribe chooses when it is zero. -/
def withSsrc (e : Bytes) (s : State) : Bytes × State :=
  if u32 e 28 ≠ 0 ∨ ¬ enOf e then (e, s)
  else
    let v := draw Config.ssrc s
    (e.take 28 ++ le 4 v.1 ++ e.drop 32, v.2)

/-- NET.TX_SET after the common checks, in the order of R448. -/
def txSetBody (x : Ctx) (s : State) : Res :=
  let n := u16 x.p 0
  if streamBeyond s n then fail .capacity s
  else if (pendingEntry 0x0412 n s).isSome then fail .busy s
  else if netChannels s.variant < chansUsed 0x0412 s n x.p ∨
      (enOf x.p ∧ (legPorts x.p).any (fun p => decide (9 * lineRate s p < 10 * portLoad s n x.p p))) then fail .capacity s
  else
    let v := withSsrc x.p s
    let e := v.1
    let spp := sppAt s.stem.mult e
    let at_ := (streamAt x s + spp - 1) / spp * spp
    { st := schedule x { client := x.client, seq := x.seq, opcode := 0x0412, applySsi := at_, params := e } v.2,
      data := le 8 at_ ++ le 4 (u32 e 28) ++ le 4 (if enOf e then roundDivN (wireRate s e 0) 48000 else 0) ++
        le 2 (roundDivN (10000 * portLoad s n e (portOf e)) (lineRate s (portOf e))) }

/-- NET.TX_SET. -/
def cmdNetTxSet : Cmd where
  lens := inlineOnly 64
  absent := fun x s => entryAbsent s x.p
  range := fun x s => u16 x.p 0 < 4096 && (streamBeyond s (u16 x.p 0) || txOk s x.p)
  lead := streamLead
  body := txSetBody
  arm := some txSetBody

/-- A waiting stream change falls due; the groups that no entry names any longer are left (R443). -/
def executeStream (a : Armed) (s : State) : State :=
  if a.opcode = 0x0410 then
    let old := { s with ink := { s.ink with armed := a :: s.ink.armed } }
    reportGroups old (takeRxEntry (u16 a.params 0) a.params s)
  else settleTx (u16 a.params 0) (takeTxEntry (u16 a.params 0) a.params s)

/-- A read of one stream: a number beyond the variant's count is CAPACITY, or omitted with FIT (R229). -/
def streamRead (x : Ctx) (n : Nat) (r : Res) (s : State) : Res :=
  if ¬ streamBeyond s n then r
  else if x.fit then { st := s, warns := [{ code := 2, group := 4, item := n, requested := n }] } else fail .capacity s

/-- NET.RX_GET. -/
def cmdNetRxGet : Cmd where
  lens := inlineOnly 4
  range := fun x _ => u16 x.p 0 < 4096
  body := fun x s => streamRead x (u16 x.p 0) (answer (padTo 64 (rxStream s (u16 x.p 0)).entry) s) s

/-- NET.TX_GET. -/
def cmdNetTxGet : Cmd where
  lens := inlineOnly 4
  range := fun x _ => u16 x.p 0 < 4096
  body := fun x s => streamRead x (u16 x.p 0) (answer (padTo 64 (txStream s (u16 x.p 0)).entry) s) s

/-- The receive status record of stream `n`, 64 bytes. -/
def rxRecord (s : State) (n : Nat) : Bytes :=
  let r := rxStream s n
  let c := r.count
  le 2 n ++ le 1 (rxState s r) ++ le 1 r.buf.leg1 ++ le 1 r.buf.leg2 ++ le 1 r.buf.claim ++ le 2 (min 65535 c.skewMax) ++ le 4 c.packets ++
    le 4 c.dup ++ le 4 c.late ++ le 4 c.early ++ le 4 c.lost ++ le 4 c.format ++ le 4 c.mismatch ++ le 4 c.claimDrop ++ le 4 c.sourceDrop ++
    le 4 c.repeated ++ le 8 c.lastSsi ++ zeros 8

/-- The transmit status record of stream `n`, 40 bytes. -/
def txRecord (s : State) (n : Nat) : Bytes :=
  let t := txStream s n
  le 2 n ++ le 1 (txState s n t) ++ zeros 1 ++ le 4 (u32 t.entry 28) ++ le 8 t.packets ++ le 4 t.txRep ++ le 4 t.txAbs ++ le 4 t.clips ++
    le 4 t.gated ++ le 2 t.lastSeq ++ zeros 6

/-- The streams that a list shows: `k` from START, as many as exist. -/
def streamRun (s : State) (start k : Nat) : List Nat := (List.range (min k (streamsOf s.variant - start))).map (· + start)

/-- NET.STATUS_GET. -/
def cmdNetStatusGet : Cmd where
  lens := inlineOnly 4
  range := fun x _ => u8 x.p 0 ≤ 2 && u16 x.p 2 < 4096
  body := fun x s =>
    let n := u16 x.p 2
    streamRead x n
      (if u8 x.p 0 = 0 then { st := s, sheet := sheetOf ((streamRun s n 64).flatMap (rxRecord s)) }
       else if u8 x.p 0 = 1 then { st := s, sheet := sheetOf ((streamRun s n 100).flatMap (txRecord s)) }
       else { st := s, sheet := some ((List.range 64).flatMap (fun i => le 4 (tabGet 0 (txStream s n).chClips i))) }) s

/-! ### Register windows and NMOS (R446, R450) -/

/-- QL_APPLY: the window is taken as an untimed set; a refused one is discarded and sets CFG_REJ (R450). -/
def qlApply (w : Nat) (s : State) : State :=
  let n := fld w 0 13
  let tx := bit w 16
  if ¬ bit w 31 ∨ streamsOf s.variant ≤ n then s
  else
    let e := if tx then ((txStream s n).window.getD (txStream s n).entry) else ((rxStream s n).window.getD (rxStream s n).entry)
    let clear := fun (t : State) => if tx then modTx n (fun q => { q with window := none }) t else modRx n (fun q => { q with window := none }) t
    let x : Ctx := { client := 0xFC, seq := 0, role := 3, p := le 2 n ++ (padTo 64 e).drop 2 }
    match issueInternal (if tx then 0x0412 else 0x0410) (if tx then cmdNetTxSet else cmdNetRxSet) x s with
    | (st, t) => if succeeded st then clear t else qlEvent 0 (clear s)

/-- PTIME of a code in µs at the engine's rate, rounded down as R419 prints it. -/
def ptimeUs (s : State) (code : Nat) : Nat := ptimeOf code * 1000000 / fsBase s

/-- The reference that a transmit stream's SDP names: the followed grandmaster, or the engine's own MAC where it follows none (R421,
log 111). -/
def sdpRefClk (s : State) (port : Nat) : RefClk :=
  if s.bl.sel < 4 ∧ (ptpPort s s.bl.sel).state = 2 then .ptp (ptpPort s s.bl.sel).foreign.gmId (ptpPort s s.bl.sel).cfg.domain
  else .localMac (macOf s port)

/-- The m-line of a leg of a transmit entry. -/
def sdpLeg (s : State) (e : Bytes) (port dst udp : Nat) : SdpLeg :=
  { dst := dst, udp := udp, pt := u8 e 9, enc := u8 e 6, rate := fsOp s, channels := chansOf e, ptime := ptimeUs s (u8 e 7),
    refClk := sdpRefClk s port, mediaClk := some 0 }

/-- The SDP of a transmit stream (R421). -/
def txSdp (s : State) (n : Nat) : Sdp :=
  let e := (txStream s n).entry
  let a := sdpLeg s e (portOf e) (u32 e 12) (u16 e 20)
  if sevenOf e then { legs := [a, sdpLeg s e (portOf e + 1) (u32 e 16) (u16 e 22)], dup := true } else { legs := [a], dup := false }

/-- The SDP describes a stream of the engine's rate (R50). -/
def sdpRateOk (s : State) (d : Sdp) : Bool := d.legs.all (fun l => l.rate = fsOp s)

/-- A receive entry with what an SDP says: the format and the legs' groups, and RTP_OFS from mediaclk:direct=N (R421, log 111). -/
def withSdp (s : State) (d : Sdp) (e : Bytes) : Bytes :=
  match d.legs with
  | [] => e
  | a :: rest =>
    let b := (rest.head?).getD a
    let code := ((List.range 4).find? (fun c => ptimeUs s c = a.ptime)).getD (u8 e 7)
    let flags := u8 e 2 / 4 * 4 + u8 e 2 % 2 + 2 * b2n (d.dup && !rest.isEmpty)
    slice e 0 2 ++ le 1 flags ++ slice e 3 3 ++ le 1 a.enc ++ le 1 code ++ le 1 a.channels ++ le 1 a.pt ++ slice e 10 2 ++ le 4 a.dst ++
      le 4 (if rest.isEmpty then u32 e 16 else b.dst) ++ le 2 a.udp ++ le 2 (if rest.isEmpty then u16 e 22 else b.udp) ++ slice e 24 16 ++
      le 4 (a.mediaClk.getD (u32 e 40)) ++ e.drop 44

/-- The apply SSI of an IS-05 activation of mode 0 immediate, 1 absolute, 2 relative, its time in ns (R446). -/
def is05Ssi (mode ns : Nat) (s : State) : Nat :=
  let k := (ns * fsOp s + 999999999) / 1000000000
  if mode = 1 then k else s.stem.ssi + k

/-- The HTTP status of an activation's outcome (R446). -/
def httpOf (st : Status) : Nat := if succeeded st then 200 else if st = .busy ∨ st = .twinFollower then 409 else 400

/-- The entry that an activation sets: a receiver that NMOS creates takes DEF_LINK_OFS, raised to the minimum of R419 (log 83). -/
def nmosEntry (tx : Bool) (entry : Bytes) (s : State) : Bytes :=
  let e := padTo 64 entry
  let m := s.stem.mult
  if tx ∨ ¬ enOf e ∨ enOf (rxStream s (u16 e 0)).entry then e
  else e.take 10 ++ le 2 (max (roundDivN (s.quill.cfg.defOfs * fsOp s) 1000000) (max (12 * m) (sppAt m e + 6 * m))) ++ e.drop 12

/-- IS05_ACTIVATION: NET.RX_SET or NET.TX_SET from internal client 0xFD, which holds ENGINEER; a receiver's SDP of another rate is refused
as BAD_PARAM is (R50, R421, R446, R717). -/
def is05 (tx : Bool) (entry : Bytes) (sdp : Option Sdp) (mode ns : Nat) (s : State) : State :=
  let given := match sdp with | some d => if tx then padTo 64 entry else withSdp s d (padTo 64 entry) | none => padTo 64 entry
  if ¬ s.quill.nmos.en ∨ ¬ s.boot.netUp ∨ s.boot.stage ≠ .ready then s
  else if ¬ s.quill.nmos.write then modQuill (fun q => { q with http := 403 }) s
  else if ¬ tx ∧ (sdp.any (fun d => !sdpRateOk s d)) then modQuill (fun q => { q with http := 400, debug := some .badParam }) s
  else
    let x : Ctx := { client := 0xFD, seq := s.ink.order % 65536, role := 3, p := nmosEntry tx given s, timed := mode ≠ 0,
                     at_ := if mode = 0 then 0 else is05Ssi mode ns s }
    match issueInternal (if tx then 0x0412 else 0x0410) (if tx then cmdNetTxSet else cmdNetRxSet) x s with
    | (st, t) => modQuill (fun q => { q with http := httpOf st, debug := some st }) t

/-- ARP_RETRY: the destination's MAC is asked for again, and resolved when an answer came (R436). -/
def arpRetry (n : Nat) (answer : Option Nat) (s : State) : State :=
  let t := txStream s n
  let e := t.entry
  let p := portOf e
  let hop := nextHop s p (u8 e 4) (u32 e 12)
  if ¬ enOf e ∨ ¬ txUnicast e ∨ t.arp ∨ ¬ (netPort s p).link then s
  else
    let u := sendNet p (u8 e 4) 2 false (.arpRequest hop) s
    match answer with
    | some mac => settleTx n (modTx n (fun q => { q with arp := true }) (learnArp p hop mac u))
    | none => settleTx n u

/-- The resources that the engine registers: a node, a device, a source, a flow and a sender per enabled transmit stream, and a receiver per
enabled receive stream (R445). -/
def nmosResources (s : State) : List (Nat × Nat) :=
  [(0, 0), (1, 0)] ++ (s.quill.tx.filter (fun e => enOf e.2.entry)).flatMap (fun e => [(2, e.1), (3, e.1), (4, e.1)]) ++
    (s.quill.rx.filter (fun e => enOf e.2.entry)).map (fun e => (5, e.1))

/-! ### What waits for its 100 ms (R449) -/

/-- The waiting RX_STATE and LEG_STATE events of stream `n`. -/
def flushRx (n : Nat) (s : State) : State :=
  let r := rxStream s n
  let s1 := match r.note.old with
    | some old => if noticeOpen r.note s then raise 0x0402 (le 2 n ++ le 1 old ++ le 1 r.state) (modRx n (fun q => { q with note := { ms := some s.stem.ms } }) s) else s
    | none => s
  match r.legPend with
  | (leg, old) :: rest =>
    if noticeOpen { ms := r.legMs } s1 then
      raise 0x0403 (le 2 n ++ le 1 leg ++ le 1 old ++ le 1 (legOf r.buf leg)) (modRx n (fun q => { q with legMs := some s.stem.ms, legPend := rest }) s1)
    else s1
  | [] => s1

/-- The waiting TX_STATE event of stream `n`. -/
def flushTx (n : Nat) (s : State) : State :=
  let t := txStream s n
  match t.note.old with
  | some old => if noticeOpen t.note s then raise 0x0404 (le 2 n ++ le 1 old ++ le 1 t.state) (modTx n (fun q => { q with note := { ms := some s.stem.ms } }) s) else s
  | none => s

/-- The waiting events of port `n`. -/
def flushPort (n : Nat) (s : State) : State :=
  let p := netPort s n
  let q := ptpPort s n
  let s1 := match p.note.old with
    | some _ => if noticeOpen p.note s then raise 0x0401 (le 1 n ++ le 1 (b2n p.link) ++ le 1 p.cfg.speed) (modNet n (fun k => { k with note := { ms := some s.stem.ms } }) s) else s
    | none => s
  let s2 := match q.note.old with
    | some old => if noticeOpen q.note s then
        raise 0x0405 (le 1 n ++ le 1 old ++ le 1 q.state ++ zeros 5 ++ le 8 q.foreign.gmId) (modPtp n (fun k => { k with note := { ms := some s.stem.ms } }) s1) else s1
    | none => s1
  announceDrops n s2

/-- Every waiting event of Quill, at an AON tick. -/
def flushQuill (s : State) : State :=
  let s1 := s.quill.rx.foldl (fun t e => flushRx e.1 t) s
  let s2 := s1.quill.tx.foldl (fun t e => flushTx e.1 t) s1
  (List.range (netPorts s.variant)).foldl (fun t n => flushPort n t) s2

/-! ### The meanings -/

/-- NET_PORT_CONFIG (R447). -/
def execNetPortConfig (r : Request) (s : State) : Host.Outcome State Fault Refusal := serve 0x0401 cmdNetPortConfig r s
/-- NET_PORT_STATUS_GET. -/
def execNetPortStatusGet (r : Request) (s : State) : Host.Outcome State Fault Refusal := serve 0x0402 cmdNetPortStatusGet r s
/-- NET_PTP_CONFIG. -/
def execNetPtpConfig (r : Request) (s : State) : Host.Outcome State Fault Refusal := serve 0x0403 cmdNetPtpConfig r s
/-- NET_PTP_STATUS_GET. -/
def execNetPtpStatusGet (r : Request) (s : State) : Host.Outcome State Fault Refusal := serve 0x0404 cmdNetPtpStatusGet r s
/-- NET_QUILL_CONFIG. -/
def execNetQuillConfig (r : Request) (s : State) : Host.Outcome State Fault Refusal := serve 0x0405 cmdNetQuillConfig r s
/-- NET_RX_SET (R448). -/
def execNetRxSet (r : Request) (s : State) : Host.Outcome State Fault Refusal := serve 0x0410 cmdNetRxSet r s
/-- NET_RX_GET. -/
def execNetRxGet (r : Request) (s : State) : Host.Outcome State Fault Refusal := serve 0x0411 cmdNetRxGet r s
/-- NET_TX_SET (R448). -/
def execNetTxSet (r : Request) (s : State) : Host.Outcome State Fault Refusal := serve 0x0412 cmdNetTxSet r s
/-- NET_TX_GET. -/
def execNetTxGet (r : Request) (s : State) : Host.Outcome State Fault Refusal := serve 0x0413 cmdNetTxGet r s
/-- NET_STATUS_GET. -/
def execNetStatusGet (r : Request) (s : State) : Host.Outcome State Fault Refusal := serve 0x0414 cmdNetStatusGet r s
/-- NET_NMOS_CONFIG. -/
def execNetNmosConfig (r : Request) (s : State) : Host.Outcome State Fault Refusal := serve 0x0420 cmdNetNmosConfig r s
/-- QL_APPLY (R450). -/
def execQlApply (w : Word) (s : State) : Host.Outcome State Fault Refusal := .next (if expertMode s then qlApply w.toNat s else s)
/-- FRAME_RX (R415). -/
def execFrameRx (f : Frame) (s : State) : Host.Outcome State Fault Refusal := .next (frameRxNet f s)
/-- PTP_MESSAGE_RX (R416, R417). -/
def execPtpMessageRx (m : PtpMsg) (s : State) : Host.Outcome State Fault Refusal := .next (ptpMessage m s)
/-- PTP_SYNC_TX (R418). -/
def execPtpSyncTx (n : Nat) (s : State) : Host.Outcome State Fault Refusal := .next (ptpSyncTx n s)
/-- MEDIA_PACKET_RX (R423). -/
def execMediaPacketRx (p : MediaPacket) (s : State) : Host.Outcome State Fault Refusal := .next (mediaPacket p s)
/-- LEG_DOWN (R431). -/
def execLegDown (n leg : Nat) (s : State) : Host.Outcome State Fault Refusal := .next (legTimeout n leg s)
/-- NET_LINK. -/
def execNetLink (n : Nat) (up : Bool) (s : State) : Host.Outcome State Fault Refusal := .next (netLink n up s)
/-- OFFSET_ERROR (R429). -/
def execOffsetError (n : Nat) (s : State) : Host.Outcome State Fault Refusal := .next (offsetError n s)
/-- TX_PACKET_SEND (R435). -/
def execTxPacketSend (n : Nat) (s : State) : Host.Outcome State Fault Refusal := .next (txPacket n s)
/-- ARP_RETRY (R436). -/
def execArpRetry (n : Nat) (answer : Option Nat) (s : State) : Host.Outcome State Fault Refusal := .next (arpRetry n answer s)
/-- IS05_ACTIVATION (R446). -/
def execIs05Activation (tx : Bool) (e : Is05Params) (mode ns : Nat) (s : State) : Host.Outcome State Fault Refusal :=
  .next (is05 tx e.entry e.sdp mode ns s)
/-- IS04_HEARTBEAT (R445). -/
def execIs04Heartbeat (s : State) : Host.Outcome State Fault Refusal :=
  .next (if s.quill.nmos.en ∧ s.boot.netUp then modQuill (fun q => { q with beats := q.beats + 1, published := nmosResources s }) s else s)
/-- REPEAT_LIMIT_EXPIRY (R427). -/
def execRepeatLimitExpiry (n : Nat) (s : State) : Host.Outcome State Fault Refusal := .next (repeatsExpire n s)
/-- ANNOUNCE_RECEIPT_TIMEOUT (R417). -/
def execAnnounceReceiptTimeout (n : Nat) (s : State) : Host.Outcome State Fault Refusal := .next (announceTimeout n s)

end Sys2Proof.Machine
end

