-- ==== Sys2Proof/Machine/Manuscript.lean ====
section
/-! DEFINITION. Manuscript: views, the relay tree, Flourishes, joining and leaving, and cross-engine buses (chapter 15,
opcodes 0x0C01 to 0x0C08). -/

namespace Sys2Proof.Machine

/-! ### The unit's own operations -/

/-- Change the manuscript unit. -/
def modMs (f : Ms → Ms) (s : State) : State := { s with ms := f s.ms }

/-- MS_STATE when the member state changes. -/
def msState (new : Nat) (s : State) : State :=
  let old := s.ms.state
  if old = new then s else raise 0x0C01 (le 1 old ++ le 1 new ++ zeros 2 ++ le 4 s.ms.view) (modMs (fun m => { m with state := new }) s)

/-- This engine's MEMBER_ID. -/
def msMe (s : State) : Nat := s.ms.cfg.memberId

/-- This engine is a READY member and acts as one: of a pair, the active unit (R452). -/
def msReady (s : State) : Bool := s.ms.state = 2 && actsForPair s

/-- The root of the present view, 0xFFFF without one. -/
def msRoot (s : State) : Nat := s.ms.members.headD 0xFFFF

/-- L in samples. -/
def msLink (s : State) : Nat := roundDivN (s.ms.cfg.linkOfs * fsOp s) 1000000
/-- LEAD in samples. -/
def msLead (s : State) : Nat := roundDivN (s.ms.cfg.lead * fsOp s) 1000
/-- D, the delay of an owner's own partials and of its folio's turn (R458, R467). -/
def msDelay (s : State) : Nat := msLink s + 8 * (2 + s.dx.sw)

/-! ### The relay tree (R454) -/

/-- The rank of a member in the present view. -/
def memberRank (s : State) (m : Nat) : Option Nat := if s.ms.members.contains m then some (s.ms.members.findIdx (· = m)) else none

/-- The parent of a member, none for the root. -/
def parentOf (s : State) (m : Nat) : Option Nat :=
  match memberRank s m with
  | some (i + 1) => s.ms.members[i / 32]?
  | _ => none

/-- The tree neighbours of this engine: its parent and its children. -/
def neighbours (s : State) : List Nat := s.ms.members.filter (fun m => parentOf s (msMe s) = some m || parentOf s m = some (msMe s))

/-- The ranks from a rank up to the root. -/
def ancestors (i : Nat) : List Nat := if i = 0 then [0] else if i ≤ 32 then [i, 0] else [i, (i - 1) / 32, 0]

/-- The hops between two ranks: the tree is two levels deep (R454). -/
def hopsBetween (i j : Nat) : Nat :=
  let a := ancestors i
  let b := ancestors j
  let common := (a.filter (fun x => b.contains x)).length
  a.length + b.length - 2 * common

/-- The 16-byte header of a peer message of view `view`. -/
def peerHeader (s : State) (view msg : Nat) : Bytes :=
  le 1 msg ++ zeros 1 ++ le 2 (msMe s) ++ le 2 s.ms.cfg.msId ++ zeros 2 ++ le 4 view ++ zeros 4

/-- Send a peer message of view `view`, in its frame of TYPE 4 (R197). -/
def msSendAs (view dest msg : Nat) (body : Bytes) (s : State) : State :=
  modMs (fun m => { m with sent := m.sent ++ [{ dest := dest, msg := msg, bytes := frame 4 (peerHeader s view msg ++ body) }] }) s

/-- Send a peer message of the present view. -/
def msSend (dest msg : Nat) (body : Bytes) (s : State) : State := msSendAs s.ms.view dest msg body s

/-- A message of view `view` is flooded to every neighbour but the one it came by. -/
def msFloodAs (view : Nat) (via : Option Nat) (msg : Nat) (body : Bytes) (s : State) : State :=
  ((neighbours s).filter (fun n => via ≠ some n)).foldl (fun t n => msSendAs view n msg body t) s

/-- A message of the present view is flooded. -/
def msFlood (via : Option Nat) (msg : Nat) (body : Bytes) (s : State) : State := msFloodAs s.ms.view via msg body s

/-- The messages of the command that begins. -/
def msBegin (s : State) : State := modMs (fun m => { m with sent := [] }) s

/-- A message from a peer marks it alive (R455). -/
def heardFrom (m : Nat) (s : State) : State :=
  modMs (fun q => { q with peers := q.peers.map (fun p => if p.member = m then { p with lastMs := s.stem.ms } else p) }) s

/-- A peer session with a member stands. -/
def hasPeer (s : State) (m : Nat) : Bool := s.ms.peers.any (fun p => p.member = m)

/-! ### Views (R454 to R456) -/

/-- The fields of VIEW. -/
def viewBody (l : List Nat) : Bytes := le 2 l.length ++ zeros 2 ++ l.flatMap (fun m => le 2 m ++ zeros 2)

/-- Insert a member in ascending order. -/
def insertMember (m : Nat) : List Nat → List Nat
  | [] => [m]
  | a :: l => if m < a then m :: a :: l else if m = a then a :: l else a :: insertMember m l

/-- A view is adopted, with MS_VIEW, and flooded on. -/
def adoptView (via : Option Nat) (view : Nat) (l : List Nat) (s : State) : State :=
  let s1 := modMs (fun m => { m with view := view, members := l }) s
  msFlood via 2 (viewBody l) (raise 0x0C02 (le 4 view ++ le 2 l.length ++ le 2 (l.headD 0xFFFF)) s1)

/-- The root issues the next view. -/
def issueView (l : List Nat) (s : State) : State := adoptView none (s.ms.view + 1) l s

/-! ### Joining (R453, R471, R472) -/

/-- The PTP candidate followed lies in DOMAIN (R453, cause 1). -/
def msTimed (s : State) : Bool :=
  s.stem.aligned && (s.bl.state = .locked || s.bl.state = .holdover) && s.bl.sel < 4 && (ptpPort s s.bl.sel).cfg.domain = s.ms.cfg.domain

/-- The grandmaster followed. -/
def msGm (s : State) : Nat := if s.bl.sel < 4 then (ptpPort s s.bl.sel).foreign.gmId else 0

/-- RATE_CODE: the rate multiple's code with the family above it (log 58). -/
def msRate (s : State) : Nat := rateCode s.stem.mult + 16 * s.stem.family

/-- The first membership condition that a HELLO of the view's member shows to fail, 0 for none (R453). -/
def joinCause (h : MsHello) (s : State) : Nat :=
  if ¬ msTimed s then 1
  else if h.gm ≠ msGm s then 2
  else if h.rate ≠ msRate s then 3
  else if h.sw ≠ s.dx.sw ∨ h.patch ≠ s.lig.patch then 4
  else if h.linkOfs ≠ s.ms.cfg.linkOfs ∨ h.lead ≠ s.ms.cfg.lead then 5
  else if ¬ h.inRoster ∨ s.life.idKey.isNone then 6
  else if h.dup then 7
  else 0

/-- The condition that the root finds to fail for an engine that asks: the roster and the view are the root's own (R453, causes 6 and 7). -/
def rootCause (h : MsHello) (s : State) : Nat :=
  joinCause { h with inRoster := s.ms.roster.any (fun e => e.2.1 = h.sender), dup := s.ms.members.contains h.sender } s

/-- The join is refused: the engine stays out of the manuscript; a LOST member tries again (R453, R473). -/
def refuseJoin (cause root : Nat) (s : State) : State :=
  let s1 := raise 0x0C03 (le 1 cause ++ zeros 1 ++ le 2 root) s
  if s.ms.state = 3 then s1 else msState 0 (modMs (fun m => { m with joinAt := none, members := [], view := 0 }) s1)

/-- The fields of this engine's HELLO. -/
def helloBody (s : State) : Bytes :=
  le 32 s.life.idKeyHash ++ le 1 (msRate s) ++ le 1 s.dx.sw ++ le 1 s.lig.patch ++ zeros 1 ++ le 4 s.ms.cfg.linkOfs ++ le 4 s.ms.cfg.lead ++ le 8 (msGm s)

/-- The join begins: the member state is JOINING until a view holds this engine (R471). -/
def startJoin (s : State) : State := msState 1 (modMs (fun m => { m with joinAt := none, retryMs := s.stem.ms }) s)

/-- The manuscript's current scene is armed as a local recall (R471): at its apply SSI when that lies at least LEAD ahead, and
otherwise at the first boundary that meets the lead of a recall. Answers none when the scene is missing or not admitted. -/
def armCurrent (c : Nat × Nat × Nat) (s : State) : Option State :=
  match mapGet s.prog.scenes c.1 with
  | none => none
  | some sc =>
    let at_ := if s.stem.ssi + msLead s ≤ c.2.2 then c.2.2 else up8 (s.stem.ssi + recallLead s)
    let q := armRecall 0x0802 { client := 0xFC, seq := 0, timed := true, at_ := at_ } c.1 sc c.2.1 0 at_ s
    if succeeded q.status ∧ ¬ armingFull 0xFC s then some q.st else none

/-- The joining engine or a LOST member takes a view that does not hold it yet: its conditions 7 and 8 and the current scene,
then it asks to be included (R471, R473). -/
def askJoin (via : Nat) (members : List Nat) (scene : Option (Nat × Nat × Nat)) (s : State) : State :=
  let root := members.headD 0xFFFF
  let go := fun (t : State) => msSend via 1 (helloBody t) (modMs (fun m => { m with current := scene }) t)
  match scene with
  | none => go s
  | some c =>
    if s.ms.state = 3 ∧ s.ms.current = some c then go s
    else if (mapGet s.prog.scenes c.1).isNone then refuseJoin 8 root s
    else match armCurrent c s with
    | some t => go t
    | none => refuseJoin 9 root s

/-- The view holds this engine: a LOST member is READY again, and a joining one becomes READY at the next boundary. -/
def joined_ (view : Nat) (members : List Nat) (s : State) : State :=
  let s1 := modMs (fun m => { m with joinView := view }) (adoptView none view members s)
  if s.ms.state = 3 then msState 2 (modMs (fun m => { m with absent := false }) s1)
  else modMs (fun m => { m with joinAt := some (nextBoundary s) }) s1

/-- At the boundary of a join the engine enters SHOW by an internal MODE.SET from client 0xFC, and MODE.MSCRIPT is set (R472). -/
def joinBoundary (s : State) : State :=
  match s.ms.joinAt with
  | none => s
  | some b =>
    if s.stem.ssi < b ∨ s.ms.state ≠ 1 then s
    else
      let ready := fun (t : State) => msState 2 (modMs (fun m => { m with joinAt := none, member := true }) t)
      match modeOutcome 4 false s with
      | .go l => ready (goMode 4 l s)
      | .same => ready s
      | _ => refuseJoin 9 (msRoot s) s

/-- MS_VIEW_RX (R454, R456, R471). -/
def viewRx (via view : Nat) (members : List Nat) (scene : Option (Nat × Nat × Nat)) (s : State) : State :=
  let m := s.ms
  let mine := members.contains (msMe s)
  if m.cfg.msId = 0 ∨ ¬ actsForPair s then s
  else if m.state = 1 ∨ m.state = 3 then
    if m.joinAt.isSome then s
    else if mine then (if msTimed s then joined_ view members s else refuseJoin 1 (members.headD 0xFFFF) s)
    else askJoin via members scene s
  else if m.state ≠ 2 then s
  else if mine then (if m.view < view then adoptView (some via) view members s else s)
  else if members.headD 0xFFFF < msRoot s then
    askJoin via members scene (msState 1 (modMs (fun m => { m with member := false, members := [], joinAt := none }) s))
  else s

/-- MS_PEER_CONNECT (R451): a session is accepted only from a key that the roster holds under the claimed MEMBER_ID, with the
same MS_ID; HELLO is sent. -/
def peerConnect (member key msId ip : Nat) (s : State) : State :=
  let m := s.ms
  if m.cfg.msId = 0 ∨ msId ≠ m.cfg.msId ∨ m.state = 0 ∨ ¬ actsForPair s ∨ key = 0 ∨ ¬ m.roster.any (fun e => e.2 = (member, key)) then s
  else
    let p : Peer := { member := member, ip := ip, lastMs := s.stem.ms }
    msSend member 1 (helloBody s) (modMs (fun m => { m with peers := m.peers.filter (fun q => q.member ≠ member) ++ [p] }) s)

/-- MS_HELLO_RX (R453, R471): a joining engine checks the view's settings; the root includes an engine that asks and meets
them; any READY member shows its view. -/
def helloRx (h : MsHello) (s : State) : State :=
  if ¬ hasPeer s h.sender ∨ ¬ actsForPair s then s
  else
    let s1 := heardFrom h.sender (modMs (fun m => { m with peers := m.peers.map (fun p => if p.member = h.sender then { p with hello := true } else p) }) s)
    if (s.ms.state = 1 ∨ s.ms.state = 3) ∧ h.ready then
      let c := joinCause h s1
      if c = 0 then s1 else refuseJoin c (msRoot s1) s1
    else if s.ms.state ≠ 2 then s1
    else if h.asks ∧ msRoot s = msMe s ∧ rootCause h s = 0 then
      let t := issueView (insertMember h.sender s.ms.members) s1
      if (neighbours t).contains h.sender then t else msSend h.sender 2 (viewBody t.ms.members) t
    else msSend h.sender 2 (viewBody s.ms.members) s1

/-! ### Leaving and losing members (R455, R473, R474) -/

/-- The member leaves: MODE.MSCRIPT is cleared; streams, routes and bus roles stay (R474). -/
def leaveNow (s : State) : State :=
  msState 0 (modMs (fun m => { m with member := false, members := [], peers := [], view := 0, leaveAt := none, joinAt := none }) s)

/-- MS.LEAVE falls due at its boundary. -/
def leaveBoundary (s : State) : State :=
  match s.ms.leaveAt with
  | some b => if b ≤ s.stem.ssi then leaveNow s else s
  | none => s

/-- MS_MEMBER_GONE (R455, R473): a neighbour silent for 3 s is declared gone; the root, or the member that then has the lowest
MEMBER_ID, issues a new view; a member other than the root that has lost every session is LOST. -/
def memberGone (m : Nat) (s : State) : State :=
  match s.ms.peers.find? (fun p => p.member = m) with
  | none => s
  | some p =>
    if s.stem.ms < p.lastMs + 3000 ∨ ¬ actsForPair s then s
    else
      let l := s.ms.members.filter (· ≠ m)
      let s1 := modMs (fun q => { q with peers := q.peers.filter (fun p => p.member ≠ m) }) s
      if s.ms.state ≠ 2 then s1
      else if msRoot s = msMe s then (if s.ms.members.contains m then issueView l s1 else s1)
      else if s1.ms.peers.isEmpty then msState 3 (modMs (fun q => { q with absent := true, retryMs := s.stem.ms, tries := 0 }) s1)
      else if l.headD 0xFFFF = msMe s then issueView l s1
      else s1

/-- MS_REJOIN: a LOST member tries again every 1 s (R473): it counts the attempt, and asks by HELLO every peer whose session stands again. -/
def msRejoin (s : State) : State :=
  if s.ms.state = 3 ∧ s.ms.retryMs + 1000 ≤ s.stem.ms ∧ actsForPair s then
    (s.ms.peers.foldl (fun t p => msSend p.member 1 (helloBody t) t) (modMs (fun m => { m with retryMs := s.stem.ms, tries := m.tries + 1 }) s))
  else s

/-- MS_HEARTBEAT_TIMER (R455). -/
def msHeartbeat (s : State) : State :=
  if msReady s ∧ s.ms.beatMs + 500 ≤ s.stem.ms then msFlood none 8 (le 8 s.stem.ssi) (modMs (fun m => { m with beatMs := s.stem.ms }) s) else s

/-! ### Flourishes (R461 to R467) -/

/-- The Flourish of a commit number. -/
def flourishOf (s : State) (origin number : Nat) : Option Flourish :=
  s.ms.flourishes.find? (fun f => f.origin = origin && f.number = number)

/-- Put a Flourish in place of the one of its commit number. -/
def putFlourish (f : Flourish) (s : State) : State :=
  modMs (fun m => { m with flourishes := m.flourishes.filter (fun g => ¬ (g.origin = f.origin ∧ g.number = f.number)) ++ [f] }) s

/-- The commit number as bytes: what the parameters of an armed Flourish turn begin with. -/
def commitBytes (origin number : Nat) : Bytes := le 2 origin ++ zeros 2 ++ le 4 number

/-- The commit number of an armed Flourish turn. -/
def commitOf (a : Armed) : Nat × Nat := (u16 a.params 0, u32 a.params 4)

/-- An armed action is the turn of a Flourish. -/
def isTurnOf (origin number : Nat) (a : Armed) : Bool := a.opcode = 0x0C06 && commitOf a = (origin, number)

/-- Drop the turn of a Flourish. -/
def dropTurn (origin number : Nat) (s : State) : State :=
  { s with ink := { s.ink with armed := s.ink.armed.filter (fun a => !isTurnOf origin number a) } }

/-- The changes of an owner bus's own folio apply D later, as an action of their own (R467). -/
def splitOwner (s : State) (a : Armed) : List Armed :=
  let owner := fun (c : Change) => keyKind c.key = 1 && (match s.ms.xbus.find? (fun e => e.1 = keyIndex c.key) with
    | some e => e.2.role = 2 | none => false)
  let later := a.turn.changes.filter owner
  if later.isEmpty then [a]
  else [{ a with turn := { a.turn with changes := a.turn.changes.filter (fun c => !owner c) } },
        { a with applySsi := a.applySsi + msDelay s, turn := { changes := later, scene := a.turn.scene, flags := a.turn.flags, silent := true } }]

/-- The turn of a Flourish is checked as a recall timed at its apply SSI, within the limits of arming, and armed (R213, R461). -/
def armFlourish (client seq origin number scene flags scope apply : Nat) (s : State) : Status × State :=
  if s.bl.state = .free then (.notLocked, s)
  else if armingFull client s ∨ (client ≠ 0xFC ∧ (armedAt s client seq).isSome) then (.busy, s)
  else if ¬ audioMode s.power.mode ∧ ¬ fullMode s.power.mode then (.mode, s)
  else match mapGet s.prog.scenes scene with
  | none => (.badParam, s)
  | some sc =>
    let x : Ctx := { client := client, seq := seq, p := commitBytes origin number, timed := true, at_ := apply }
    let q := armRecall 0x0C06 x scene sc scope (flags % 8) apply s
    if ¬ succeeded q.status then (q.status, s)
    else
      let arm := q.st.ink.armed.flatMap (fun a => if isTurnOf origin number a then splitOwner s a else [a])
      (.ok, { q.st with ink := { q.st.ink with armed := arm } })

/-- The fields of VOTE. -/
def voteBody (f : Flourish) : Bytes :=
  let r := f.refusal.getD (0, 0)
  le 2 f.origin ++ zeros 2 ++ le 4 f.number ++ le 2 f.ready ++ le 2 r.1 ++ le 2 r.2

/-- The fields of COMMIT, and the head of ABORT and ACK. -/
def numberBody (f : Flourish) : Bytes := commitBytes f.origin f.number

/-- A member holds COMMIT: the turn stays armed, and the scene becomes the manuscript's current one. The active unit of a pair
journals the turn (R452, R482). -/
def holdCommit (f : Flourish) (s : State) : State :=
  let s1 := putFlourish { f with phase := 1, ack := some 0 } s
  let s2 := modMs (fun m => { m with current := some (f.scene, f.scope, f.apply), lastOrigin := f.origin, lastScene := f.scene,
                                     lastNumber := f.number, lastApply := f.apply, count := m.count + 1 }) s1
  let p := le 2 f.scene ++ le 1 f.flags ++ zeros 1 ++ le 4 f.scope
  let x : Ctx := { client := f.client, seq := f.cseq, timed := true, at_ := f.apply, p := p }
  if journals s then journalPut f.client f.apply 0 (journalBody 0x0C06 x) (commitBytes f.origin f.number) s2
  else s2

/-- FLOURISH_DONE. -/
def flourishDone (f : Flourish) (result : Nat) (s : State) : State :=
  raise 0x0C04 (le 2 f.origin ++ zeros 2 ++ le 4 f.number ++ le 1 result ++ zeros 1 ++ le 2 (f.refusal.getD (0, 0)).1 ++
    le 2 f.acked.length ++ le 2 f.lateBy.length) (putFlourish { f with done := true } s)

/-- The originator commits: COMMIT is flooded (R461, R462). -/
def commitFlourish (f : Flourish) (s : State) : State :=
  let g := { f with acked := [msMe s], sentMs := s.stem.ms }
  msFlood none 5 (numberBody f) (holdCommit g s)

/-- The originator aborts: ABORT is flooded, its own turn dropped, and the outcome told (R461). -/
def abortFlourish (f : Flourish) (st : Nat) (s : State) : State :=
  let g := { f with phase := 2, refusal := some (f.refusal.getD (st, msMe s)) }
  let s1 := modMs (fun m => { m with aborts := m.aborts + 1 }) (dropTurn f.origin f.number s)
  flourishDone g 1 (msFlood none 6 (numberBody f ++ le 2 (g.refusal.getD (0, 0)).1) s1)

/-- The votes gathered so far decide, or go on as one (R461). -/
def settleVotes (f : Flourish) (s : State) : State :=
  if f.phase ≠ 0 then s
  else if f.origin = msMe s then
    if f.refusal.isSome then abortFlourish f 0 s
    else if f.ready = s.ms.members.length then commitFlourish f s
    else s
  else
    match f.from_ with
    | none => s
    | some via =>
      if ¬ f.cast ∧ ((neighbours s).filter (· ≠ via)).all (fun n => f.votes.contains n) then
        msSend via 4 (voteBody f) (putFlourish { f with cast := true } s)
      else s

/-- A new Flourish is checked, and this member's vote joins those beyond it. -/
def takeFlourish (f : Flourish) (s : State) : State :=
  let r := armFlourish f.client f.cseq f.origin f.number f.scene f.flags f.scope f.apply s
  let g := if r.1 = .ok then { f with voted := some 0, ready := 1 }
    else { f with voted := some (statusCode r.1), refusal := some (statusCode r.1, msMe s) }
  putFlourish g r.2

/-- The fields of PREPARE. -/
def prepareBody (f : Flourish) : Bytes :=
  le 2 f.origin ++ le 2 f.scene ++ le 4 f.number ++ le 1 f.flags ++ zeros 3 ++ le 4 f.scope ++ le 8 f.apply

/-- MS.FLOURISH or a cue originates a Flourish (R461, R475). -/
def originate (client seq scene flags scope apply : Nat) (s : State) : State :=
  let num := (s.ms.number + 1) % 2 ^ 32
  let f : Flourish := { origin := msMe s, number := num, view := s.ms.view, scene := scene, flags := flags, scope := scope,
                        apply := apply, client := client, cseq := seq }
  let s1 := msFlood none 3 (prepareBody f) (modMs (fun m => { m with number := num }) s)
  let s2 := takeFlourish f s1
  match flourishOf s2 f.origin f.number with
  | some g => settleVotes g s2
  | none => s2

/-- MS_PREPARE_RX (R461, R464, R466). -/
def prepareRx (via : Nat) (p : MsPrepare) (s0 : State) : State :=
  let s := heardFrom via s0
  if ¬ msReady s ∨ p.view < s.ms.joinView then s
  else match flourishOf s p.origin p.number with
  | some f => if f.cast then msSend via 4 (voteBody f) s else s
  | none =>
    let f : Flourish := { origin := p.origin, number := p.number, view := p.view, scene := p.scene, flags := p.flags, scope := p.scope,
                          apply := p.apply, from_ := some via }
    let s1 := takeFlourish f (msFloodAs p.view (some via) 3 (prepareBody f) s)
    match flourishOf s1 f.origin f.number with
    | some g => settleVotes g s1
    | none => s1

/-- MS_VOTE_RX: one vote for a neighbour and every member beyond it (R461, R464). -/
def voteRx (via origin number count st refuser : Nat) (s0 : State) : State :=
  let s := heardFrom via s0
  match flourishOf s origin number with
  | none => s
  | some f =>
    if ¬ msReady s ∨ f.votes.contains via ∨ f.phase ≠ 0 then s
    else
      let g := { f with votes := via :: f.votes, ready := f.ready + count,
                        refusal := if st = 0 then f.refusal else some (f.refusal.getD (st, refuser)) }
      settleVotes g (putFlourish g s)

/-- The readiness deadline of a turn has passed: COMMIT must be held at A − 16 (R308, R461). -/
def commitLate (s : State) (f : Flourish) : Bool := f.apply < s.stem.ssi + 16

/-- MS_COMMIT_RX (R461, R463, R464). -/
def commitRx (via origin number : Nat) (s0 : State) : State :=
  let s := heardFrom via s0
  match flourishOf s origin number with
  | none => s
  | some f =>
    if ¬ msReady s ∨ f.origin = msMe s then s
    else match f.ack with
    | some a => msSend via 7 (numberBody f ++ le 2 a) s
    | none =>
      let s1 := msFlood (some via) 5 (numberBody f) s
      let late : Bool := f.missed || commitLate s f
      let s2 := if late then modMs (fun m => { m with lateCount := m.lateCount + 1 }) (putFlourish { f with ack := some 0x1A } (dropTurn origin number s1))
        else holdCommit f s1
      msSend via 7 (numberBody f ++ le 2 (if late then 0x1A else 0)) s2

/-- MS_ABORT_RX (R461, R464). -/
def abortRx (via origin number st : Nat) (s0 : State) : State :=
  let s := heardFrom via s0
  match flourishOf s origin number with
  | none => s
  | some f =>
    if ¬ msReady s ∨ f.origin = msMe s then s
    else if f.phase = 1 then s
    else
      let s1 := if f.phase = 2 then s else
        modMs (fun m => { m with aborts := m.aborts + 1 }) (putFlourish { f with phase := 2, ack := some 0 }
          (dropTurn origin number (msFlood (some via) 6 (numberBody f ++ le 2 st) s)))
      msSend via 7 (numberBody f ++ le 2 0) s1

/-- MS_ACK_RX: the originator records it, another member passes it on (R461, R463, R464). -/
def ackRx (via member origin number st : Nat) (s0 : State) : State :=
  let s := heardFrom via s0
  match flourishOf s origin number with
  | none => s
  | some f =>
    if ¬ msReady s then s
    else if f.origin ≠ msMe s then (match f.from_ with | some n => msSend n 7 (numberBody f ++ le 2 st) s | none => s)
    else if f.acked.contains member ∨ f.lateBy.contains member then s
    else putFlourish (if st = 0 then { f with acked := f.acked ++ [member] } else { f with lateBy := f.lateBy ++ [member] }) s

/-- MS_VOTE_DEADLINE: at A − LEAD ÷ 2 with votes missing (R461, R462). -/
def voteDeadline (number : Nat) (s : State) : State :=
  match flourishOf s (msMe s) number with
  | none => s
  | some f =>
    if f.phase ≠ 0 ∨ s.stem.ssi + msLead s / 2 < f.apply then s
    else if bit f.flags 3 ∧ f.refusal.isNone then commitFlourish f s
    else abortFlourish f 0x1A s

/-- MS_COMMIT_RESEND: every 2 ms until the members' readiness deadline (R464). -/
def commitResend (number : Nat) (s : State) : State :=
  match flourishOf s (msMe s) number with
  | none => s
  | some f =>
    if f.phase ≠ 1 ∨ commitLate s f ∨ s.stem.ms < f.sentMs + 2 then s
    else
      let l := s.ms.members.filter (fun m => ¬ f.acked.contains m ∧ ¬ f.lateBy.contains m)
      putFlourish { f with sentMs := s.stem.ms } (l.foldl (fun t m => msSend m 5 (numberBody f) t) s)

/-- COMMIT_MISSED: a member that voted READY and holds neither COMMIT nor ABORT at its readiness deadline (R463). -/
def commitMissed (s : State) : State :=
  (s.ms.flourishes.filter (fun f => f.phase = 0 && f.voted = some 0 && !f.missed && f.origin ≠ msMe s && f.apply ≤ s.stem.ssi + 16)).foldl (fun t f =>
    let t1 := modMs (fun m => { m with missed := m.missed + 1 }) (putFlourish { f with missed := true } (dropTurn f.origin f.number t))
    let t2 := match f.from_ with | some n => msSend n 7 (numberBody f ++ le 2 0x1A) t1 | none => t1
    raise 0x0C05 (le 2 f.origin ++ zeros 2 ++ le 4 f.number ++ le 8 f.apply) t2) s

/-- The originator tells the outcome of its committed Flourishes once they have turned. -/
def tellFlourishes (s : State) : State :=
  (s.ms.flourishes.filter (fun f => f.phase = 1 && !f.done && f.origin = msMe s && f.apply ≤ s.stem.ssi)).foldl (fun t f => flourishDone f 0 t) s

/-- A Flourish turn that falls due is executed only when COMMIT is held; on the shadow of a pair it comes from the journal
(R452, R461). -/
def turnCommitted (s : State) (a : Armed) : Bool :=
  match flourishOf s (commitOf a).1 (commitOf a).2 with
  | some f => f.phase = 1
  | none => true

/-! ### The commands -/

/-- MS.STATUS_GET. -/
def cmdMsStatusGet : Cmd where
  lens := inlineOnly 0
  body := fun _ s =>
    let m := s.ms
    answer (le 1 m.state ++ zeros 1 ++ le 2 (msMe s) ++ le 4 m.view ++ le 2 m.members.length ++ le 2 (msRoot s) ++
      le 2 ((parentOf s (msMe s)).getD 0xFFFF) ++ zeros 2 ++ le 2 m.lastOrigin ++ le 2 m.lastScene ++ le 4 m.lastNumber ++
      le 8 m.lastApply ++ le 4 m.count ++ le 4 m.aborts ++ le 4 m.missed ++ le 4 m.lateCount ++ le 4 m.xbusAbsent ++ le 4 m.xbusOffset) s

/-- MS.CONFIG (R469). -/
def cmdMsConfig : Cmd where
  lens := inlineOnly 28
  range := fun x s =>
    u16 x.p 2 ≤ 1023 && u8 x.p 4 ≤ 127 && u8 x.p 5 ≤ 3 && 250 ≤ u16 x.p 6 && u16 x.p 6 ≤ 20000 && 8 ≤ u16 x.p 8 && u16 x.p 8 ≤ 2000 &&
      (16 ≤ u16 x.p 8 || s.ms.roster.length ≤ 33)
  body := fun x s =>
    let c : MsCfg := { msId := u16 x.p 0, memberId := u16 x.p 2, domain := u8 x.p 4, autoJoin := bit (u8 x.p 5) 0, linkOfs := u16 x.p 6,
                       lead := u16 x.p 8, seeds := slice x.p 12 16 }
    if s.ms.state ≠ 0 then fail .busy s
    else { st := modMs (fun m => { m with cfg := c, nvs := if bit (u8 x.p 5) 1 then c else m.nvs }) s }

/-- The entries of MS.ROSTER_SET. -/
def rosterEntries (b : Bytes) : List (Nat × Nat) := (chunks 36 113 (b.drop 4)).map (fun e => (u16 e 0, ofLe (slice e 4 32)))

/-- MS.ROSTER_SET (R451). -/
def cmdMsRosterSet : Cmd where
  lens := fun l sl => l = 0 && 40 ≤ sl && (sl - 4) % 36 = 0
  fits := fun x => u16 x.sh 2 * 36 + 4 = x.sh.length
  range := fun x _ => u16 x.sh 2 ≤ 113 && u16 x.sh 0 + u16 x.sh 2 ≤ 1024 && (rosterEntries x.sh).all (fun e => e.1 ≤ 1023)
  body := fun x s =>
    { st := modMs (fun m => { m with roster := (rosterEntries x.sh).zipIdx.foldl (fun t e =>
        tabPut (0, 0) t (u16 x.sh 0 + e.2) (if e.1.2 = 0 then (0, 0) else e.1)) m.roster }) s }

/-- MS.JOIN (R471). -/
def cmdMsJoin : Cmd where
  lens := inlineOnly 0
  body := fun _ s =>
    if s.ms.cfg.msId = 0 then fail .mode s
    else if s.ms.state ≠ 0 then fail .busy s
    else { st := s, after := startJoin }

/-- MS.LEAVE (R474). -/
def cmdMsLeave : Cmd where
  lens := inlineOnly 0
  body := fun _ s => if s.ms.state = 0 then fail .mode s else { st := modMs (fun m => { m with leaveAt := some (nextBoundary s) }) s }
  arm := some (fun x s =>
    if s.ms.state = 0 then fail .mode s
    else { st := schedule x { client := x.client, seq := x.seq, opcode := 0x0C05, applySsi := x.at_ } s })

/-- The body of MS.FLOURISH (R475). -/
def flourishBody (x : Ctx) (s : State) : Res :=
  let at_ := if x.timed then x.at_ else up8 (s.stem.ssi + msLead s)
  if ¬ msReady s then fail .mode s
  else { st := s, data := le 8 at_ ++ le 4 ((s.ms.number + 1) % 2 ^ 32) ++ le 4 s.ms.view,
         after := originate x.client x.seq (u16 x.p 0) (u8 x.p 2) (u32 x.p 4) at_ }

/-- MS.FLOURISH. -/
def cmdMsFlourish : Cmd where
  lens := inlineOnly 8
  role := fun x _ => !bit (u8 x.p 2) 2 || roleMeets x.role 3
  range := fun x _ => sceneOk (u16 x.p 0) && u8 x.p 2 ≤ 15 && !bit (u8 x.p 2) 0
  lead := msLead
  body := flourishBody
  arm := some flourishBody

/-- The lowest run of `k` free pool sinks. -/
def freeRun (owner : Tab Nat) (lo hi k : Nat) : Option Nat :=
  ((List.range (hi + 1 - lo - k)).map (· + lo)).find? (fun a => (List.range k).all (fun i => tabGet 0 owner (a + i) = 0))

/-- State `t` brings an active Nib above 90 % that `s` does not, now or once the armed changes have run (R252). -/
def raises (s t : State) : Bool := (planSsis s s.stem.ssi).any (fun u => raisesAbove s (steadyAt s u) (steadyAt t u))

/-- MS.XBUS_SET (R457, R458, R460): a bus beyond the variant's count is answered as R229 states. -/
def xbusBody (x : Ctx) (s : State) : Res :=
  let bus := u16 x.p 0
  let role := u8 x.p 2
  let k := instKey 1 bus
  if busesOf s.variant ≤ bus then (if x.fit then { st := s, data := zeros 2, warns := [warn7 2 bus bus 0] } else fail .capacity s)
  else if (mapGet s.prog.insts k).isNone ∨ linkOf s bus ≠ 0 ∨ groupMember s bus then fail .badParam s
  else
    let s0 := { s with lig := { s.lig with snkOwner := s.lig.snkOwner.filter (fun e => e.2 ≠ 0x2000000 + bus) },
                       ms := { s.ms with xbus := tabErase bus s.ms.xbus } }
    let put := fun (sink : Nat) => modMs (fun m => { m with xbus := tabInsert bus { role := role, headroom := u8 x.p 3, remotes := u8 x.p 4, sink := sink } m.xbus }) s0
    if role = 0 then { st := s0 }
    else if role = 1 then (if raises s (put 0) then fail .capacity s else { st := put 0 })
    else
      match freeRun s0.lig.snkOwner (snkPool s.variant) (ligSize s.variant) (u8 x.p 4) with
      | none => fail .capacity s
      | some a =>
        let t := put a
        if raises s t then fail .capacity s
        else { st := { t with lig := { t.lig with snkOwner := (List.range (u8 x.p 4)).foldl (fun o i => tabPut 0 o (a + i) (0x2000000 + bus)) t.lig.snkOwner } },
               data := le 2 a }

/-- The command MS.XBUS_SET. -/
def cmdMsXbusSet : Cmd where
  lens := inlineOnly 8
  range := fun x _ => u16 x.p 0 < 256 && u8 x.p 2 ≤ 2 && u8 x.p 3 ≤ 4 && (u8 x.p 2 ≠ 2 || (1 ≤ u8 x.p 4 && u8 x.p 4 ≤ 32))
  body := xbusBody

/-- One record of MS.MEMBERS_GET. -/
def memberRecord (s : State) (rank m : Nat) : Bytes :=
  let p := s.ms.peers.find? (fun p => p.member = m)
  let hops := match memberRank s (msMe s) with | some i => hopsBetween i rank | none => 0xFF
  le 2 m ++ le 2 rank ++ le 4 ((p.map (·.ip)).getD 0) ++ le 1 hops ++ zeros 3 ++
    le 4 (match p with | some p => s.stem.ms - p.lastMs | none => 0xFFFFFFFF)

/-- MS.MEMBERS_GET (R454). -/
def cmdMsMembersGet : Cmd where
  lens := inlineOnly 2
  body := fun x s =>
    { st := s, sheet := sheetOf (((s.ms.members.zipIdx.drop (u16 x.p 0)).take 256).flatMap (fun e => memberRecord s e.2 e.1)) }

/-! ### The meanings -/

/-- MS_STATUS_GET. -/
def execMsStatusGet (r : Request) (s : State) : Host.Outcome State Fault Refusal := serve 0x0C01 cmdMsStatusGet r s
/-- MS_CONFIG (R469). -/
def execMsConfig (r : Request) (s : State) : Host.Outcome State Fault Refusal := serve 0x0C02 cmdMsConfig r s
/-- MS_ROSTER_SET (R451). -/
def execMsRosterSet (r : Request) (s : State) : Host.Outcome State Fault Refusal := serve 0x0C03 cmdMsRosterSet r s
/-- MS_JOIN (R471). -/
def execMsJoin (r : Request) (s : State) : Host.Outcome State Fault Refusal := serve 0x0C04 cmdMsJoin r (msBegin s)
/-- MS_LEAVE (R474). -/
def execMsLeave (r : Request) (s : State) : Host.Outcome State Fault Refusal := serve 0x0C05 cmdMsLeave r s
/-- MS_FLOURISH (R475). -/
def execMsFlourish (r : Request) (s : State) : Host.Outcome State Fault Refusal := serve 0x0C06 cmdMsFlourish r (msBegin s)
/-- MS_XBUS_SET (R458). -/
def execMsXbusSet (r : Request) (s : State) : Host.Outcome State Fault Refusal := serve 0x0C07 cmdMsXbusSet r s
/-- MS_MEMBERS_GET (R454). -/
def execMsMembersGet (r : Request) (s : State) : Host.Outcome State Fault Refusal := serve 0x0C08 cmdMsMembersGet r s
/-- MS_PEER_CONNECT (R451). -/
def execMsPeerConnect (member key msId ip : Nat) (s : State) : Host.Outcome State Fault Refusal := .next (peerConnect member key msId ip (msBegin s))
/-- MS_HELLO_RX (R453). -/
def execMsHelloRx (h : MsHello) (s : State) : Host.Outcome State Fault Refusal := .next (helloRx h (msBegin s))
/-- MS_VIEW_RX (R454). -/
def execMsViewRx (via view : Nat) (members : List Nat) (scene : Option (Nat × Nat × Nat)) (s : State) : Host.Outcome State Fault Refusal :=
  .next (viewRx via view members scene (heardFrom via (msBegin s)))
/-- MS_PREPARE_RX (R461). -/
def execMsPrepareRx (via : Nat) (p : MsPrepare) (s : State) : Host.Outcome State Fault Refusal := .next (prepareRx via p (msBegin s))
/-- MS_VOTE_RX (R461). -/
def execMsVoteRx (via origin number count st refuser : Nat) (s : State) : Host.Outcome State Fault Refusal :=
  .next (voteRx via origin number count st refuser (msBegin s))
/-- MS_COMMIT_RX (R463). -/
def execMsCommitRx (via origin number : Nat) (s : State) : Host.Outcome State Fault Refusal := .next (commitRx via origin number (msBegin s))
/-- MS_ABORT_RX (R461). -/
def execMsAbortRx (via origin number st : Nat) (s : State) : Host.Outcome State Fault Refusal := .next (abortRx via origin number st (msBegin s))
/-- MS_ACK_RX (R464). -/
def execMsAckRx (via member origin number st : Nat) (s : State) : Host.Outcome State Fault Refusal :=
  .next (ackRx via member origin number st (msBegin s))
/-- MS_HEARTBEAT_RX (R455). -/
def execMsHeartbeatRx (member : Nat) (s : State) : Host.Outcome State Fault Refusal := .next (heardFrom member s)
/-- MS_HEARTBEAT_TIMER (R455). -/
def execMsHeartbeatTimer (s : State) : Host.Outcome State Fault Refusal := .next (msHeartbeat (msBegin s))
/-- MS_MEMBER_GONE (R455). -/
def execMsMemberGone (member : Nat) (s : State) : Host.Outcome State Fault Refusal := .next (memberGone member (msBegin s))
/-- MS_VOTE_DEADLINE (R461). -/
def execMsVoteDeadline (number : Nat) (s : State) : Host.Outcome State Fault Refusal := .next (voteDeadline number (msBegin s))
/-- MS_COMMIT_RESEND (R464). -/
def execMsCommitResend (number : Nat) (s : State) : Host.Outcome State Fault Refusal := .next (commitResend number (msBegin s))
/-- MS_REJOIN (R473). -/
def execMsRejoin (s : State) : Host.Outcome State Fault Refusal := .next (msRejoin (msBegin s))

end Sys2Proof.Machine
end

