-- ==== Sys2Proof/Machine/Cue.lean ====
section
/-! DEFINITION. The cue bridge and linear timecode (chapters 10 and 23, opcodes 0x0810 to 0x0813). -/

namespace Sys2Proof.Machine

/-! ### Time addresses (R332, R676) -/

/-- The frames numbered in one second at a rate code. -/
def tcRate (r : Nat) : Nat := if r = 0 then 24 else if r = 1 then 25 else 30

/-- The length of a frame in seconds at a rate code, as a fraction: 1,001 ÷ 30,000 s at 29.97. -/
def tcFrame (r : Nat) : Nat × Nat := if r = 2 ∨ r = 3 then (1001, 30000) else (1, tcRate r)

/-- The frame number since midnight of a time address (hours, minutes, seconds and frames, one byte each from the top). -/
def tcIndex (r t : Nat) : Nat :=
  let h := t / 16777216
  let m := t / 65536 % 256
  let sec := t / 256 % 256
  let mins := 60 * h + m
  (60 * mins + sec) * tcRate r + t % 256 - (if r = 2 then 2 * (mins - mins / 10) else 0)

/-- The frames of a day. -/
def tcDay (r : Nat) : Nat := if r = 2 then 2589408 else 86400 * tcRate r

/-- The frame number with the numbers that drop-frame counting skips. -/
def tcSkipped (r k : Nat) : Nat :=
  if r ≠ 2 then k
  else
    let d := k / 17982
    let m := k % 17982
    k + 18 * d + (if m < 2 then 0 else 2 * ((m - 2) / 1798))

/-- The time address of a frame number. -/
def tcAddress (r k : Nat) : Nat :=
  let j := tcSkipped r (k % tcDay r)
  let n := tcRate r
  (j / n / 3600) * 16777216 + (j / n / 60 % 60) * 65536 + (j / n % 60) * 256 + j % n

/-- A time address that exists at a rate code. -/
def tcOk (r t : Nat) : Bool :=
  t / 16777216 < 24 && t / 65536 % 256 < 60 && t / 256 % 256 < 60 && t % 256 < tcRate r &&
    !(r = 2 && t / 65536 % 256 % 10 ≠ 0 && t / 256 % 256 = 0 && t % 256 < 2)

/-- The UTC offset: currentUtcOffset of the leader that Baseline follows while it is marked valid, and 37 s otherwise (R332, R676). -/
def utcOfs (s : State) : Nat :=
  let f := (ptpPort s s.bl.sel).foreign
  if s.bl.sel < 4 ∧ (ptpPort s s.bl.sel).state = 2 ∧ f.utcValid then f.utc else 37

/-- The samples since local midnight at the present sample: PTP time less the UTC offset plus TZ_OFS. -/
def sinceMidnight (s : State) (tz : Int) : Nat :=
  let fs : Int := fsOp s
  let now : Int := if s.stem.aligned then (s.stem.ssi : Int) else (s.stem.aonMs : Int) * fs / 1000
  ((now + (tz - (utcOfs s : Int)) * fs) % (86400 * fs)).toNat

/-- The first sample since midnight at or after the start of frame `k`. -/
def frameStart (s : State) (r k : Nat) : Nat := let f := tcFrame r; (k * fsOp s * f.1 + f.2 - 1) / f.2

/-! ### The cue map -/

/-- Change the cue bridge. -/
def modCue (f : Cue → Cue) (s : State) : State := { s with prog := { s.prog with cue := f s.prog.cue } }

/-- Change the counts of a source. -/
def modCueCount (src : Nat) (f : CueCount → CueCount) (s : State) : State := modCue (fun c => { c with counts := tabMod {} c.counts src f }) s

/-- The four bytes of a time address, hours first. -/
def tcBytes (t : Nat) : Bytes := le 1 (t / 16777216) ++ le 1 (t / 65536) ++ le 1 (t / 256) ++ le 1 t

/-- A cue map entry from its 64 bytes. -/
def cueEntryOf (b : Bytes) : CueEntry :=
  { source := u8 b 0, action := u8 b 1, flags := u8 b 2, scene := u16 b 4, ofs := i16 b 6, scope := u32 b 8, univ := u16 b 12, slot := u16 b 14,
    lo := u8 b 16, hi := u8 b 17, tc := u8 b 20 * 16777216 + u8 b 21 * 65536 + u8 b 22 * 256 + u8 b 23, address := slice b 32 32 }

/-- The 64 bytes of an entry. -/
def cueEntryBytes (e : CueEntry) : Bytes :=
  le 1 e.source ++ le 1 e.action ++ le 1 e.flags ++ zeros 1 ++ le 2 e.scene ++ leI 2 e.ofs ++ le 4 e.scope ++ le 2 e.univ ++ le 2 e.slot ++
    le 1 e.lo ++ le 1 e.hi ++ zeros 2 ++ tcBytes e.tc ++ zeros 8 ++ padTo 32 e.address

/-- The fields of an entry are in range (R339). -/
def cueEntryOk (s : State) (e : CueEntry) : Bool :=
  e.source ≤ 3 && e.action ≤ 2 && e.flags ≤ 7 && (e.source = 0 || e.action = 1 || sceneOk e.scene) && !(e.source = 3 && e.action = 1) &&
    (e.source ≠ 1 || (1 ≤ e.univ && e.univ ≤ 63999 && 1 ≤ e.slot && e.slot ≤ 512)) && (e.source ≠ 3 || tcOk s.prog.cue.cfg.tcRate e.tc)

/-- The distinct universes that a map names. -/
def universesOf (m : Tab CueEntry) : List Nat := ((m.filter (fun e => e.2.source = 1)).map (·.2.univ)).dedup

/-- CUE.CONFIG (R329). -/
def cmdCueConfig : Cmd where
  lens := inlineOnly 16
  absent := fun x s => (List.range 4).any (fun n => netPorts s.variant ≤ n && bit (u8 x.p 0) n)
  range := fun x _ => u8 x.p 0 < 16 && u8 x.p 1 ≤ 2 && u8 x.p 4 ≤ 4 && u8 x.p 5 ≤ 1 && 20 ≤ u16 x.p 6 && u16 x.p 6 ≤ 1000 && u16 x.p 8 ≤ 10000 &&
    (i32 x.p 12).natAbs ≤ 86400
  body := fun x s =>
    let c : CueCfg := { sacnPorts := u8 x.p 0, tcSource := u8 x.p 1, oscPort := u16 x.p 2, tcRate := u8 x.p 4, lead := u16 x.p 6,
                        holdoff := u16 x.p 8, tzOfs := i32 x.p 12 }
    { st := reportGroups s (modCue (fun q => { q with cfg := c, nvs := if u8 x.p 5 = 1 then c else q.nvs }) s) }

/-- CUE.MAP_SET (R339). -/
def cmdCueMapSet : Cmd where
  lens := inlineOnly 68
  range := fun x s => cueEntryOk s (cueEntryOf (x.p.drop 4))
  body := fun x s =>
    let n := u8 x.p 0
    let e := cueEntryOf (x.p.drop 4)
    let m := tabPut {} s.prog.cue.map n (if e.source = 0 then {} else e)
    if 64 < (universesOf m).length then fail .capacity s
    else
      let keep := universesOf m
      { st := reportGroups s (modCue (fun q => { q with map := m, values := tabErase n q.values, lastMs := tabErase n q.lastMs,
                                                        universes := q.universes.filter (fun u => keep.contains u.1) }) s) }

/-- CUE.MAP_GET. -/
def cmdCueMapGet : Cmd where
  lens := inlineOnly 1
  body := fun x s => answer (cueEntryBytes (tabGet {} s.prog.cue.map (u8 x.p 0))) s

/-- CUE.STATUS_GET: four counters for each source, then each universe with the CID that it follows (log 59). -/
def cmdCueStatusGet : Cmd where
  lens := inlineOnly 0
  body := fun _ s =>
    let c := s.prog.cue
    let counts := [1, 2, 3].flatMap (fun i => let n := tabGet {} c.counts i; le 4 n.received ++ le 4 n.discarded ++ le 4 n.fired ++ le 4 n.refused)
    { st := s, sheet := sheetOf (counts ++ (universesOf c.map).flatMap (fun u => le 2 u ++ zeros 2 ++ le 16 (tabGet {} c.universes u).follow)) }

/-! ### Firing (R333 to R335, R339, R470) -/

/-- The bridge works once commands are served, outside STANDBY. -/
def cueLive (s : State) : Bool := s.boot.stage = .ready && s.power.mode ≠ .standby && !s.power.waking

/-- CUE_REFUSED, counted. -/
def cueRefused (n scene : Nat) (e : CueEntry) (st : Status) (s : State) : State :=
  raise 0x0804 (le 1 n ++ zeros 1 ++ le 2 (statusCode st) ++ le 2 scene) (modCueCount e.source (fun c => { c with refused := c.refused + 1 }) s)

/-- CUE_FIRED, counted. -/
def cueFired (n scene apply : Nat) (e : CueEntry) (s : State) : State :=
  raise 0x0803 (le 1 n ++ le 1 e.source ++ le 2 scene ++ zeros 4 ++ le 8 apply)
    (modCueCount e.source (fun c => { c with fired := c.fired + 1 }) (modCue (fun c => { c with lastMs := tabInsert n (s.stem.ms + 1) c.lastMs }) s))

/-- The SSI at which an sACN or OSC cue applies (R334, R470). -/
def cueApply (e : CueEntry) (s : State) : Nat :=
  let lead := roundDivN (s.prog.cue.cfg.lead * fsOp s) 1000
  let at_ := s.stem.ssi + (if e.action = 2 then max lead (msLead s) else lead)
  if bit e.flags 0 then up8 at_ else at_

/-- An entry fires with a value, at an apply SSI. -/
def fireCue (n : Nat) (e : CueEntry) (value : Option Int) (apply : Nat) (s0 : State) : State :=
  if s0.power.mode = .shadow then s0
  else
    let num : Int := if e.action = 1 then (match value with | some v => v + e.ofs | none => 0) else (e.scene : Int)
    let scene := num.toNat
    let last := tabGet 0 s0.prog.cue.lastMs n
    if last ≠ 0 ∧ s0.stem.ms + 1 < last + s0.prog.cue.cfg.holdoff then cueRefused n scene e .busy s0
    else if num < 1 ∨ 1000 < num then cueRefused n (scene % 65536) e .badParam s0
    else if e.action = 2 ∧ ¬ msReady s0 then cueRefused n scene e .mode s0
    else
      let s := modCue (fun c => { c with seq := (c.seq + 1) % 65536 }) s0
      let fl := if e.action = 2 then 2 * b2n (bit e.flags 2) else b2n (bit e.flags 1) + 2 * b2n (bit e.flags 2)
      let x : Ctx := { client := 0xFE, seq := s.prog.cue.seq, role := 2, p := le 2 scene ++ le 1 fl ++ zeros 1 ++ le 4 e.scope, timed := true, at_ := apply }
      let r := if e.action = 2 then issueInternal 0x0C06 cmdMsFlourish x s else issueInternal 0x0802 cmdSceneRecall x s
      if succeeded r.1 then cueFired n scene apply e r.2 else cueRefused n scene e r.1 s

/-! ### sACN (R330, R333) -/

/-- The source of highest priority, the first received among equals. -/
def bestSource (l : List SacnSource) : Option SacnSource :=
  l.foldl (fun b x => match b with
    | none => some x
    | some y => if y.prio < x.prio ∨ (y.prio = x.prio ∧ x.order < y.order) then some x else some y) none

/-- The selection is made again: a newly selected source gives starting values first. -/
def reselect (u : Universe) : Universe :=
  match bestSource u.sources with
  | none => { u with follow := 0, started := false, slots := [] }
  | some b => if u.started ∧ u.follow = b.cid then u else { u with follow := b.cid, started := false, slots := [] }

/-- A sequence number is out of sequence by the E1.31 rule. -/
def sacnStale (last now : Nat) : Bool :=
  let d := sgn 8 ((now + 256 - last) % 256)
  d ≤ 0 && -20 < d

/-- The value of a slot in a packet. -/
def slotOf (b : Bytes) (slot : Nat) : Option Nat := (b[slot - 1]?).map (·.toNat)

/-- A value lies in LO to HI. -/
def cueHits (e : CueEntry) (v : Nat) : Bool := e.lo ≤ v && v ≤ e.hi

/-- The entries of a universe fire on the values that a packet brings. -/
def fireSlots (univ : Nat) (old : Tab Nat) (b : Bytes) (s : State) : State :=
  (s.prog.cue.map.filter (fun e => e.2.source = 1 && e.2.univ = univ)).foldl (fun t e =>
    match slotOf b e.2.slot with
    | none => t
    | some v =>
      let w := tabGet 0 old e.2.slot
      if cueHits e.2 v ∧ (¬ cueHits e.2 w ∨ (e.2.action = 1 ∧ v ≠ w)) then fireCue e.1 e.2 (some v) (cueApply e.2 t) t else t) s

/-- The slot values after a packet. -/
def putSlots (t : Tab Nat) (b : Bytes) : Tab Nat := b.zipIdx.foldl (fun t e => tabPut 0 t (e.2 + 1) e.1.toNat) t

/-- SACN_PACKET_RX (R330, R333). -/
def sacnPacket (p : SacnPacket) (s : State) : State :=
  let c := s.prog.cue
  let drop := modCueCount 1 (fun c => { c with received := c.received + 1, discarded := c.discarded + 1 }) s
  if ¬ cueLive s ∨ ¬ bit c.cfg.sacnPorts p.port ∨ netPorts s.variant ≤ p.port ∨ ¬ (universesOf c.map).contains p.univ then s
  else if p.start ≠ 0 ∨ p.preview then drop
  else
    let u := tabGet {} c.universes p.univ
    match u.sources.find? (fun x => x.cid = p.cid) with
    | some x =>
      if sacnStale x.seq p.seq then drop
      else go u (u.sources.map (fun y => if y.cid = p.cid then { y with prio := p.prio, seq := p.seq, ms := s.stem.ms } else y))
    | none =>
      go u (u.sources ++ [{ cid := p.cid, prio := p.prio, seq := p.seq, ms := s.stem.ms, order := (u.sources.map (·.order)).foldl max 0 + 1 }])
where
  go (u : Universe) (l : List SacnSource) : State :=
    let s1 := modCueCount 1 (fun c => { c with received := c.received + 1 }) s
    let u1 := reselect { u with sources := if p.terminated then l.filter (fun y => y.cid ≠ p.cid) else l }
    let put := fun (v : Universe) (t : State) => modCue (fun c => { c with universes := tabPut {} c.universes p.univ v }) t
    if p.terminated ∨ u1.follow ≠ p.cid then put u1 s1
    else
      let u2 := { u1 with started := true, slots := putSlots u1.slots p.slots }
      if u1.started then fireSlots p.univ u1.slots p.slots (put u2 s1) else put u2 s1

/-- SACN_SOURCE_LOST: 2.5 s without data (R330). -/
def sacnLost (univ cid : Nat) (s : State) : State :=
  let u := tabGet {} s.prog.cue.universes univ
  if u.sources.any (fun x => x.cid = cid && x.ms + 2500 ≤ s.stem.ms) then
    modCue (fun c => { c with universes := tabPut {} c.universes univ (reselect { u with sources := u.sources.filter (fun x => x.cid ≠ cid) }) }) s
  else s

/-! ### OSC (R331, R333) -/

/-- An OSC string: its characters, and what follows its zero padding to four bytes. -/
def oscString (b : Bytes) : Bytes × Bytes :=
  let a := b.takeWhile (· ≠ 0)
  (a, b.drop ((a.length / 4 + 1) * 4))

/-- A binary32 value rounded to the nearest whole number. -/
def f32Round (v : F32) : Option Int :=
  (f32Dy v).map (fun x => if 0 ≤ x.e then x.m * 2 ^ x.e.toNat else roundDiv x.m (2 ^ (-x.e).toNat))

/-- The value of a message: its first argument when that is of type i, or of type f rounded to nearest (R331). -/
def oscValue (tags args : Bytes) : Option Int :=
  let w := (args.take 4).reverse
  if args.length < 4 then none
  else if (tags.map (·.toNat)).take 2 = [44, 105] then some (sgn 32 (u32 w 0))
  else if (tags.map (·.toNat)).take 2 = [44, 102] then f32Round (BitVec.ofNat 32 (u32 w 0))
  else none

/-- The elements of a bundle, each after its size. -/
def oscElements : Nat → Bytes → List Bytes
  | 0, _ => []
  | n + 1, b =>
    let k := u32 (b.take 4).reverse 0
    if b.length < 4 then [] else (b.drop 4).take k :: oscElements n (b.drop (4 + k))

/-- "#bundle" and its zero. -/
def oscBundle : List Nat := [35, 98, 117, 110, 100, 108, 101, 0]

/-- The messages of a packet with their addresses and values, bundles opened and their timetags ignored (R331); `fuel` bounds their number. -/
def oscMessages : Nat → List Bytes → List (Bytes × Option Int)
  | 0, _ => []
  | _, [] => []
  | n + 1, b :: l =>
    if (b.take 8).map (·.toNat) = oscBundle then oscMessages n (oscElements b.length (b.drop 16) ++ l)
    else
      let a := oscString b
      let t := oscString a.2
      (a.1, oscValue t.1 t.2) :: oscMessages n l

/-- The map entries whose address equals a message's: pattern characters are literal (R331). -/
def oscHits (s : State) (addr : Bytes) : List (Nat × CueEntry) :=
  s.prog.cue.map.filter (fun e => e.2.source = 2 && !addr.isEmpty && addr.length ≤ 32 && padTo 32 addr = e.2.address)

/-- One message acts on arrival: each entry that it matches fires when it has no value or one in LO to HI (R331, R333). -/
def oscAct (m : Bytes × Option Int) (s : State) : State :=
  (oscHits s m.1).foldl (fun t e =>
    let fires : Bool := match m.2 with | none => true | some v => decide ((e.2.lo : Int) ≤ v) && decide (v ≤ (e.2.hi : Int))
    if fires then fireCue e.1 e.2 m.2 (cueApply e.2 t) t else t) s

/-- OSC_MESSAGE_RX: a packet on UDP port `port`, from network port `net`. -/
def oscMessage (net port : Nat) (data : Bytes) (s : State) : State :=
  if ¬ cueLive s ∨ netPorts s.variant ≤ net ∨ s.prog.cue.cfg.oscPort = 0 ∨ port ≠ s.prog.cue.cfg.oscPort then s
  else
    let l := oscMessages (data.length + 1) [data]
    let lost : Bool := l.all (fun m => (oscHits s m.1).isEmpty)
    let s1 := modCueCount 2 (fun c => { c with received := c.received + 1, discarded := c.discarded + b2n lost }) s
    l.foldl (fun t m => oscAct m t) s1

/-! ### Timecode (R332, R675, R676) -/

/-- LTC_IN_STATE when the decoder's state changes. -/
def ltcState (new : Nat) (s : State) : State :=
  let l := s.host.ltc
  if l.state = new then s
  else raise 0x0109 (le 1 l.state ++ le 1 new ++ le 1 l.rate) { s with host := { s.host with ltc := { l with state := new } } }

/-- A frame whose time address runs in sequence after the last one. -/
def ltcFollows (l : Ltc) (f : LtcFrame) : Bool :=
  l.state ≠ 0 && l.good ≠ 0 && l.rate = f.rate && f.time = tcAddress f.rate (tcIndex f.rate l.time + 1)

/-- LTC_FRAME_DECODED: the frame is taken, the decoder locks or leaves LOCKED, and the triggers whose frame is two ahead are armed
for the predicted start `start` of that frame (R332, R675). -/
def ltcFrame (f : LtcFrame) (start : Nat) (s : State) : State :=
  let l := s.host.ltc
  let put := fun (q : Ltc) => { s with host := { s.host with ltc := q } }
  if ¬ f.valid then
    let t := put { l with errors := (l.errors + 1) % 2 ^ 32, good := 0, bad := l.bad + 1 }
    if l.state = 0 ∨ (l.state = 2 ∧ 4 ≤ l.bad + 1) then ltcState 1 t else t
  else
    let seq := ltcFollows l f
    let good := if seq then l.good + 1 else 1
    let bad := if seq then 0 else l.bad + 1
    let t := put { l with rate := f.rate, df := f.df, cf := f.cf, time := f.time, user := f.user, good := good, bad := bad }
    let st := if 4 ≤ good then 2 else if l.state = 2 ∧ bad < 4 then 2 else 1
    let t1 := ltcState st t
    if s.prog.cue.cfg.tcSource ≠ 1 ∨ ¬ cueLive s then t1
    else
      let t2 := modCueCount 3 (fun c => { c with received := c.received + 1 }) t1
      let target := tcAddress f.rate (tcIndex f.rate f.time + 2)
      if ¬ seq then t2
      else (t2.prog.cue.map.filter (fun e => e.2.source = 3 && e.2.tc = target)).foldl (fun u e => fireCue e.1 e.2 none start u) t2

/-- LTC_IN_LOST: four frames missing (R675). -/
def ltcLost (s : State) : State := ltcState 0 { s with host := { s.host with ltc := { s.host.ltc with good := 0, bad := 0 } } }

/-- TIMECODE_TRIGGER: entry `n` reaches its frame `k`, counted from local midnight. From PTP it is armed between two and three frames ahead
for the first sample of that frame (R332, R334); from LTC_IN the decoder arms it. -/
def timecodeTrigger (n k : Nat) (s : State) : State :=
  let c := s.prog.cue.cfg
  match s.prog.cue.map.find? (fun e => e.1 = n && e.2.source = 3) with
  | none => s
  | some (_, e) =>
    if c.tcSource ≠ 2 ∨ ¬ s.stem.aligned ∨ ¬ cueLive s ∨ k ≠ tcIndex c.tcRate e.tc then s
    else
      let now := sinceMidnight s c.tzOfs
      let day := 86400 * fsOp s
      let go := (frameStart s c.tcRate k + day - now) % day
      if frameStart s c.tcRate 2 ≤ go ∧ go < frameStart s c.tcRate 3 then
        fireCue n e none (s.stem.ssi + go) (modCueCount 3 (fun c => { c with received := c.received + 1 }) s)
      else s

/-- The fields of a frame's 80 bits, with their widths, bit 0 first: units, tens and user groups in turn, the flags, and the sync word. The
places are those of ST 12-1 (R676; PRESUMED, log 101): at 25 frames/s BGF0 and the polarity-correction bit change places with those of the
other rates. `pol` is the polarity-correction bit. -/
def ltcFields (c : LtcCfg) (t : Nat) (pol : Bool) : List (Nat × Nat) :=
  let u := fun j => (fld c.user (4 * j) 4, 4)
  let h := t / 16777216
  let m := t / 65536 % 256
  let s := t / 256 % 256
  let f := t % 256
  let b0 := b2n (bit c.flags 0)
  let b2 := b2n (bit c.flags 1)
  let q : Bool := c.rate = 1
  [(f % 10, 4), u 0, (f / 10, 2), (b2n (c.rate = 2), 1), (0, 1), u 1, (s % 10, 4), u 2, (s / 10, 3), (if q then b0 else b2n pol, 1), u 3,
   (m % 10, 4), u 4, (m / 10, 3), (if q then b2 else b0, 1), u 5, (h % 10, 4), u 6, (h / 10, 2), (0, 1), (if q then b2n pol else b2, 1), u 7,
   (0xBFFC, 16)]

/-- Fields packed from bit 0 up. -/
def packFields : List (Nat × Nat) → Nat
  | [] => 0
  | (v, w) :: l => v + 2 ^ w * packFields l

/-- The ones among the lowest `n` bits. -/
def onesBelow (bits n : Nat) : Nat := ((List.range n).filter (fun j => bit bits j)).length

/-- The 80 bits of a frame: the polarity-correction bit makes their zeros even in number (R676). -/
def ltcBits (c : LtcCfg) (t : Nat) : Nat :=
  let n := packFields (ltcFields c t false)
  if onesBelow n 80 % 2 = 0 then n else packFields (ltcFields c t true)

/-- The frame after one that has been sent. -/
def ltcNext (s : State) (c : LtcCfg) (e : LtcSent) : LtcSent :=
  let f := tcFrame e.rate
  let t := tcAddress e.rate (tcIndex e.rate e.time + 1)
  { bits := ltcBits { c with rate := e.rate } t, rate := e.rate, time := t, start := e.start + (f.1 * fsOp s * 1000000000000 / f.2 : Nat) }

/-- The half bit cells of a frame that have begun at time `x` (R676). -/
def ltcHalves (s : State) (e : LtcSent) (x : Int) : Nat :=
  let f := tcFrame e.rate
  ((x - e.start) * 160 * (f.2 : Int) / ((f.1 * fsOp s * 1000000000000 : Nat) : Int)).toNat

/-- Biphase mark: the level changes at the start of every cell and in the middle of a cell that holds a one; a frame begins with a rise. -/
def ltcLevel (bits half : Nat) : Bool := (half / 2 + onesBelow bits (half / 2) + (if half % 2 = 1 ∧ bit bits (half / 2) then 1 else 0)) % 2 = 0

/-- The level of LTC_OUT at time `x`: of the frame sent last that has begun, or of the one that follows it (R85, R676). -/
def ltcHigh (s : State) (x : Int) : Bool :=
  let l := s.host.ltc
  match l.sent.find? (fun e => decide (e.start ≤ x)) with
  | none => false
  | some e =>
    let h := ltcHalves s e x
    if h < 160 then ltcLevel e.bits h
    else
      let n := ltcNext s (l.next.getD l.cfg) e
      ltcLevel n.bits (min 159 (ltcHalves s n x))

/-- The frame of the local day, counted from midnight, in which the present sample lies, under the settings that wait (R676). -/
def ltcDayFrame (s : State) : Nat :=
  let cfg := s.host.ltc.next.getD s.host.ltc.cfg
  sinceMidnight s cfg.tzOfs * (tcFrame cfg.rate).2 / (fsOp s * (tcFrame cfg.rate).1)

/-- LTC_OUT_FRAME: frame `k` of the local day begins under the settings that wait; its time address is the timecode of its first sample
(R676). -/
def ltcOutFrame (k : Nat) (s : State) : State :=
  if ¬ ltcRuns s ∨ ¬ s.stem.stemLock ∨ k ≠ ltcDayFrame s then s
  else
    let l := s.host.ltc
    let cfg := l.next.getD l.cfg
    let f := tcFrame cfg.rate
    let now := sinceMidnight s cfg.tzOfs
    let t := tcAddress cfg.rate k
    let at_ : Int := ((s.stem.ssi : Int) - (now : Int)) * 1000000000000 + (k * f.1 * fsOp s * 1000000000000 / f.2 : Nat)
    let e : LtcSent := { bits := ltcBits cfg t, rate := cfg.rate, time := t, start := at_ }
    { s with host := { s.host with ltc := { l with cfg := cfg, next := none, outTime := t, sent := (e :: l.sent).take 2 } } }

/-! ### The meanings -/

/-- CUE_CONFIG (R329). -/
def execCueConfig (r : Request) (s : State) : Host.Outcome State Fault Refusal := serve 0x0810 cmdCueConfig r s
/-- CUE_MAP_SET (R339). -/
def execCueMapSet (r : Request) (s : State) : Host.Outcome State Fault Refusal := serve 0x0811 cmdCueMapSet r s
/-- CUE_MAP_GET (R333). -/
def execCueMapGet (r : Request) (s : State) : Host.Outcome State Fault Refusal := serve 0x0812 cmdCueMapGet r s
/-- CUE_STATUS_GET (R330). -/
def execCueStatusGet (r : Request) (s : State) : Host.Outcome State Fault Refusal := serve 0x0813 cmdCueStatusGet r s
/-- SACN_PACKET_RX (R330). -/
def execSacnPacketRx (p : SacnPacket) (s : State) : Host.Outcome State Fault Refusal := .next (sacnPacket p (msBegin s))
/-- SACN_SOURCE_LOST (R330). -/
def execSacnSourceLost (univ cid : Nat) (s : State) : Host.Outcome State Fault Refusal := .next (sacnLost univ cid s)
/-- OSC_MESSAGE_RX (R331). -/
def execOscMessageRx (net port : Nat) (data : Bytes) (s : State) : Host.Outcome State Fault Refusal :=
  .next (oscMessage net port data (msBegin s))
/-- LTC_FRAME_DECODED (R675). -/
def execLtcFrameDecoded (f : LtcFrame) (start : Nat) (s : State) : Host.Outcome State Fault Refusal := .next (ltcFrame f start (msBegin s))
/-- LTC_IN_LOST (R675). -/
def execLtcInLost (s : State) : Host.Outcome State Fault Refusal := .next (ltcLost s)
/-- TIMECODE_TRIGGER (R332). -/
def execTimecodeTrigger (n k : Nat) (s : State) : Host.Outcome State Fault Refusal := .next (timecodeTrigger n k (msBegin s))
/-- LTC_OUT_FRAME (R676). -/
def execLtcOutFrame (k : Nat) (s : State) : Host.Outcome State Fault Refusal := .next (ltcOutFrame k s)

end Sys2Proof.Machine
end

