-- ==== Sys2Proof/Machine/Restore.lean ====
section
/-! DEFINITION. The resume record taken back into the engine (chapter 04): at READY, on a rejoining shadow and after Copybook. -/

namespace Sys2Proof.Machine

/-- Apply a record: Serif ports, streams, routes, Sheen, instances, shed priorities, pool numbers, bus roles and safe masks (R127,
R128, R320). -/
def applyRecord (r : ResumeRec) (s : State) : State :=
  let s1 := r.serif.foldl (fun t e => setPortCfg e.1 e.2 t) s
  let s2 := r.rx.foldl (fun t e => takeRxEntry e.1 e.2 t) s1
  let s3 := r.tx.foldl (fun t e => takeTxEntry e.1 e.2 t) s2
  let sinks := r.sinks.foldl (fun t e => tabPut {} t e.1 { live := e.2.1, next := e.2.1, cfg := e.2.2 }) []
  let xbus := r.xbus.foldl (fun t e => tabInsert e.1 { role := e.2.1, headroom := e.2.2.1, remotes := e.2.2.2.1, sink := e.2.2.2.2 } t) []
  { s3 with lig := { s3.lig with sinks := sinks, srcOwner := r.srcOwn, snkOwner := r.snkOwn }, sheen := { s3.sheen with image := r.sheen },
            prog := { s3.prog with insts := r.insts, safes := r.safes }, rt := { s3.rt with prio := r.prio },
            ms := { s3.ms with xbus := xbus } }

end Sys2Proof.Machine
end

