-- ==== Sys2Proof/Machine/Twin.lean ====
section
/-! DEFINITION. The twin pair: pairing, the journal, digests and checks, takeovers, handovers and rejoining (chapter 16,
opcodes 0x0B01 to 0x0B05). -/

namespace Sys2Proof.Machine

/-! ### Frames -/

/-- A received frame is valid (R480). -/
def frameOk (h : TwinHead) (s : State) : Bool := h.crcOk && h.pair = s.twin.cfg.pair

/-- A frame arrives: an invalid one is discarded and counted, a valid one shows the partner alive (R480, R493). Only a twin
partner has the link. -/
def withFrame (h : TwinHead) (f : State → State) (s : State) : State :=
  if ¬ isPartner s then s
  else if ¬ frameOk h s then modTwin (fun w => { w with linkErr := w.linkErr + 1 }) s
  else f (modTwin (fun w => { w with frames := w.frames + 1 }) s)

/-- A valid frame of any type but HELLO counts only while the link is up (R481). -/
def withLink (h : TwinHead) (f : State → State) (s : State) : State := withFrame h (fun t => if t.twin.linkUp then f t else t) s

/-- The fields of this unit's HELLO: key hash, nonce and signature (R480). -/
def twinHello (s : State) : State :=
  let n := draw Config.nonceBytes s
  let g := draw Config.signature n.2
  twinSend 1 (le 32 s.life.idKeyHash ++ padTo 16 n.1 ++ padTo 64 g.1) (modTwin (fun w => { w with helloMs := s.stem.ms }) g.2)

/-! ### Pairing (R476) -/

/-- The grandmaster that this engine follows. -/
def followedGm (s : State) : Nat := msGm s

/-- The first pairing condition that fails against the partner's HELLO, 0 for none. -/
def formCauseOf (p : TwinPeer) (s : State) : Nat :=
  let w := s.twin
  if p.keyHash ≠ w.cfg.key ∨ ¬ p.sigOk ∨ s.life.idKey.isNone then 1
  else if p.pair ≠ w.cfg.pair ∨ p.unit = w.cfg.unit then 2
  else if p.claim = w.cfg.claim then 3
  else if ¬ s.stem.aligned ∨ ¬ p.aligned ∨ p.gm ≠ followedGm s then 4
  else if p.family ≠ s.stem.family ∨ p.mult ≠ s.stem.mult then 5
  else if p.sw ≠ s.dx.sw ∨ p.patch ≠ s.lig.patch then 6
  else if p.part ≠ partOf s.variant then 7
  else 0

/-- Pairing is judged: a passing COLD unit asks an ACTIVE partner for a snapshot (R476, R478, R500). -/
def judgePair (s : State) : State :=
  match s.twin.hello with
  | none => s
  | some p =>
    let c := formCauseOf p s
    let t := modTwin (fun w => { w with formCause := c, helloOk := c = 0, retryMs := s.stem.ms }) s
    if c = 0 ∧ t.twin.state = 3 ∧ t.twin.heard ∧ t.twin.pState = 1 then modTwin (fun w => { w with forming := false, snapReq := true }) t else t

/-- TWIN_HELLO_RX: the link comes up at the first valid HELLO, and pairing is judged (R476, R481). -/
def twinHelloRx (h : TwinHead) (nonce : Nat) (p : TwinPeer) (s : State) : State :=
  withFrame h (fun s =>
    let up := s.twin.linkUp
    let s1 := modTwin (fun w => { w with linkUp := true, silent := 0, nonce := nonce, hello := some p }) s
    let s2 := if up then s1 else twinHello (raise 0x0B05 (le 1 0 ++ le 1 1) s1)
    judgePair s2) s

/-- PAIRING_RETRY: a failing pairing is judged again every 1 s (R476). -/
def pairingRetry (s : State) : State :=
  if isPartner s ∧ s.twin.formCause ≠ 0 ∧ s.twin.linkUp ∧ s.twin.retryMs + 1000 ≤ s.stem.ms then judgePair s else s

/-! ### The claim (R478, R489, R490, R494, R496) -/

/-- The mode follows the Twin state, but for a unit in DEGRADED, which enters SHADOW only by way of SHOW once it may leave (R137, R143). -/
def twinMode (m : Mode) (s : State) : State := if s.power.mode = .degraded then s else enterMode m 6 s

/-- The unit becomes ACTIVE at a boundary, with TWIN_TAKEOVER and the mode change (R479). A handover counts as one. -/
def takeClaim (kind claim stop : Nat) (s : State) : State :=
  let s1 := modTwin (fun w => { w with claim := claim, sole := kind = 4, forming := false, heldSince := lastBoundary s, actAt := none, snapSent := none,
                                       unacked := [], snapReq := false, handover := none,
                                       takeovers := if kind = 2 then w.takeovers else w.takeovers + 1,
                                       handovers := if kind = 2 then w.handovers + 1 else w.handovers,
                                       pState := if kind = 0 ∨ kind = 1 ∨ kind = 4 then 0 else w.pState,
                                       gateOpen := if kind = 0 ∨ kind = 2 then w.gateOpen else true, openAt := if kind = 0 ∨ kind = 2 then w.openAt else none,
                                       closeAt := none,
                                       serifAt := if kind = 0 ∨ kind = 2 then w.serifAt else some (lastBoundary s + 1, true) }) s
  let s2 := twinMode .showing (twinState 1 0 s1)
  let s3 := raise 0x0B02 (le 1 kind ++ le 1 claim ++ zeros 6 ++ le 8 stop) s2
  if kind = 2 then s3 else vellumCount 61 s3

/-- The unit leaves ACTIVE for a shadow's state at a boundary (R479, R488, R497). -/
def becomeShadow (new cause : Nat) (s : State) : State :=
  let s1 := modTwin (fun w => { w with sole := false, actAt := none, gateOpen := false, openAt := none, unacked := [], snap := none,
                                       snapReq := new = 3, claimOut := false }) s
  twinMode .shadow (twinState new cause s1)

/-- A shadow becomes COLD and needs a snapshot. -/
def becomeCold (s : State) : State :=
  let s1 := modTwin (fun w => { w with snap := none, snapReq := true, moved := false, digests := [], check := none }) (dropHandover s)
  twinState 3 0 s1

/-- The change that waits for this boundary takes effect. -/
def twinAct (s : State) : State :=
  match s.twin.actAt with
  | none => s
  | some a =>
    if s.stem.ssi < a.at_ then s
    else if a.state = 1 then takeClaim a.kind s.twin.cfg.claim a.stop s
    else becomeShadow a.state a.cause s

/-- The CLAIM_EXT streams and the SHARED ports that a dissolved shadow leaves gated until each is reconfigured (R506). -/
def leaveGated (s : State) : State :=
  let tx := (s.quill.tx.filter (fun e => enOf e.2.entry && claimOf e.2.entry)).map (·.1)
  let ports := (s.serif.ports.filter (fun e => serShared e.2.cfg)).map (·.1)
  let gate := fun (n : Nat) (p : SerPort) => if ports.contains n then { p with gate := false, driving := false } else p
  let serif := { s.serif with ports := s.serif.ports.map (fun e => (e.1, gate e.1 e.2)) }
  { s with twin := { s.twin with gatedTx := tx, gatedPorts := ports }, serif := serif }

/-- TWIN.DISSOLVE takes effect: an ACTIVE unit stays in SHOW with its claim; a shadow enters SHOW with its gates shut (R506). -/
def dissolveBoundary (s : State) : State :=
  match s.twin.dissolveAt with
  | none => s
  | some b =>
    if s.stem.ssi < b then s
    else
      let active : Bool := s.twin.state = 1
      let s0 := modTwin (fun w => { w with dissolveAt := none, actAt := none, sole := false, unacked := [], forming := false }) (dropHandover s)
      let s1 := twinState 0 0 (modTwin (fun w => { w with gateOpen := true, openAt := none, closeAt := none }) s0)
      let s2 := modTwin (fun w => { w with partner := false, linkUp := false, heard := false, claimOut := false }) s1
      if active then s2 else twinMode .showing (leaveGated s2)

/-! ### The link (R481, R493) -/

/-- The link goes down: a WARM shadow becomes COLD, an active unit loses its journal's reader. -/
def twinLinkDown (s : State) : State :=
  if ¬ isPartner s ∨ ¬ s.twin.linkUp ∨ s.twin.silent < 2 then s
  else
    let s1 := raise 0x0B05 (le 1 0 ++ le 1 0) (modTwin (fun w => { w with linkUp := false, heard := false, helloOk := false, unacked := [], snapSent := none }) s)
    if s.twin.state = 2 then becomeCold s1 else if s.twin.state = 3 then modTwin (fun w => { w with snap := none, moved := false, matches_ := 0 }) s1 else s1

/-- SILENT_DEATH: a shadow that has known an ACTIVE partner takes the claim after two periods silent on both channels (R493). -/
def silentDeath (s : State) : State :=
  let w := s.twin
  if isPartner s ∧ (w.state = 2 ∨ w.state = 3) ∧ w.pState = 1 ∧ 2 ≤ w.silent ∧ 2 ≤ w.noEdge ∧ s.stem.ssi % 8 = 0 then
    takeClaim 1 w.cfg.claim 0 (dropHandover s)
  else s

/-- The two channels of the period that ends are judged: silence, CLAIM_IN and CLAIM_FAULT (R493). -/
def twinChannels (edge : Bool) (s : State) : State :=
  if ¬ isPartner s then s
  else
    let w := s.twin
    let noEdge := if edge then 0 else w.noEdge + 1
    let ok : Bool := decide (noEdge < 2)
    let fault : Bool := !edge && w.frames ≠ 0 && (w.state = 2 || w.state = 3) && w.pState = 1
    let s1 := modTwin (fun w => { w with noEdge := noEdge, silent := if w.frames = 0 then w.silent + 1 else 0, frames := 0, claimInOk := ok,
                                         claimFault := if fault then w.claimFault + 1 else w.claimFault }) s
    if ok = w.claimInOk then s1 else raise 0x0B05 (le 1 1 ++ le 1 (b2n ok)) s1

/-! ### Formation (R478) -/

/-- FORM_WAIT_EXPIRY: with no claim held, the higher configured claim takes it; with no partner heard the unit takes it as sole. -/
def formWaitExpiry (s : State) : State :=
  let w := s.twin
  let next := nextBoundary s
  let take := fun (kind : Nat) => modTwin (fun w => { w with forming := false, actAt := some { at_ := next, state := 1, kind := kind } }) s
  if ¬ isPartner s ∨ ¬ w.forming ∨ w.state ≠ 3 ∨ s.stem.ms < w.formMs + 100 * w.cfg.wait then s
  else if ¬ w.heard ∧ ¬ w.linkUp then (if w.claimInOk then s else take 4)
  else if w.pState = 1 then modTwin (fun w => { w with forming := false, snapReq := true }) s
  else if ¬ w.helloOk then s
  else match w.hello with
  | none => s
  | some p => if w.pState = 4 ∨ p.claim < w.cfg.claim then take 3 else modTwin (fun w => { w with forming := false }) s

/-! ### Digests and checks (R484 to R486) -/

/-- The unexplained mismatches of the last 10 s. -/
def unexplainedNow (s : State) : List Nat := s.twin.unexplMs.filter (fun t => s.stem.ms < t + 10000)

/-- DIGEST_MISMATCH. -/
def tellMismatch (result period : Nat) (s : State) : State :=
  raise 0x0B04 (le 1 result ++ le 1 (unexplainedNow s).length ++ zeros 6 ++ le 8 period) s

/-- Both units' results are known: R486. -/
def judgeCheck (s : State) : State :=
  match s.twin.check with
  | some { period := p, own := some o, partner := some r } =>
    let s1 := modTwin (fun w => { w with check := none }) s
    let active : Bool := s.twin.state = 1
    match o, r with
    | 2, 2 => if active then modTwin (fun w => { w with sole := true }) (tellMismatch 3 p s1) else giveUpCause 6 0 (tellMismatch 3 p s1)
    | 2, _ => giveUpCause 6 0 (tellMismatch 1 p s1)
    | _, 2 => tellMismatch 2 p s1
    | _, _ =>
      let s2 := vellumCount 62 (modTwin (fun w => { w with unexplained := w.unexplained + 1, unexplMs := unexplainedNow s ++ [s.stem.ms] }) s1)
      let s3 := tellMismatch 0 p s2
      if ¬ active ∧ s.twin.state = 2 ∧ 3 ≤ (unexplainedNow s2).length then becomeCold (modTwin (fun w => { w with unexplMs := [] }) s3) else s3
  | _ => s

/-- The mismatch check starts: CHECK is sent (R486). -/
def startCheck (period : Nat) (s : State) : State :=
  if s.twin.check.isSome then s
  else twinSend 7 (le 8 period ++ le 1 0) (modTwin (fun w => { w with check := some { period := period } }) s)

/-- MISMATCH_CHECK_DONE. -/
def checkDone (passed : Bool) (s : State) : State :=
  match s.twin.check with
  | none => s
  | some c =>
    if c.own.isSome then s
    else
      let r := if passed then 1 else 2
      judgeCheck (twinSend 7 (le 8 c.period ++ le 1 r) (modTwin (fun w => { w with check := some { c with own := some r } }) s))

/-- TWIN_CHECK_RX. -/
def checkRx (h : TwinHead) (period result : Nat) (s : State) : State :=
  withLink h (fun s =>
    if s.twin.state ≠ 1 ∧ s.twin.state ≠ 2 then s
    else
      let s1 := startCheck period s
      match s1.twin.check with
      | some c => if result = 0 then s1 else judgeCheck (modTwin (fun w => { w with check := some { c with partner := some result } }) s1)
      | none => s1) s

/-- The shadow is WARM (R500). -/
def becomeWarm (s : State) : State := twinState 2 0 (modTwin (fun w => { w with cause := 0, snapReq := false, snap := none }) s)

/-- A period's digests are compared: mismatches count while the shadow is WARM; a rejoining shadow counts matches (R485, R500). -/
def compareDigest (period digest : Nat) (miss : Bool) (s : State) : State :=
  let w := s.twin
  match w.digests.find? (fun d => d.1 = period) with
  | none => s
  | some d =>
    let s1 := modTwin (fun w => { w with digests := w.digests.filter (fun e => decide (period < e.1)) }) s
    if w.state = 3 then
      if ¬ w.moved then s1
      else if d.2.1 ≠ digest then modTwin (fun w => { w with matches_ := 0 }) s1
      else if 8 ≤ w.matches_ + 1 then becomeWarm s1
      else modTwin (fun w => { w with matches_ := w.matches_ + 1 }) s1
    else if ¬ (w.state = 2 ∨ (w.state = 1 ∧ w.pState = 2)) ∨ d.2.1 = digest then s1
    else
      let s2 := modTwin (fun w => { w with mismatches := w.mismatches + 1 }) s1
      if miss ∨ d.2.2 then tellMismatch 4 period s2 else startCheck period s2

/-! ### STATUS (R485, R490, R496, R498) -/

/-- The partner is seen ACTIVE outside a handover with the higher claim, or with the same claim as unit A: this unit's Serif gates
close at once (R496). -/
def claimGate (f : TwinStatus) (s : State) : State :=
  let w := s.twin
  if w.state = 1 ∧ f.state = 1 ∧ ¬ bit f.flags 1 ∧ (w.claim < f.claim ∨ (w.claim = f.claim ∧ w.cfg.unit = 1)) then setGates false s else s

/-- Two ACTIVE units meet: the one that has held the claim for less time yields at the next boundary (R498). -/
def unitsMeet (f : TwinStatus) (s : State) : State :=
  let w := s.twin
  let other := match w.hello with | some p => p.claim | none => 0
  if w.state ≠ 1 ∨ f.state ≠ 1 ∨ bit f.flags 1 ∨ w.handover.isSome ∨ w.actAt.isSome then s
  else if f.held < w.heldSince ∨ (f.held = w.heldSince ∧ w.cfg.claim < other) then
    let b := nextBoundary s
    modTwin (fun w => { w with actAt := some { at_ := b, state := 3 }, closeAt := some b, serifAt := some (b, false) }) s
  else s

/-- TWIN_STATUS_RX. -/
def statusRx (f : TwinStatus) (s : State) : State :=
  withLink f.head (fun s =>
    let s1 := modTwin (fun w => { w with heard := true, pState := f.state, partnerClaim := f.claim, pFlags := f.flags, partnerIp := f.ip, pGm := f.gm,
                                         pHeld := f.held, sole := w.sole && !(f.state = 2),
                                         snapSent := if f.state = 3 then w.snapSent else none }) s
    let s2 := if s1.twin.state = 3 ∧ f.state = 1 ∧ s1.twin.helloOk then modTwin (fun w => { w with forming := false, snapReq := !w.moved }) s1 else s1
    let early : Bool := match s2.twin.handover with | some h => !h.began | none => false
    let s3 := if early ∧ s2.twin.state = 1 ∧ f.state ≠ 2 then dropHandover s2 else s2
    compareDigest f.period f.digest (bit f.flags 0) (unitsMeet f (claimGate f s3))) s

/-! ### Give-up (R487 to R491) -/

/-- TWIN_GIVEUP_RX: a WARM shadow takes the claim from STOP_SSI (R489). -/
def giveUpRx (h : TwinHead) (stop : Nat) (s : State) : State :=
  withLink h (fun s =>
    if s.twin.state ≠ 2 then s
    else modTwin (fun w => { w with claim := w.cfg.claim, openAt := some stop, closeAt := none, serifAt := some (stop, true),
                                    actAt := some { at_ := nextBoundary s, state := 1, kind := 0, stop := stop } }) (dropHandover s)) s

/-- A FAULTED unit's cause has cleared as R491 states. -/
def causeCleared (s : State) : Bool :=
  let w := s.twin
  match w.cause with
  | 1 => s.boot.inkBasic && s.boot.stage = .ready
  | 2 => (overfull s).isEmpty
  | 3 => w.causeMs < s.rt.scrubMs
  | 4 => (match s.power.wdtTripMs with | some t => t + 10000 ≤ s.stem.ms | none => true)
  | 5 => s.bl.state = .locked && followedGm s = w.pGm
  | _ => w.causeMark < s.rt.passes

/-- GIVEUP_CAUSE_CLEARED. -/
def giveUpCleared (s : State) : State :=
  if isPartner s ∧ s.twin.state = 4 ∧ causeCleared s then becomeCold (modTwin (fun w => { w with cause := 0 }) s) else s

/-! ### Handover (R497, R504, R505) -/

/-- A handover is armed at `point`. -/
def armHandover (point claim : Nat) (cmd : Option (Nat × Nat)) (timed incoming : Bool) (s : State) : State :=
  twinSend 6 (le 8 point ++ le 1 claim) (modTwin (fun w => { w with handover := some { point := point, newClaim := claim, cmd := cmd, incoming := incoming, timed := timed } }) s)

/-- TWIN_HANDOVER_RX: the incoming unit arms it; an ACTIVE unit that the shadow's TWIN.PROMOTE asks arms it and answers (log 60). -/
def handoverRx (h : TwinHead) (point claim : Nat) (s : State) : State :=
  withLink h (fun s =>
    if s.twin.handover.isSome then s
    else if s.twin.state = 2 then modTwin (fun w => { w with handover := some { point := point, newClaim := claim, cmd := none, incoming := true } }) s
    else if s.twin.state = 1 ∧ s.twin.pState = 2 then armHandover point claim none false false s
    else s) s

/-- HANDOVER_POINT: at H the incoming unit opens its gates and carries the new claim, and Serif's drive passes (R497). -/
def handoverPoint (s : State) : State :=
  match s.twin.handover with
  | none => s
  | some h =>
    if h.began ∨ s.stem.ssi < h.point then s
    else if h.timed ∧ ¬ s.ink.armed.any (fun a => a.opcode = 0x0B03 && h.cmd = some (a.client, a.seq)) then modTwin (fun w => { w with handover := none }) s
    else
      let s1 := modTwin (fun w => { w with handover := some { h with began := true } })
        { s with ink := { s.ink with armed := s.ink.armed.filter (fun a => ¬ (a.opcode = 0x0B03 ∧ h.cmd = some (a.client, a.seq))) } }
      if h.incoming then modTwin (fun w => { w with claim := h.newClaim, openAt := some h.point, closeAt := none, serifAt := some (h.point, true) }) s1
      else modTwin (fun w => { w with closeAt := some (h.point + 8), serifAt := some (h.point, false) }) s1

/-- HANDOVER_END: at H + 8 the states swap (R497). -/
def handoverEnd (s : State) : State :=
  match s.twin.handover with
  | none => s
  | some h =>
    if ¬ h.began ∨ s.stem.ssi < h.point + 8 then s
    else if h.incoming then takeClaim 2 h.newClaim h.point (modTwin (fun w => { w with pState := 2 }) s)
    else becomeShadow 2 0 (modTwin (fun w => { w with handover := none, handovers := w.handovers + 1, pState := 1 }) s)

/-! ### The journal at the shadow (R482, R483) -/

/-- The turn of a Flourish that the active unit has committed, as its journal carries it (R452). -/
def cmdFlourishTurn : Cmd where
  lens := inlineOnly 8
  body := fun x s =>
    match mapGet s.prog.scenes (u16 x.p 0) with
    | none => fail .badParam s
    | some sc => armRecall 0x0C06 { x with timed := true } (u16 x.p 0) sc (u32 x.p 4) (u8 x.p 2 % 8) x.at_ s

/-- The commands that a journal carries. -/
def cmdOf (op : Nat) : Option Cmd :=
  match op with
  | 0x0401 => some cmdNetPortConfig
  | 0x0403 => some cmdNetPtpConfig
  | 0x0405 => some cmdNetQuillConfig
  | 0x0410 => some cmdNetRxSet
  | 0x0412 => some cmdNetTxSet
  | 0x0420 => some cmdNetNmosConfig
  | 0x0501 => some cmdSerConfig
  | 0x0601 => some cmdLigRouteSet
  | 0x0603 => some cmdLigSinkConfig
  | 0x0604 => some cmdLigGainSet
  | 0x0605 => some cmdLigFallback
  | 0x0606 => some cmdLigPatchSet
  | 0x0701 => some cmdInstCreate
  | 0x0702 => some cmdInstDelete
  | 0x0703 => some cmdInstSet
  | 0x0706 => some cmdInstRename
  | 0x0710 => some cmdInstCoefSet
  | 0x0801 => some cmdSceneStore
  | 0x0802 => some cmdSceneRecall
  | 0x0803 => some cmdSceneDelete
  | 0x0806 => some cmdSceneImport
  | 0x0807 => some cmdSceneSafeSet
  | 0x0810 => some cmdCueConfig
  | 0x0811 => some cmdCueMapSet
  | 0x0822 => some cmdFolioWrite
  | 0x0901 => some cmdSheenConfig
  | 0x0902 => some cmdSheenLoudReset
  | 0x0910 => some cmdSheenSetDefine
  | 0x0911 => some cmdSheenSetDelete
  | 0x0C05 => some cmdMsLeave
  | 0x0C06 => some cmdFlourishTurn
  | _ => none

/-- An untimed entry's action takes the recorded apply SSI. -/
def retime (e : TwinEntry) (order : Nat) (s : State) : State :=
  let f := fun (a : Armed) => if order ≤ a.order ∧ ¬ bit e.flags 2 then { a with applySsi := e.applySsi } else a
  { s with ink := { s.ink with armed := s.ink.armed.map f, sched := s.ink.sched.map f } }

/-- The recorded lane of a new instance (R249). -/
def relane (e : TwinEntry) (s : State) : State :=
  match e.lane with
  | some l => if e.opcode = 0x0701 then modInst (65536 * u8 e.payload 0 + u16 e.payload 2) (fun i => { i with lane := l }) s else s
  | none => s

/-- The shadow executes an entry; one that it cannot execute leaves it out of step. -/
def replay (e : TwinEntry) (s : State) : State :=
  let x : Ctx := { client := e.client, seq := e.seq, p := e.payload, sh := e.sheet, fit := bit e.flags 0, timed := bit e.flags 2, at_ := e.applySsi }
  match cmdOf e.opcode with
  | none => becomeCold s
  | some c =>
    let q := perform e.opcode c (if e.opcode = 0x0C06 then { x with timed := false, p := x.p } else x) s
    if succeeded q.status then relane e (retime e s.ink.order (q.after q.st)) else becomeCold s

/-- J_ACK. -/
def sendAck (jsn : Nat) (s : State) : State := twinSend 4 (le 8 jsn) s

/-- TWIN_JOURNAL_RX (R483). -/
def journalRx (e : TwinEntry) (s : State) : State :=
  withLink e.head (fun s =>
    let w := s.twin
    if ¬ (w.state = 2 ∨ (w.state = 3 ∧ w.snap.isNone ∧ ¬ w.snapReq)) then s
    else if e.jsn ≤ w.jsn then sendAck e.jsn s
    else if e.jsn ≠ w.jsn + 1 then becomeCold s
    else if e.applySsi < s.stem.ssi + 16 then becomeCold (modTwin (fun w => { w with journalLate := w.journalLate + 1 }) s)
    else sendAck e.jsn (modTwin (fun w => { w with jsn := e.jsn }) (replay e s))) s

/-- TWIN_J_ACK_RX: the entry is no longer resent (R483). -/
def ackRxTwin (h : TwinHead) (jsn : Nat) (s : State) : State :=
  withLink h (modTwin (fun w => { w with unacked := w.unacked.filter (fun e => e.jsn ≠ jsn) })) s

/-- JOURNAL_RESEND: every entry not yet acknowledged is sent again (R483). -/
def journalResend (s : State) : State :=
  if isPartner s ∧ s.twin.state = 1 ∧ s.twin.linkUp then s.twin.unacked.foldl (fun t e => twinSend 3 (journalFrame e) t) s else s

/-! ### Rejoining (R500) -/

/-- What the active unit captures at a boundary. -/
def capture (s : State) : Snapshot :=
  { jsn := s.twin.jsn, rec_ := snapshotNow s, armed := s.ink.armed ++ s.ink.sched,
    fills := (s.serif.ports.filter (fun e => !serMaster e.2.cfg)).map (fun e => (e.1, e.2.rxBuf.length, e.2.txBuf.length)) }

/-- The SNAP frames of `b`, captured or stated at boundary `at_`: each holds at most the 8,192-byte payload less the 16 bytes before
its data (R480). -/
def sendSnap (at_ : Nat) (b : Bytes) (s : State) : State :=
  (List.range ((b.length + 8175) / 8176)).foldl (fun t i => twinSend 8 (le 8 at_ ++ le 4 (8176 * i) ++ le 4 b.length ++ (b.drop (8176 * i)).take 8176) t) s

/-- The active unit captures a snapshot at a boundary for a COLD partner and sends it; from the next one on it sends the signal state of
one instance, and then of one sink, at each (R500). -/
def snapshotBoundary (s : State) : State :=
  let w := s.twin
  if ¬ (isPartner s ∧ w.state = 1 ∧ w.linkUp ∧ w.heard ∧ w.helloOk ∧ w.pState = 3) then s
  else if w.snapSent.isNone then
    let all := s.prog.insts.map (·.1) ++ s.lig.sinks.map (fun e => 0x1000000 + e.1)
    sendSnap s.stem.ssi (Config.snapshotBytes (capture s)) (modTwin (fun w => { w with snapSent := some s.stem.ssi, toMove := all }) s)
  else match w.toMove with
  | [] => s
  | k :: rest =>
    let g : Signals := if k < 0x1000000 then { insts := s.prog.insts.filter (fun e => e.1 = k) }
      else { sinks := s.lig.sinks.filter (fun e => 0x1000000 + e.1 = k) }
    sendSnap s.stem.ssi (Config.signalBytes g) (modTwin (fun w => { w with toMove := rest }) s)

/-- A buffer of `n` frames: the newest of `buf`, or its newest frame repeated. -/
def fillTo (n : Nat) (buf : List (List Sample)) (last : List Sample) : List (List Sample) :=
  buf.drop (buf.length - n) ++ List.replicate (n - buf.length) (repeatedFrame (buf.getLastD last))

/-- The shadow adopts the buffer fills of its slave Serif ports (R500). -/
def adoptFills (l : Tab (Nat × Nat)) (s : State) : State :=
  l.foldl (fun t e => modPort e.1 (fun p => if serMaster p.cfg then p else
    { p with rxBuf := fillTo (min 4 e.2.1) p.rxBuf p.rxLast, txBuf := fillTo (min 4 e.2.2) p.txBuf p.txLast }) t) s

/-- A whole snapshot is loaded: configuration, LIVE and NEXT folios, armed actions and the JSN. The roles of the exchange buses are the
unit's own (R501). -/
def loadSnapshot (b : Bytes) (s : State) : State :=
  let k := Config.snapshotOf b
  let s1 := adoptFills k.fills (applyRecord { k.rec_ with xbus := (snapshotNow s).xbus } s)
  vellumCount 63 (modTwin (fun w => { w with jsn := k.jsn, snap := none, snapReq := false, resyncs := w.resyncs + 1, moved := false, matches_ := 0, digests := [] })
    { s1 with ink := { s1.ink with armed := k.armed, sched := [] } })

/-- Signal state that has moved overwrites the shadow's own: filters, dynamics, ramps, delay history, and the stage of a sink (R500). -/
def takeSignals (g : Signals) (s : State) : State :=
  let inst := fun (k : Nat) (i : Inst) => match g.insts.find? (fun e => e.1 = k) with
    | some e => { i with ramps := e.2.ramps, fades := e.2.fades, held := e.2.held, lines := e.2.lines, insert := e.2.insert, sects := e.2.sects,
                         dyn := e.2.dyn, olds := e.2.olds }
    | none => i
  let sink := fun (n : Nat) (k : Sink) => match g.sinks.find? (fun e => e.1 = n) with
    | some e => { e.2 with live := k.live, next := k.next, arm := k.arm, cfg := k.cfg, cfgDue := k.cfgDue }
    | none => k
  { s with prog := { s.prog with insts := s.prog.insts.map (fun e => (e.1, inst e.1 e.2)) },
           lig := { s.lig with sinks := s.lig.sinks.map (fun e => (e.1, sink e.1 e.2)) } }

/-- TWIN_SNAP_RX: frames of the snapshot in order, and once it is loaded frames of signal state; `moved` says that with this frame all of
it has moved (R500, log 60). -/
def snapRx (h : TwinHead) (at_ offset total : Nat) (data : Bytes) (moved : Bool) (s : State) : State :=
  withLink h (fun s =>
    let s0 := if s.twin.state = 2 ∧ offset = 0 ∧ 0 < total ∧ ¬ moved then becomeCold s else s
    let w := s0.twin
    if w.state ≠ 3 then s0
    else if ¬ w.snapReq ∧ w.snap.isNone then
      let s1 := takeSignals (Config.signalsOf data) s0
      if moved then modTwin (fun w => { w with moved := true, matches_ := 0 }) s1 else s1
    else
      let have_ := match w.snap with | some p => if p.1 = at_ then p.2 else [] | none => []
      if offset ≠ have_.length then s0
      else
        let b := have_ ++ data
        if total ≤ b.length then loadSnapshot (b.take total) s0 else modTwin (fun w => { w with snap := some (at_, b) }) s0) s

/-! ### What happens at a boundary -/

/-- The Twin unit's work at a period boundary: the channels, the link, silent death, states that change, handover and snapshot. -/
def twinBoundary (edge : Bool) (s : State) : State :=
  snapshotBoundary (dissolveBoundary (handoverEnd (handoverPoint (twinAct (twinLinkDown (silentDeath (twinChannels edge s)))))))

/-- STATUS at sample position 4, with CLAIM_OUT (R480, R492). -/
def twinStatusSend (s : State) : State :=
  if ¬ isPartner s then s
  else
    let w := s.twin
    let d := w.digests.getLastD (0, 0, false)
    let hand : Bool := match w.handover with | some h => h.began | none => false
    let toggles : Bool := (w.state = 1 && w.claim ≠ 0) || (hand && (match w.handover with | some h => h.incoming | none => false))
    let b := le 8 d.1 ++ le 8 d.2.1 ++ le 1 w.state ++ le 1 w.claim ++ le 1 (b2n d.2.2 + 2 * b2n hand + 4 * b2n w.sole) ++ le 1 w.cause ++
      le 4 (servedIp s) ++ le 8 (followedGm s) ++ le 8 w.heldSince
    twinSend 2 b (modTwin (fun w => { w with claimOut := toggles && !w.claimOut }) s)
where
  servedIp (s : State) : Nat := addrOf s 0 0

/-- The gates that change at the frame of this sample (R405, R488, R489, R497). -/
def twinGates (s : State) : State :=
  let s1 := match s.twin.serifAt with
    | some (u, open_) => if u ≤ s.stem.ssi then setGates open_ (modTwin (fun w => { w with serifAt := none }) s) else s
    | none => s
  let w := s1.twin
  let s2 := match w.openAt with | some u => if u ≤ s.stem.ssi then modTwin (fun w => { w with gateOpen := true, openAt := none }) s1 else s1 | none => s1
  match s2.twin.closeAt with | some u => if u ≤ s.stem.ssi then modTwin (fun w => { w with gateOpen := false, closeAt := none }) s2 else s2 | none => s2

/-! ### The commands -/

/-- TWIN.STATUS_GET. -/
def cmdTwinStatusGet : Cmd where
  lens := inlineOnly 0
  body := fun _ s =>
    let w := s.twin
    answer (le 1 w.state ++ le 1 (if w.heard then w.pState else 0xFF) ++ le 1 w.cfg.unit ++ le 1 w.claim ++ le 1 w.cfg.claim ++ le 1 w.partnerClaim ++
      le 2 w.cfg.pair ++ le 1 (b2n w.linkUp + 2 * b2n w.claimInOk + 4 * b2n w.sole + 8 * b2n w.handover.isSome + 16 * b2n w.gateOpen) ++ le 1 w.cause ++
      le 1 w.formCause ++ zeros 1 ++ le 4 w.partnerIp ++ le 8 w.heldSince ++ le 8 w.jsn ++ le 4 w.giveups ++ le 4 w.takeovers ++ le 4 w.handovers ++
      le 4 w.mismatches ++ le 4 w.unexplained ++ le 4 w.resyncs ++ le 4 w.linkErr ++ le 4 w.journalLate) s

/-- TWIN.CONFIG (R503). -/
def cmdTwinConfig : Cmd where
  lens := inlineOnly 40
  range := fun x s =>
    u8 x.p 0 ≤ 1 && u8 x.p 1 ≤ 1 && 1 ≤ u8 x.p 2 && 1 ≤ u16 x.p 4 && 5 ≤ u16 x.p 6 && u16 x.p 6 ≤ 300 && ofLe (slice x.p 8 32) ≠ s.life.idKeyHash
  body := fun x s =>
    { st := modTwin (fun w => { w with nvs := { en := u8 x.p 0 = 1, unit := u8 x.p 1, claim := u8 x.p 2, pair := u16 x.p 4, wait := u16 x.p 6,
                                                key := ofLe (slice x.p 8 32) } }) s }

/-- The claim that the incoming unit takes (R494). -/
def newClaim (s : State) : Nat :=
  let w := s.twin
  if w.state = 1 then max (match w.hello with | some p => p.claim | none => 0) (w.claim + 1) else max w.cfg.claim (w.partnerClaim + 1)

/-- The pair has a WARM shadow (R504). -/
def pairWarm (s : State) : Bool := (s.twin.state = 1 && partnerWarm s) || (s.twin.state = 2 && s.twin.linkUp && s.twin.pState = 1)

/-- TWIN.PROMOTE, in the order of R504. -/
def promoteBody (x : Ctx) (s : State) : Res :=
  let lead := roundDivN (20 * fsOp s) 1000
  let h := if x.timed then x.at_ else up8 (s.stem.ssi + lead)
  if ¬ pairWarm s then fail .mode s
  else if s.twin.handover.isSome ∨ 255 < newClaim s then fail .busy s
  else
    let s1 := armHandover h (newClaim s) (some (x.client, x.seq)) x.timed (s.twin.state = 2) s
    { st := if x.timed then schedule x { client := x.client, seq := x.seq, opcode := 0x0B03, applySsi := h } s1 else s1,
      data := le 8 h ++ le 1 (newClaim s) }

/-- The command TWIN.PROMOTE. -/
def cmdTwinPromote : Cmd where
  lens := inlineOnly 0
  range := fun x _ => !x.timed || x.at_ % 8 = 0
  lead := fun s => roundDivN (20 * fsOp s) 1000
  body := promoteBody
  arm := some promoteBody

/-- TWIN.RESYNC (R505). -/
def cmdTwinResync : Cmd where
  lens := inlineOnly 0
  body := fun _ s =>
    let w := s.twin
    if w.state = 2 ∨ w.state = 3 then { st := s, after := becomeCold }
    else if w.state = 1 ∧ w.heard ∧ (w.pState = 2 ∨ w.pState = 3) then { st := modTwin (fun w => { w with snapSent := none, pState := 3 }) s }
    else fail .mode s

/-- TWIN.DISSOLVE (R506). -/
def cmdTwinDissolve : Cmd where
  lens := inlineOnly 1
  range := fun x _ => u8 x.p 0 ≤ 1
  body := fun x s =>
    if ¬ isPartner s then fail .mode s
    else { st := modTwin (fun w => { w with dissolveAt := some (nextBoundary s), nvs := if u8 x.p 0 = 1 then { w.nvs with en := false } else w.nvs }) s }

/-! ### The meanings -/

/-- TWIN_STATUS_GET (R477). -/
def execTwinStatusGet (r : Request) (s : State) : Host.Outcome State Fault Refusal := serve 0x0B01 cmdTwinStatusGet r s
/-- TWIN_CONFIG (R503). -/
def execTwinConfig (r : Request) (s : State) : Host.Outcome State Fault Refusal := serve 0x0B02 cmdTwinConfig r s
/-- TWIN_PROMOTE (R504). -/
def execTwinPromote (r : Request) (s : State) : Host.Outcome State Fault Refusal := serve 0x0B03 cmdTwinPromote r s
/-- TWIN_RESYNC (R500). -/
def execTwinResync (r : Request) (s : State) : Host.Outcome State Fault Refusal := serve 0x0B04 cmdTwinResync r s
/-- TWIN_DISSOLVE (R506). -/
def execTwinDissolve (r : Request) (s : State) : Host.Outcome State Fault Refusal := serve 0x0B05 cmdTwinDissolve r s
/-- TWIN_HELLO_RX (R476). -/
def execTwinHelloRx (h : TwinHead) (nonce : Nat) (peer : TwinPeer) (s : State) : Host.Outcome State Fault Refusal := .next (twinHelloRx h nonce peer s)
/-- TWIN_STATUS_RX (R485). -/
def execTwinStatusRx (f : TwinStatus) (s : State) : Host.Outcome State Fault Refusal := .next (statusRx f s)
/-- TWIN_JOURNAL_RX (R483). -/
def execTwinJournalRx (e : TwinEntry) (s : State) : Host.Outcome State Fault Refusal := .next (journalRx e s)
/-- TWIN_J_ACK_RX (R483). -/
def execTwinJAckRx (h : TwinHead) (jsn : Nat) (s : State) : Host.Outcome State Fault Refusal := .next (ackRxTwin h jsn s)
/-- JOURNAL_RESEND (R483). -/
def execJournalResend (s : State) : Host.Outcome State Fault Refusal := .next (journalResend s)
/-- GIVEUP_CAUSE (R488). -/
def execGiveupCause (cause ns : Nat) (s : State) : Host.Outcome State Fault Refusal :=
  .next (if 1 ≤ cause ∧ cause ≤ 6 then giveUpCause cause ns s else s)
/-- TWIN_GIVEUP_RX (R489). -/
def execTwinGiveupRx (h : TwinHead) (_cause stop : Nat) (s : State) : Host.Outcome State Fault Refusal := .next (giveUpRx h stop s)
/-- TWIN_HANDOVER_RX (R497). -/
def execTwinHandoverRx (h : TwinHead) (point claim : Nat) (s : State) : Host.Outcome State Fault Refusal := .next (handoverRx h point claim s)
/-- HANDOVER_POINT (R497). -/
def execHandoverPoint (s : State) : Host.Outcome State Fault Refusal := .next (handoverPoint s)
/-- HANDOVER_END (R497). -/
def execHandoverEnd (s : State) : Host.Outcome State Fault Refusal := .next (handoverEnd s)
/-- TWIN_CHECK_RX (R486). -/
def execTwinCheckRx (h : TwinHead) (period result : Nat) (s : State) : Host.Outcome State Fault Refusal := .next (checkRx h period result s)
/-- MISMATCH_CHECK_DONE (R486). -/
def execMismatchCheckDone (passed : Bool) (s : State) : Host.Outcome State Fault Refusal := .next (checkDone passed s)
/-- TWIN_SNAP_RX (R500). -/
def execTwinSnapRx (h : TwinHead) (at_ offset total : Nat) (data : Bytes) (moved : Bool) (s : State) : Host.Outcome State Fault Refusal :=
  .next (snapRx h at_ offset total data moved s)
/-- TWIN_LINK_DOWN (R481). -/
def execTwinLinkDown (s : State) : Host.Outcome State Fault Refusal := .next (twinLinkDown s)
/-- SILENT_DEATH (R493). -/
def execSilentDeath (s : State) : Host.Outcome State Fault Refusal := .next (silentDeath s)
/-- FORM_WAIT_EXPIRY (R478). -/
def execFormWaitExpiry (s : State) : Host.Outcome State Fault Refusal := .next (formWaitExpiry s)
/-- PAIRING_RETRY (R476). -/
def execPairingRetry (s : State) : Host.Outcome State Fault Refusal := .next (pairingRetry s)
/-- GIVEUP_CAUSE_CLEARED (R491). -/
def execGiveupCauseCleared (s : State) : Host.Outcome State Fault Refusal := .next (giveUpCleared s)

end Sys2Proof.Machine
end

