-- ==== Sys2Proof/Machine/Copybook.lean ====
section
/-! DEFINITION. Copybook: its tests, runs and results (chapter 21, opcodes 0x0E20 to 0x0E23). -/

namespace Sys2Proof.Machine

/-- Change Copybook. -/
def modCb (f : Copybook → Copybook) (s : State) : State := { s with cb := f s.cb }

/-- ESTIMATE_MS of a run. -/
def cbEstimate (s : State) (mask : Nat) : Nat := sumN ((cbRuns s mask).map (cbDuration s))

/-- Where DIAGNOSE may run: BLANK and RETURNED (R619). -/
def diagnoseOpen (s : State) : Bool := s.life.state = 0 || s.life.state = 3

/-- A run begins: the tested units stop and lose their state, their memories reading as never written (R617, R618, log 116). -/
def cbStart (mode mask : Nat) (s : State) : State :=
  let runs := cbRuns s mask
  let results := (cbSelected mask).foldl (fun (t : Tab CbTest) n => if cbPresent s n then t else tabPut {} t n { result := 2 }) []
  let s1 := modCb (fun c => { c with busy := true, aborting := false, rej := false, startMs := s.stem.ms, runNo := c.runNo + 1, mode := mode, state := 0,
                                     tests := mask, results := results, records := [], fifo := [], elapsed := 0 }) s
  let s2 := if runs.contains 7 then (List.range (netPorts s.variant)).foldl (fun t n => linkDown n t) s1 else s1
  let s3 := if runs.contains 8 then stopPorts s2 else s2
  let lost := fun (l : Tab Cart) => l.map (fun e => if e.1 < 10 ∨ e.1 = 12 ∨ e.1 = 13 then (e.1, { e.2 with words := [], discard := false }) else e)
  let s4 := { s3 with feed := { s3.feed with
      carts := if runs.contains 6 then lost s3.feed.carts else s3.feed.carts, store := if runs.contains 2 then [] else s3.feed.store,
      barrel := if runs.contains 3 then [] else s3.feed.barrel, xmi := if runs.contains 13 then [] else s3.feed.xmi } }
  if runs.contains 13 then { s4 with prog := { s4.prog with scenes := [] } } else s4

/-- CB.RUN, in the order of R626. -/
def cbRunBody (x : Ctx) (s : State) : Res :=
  let mask := u16 x.p 2
  if mask = 0 ∨ mask % 2 = 1 ∨ 1 < u8 x.p 0 then fail .badParam s
  else if s.cb.busy then fail .busy s
  else { st := cbStart (u8 x.p 0) mask s, data := le 4 (s.cb.runNo + 1) ++ le 4 (cbEstimate s mask) }

/-- The command CB.RUN (R619). -/
def cmdCbRun : Cmd where
  lens := inlineOnly 4
  lifecycle := fun x s => u8 x.p 0 ≠ 1 || diagnoseOpen s
  body := cbRunBody

/-- CB.LIST. -/
def cmdCbList : Cmd where
  lens := inlineOnly 0
  body := fun _ s =>
    { st := s, sheet := sheetOf (cbTests.flatMap (fun t => le 1 t ++ le 1 (b2n (cbPresent s t)) ++ le 1 (b2n (cbRestart t)) ++ le 1 (cbKind t) ++
        le 4 (if cbPresent s t then cbDuration s t else 0) ++ le 8 (if cbKind t = 0 then Config.exemplar t else 0))) }

/-- CB.ABORT (R627). -/
def cbAbort (s : State) : State := if s.cb.busy then modCb (fun c => { c with aborting := true }) s else s

/-- The command CB.ABORT. -/
def cmdCbAbort : Cmd where
  lens := inlineOnly 0
  body := fun _ s => { st := cbAbort s }

/-- The result sheet (R622). -/
def cbSheet (s : State) : Bytes :=
  let c := s.cb
  let rec_ := fun (t : Nat) =>
    let r := tabGet {} c.results t
    le 1 t ++ le 1 r.result ++ zeros 2 ++ le 4 r.fails ++ le 8 r.sig ++ le 8 r.exemplar
  le 4 c.runNo ++ le 1 c.mode ++ le 1 c.state ++ le 2 c.tests ++ le 4 c.records.length ++ le 4 (cbElapsed s) ++ cbTests.flatMap rec_ ++ c.records.flatten

/-- CB.RESULT_GET. -/
def cmdCbResultGet : Cmd where
  lens := inlineOnly 4
  body := fun x s => { st := s, sheet := if s.cb.runNo = 0 then none else sheetOf (slice (cbSheet s) (u32 x.p 0) 4096) }

/-- The record of a test that has run: a logic test passes when its signature equals its exemplar, a memory test when it finds no
failing bit (R620). -/
def cbResult (o : CbOutcome) : CbTest :=
  if cbKind o.test = 0 then
    { result := b2n (o.sig % 2 ^ 64 ≠ Config.exemplar o.test % 2 ^ 64), fails := o.fails, sig := o.sig, exemplar := Config.exemplar o.test }
  else { result := b2n (o.fails ≠ 0), fails := o.fails }

/-- After a run with a Restart test the tested units take back the configuration held at entry to MAINTENANCE, and the engine
enters COMMISSION at the next boundary (R618). -/
def cbReload (s : State) : State :=
  let s1 := match s.entry with
    | some e => applyRecord e.rec_ { s with dx := { s.dx with sw := e.sw } }
    | none => s
  modPower (fun p => { p with pending := p.pending ++ [{ target := .commission, atSsi := nextBoundary s, cause := 7 }] }) (startPorts s1)

/-- COPYBOOK_DONE: the run ends, complete or aborted, with the outcome of each test that ran (R618, R620 to R622, R627, R628). -/
def cbDone (outs : List CbOutcome) (s : State) : State :=
  let c := s.cb
  let runs := cbRuns s c.tests
  let got := outs.filter (fun o => runs.contains o.test)
  let done := runs.filter (fun t => got.any (fun o => o.test = t))
  if ¬ c.busy ∨ (¬ c.aborting ∧ done ≠ runs) then s
  else
    let r1 := got.foldl (fun t o => tabPut {} t o.test (cbResult o)) c.results
    let results := (runs.filter (fun t => ¬ done.contains t)).foldl (fun t n => tabPut {} t n { result := 3 }) r1
    let records := if c.mode = 1 then got.flatMap (fun o => (o.records.map (padTo 16)).take 1024) else []
    let failed := (results.filter (fun e => e.2.result = 1))
    let state := if done = runs then 1 else 2
    let s1 := modCb (fun c => { c with busy := false, aborting := false, state := state, results := results, records := records,
                                       fifo := (records.take 1024).flatMap (fun r => chunks 4 4 r), elapsed := s.stem.ms - c.startMs }) s
    let s2 := failed.foldl (fun t e => vellumLog 12 e.1 c.runNo e.2.fails t) (vellumAdd 76 failed.length (vellumCount 75 s1))
    let s3 := if runs.any cbRestart then cbReload s2 else s2
    raise 0x0E07 (le 4 c.runNo ++ le 1 state ++ le 1 failed.length ++ le 2 c.tests ++ le 4 (s.stem.ms - c.startMs)) s3

/-- CB_CTRL.GO: a run from CB_SEL, or REJ (R619, R626). -/
def cbGo (s : State) : State :=
  let mask := s.cb.sel % 65536
  let mode := fld s.cb.sel 16 1
  if s.power.mode ≠ .maintenance ∨ (mode = 1 ∧ ¬ diagnoseOpen s) ∨ mask = 0 ∨ mask % 2 = 1 ∨ s.cb.busy then modCb (fun c => { c with rej := true }) s
  else cbStart mode mask s

/-- CB_FIFO: the next word of the next fail record leaves the FIFO (R628); an empty FIFO reads 0. -/
def cbFifoRead (s : State) : State :=
  regRead (ofLe (s.cb.fifo.headD [])) (modCb (fun c => { c with fifo := c.fifo.tail }) s)

/-! ### The meanings -/

/-- CB_LIST (R615). -/
def execCbList (r : Request) (s : State) : Host.Outcome State Fault Refusal := serve 0x0E20 cmdCbList r s
/-- CB_RUN (R626). -/
def execCbRun (r : Request) (s : State) : Host.Outcome State Fault Refusal := serve 0x0E21 cmdCbRun r s
/-- CB_ABORT (R627). -/
def execCbAbort (r : Request) (s : State) : Host.Outcome State Fault Refusal := serve 0x0E22 cmdCbAbort r s
/-- CB_RESULT_GET (R622). -/
def execCbResultGet (r : Request) (s : State) : Host.Outcome State Fault Refusal := serve 0x0E23 cmdCbResultGet r s
/-- COPYBOOK_DONE (R618). -/
def execCopybookDone (outs : List CbOutcome) (s : State) : Host.Outcome State Fault Refusal := .next (cbDone outs s)
/-- CB_CTRL_GO (R626). -/
def execCbCtrlGo (s : State) : Host.Outcome State Fault Refusal := .next (if expertMode s then cbGo s else s)
/-- CB_CTRL_ABORT (R627). -/
def execCbCtrlAbort (s : State) : Host.Outcome State Fault Refusal := .next (if expertMode s then cbAbort s else s)
/-- CB_FIFO_READ (R628). -/
def execCbFifoRead (s : State) : Host.Outcome State Fault Refusal := .next (if expertMode s then cbFifoRead s else s)

end Sys2Proof.Machine
end

