-- ==== Sys2Proof/Machine/Firmware.lean ====
section
/-! DEFINITION. Firmware images and their checks, the slots of the flash, the boot preference and the resume settings
(chapter 04). -/

namespace Sys2Proof.Machine

/-- Change what boot holds. -/
def modBoot (f : Boot → Boot) (s : State) : State := { s with boot := f s.boot }

/-! ### Images (R113, R665) -/

/-- The flash offset of a slot. -/
def slotBase (n : Nat) : Nat := if n = 0 then 0x00100000 else 0x00A00000

/-- The bytes of a source: slot A, slot B, or the host image load area. -/
def imageBytes (s : State) (src o n : Nat) : Bytes :=
  if src ≤ 1 then flashRead s (slotBase src + o) n else memRead 0 s.boot.loadArea o n

/-- A source holds a valid header. -/
def headerOk (h : Bytes) : Bool := u32 h 0 = 0x5350524E && u16 h 4 = 1 && u32 h 12 ≤ 0x00800000

/-- What the checks say of an image: the failure code (0 is NONE) and whether it may run all the same, its SVN and its version. -/
structure ImageCheck where
  code : Nat
  runs : Bool
  svn  : Nat := 0
  ver  : Nat := 0
  deriving DecidableEq, Repr

/-- The signature part of the checks: KEY, SIG, or none. -/
def signCode (s : State) (h : Bytes) : Nat :=
  if s.life.fwKeyHash ≠ some (sha256 (slice h 56 64)) then 3
  else if ecdsaOk (slice h 56 64) (slice h 120 64) (h.take 120) then 0 else 4

/-- The checks of an image in a life-cycle state (R113). -/
def checkImage (state src : Nat) (s : State) : ImageCheck :=
  let h := imageBytes s src 0 256
  let svn := u8 h 6
  if ¬ headerOk h then { code := 1, runs := false }
  else if sha256 (imageBytes s src 256 (u32 h 12)) ≠ slice h 24 32 then { code := 2, runs := false }
  else
    let sig := signCode s h
    if state = 0 then { code := 0, runs := true, svn := svn, ver := u32 h 8 }
    else if state = 1 then { code := sig, runs := true, svn := svn, ver := u32 h 8 }
    else if sig ≠ 0 then { code := sig, runs := false }
    else if svn < s.boot.svnOtp then { code := 5, runs := false }
    else { code := 0, runs := true, svn := svn, ver := u32 h 8 }

/-- The other slot: the one that the running image did not come from, or the preferred slot. -/
def otherSlot (s : State) : Nat := if s.boot.slot = 2 then s.boot.pref else 1 - s.boot.slot

/-! ### The commands -/

/-- SYS.BOOT_INFO. -/
def cmdBootInfo : Cmd where
  lens := inlineOnly 0
  body := fun _ s =>
    let b := s.boot
    let h := imageBytes s (otherSlot s) 0 256
    answer (le 1 b.slot ++ le 1 (b2n b.fallback + 2 * b2n b.unverified) ++ le 1 b.svnOtp ++ le 1 b.svnImg ++ le 4 b.fwVer ++ le 1 b.failA ++
      le 1 b.failB ++ le 1 b.failHost ++ le 1 s.life.state ++ le 4 b.resetCause ++ le 4 b.readyMs ++
      le 4 (if headerOk h then u32 h 8 else 0) ++ le 1 (if headerOk h then u8 h 6 else 0) ++ zeros 3) s

/-- SYS.FW_WRITE (R131). A write whose verification fails leaves the slot as it was (R210, log 53). -/
def cmdFwWrite : Cmd where
  lens := inlineWithSheet 12
  fits := fun x => x.sh.length = u32 x.p 8
  range := fun x _ => u8 x.p 0 ≤ 1 && u32 x.p 4 % 4096 = 0 && 1 ≤ u32 x.p 8 && u32 x.p 8 ≤ 4096 && u32 x.p 4 + u32 x.p 8 ≤ 0x00900000
  body := fun x s =>
    let n := u8 x.p 0
    if s.boot.slot = n then fail .busy s
    else
      let s1 := if bit (u8 x.p 1) 0 then flashErase (slotBase n) 0x00900000 s else s
      let s2 := flashWrite (slotBase n + u32 x.p 4) x.sh s1
      if bit (u8 x.p 1) 1 then
        let c := checkImage s.life.state n s2
        let k := u32 (imageBytes s2 n 0 256) 12
        if c.runs then { st := sealUse (sha256 (imageBytes s2 n 256 k)) k s2 } else fail .badParam s (le 1 c.code)
      else { st := s2 }

/-- SYS.FW_SELECT (R132). -/
def cmdFwSelect : Cmd where
  lens := inlineOnly 4
  range := fun x _ => u8 x.p 0 ≤ 1 && u8 x.p 1 ≤ 1
  body := fun x s => { st := modBoot (fun b => { b with pref := u8 x.p 0, source := u8 x.p 1 }) s }

/-- SYS.FW_COMMIT (R114): an SVN above the 64 fuses, which only BLANK and PROVISIONED accept, blows them all (log 110). -/
def cmdFwCommit : Cmd where
  lens := inlineOnly 0
  body := fun _ s =>
    let b := s.boot
    if min 64 b.svnImg ≤ b.svnOtp then { st := s }
    else
      let h := imageBytes s (otherSlot s) 0 256
      { st := vellumCount 77 (modBoot (fun q => { q with svnOtp := min 64 b.svnImg }) s),
        warns := if headerOk h ∧ u8 h 6 < min 64 b.svnImg then [{ code := 5, group := 1 }] else [] }

/-- SYS.RESUME_SET (R128). -/
def cmdResumeSet : Cmd where
  lens := inlineOnly 4
  range := fun x _ => u8 x.p 0 ≤ 1 && zeroOr 10 3600 (u16 x.p 2)
  body := fun x s => { st := modBoot (fun b => { b with resumeMode := u8 x.p 0, autosave := u16 x.p 2 }) s }

/-- SYS.RESUME_SAVE: the record is stored, then the reply is written (R127). -/
def cmdResumeSave : Cmd where
  lens := inlineOnly 0
  body := fun _ s => { st := writeResume s }

/-- SYS.RESTART takes effect at the next period boundary for SCOPE 1, and at once for SCOPE 0 once its reply is written
(R105, R130). -/
def rebootDue (s : State) : State :=
  vellumCount 14 (modBoot (fun b => { b with restartDue := true }) s)

/-! ### The meanings -/

/-- SYS_BOOT_INFO. -/
def execSysBootInfo (r : Request) (s : State) : Host.Outcome State Fault Refusal := serve 0x0130 cmdBootInfo r s
/-- SYS_FW_WRITE (R131). -/
def execSysFwWrite (r : Request) (s : State) : Host.Outcome State Fault Refusal := serve 0x0132 cmdFwWrite r s
/-- SYS_FW_SELECT (R132). -/
def execSysFwSelect (r : Request) (s : State) : Host.Outcome State Fault Refusal := serve 0x0133 cmdFwSelect r s
/-- SYS_FW_COMMIT (R114). -/
def execSysFwCommit (r : Request) (s : State) : Host.Outcome State Fault Refusal := serve 0x0134 cmdFwCommit r s
/-- SYS_RESUME_SET (R128). -/
def execSysResumeSet (r : Request) (s : State) : Host.Outcome State Fault Refusal := serve 0x0135 cmdResumeSet r s
/-- SYS_RESUME_SAVE (R127). -/
def execSysResumeSave (r : Request) (s : State) : Host.Outcome State Fault Refusal := serve 0x0136 cmdResumeSave r s

end Sys2Proof.Machine
end

