-- ==== Sys2Proof/Machine/Life.lean ====
section
/-! DEFINITION. The life-cycle commands: nonces, owner authorisation, transitions, attestation and JTAG (chapter 21). -/

namespace Sys2Proof.Machine

/-- Change the life-cycle unit. -/
def modLife (f : Life → Life) (s : State) : State := { s with life := f s.life }

/-- Internal scan is open (R610, R611). -/
def scanOpen (s : State) : Bool := s.life.state = 0 || s.life.state = 3

/-- The authorisations are locked (R607). -/
def authLocked (s : State) : Bool := 8 ≤ s.life.invalid

/-- The Scribe debug port is open (R611). -/
def debugOpen (s : State) : Bool := s.life.debugOpen || scanOpen s

/-- FLAGS of LC.STATUS_GET. -/
def lifeFlags (s : State) : Nat :=
  let l := s.life
  b2n l.retPending + 2 * b2n (debugOpen s) + 4 * b2n (scanOpen s) + 8 * b2n l.fwKeyHash.isSome + 16 * b2n l.ownerHash.isSome + 32 * b2n (authLocked s)

/-- ID_KEY_HASH: zero without an identity key. -/
def idHash (s : State) : Nat := if hasIdentity s then s.life.idKeyHash else 0

/-- LC.STATUS_GET. -/
def cmdLcStatusGet : Cmd where
  lens := inlineOnly 0
  body := fun _ s =>
    let l := s.life
    answer (le 1 l.state ++ le 1 (lifeFlags s) ++ le 1 s.boot.svnOtp ++ zeros 5 ++ le 8 l.serial ++ le 6 s.quill.macBase ++ zeros 2 ++
      padTo 32 (l.fwKeyHash.getD []) ++ padTo 32 (l.ownerHash.getD []) ++ le 32 (idHash s) ++ le 2 l.tpRev ++ le 1 l.year ++ le 1 l.week ++
      le 2 l.colsUsed ++ le 1 l.avsBin ++ le 1 l.grade) s

/-- LC.NONCE_GET: a fifth nonce replaces the oldest (R606). -/
def cmdLcNonceGet : Cmd where
  lens := inlineOnly 0
  lifecycle := fun _ s => !s.life.retPending
  body := fun _ s =>
    let n := padTo 16 (Config.nonceBytes s.draws)
    let l := if 4 ≤ s.life.nonces.length then s.life.nonces.tail else s.life.nonces
    { st := modLife (fun q => { q with nonces := l ++ [(n, s.stem.ms)] }) { s with draws := s.draws + 1 }, data := n ++ le 4 60000 }

/-- The message that an authorisation signs. -/
def authMessage (s : State) (action : Nat) (nonce : Bytes) : Bytes :=
  [0x47, 0x41, 0x52, 0x4E, 0x45, 0x2D, 0x4C, 0x43].map (BitVec.ofNat 8) ++ le 8 s.life.serial ++ le 1 action ++ zeros 7 ++ nonce

/-- An authorisation is valid (R606). -/
def authValid (s : State) (action : Nat) (p : Bytes) : Bool :=
  let nonce := slice p 0 16
  s.life.nonces.any (fun e => e.1 = nonce && s.stem.ms ≤ e.2 + 60000)
    && s.life.ownerHash = some (sha256 (slice p 16 64)) && ecdsaOk (slice p 16 64) (slice p 80 64) (authMessage s action nonce)

/-- A presentation consumes its nonce, and an invalid one counts (R606, R607). -/
def present (ok : Bool) (p : Bytes) (s : State) : State :=
  modLife (fun l => { l with nonces := l.nonces.filter (fun e => e.1 ≠ slice p 0 16), invalid := if ok then l.invalid else l.invalid + 1 }) s

/-- A transition: LIFECYCLE, Vellum's count and its log entry. -/
def lifeChanged (old : Nat) (s : State) : State :=
  raise 0x0106 (le 1 old ++ le 1 s.life.state ++ le 1 (lifeFlags s)) s

/-- Count a transition in Vellum (R625, R631, R635). -/
def countTransition (old new : Nat) (s : State) : State := vellumLog 13 0 old new (vellumCount 74 s)

/-- Generate an identity key pair (R604). -/
def makeIdentity (s : State) : State :=
  let k := padTo 64 (Config.keyPub s.draws)
  modLife (fun l => { l with idKey := some s.draws, idPub := k, idKeyHash := ofLe (sha256 k) }) { s with draws := s.draws + 1 }

/-- LC.PROVISION (R608, R625). -/
def cmdLcProvision : Cmd where
  lens := inlineOnly 64
  lifecycle := fun _ s => !s.life.retPending && s.life.state = 0 && s.life.fwKeyHash.isSome
  range := fun x s => (s.life.ownerHash.isNone || s.life.ownerHash = some (sha256 x.p)) && onCurve x.p
  body := fun x s =>
    let s1 := makeIdentity (modLife (fun l => { l with ownerHash := some (sha256 x.p) }) s)
    let s2 := countTransition 0 1 (modLife (fun l => { l with state := 1 }) s1)
    { st := s2, data := le 32 s2.life.idKeyHash ++ s2.life.idPub, after := lifeChanged 0 }

/-- LC.DEPLOY (R609, R625). -/
def cmdLcDeploy : Cmd where
  lens := inlineOnly 0
  lifecycle := fun _ s => !s.life.retPending && s.life.state = 1 && !s.boot.unverified
  body := fun _ s =>
    { st := countTransition 1 2 (modLife (fun l => { l with state := 2, debugOpen := false }) s),
      warns := if (checkImage 2 (otherSlot s) s).runs then [] else [{ code := 0x0101, group := 1 }], after := lifeChanged 1 }

/-- The checks that LC.RETURN and LC.DEBUG_UNLOCK share, and their effect (R606, R607, R625). -/
def authorised (action : Nat) (x : Ctx) (s : State) (f : State → State) : Res :=
  if isPartner s ∨ isMember s then fail .busy s
  else if authLocked s then fail .locked s
  else
    let ok := authValid s action x.p
    let s1 := present ok x.p s
    if ok then { st := f s1 } else { st := s1, status := .badParam, keep := true }

/-- LC.RETURN: RET_PENDING is blown, and zeroisation follows at the next boot (R610). Without an owner it takes no payload. -/
def cmdLcReturn : Cmd where
  lens := fun l sl => (l = 144 || l = 0) && sl = 0
  lifecycle := fun _ s => !s.life.retPending && s.life.state ≠ 3
  body := fun x s =>
    let blow := modLife (fun l => { l with retPending := true })
    if s.life.ownerHash.isNone then
      if ¬ x.p.isEmpty then fail .badLength s else if isPartner s ∨ isMember s then fail .busy s else { st := blow s }
    else if x.p.isEmpty then fail .badLength s
    else authorised 1 x s blow

/-- LC.DEBUG_UNLOCK (R611). -/
def cmdLcDebugUnlock : Cmd where
  lens := inlineOnly 144
  lifecycle := fun _ s => !s.life.retPending && s.life.state = 1
  body := fun x s => authorised 2 x s (modLife (fun l => { l with debugOpen := true }))

/-- LC.ATTEST (R605). -/
def cmdLcAttest : Cmd where
  lens := inlineOnly 16
  lifecycle := fun _ s => !s.life.retPending && hasIdentity s
  body := fun x s =>
    let t := [0x47, 0x41, 0x52, 0x4E, 0x45, 0x2D, 0x41, 0x54].map (BitVec.ofNat 8) ++ le 8 s.life.serial ++ le 4 (sysId s) ++ le 4 s.boot.fwVer ++
      le 1 s.boot.svnImg ++ le 1 s.life.state ++ le 1 (lifeFlags s) ++ zeros 1 ++ x.p ++ le 8 s.stem.ssi ++ zeros 12
    { st := { s with draws := s.draws + 1 }, data := t ++ padTo 64 (Config.signature s.draws) }

/-! ### JTAG (R105, R611, R613, R614) -/

/-- EXTEST, CLAMP or HIGHZ is loaded and hands the pins to the boundary register, or another instruction gives them back (R613); HIGHZ
leaves every pin high-impedance, as IEEE 1149.1 has it (log 109). -/
def jtagBoundary (i : JtagInstr) (cells : List (Pin × PinDrive)) (s : State) : State :=
  modLife (fun l => if l.jtag = 2 then l else
    match i with
    | .other => { l with jtag := 0, boundary := [] }
    | .extest | .clamp => { l with jtag := 1, boundary := cells }
    | .highz => { l with jtag := 1, boundary := [] }) s

/-- JTAG_TRST_N resets the test access port, which then selects IDCODE (R105, log 109); internal scan holds until POR_N. -/
def jtagReset (s : State) : State := modLife (fun l => { l with tap := 0 }) (jtagBoundary .other [] s)

/-- What IDCODE reads: stepping B1 is version 2, then the part number and the manufacturer's code 0x537 (R612). -/
def idcode (s : State) : Nat := 0x20000A6F + partOf s.variant * 0x1000

/-- What the selected test data register captures: IDCODE, or the 0 of BYPASS. -/
def tapCapture (s : State) : Nat := if s.life.tap = 0 then idcode s else 0

/-- An internal-scan instruction where it is open: every output is held as in HELD, and the engine runs again only after POR_N. A closed one
selects BYPASS (R614). -/
def jtagScan (s : State) : State :=
  if scanOpen s then
    modLife (fun l => { l with jtag := 2, boundary := [] }) { s with power := { s.power with mode := .held }, hush := { s.hush with out := false } }
  else modLife (fun l => { l with tap := 1 }) s

/-! ### The meanings -/

/-- LC_STATUS_GET. -/
def execLcStatusGet (r : Request) (s : State) : Host.Outcome State Fault Refusal := serve 0x0170 cmdLcStatusGet r s
/-- LC_NONCE_GET (R606). -/
def execLcNonceGet (r : Request) (s : State) : Host.Outcome State Fault Refusal := serve 0x0171 cmdLcNonceGet r s
/-- LC_PROVISION (R608). -/
def execLcProvision (r : Request) (s : State) : Host.Outcome State Fault Refusal := serve 0x0172 cmdLcProvision r s
/-- LC_DEPLOY (R609). -/
def execLcDeploy (r : Request) (s : State) : Host.Outcome State Fault Refusal := serve 0x0173 cmdLcDeploy r s
/-- LC_RETURN (R610). -/
def execLcReturn (r : Request) (s : State) : Host.Outcome State Fault Refusal := serve 0x0174 cmdLcReturn r s
/-- LC_DEBUG_UNLOCK (R611). -/
def execLcDebugUnlock (r : Request) (s : State) : Host.Outcome State Fault Refusal := serve 0x0175 cmdLcDebugUnlock r s
/-- LC_ATTEST (R605). -/
def execLcAttest (r : Request) (s : State) : Host.Outcome State Fault Refusal := serve 0x0176 cmdLcAttest r s
/-- JTAG_TRST: JTAG_TRST_N resets the test access port; internal scan holds until POR_N (R105, R614). -/
def execJtagTrst (s : State) : Host.Outcome State Fault Refusal := .next (jtagReset s)
/-- JTAG_BOUNDARY_INSTRUCTION (R613). -/
def execJtagBoundaryInstruction (load : JtagLoad) (s : State) : Host.Outcome State Fault Refusal :=
  .next (jtagBoundary load.instr load.cells s)
/-- JTAG_INTERNAL_SCAN (R614). -/
def execJtagInternalScan (s : State) : Host.Outcome State Fault Refusal := .next (jtagScan s)

end Sys2Proof.Machine
end

