-- ==== Sys2Proof/Machine/Ductus.lean ====
section
/-! DEFINITION. Ductus: load reports, the slack window, compute windows, catch-up and the watchdog (R244 to R269). -/

namespace Sys2Proof.Machine

/-! ### Load reports (R250, DX.LOAD_GET, DX.NIB_GET) -/

/-- The busiest Nib by steady plan; the lowest number when several tie, 0 when nothing is planned. -/
def busiestNib (l : List Load) : Nat :=
  let m := peakTime l
  ((loadedNibs l).filter (fun n => nibTime l n = m)).foldl min 144 % 144

/-- The mean steady planned load of the active Nibs, 0.01 %. -/
def meanLoad (s : State) : Nat :=
  let l := steadyLoads s
  let a := activeNibs s
  if a.isEmpty then 0 else loadPct s (sumN (a.map (nibTime l)) / a.length)

/-- BLOTTER_LOW: a steady planned load above 85 %. -/
def blotterLow (s : State) : Bool := aboveLoad s (steadyLoads s) 85 100

/-- The longest class A completion time in the last second. -/
def doneMax (s : State) : Nat := ((s.dx.done.filter (fun e => s.stem.ms < e.1 + 1000)).map (·.2)).foldl max 0

/-- The command DX.LOAD_GET. -/
def cmdDxLoadGet : Cmd where
  lens := inlineOnly 0
  body := fun _ s =>
    let d := s.dx
    let l := steadyLoads s
    let a := armedPeak s
    answer (le 1 d.sw ++ le 1 d.level ++ le 1 (b2n d.planned + 2 * b2n d.carried + 4 * b2n (blotterLow s)) ++ zeros 1 ++
      le 2 (loadPct s (peakTime l)) ++ le 2 (meanLoad s) ++ le 2 (busiestNib l) ++ le 2 (loadPct s a.1) ++
      le 2 (activeNibs s).length ++ le 2 (sparesLeft s) ++ le 8 (8 * a.2.1) ++ le 4 (doneMax s) ++ le 4 (budget s) ++
      le 4 d.late ++ le 4 d.missed ++ le 4 d.recovered ++ le 4 d.carryMax ++ le 4 d.splits ++ le 4 d.pshed ++
      le 2 (shedCount s) ++ zeros 2) s

/-- The class A instances placed on a Nib. -/
def nibInstances (s : State) (n : Nat) : Nat :=
  (s.prog.insts.filter (fun e => running e.2 && phaseOf e.2.prog ≠ 0 && laneNib s e.2.lane = n)).length

/-- A Nib's barrel; 0 for absent Nibs. -/
def nibBarrel (s : State) (n : Nat) : Nat := if nibState s n = 0 then 0 else n / 16

/-- The command DX.NIB_GET. -/
def cmdDxNibGet : Cmd where
  lens := inlineOnly 0
  body := fun _ s =>
    let l := steadyLoads s
    { st := s, sheet := some ((List.range 144).flatMap (fun n =>
        if nibState s n = 0 then zeros 8
        else le 2 n ++ le 1 (nibState s n) ++ le 1 (nibBarrel s n) ++ le 1 (nibInstances s n) ++ zeros 1 ++ le 2 (loadPct s (nibTime l n)))) }

/-! ### The slack window (R265, R266, R268) -/

/-- A new slack window would be refused with BUSY (R265). -/
def swBusy (s : State) : Bool := isPartner s || isMember s

/-- The command DX.CONFIG: FIRST_SSI is the boundary at which the new SW applies, and a rise delays the first release by 8
samples for each period of it. -/
def cmdDxConfig : Cmd where
  lens := inlineOnly 4
  range := fun x _ => u8 x.p 0 ≤ 2 && u8 x.p 1 ≤ 1
  body := fun x s =>
    let n := u8 x.p 0
    let store := fun (t : State) => if u8 x.p 1 = 1 then { t with dx := { t.dx with nvsSw := n } } else t
    if swBusy s then fail .busy s
    else if n = s.dx.sw then { st := store s, data := le 8 (nextBoundary s) }
    else { st := store { s with dx := { s.dx with swDue := some (n, none) } }, data := le 8 (nextBoundary s + 8 * (n - s.dx.sw)) }

/-- The samples computed and not yet released, at a change of SW: a rise puts ABSENT zeros before them, a fall
discards the periods passed over (R266). -/
def shiftFifos (old new : Nat) (s : State) : State :=
  { s with lig := { s.lig with fifo := s.lig.fifo.map (fun e =>
      (e.1, List.replicate (8 * (new - old)) {} ++ e.2.drop (8 * (old - new)))) } }

/-- The waiting slack window applies (R266). -/
def applySw (s : State) : State :=
  match s.dx.swDue with
  | none => s
  | some (n, _) => shiftFifos s.dx.sw n { s with dx := { s.dx with sw := n, swDue := none } }

/-- A bit of DX_EVENTS. -/
def dxEvent (i : Nat) (s : State) : State := { s with dx := { s.dx with events := setBit s.dx.events i } }

/-- A write of DX_CTRL (R268). -/
def dxCtrlWrite (w : Nat) (s : State) : State :=
  let n := fld w 0 2
  if s.power.mode ≠ .commission ∨ n = 3 ∨ swBusy s then dxEvent 5 s
  else if n = s.dx.sw then s
  else { s with dx := { s.dx with swDue := some (n, none) } }

/-- A read of DX_ARMED_SSI_LO latches the high word (R269). -/
def armedSsiRead (s : State) : State :=
  let v := 8 * (armedPeak s).2.1
  regRead (v % 2 ^ 32) { s with dx := { s.dx with armedHi := v / 2 ^ 32 } }

/-! ### Windows and catch-up (R258 to R261) -/

/-- The mode fade of the program sinks runs (R139). -/
def fading (s : State) : Bool := s.power.fadeDone < s.power.fadeLen

/-- Ductus computes periods: the Stem is locked, a rate change has not halted it, and the mode uses the Nibs; in MAINTENANCE the programs
run on until their fade to silence is over (R54, R136, R139). -/
def ductusRuns (s : State) : Bool :=
  s.stem.stemLock && !(match s.stem.change with | some c => c.halted | none => false) && !s.dx.halted &&
    (match s.power.mode with
     | .commission | .showing | .shadow | .degraded => true
     | .maintenance => fading s || decide (s.power.gen.done < s.power.gen.len)
     | _ => false)

/-- The instances that run: in COMMISSION and MAINTENANCE the generators alone, once the mode fade is over (R136, R139). -/
def liveInsts (s : State) : List (Nat × Inst) :=
  let all : Bool := match s.power.mode with | .commission | .maintenance => fading s | _ => true
  s.prog.insts.filter (fun e => running e.2 && (all || e.2.prog = progGen))

/-- There is class A work. -/
def classAWork (s : State) : Bool := (liveInsts s).any (fun e => phaseOf e.2.prog ≠ 0)

/-- The effective catch-up level (R260). -/
def effLevel (s : State) : Nat := if s.dx.planned then 2 else s.dx.level

/-- CATCHUP when the effective level changes (R267). -/
def catchup (cause carry : Nat) (s : State) : State :=
  let e := effLevel s
  if e = s.dx.eff then s
  else raise 0x0781 (le 1 s.dx.eff ++ le 1 e ++ le 1 cause ++ zeros 1 ++ le 4 carry) { s with dx := { s.dx with eff := e } }

/-- Period `k` was not complete at its release boundary: its Nib-fed sinks repeat (R261, R267). -/
def missPeriod (s : State) : State :=
  let d := s.dx
  let n := d.missCount + 1
  let s1 := vellumCount 25 (dxEvent 1 { s with dx := { d with missed := d.missed + 1, missCount := n, repeatTo := s.stem.ssi + 8 } })
  let due : Bool := match d.missMs with | none => true | some m => decide (m + 100 ≤ s.stem.ms)
  if due then
    raise 0x0782 (le 4 n ++ le 4 d.missMax) { s1 with dx := { s1.dx with missMs := some s.stem.ms, missCount := 0, missMax := 0 } }
  else s1

/-- The compute window of period `k` starts (R258, R260); whether it is a planned-shed period was judged at its first sample, before its
turns ran. A period without class A work is complete at once (log 44). The class B meters then measure the period's samples (R508, R522). -/
def startWindow (k : Nat) (s : State) : State :=
  let d := s.dx
  let was := d.planned
  let now := d.planNext
  let work := classAWork s
  let s1 := { s with dx := { d with planned := now, pshed := d.pshed + b2n now, carried := !d.open_.isEmpty,
                                    open_ := if work then d.open_ ++ [k] else d.open_,
                                    progress := d.open_.isEmpty || d.progress } }
  let s2 := catchup (if was then 3 else 2) 0 (if now then vellumCount 27 s1 else s1)
  let s3 := { s2 with rt := { s2.rt with shedPeriods := s2.rt.shedPeriods + b2n (decide (1 ≤ effLevel s2)) } }
  classBPeriod k (if effLevel s3 = 2 ∧ k % 2 = 1 then skipClassB k s3 else s3)

/-- A boundary without progress counts towards the watchdog (R263). -/
def countStall (s : State) : State :=
  { s with dx := { s.dx with stall := if s.dx.progress then 0 else s.dx.stall + 1, progress := false } }

/-- What a period boundary does in Ductus: a waiting SW applies, the period due for release is judged, the watchdog
counts, the next compute window starts, and the period that begins is judged against the plan (R253). -/
def ductusBoundary (s : State) : State :=
  let b := s.stem.ssi / 8
  let old := s.dx.sw
  let s1 := applySw s
  let s2 := { s1 with dx := { s1.dx with halted := false } }
  if ¬ ductusRuns s2 then s2
  else
    let s3 := if s2.dx.sw ≤ old ∧ s2.dx.open_.any (fun k => k + 2 + s2.dx.sw = b) then missPeriod s2 else s2
    let s4 := if b = 0 then countStall s3 else startWindow (b - 1) (countStall s3)
    { s4 with dx := { s4.dx with planNext := plannedShed s4 b } }

/-- The class A work of the oldest open period completes `t` cycles after its window start (R260). -/
def classADone (t : Nat) (s : State) : State :=
  match s.dx.open_ with
  | [] => s
  | k :: rest =>
    let d := s.dx
    let bud := budget s
    let release := 8 * (k + 2 + d.sw)
    let late := t - bud
    let s1 := { s with dx := { d with open_ := rest, progress := true, lastDone := t, wdtLast := release,
                                      done := (s.stem.ms, t) :: d.done.filter (fun e => s.stem.ms < e.1 + 1000),
                                      carryMax := max d.carryMax late } }
    let far := t - bud * (1 + d.sw)
    let s2 := if release ≤ s.stem.ssi then
        vellumBin 0 (lateBin s far) { s1 with dx := { s1.dx with missMax := max s1.dx.missMax far } } else s1
    if bud < t then
        let lev := min (d.level + 1) 2
        let u := dxEvent 0 (vellumBin 1 (lateBin s late) (vellumCount 24 { s2 with dx := { s2.dx with late := d.late + 1, level := lev } }))
        catchup 0 late (if lev = 2 ∧ d.level ≠ 2 then dxEvent 4 u else u)
      else if 0 < d.level ∧ ¬ d.carried ∧ bud / 8 ≤ bud - t then
        catchup 1 0 (dxEvent 2 { s2 with dx := { s2.dx with level := 0, recovered := d.recovered + 1 } })
      else s2

/-- A class A dispatch completes: it is progress for the watchdog (R263), and the last of a period completes its work. -/
def classACompletes (whole : Bool) (t : Nat) (s : State) : State :=
  if whole then classADone t s else if s.dx.open_.isEmpty then s else { s with dx := { s.dx with progress := true } }

/-- The Ductus watchdog trips after four boundaries without progress (R109, R263). The level that it clears changes with CAUSE 1 (R267;
log 99). -/
def ductusWdt (s : State) : State :=
  let d := s.dx
  if d.stall < 4 then s
  else
    let hole := (d.open_.map (fun k => 8 * (k + 3 + d.sw))).foldl max d.repeatTo
    let n := (d.open_.filter (fun k => s.stem.ssi < 8 * (k + 2 + d.sw))).length
    let s1 := { s with dx := { d with open_ := [], stall := 0, level := 0, planned := false, carried := false, halted := true,
                                      wdt := d.wdt + 1, missed := d.missed + n, repeatTo := hole },
                       boot := { s.boot with resetCause := setBit s.boot.resetCause 6 } }
    let s2 := catchup 1 0 (vellumLog 6 0 0 0 (vellumAdd 25 n (vellumCount 26 (dxEvent 3 s1))))
    let s3 := raise 0x0783 (le 1 4 ++ zeros 7 ++ le 8 d.wdtLast) s2
    signalGiveUp 4 { s3 with power := { s3.power with wdtTripMs := some s.stem.ms } }

/-! ### The meanings -/

/-- DX_LOAD_GET. -/
def execDxLoadGet (r : Request) (s : State) : Host.Outcome State Fault Refusal := serve 0x0780 cmdDxLoadGet r s
/-- DX_NIB_GET. -/
def execDxNibGet (r : Request) (s : State) : Host.Outcome State Fault Refusal := serve 0x0781 cmdDxNibGet r s
/-- DX_CONFIG (R265). -/
def execDxConfig (r : Request) (s : State) : Host.Outcome State Fault Refusal := serve 0x0782 cmdDxConfig r s
/-- DX_CTRL_WRITE (R268). -/
def execDxCtrlWrite (w : Word) (s : State) : Host.Outcome State Fault Refusal :=
  .next (if expertMode s then dxCtrlWrite w.toNat s else s)
/-- DX_ARMED_SSI_LO_READ (R269). -/
def execDxArmedSsiLoRead (s : State) : Host.Outcome State Fault Refusal := .next (if expertMode s then armedSsiRead s else s)
/-- CLASS_A_COMPLETION (R260, R263). -/
def execClassACompletion (d : DispatchEnd) (s : State) : Host.Outcome State Fault Refusal := .next (classACompletes d.whole d.t s)
/-- DUCTUS_WDT (R263). -/
def execDuctusWdt (s : State) : Host.Outcome State Fault Refusal := .next (ductusWdt s)

end Sys2Proof.Machine
end

