-- ==== Sys2Proof/Machine/Retouch.lean ====
section
/-! DEFINITION. Retouch and Blotter: Nib states, faults, migrations, shedding, row retirement, and the commands (chapter 20). -/

namespace Sys2Proof.Machine

/-- Change Retouch. -/
def modRt (f : Retouch → Retouch) (s : State) : State := { s with rt := f s.rt }

/-- What Retouch holds of Nib `n`. -/
def nibRec (s : State) (n : Nat) : NibRec := tabGet {} s.rt.nibs n

/-- Change what Retouch holds of Nib `n`. -/
def modNib (n : Nat) (f : NibRec → NibRec) (s : State) : State := modRt (fun r => { r with nibs := tabMod {} r.nibs n f }) s

/-- The present Nibs. -/
def presentNibs (s : State) : List Nat := (List.range 144).filter (fun n => nibState s n ≠ 0)

/-- The Nibs in a state. -/
def nibsIn (s : State) (st : Nat) : List Nat := (List.range 144).filter (fun n => nibState s n = st)

/-! ### Nib states (R579 to R581) -/

/-- A Nib changes state: NIB_STATE with its cause and the spares left. -/
def setNib (n new cause : Nat) (s : State) : State :=
  let old := nibState s n
  if old = new then s
  else
    let s1 := { s with dx := { s.dx with nibs := tabPut (nibDefault s.variant n) s.dx.nibs n new } }
    raise 0x0E01 (le 2 n ++ le 1 old ++ le 1 new ++ le 1 cause ++ le 1 (sparesLeft s1)) s1

/-- The lifetime fault count rises; at FAULT_LIMIT the Nib is RETIRED (R580). -/
def addFault (n : Nat) (s : State) : State :=
  let s1 := modNib n (fun r => { r with faults := r.faults + 1 }) s
  let k := (nibRec s1 n).faults
  if s1.rt.faultLimit ≤ k then vellumLog 3 n 0 k (vellumCount 37 (setNib n 5 0 s1)) else s1

/-- A Nib enters QUARANTINE; `fault` says that the entry counts (R580). -/
def quarantine (n cause : Nat) (fault : Bool) (s : State) : State :=
  let s1 := modNib n (fun r => { r with quarMs := s.stem.ms, run := 0, step := 0, failed := none, retest := false }) (setNib n 4 cause s)
  if fault then addFault n s1 else s1

/-! ### Re-placing, shedding and restoring (R588 to R590) -/

/-- Insert by shed priority, highest first, then ascending index. -/
def insertByPrio (s : State) (e : Nat × Inst) : List (Nat × Inst) → List (Nat × Inst)
  | [] => [e]
  | a :: t => if shedBefore s a e then e :: a :: t else a :: insertByPrio s e t

/-- Instances by shed priority, highest first, then ascending index. -/
def byPrio (s : State) (l : List (Nat × Inst)) : List (Nat × Inst) := l.foldl (fun t e => insertByPrio s e t) []

/-- The load of an instance on a Nib. -/
def loadOf (s : State) (e : Nat × Inst) (n : Nat) : Load := { nib := n, phase := phaseOf e.2.prog, cycles := steadyCost s e.1 e.2 }

/-- Nib `n` carries the loads `l` within 90 %. -/
def within90 (s : State) (l : List Load) (n : Nat) : Bool := nibTime l n * 100 ≤ budget s * 90

/-- The active Nib on which an instance fits within 90 % and finishes earliest. -/
def fitNib (s : State) (e : Nat × Inst) : Option Nat :=
  let l := steadyLoads s
  (activeNibs s).foldl (fun (best : Option Nat) n =>
    let t := fun m => nibTime (loadOf s e m :: l) m
    if ¬ within90 s (loadOf s e n :: l) n ∨ (nibLane s n).isNone then best
    else match best with | none => some n | some b => if t n < t b then some n else some b) none

/-- Place an instance on a Nib: it runs on that Nib's lane, and is shed no more. -/
def placeOn (k n : Nat) (s : State) : State :=
  match nibLane s n with
  | none => s
  | some l => modInst k (fun i => { i with lane := l, shed := false, lost := false }) s

/-- The candidates of a Nib for eviction below a priority: lowest priority first, then highest index. -/
def evictable (s : State) (prio n : Nat) : List (Nat × Inst) :=
  (byPrio s ((instsOnNib s n).filter (fun e => shedPrio s e.1 e.2 < prio))).reverse

/-- The fewest of the evictable instances whose removal lets `e` fit on Nib `n`. -/
def evictFor (s : State) (e : Nat × Inst) (n : Nat) : Option (List Nat) :=
  let c := (evictable s (shedPrio s e.1 e.2) n).map (·.1)
  let ok := fun (k : Nat) => within90 s (loadOf s e n :: steadyLoads ((c.take k).foldl (fun t x => shedInst x t) s)) n
  ((List.range (c.length + 1)).find? ok).map (fun k => c.take k)

/-- The Nib with the smallest eviction, ties to the lowest. -/
def bestEviction (s : State) (e : Nat × Inst) : Option (Nat × List Nat) :=
  ((activeNibs s).filter (fun n => (nibLane s n).isSome)).foldl (fun (best : Option (Nat × List Nat)) n =>
    match evictFor s e n, best with
    | none, b => b
    | some l, none => some (n, l)
    | some l, some b => if l.length < b.2.length then some (n, l) else some b) none

/-- One step of the pseudocode of R589. -/
def replaceOne (s : State) (e : Nat × Inst) : State :=
  match fitNib s e with
  | some n => placeOn e.1 n s
  | none =>
    match bestEviction s e with
    | some b => placeOn e.1 b.1 (b.2.foldl (fun t x => shedInst x t) s)
    | none => s

/-- Re-place and shed the work of a Nib that has left service; what is shed is lost to that Nib (R142, R589). -/
def replaceAndShed (n : Nat) (l : List (Nat × Inst)) (s : State) : State :=
  let before := shedCount s
  let s0 := l.foldl (fun t e => shedInst e.1 t) s
  let s1 := (byPrio s l).foldl replaceOne s0
  let now := shedCount s1 - before
  let s2 := ((shedKeys s1).filter (fun k => !(shedKeys s).contains k)).foldl (fun t k => modInst k (fun i => { i with lost := true }) t) s1
  if now = 0 then s2 else raise 0x0E03 (le 2 now ++ le 2 0 ++ le 2 (shedCount s2) ++ le 2 n) s2

/-- A lane whose Nib is not active. -/
def freeLane (s : State) : Option Nat := (List.range (nibLanes s.variant)).find? (fun l => nibState s (laneNib s l) ≠ 1)

/-- Give a lane to a Nib. -/
def setLane (l n : Nat) (s : State) : State := { s with dx := { s.dx with lanes := tabPut l s.dx.lanes l n } }

/-- The spares that no migration in progress has taken as its target: taking one lowers the count by one (R8, R582). -/
def freeSpares (s : State) : List Nat := (nibsIn s 2).filter (fun n => !s.rt.migs.any (fun m => m.dst = n))

/-- The lowest-numbered SPARE becomes ACTIVE on a free lane for shed instances (R590). -/
def activateSpare (s : State) : State :=
  match (freeSpares s).head?, freeLane s with
  | some n, some l => setNib n 1 3 (setLane l n s)
  | _, _ => s

/-- Restore shed instances at a boundary (R590, log 51). -/
def restoreShed (s : State) : State :=
  if shedCount s = 0 then s
  else
    let before := shedCount s
    let s1 := activateSpare s
    let s2 := (byPrio s1 (s1.prog.insts.filter (fun e => e.2.shed))).foldl (fun t e =>
      match fitNib t (e.1, { e.2 with shed := false }) with | some n => placeOn e.1 n t | none => t) s1
    let k := before - shedCount s2
    if k = 0 then s2 else raise 0x0E03 (le 2 0 ++ le 2 k ++ le 2 (shedCount s2) ++ le 2 0xFFFF) s2

/-! ### Migrations (R582 to R587) -/

/-- The target of a migration: the lowest free SPARE of the barrel, else the lowest (R582). -/
def targetOf (s : State) (n : Nat) : Option Nat :=
  match (freeSpares s).find? (fun m => m / 16 = n / 16) with
  | some m => some m
  | none => (freeSpares s).head?

/-- Begin a migration of Nib `n`: `dst` 144 where no spare exists, so that the work is re-placed (R582, R585, R589). -/
def beginMigration (n mode cause : Nat) (fault : Bool) (s : State) : State :=
  let q := s.stem.ssi / 8
  let m : Migration := { src := n, dst := (targetOf s n).getD 144, mode := mode, cause := cause, q := q, fault := fault }
  let at_ := if mode = 1 ∨ m.dst = 144 then 8 * (q + 1) else 8 * (q + 2 + s.rt.warmup)
  let s1 := if mode = 1 ∧ m.dst ≠ 144 then setNib m.dst 3 cause s else s
  modRt (fun r => { r with migs := r.migs ++ [{ m with swapSsi := at_, copied := decide (mode = 1 ∨ m.dst = 144) }] }) s1

/-- A Nib must give up its work: a Nib without work is quarantined; a migration in progress on it becomes a copy (R587).
Without a spare it is a give-up cause on a twin partner, and a sole unit re-places the work (R487, R490, R589). -/
def giveUpWork (n mode : Nat) (fault : Bool) (s : State) : State :=
  if (instsOnNib s n).isEmpty then quarantine n 0 fault s
  else if s.rt.migs.any (fun m => m.src = n) then
    if mode = 1 then
      modRt (fun r => { r with migs := r.migs.map (fun m =>
        if m.src = n ∧ m.mode = 0 then (if m.copied then { m with swapSsi := down8 s.stem.ssi } else { m with mode := 1, copied := true, swapSsi := 8 * (s.stem.ssi / 8 + 1) }) else m) }) s
    else s
  else if (targetOf s n).isNone ∧ isPartner s ∧ (partnerWarm s ∨ s.twin.state ≠ 1) then signalGiveUp 2 s
  else beginMigration n mode 0 fault (if (targetOf s n).isNone then signalGiveUp 2 s else s)

/-- The moving instances of a migration have a readiness deadline or a split in period `p` (R584). -/
def copyBlocked (s : State) (n p : Nat) : Bool :=
  (instsOnNib s n).any (fun e =>
    (turnsOn s e.1).any (fun a => (a.applySsi - 16) / 8 = p || (a.applySsi / 8 = p && a.applySsi % 8 ≠ 0)))

/-- MIGRATION_COPY: the instances are copied to the target, which enters WARMUP (R583). -/
def migrationCopy (n : Nat) (s : State) : State :=
  let p := s.stem.ssi / 8
  match s.rt.migs.find? (fun m => m.src = n && m.mode = 0 && !m.copied) with
  | none => s
  | some m =>
    if p < m.q + 2 ∨ s.dx.open_.any (fun k => k + 1 < p) ∨ copyBlocked s n p then s
    else
      let s1 := modRt (fun r => { r with migs := r.migs.map (fun x => if x.src = n then { x with copied := true, swapSsi := 8 * (p + r.warmup) } else x) }) s
      setNib m.dst 3 m.cause s1

/-- The lane of a Nib passes to another. -/
def moveLane (src dst : Nat) (s : State) : State :=
  match nibLane s src with | none => s | some l => setLane l dst s

/-- The swap of a migration with a target (R583, R585). -/
def swapTo (m : Migration) (same : Bool) (s : State) : State :=
  let k := (instsOnNib s m.src).length
  let s1 := setNib m.dst 1 m.cause (moveLane m.src m.dst s)
  let s2 := quarantine m.src m.cause m.fault (modRt (fun r => { r with migrations := r.migrations + 1 }) s1)
  let s3 := modRec (fun r => { r with nibOut := tabMod 0 r.nibOut m.src (· + 1) }) (vellumLog 2 m.src m.dst k (vellumCount 36 s2))
  raise 0x0E02 (le 2 m.src ++ le 2 m.dst ++ le 1 m.mode ++ le 1 (if m.mode = 1 then 2 else if same then 0 else 1) ++ le 2 k ++ le 8 m.swapSsi) s3

/-- The work of a Nib without a target is re-placed and shed, and the Nib quarantined (R589). -/
def swapOut (m : Migration) (s : State) : State :=
  let l := instsOnNib s m.src
  replaceAndShed m.src l (quarantine m.src m.cause m.fault s)

/-- MIGRATION_SWAP of Nib `n`: `same` says that the outputs matched throughout. -/
def migrationSwap (n : Nat) (same : Bool) (s : State) : State :=
  match s.rt.migs.find? (fun m => m.src = n && m.copied) with
  | none => s
  | some m =>
    if s.stem.ssi < m.swapSsi then s
    else
      let s1 := modRt (fun r => { r with migs := r.migs.filter (fun x => x.src ≠ n) }) s
      if m.dst = 144 then swapOut m s1 else swapTo m same s1

/-- A target has failed: its migrations restart from step 1 with the next (R583). -/
def retarget (t : Nat) (s : State) : State :=
  let l := s.rt.migs.filter (fun m => m.dst = t)
  l.foldl (fun u m => giveUpWork m.src m.mode m.fault u) (modRt (fun r => { r with migs := r.migs.filter (fun m => m.dst ≠ t) }) s)

/-! ### Faults (R579) -/

/-- A fault of class `c` of Nib `n` goes into Vellum's counters and its Nib record, an injected one into INJECTED alone (R600, R631, R634). -/
def countFault (n c : Nat) (injected : Bool) (s : State) : State :=
  if injected then vellumCount 40 s
  else modRec (fun r => { r with nibFaults := tabMod 0 r.nibFaults n (fun k => min 65535 (k + 1)) }) (vellumCount (31 + c) s)

/-- A PERSISTENT (3) or HARD (4) fault of a Nib. -/
def nibFault (n cls : Nat) (injected : Bool) (s : State) : State :=
  let s1 := modNib n (fun r => { r with cls := cls, retest := false, injected := false }) s
  let s2 := if injected then countFault n cls true s1 else vellumLog 1 n cls ((nibRec s1 n).faults + 1) (countFault n cls false s1)
  let st := nibState s2 n
  if st = 1 then giveUpWork n (if cls = 4 then 1 else 0) (!injected) s2
  else if st = 2 then quarantine n 0 (!injected) s2
  else if st = 3 then retarget n (quarantine n 0 (!injected) s2)
  else s2

/-- A retest has passed: TRANSIENT, and the third within 1 h is PERSISTENT. -/
def transient (n : Nat) (s : State) : State :=
  let r := nibRec s n
  let l := s.stem.ms :: r.transients.filter (fun t => s.stem.ms < t + 3600000)
  let s1 := countFault n 2 r.injected (modNib n (fun q => { q with cls := 2, retest := false, injected := false, transients := l }) s)
  if 3 ≤ l.length then nibFault n 3 r.injected (modNib n (fun q => { q with transients := [] }) s1) else s1

/-- The replies to RT.NIB_TEST of Nib `n` (R597). -/
def answerTests (n : Nat) (failed : Option Nat) (s : State) : State :=
  (s.rt.tests.filter (fun t => t.1 = n)).foldl (fun u t => finishRunning t.2.1 t.2.2 .ok (le 1 (b2n failed.isSome) ++ le 1 (failed.getD 0)) u)
    (modRt (fun r => { r with tests := r.tests.filter (fun t => t.1 ≠ n) }) s)

/-- A pass of 128 dispatches has ended (R575, R577, R580, R595). -/
def passEnds (n : Nat) (s : State) : State :=
  let r := nibRec s n
  let inj := r.injected
  let s1 := answerTests n r.failed (modNib n (fun q => { q with step := 0, failed := none, injected := false }) s)
  match r.failed with
  | none =>
    let s2 := modNib n (fun q => { q with passMs := s.stem.ms, passShed := s.rt.shedPeriods, late := false, run := (if nibState s n = 4 then q.run + 1 else 0) }) s1
    modRec (fun v => { v with nibPasses := tabMod 0 v.nibPasses n (· + 1) }) (modRt (fun q => { q with passes := q.passes + 1 }) s2)
  | some _ =>
    if nibState s n = 4 then
      let s2 := modNib n (fun q => { q with run := 0 }) s1
      if inj then s2 else addFault n s2
    else s1

/-- The modes in which Blotter runs (R136). -/
def blotterRuns (s : State) : Bool :=
  match s.power.mode with
  | .commission | .showing | .shadow | .degraded => true
  | _ => false

/-- The active Nibs that have had a dispatch in this period. -/
def testedNow (s : State) : List Nat := if s.rt.period = s.stem.ssi / 8 then s.rt.tested else []

/-- Blotter gives a dispatch to Nib `n`: to at most 16 active Nibs in a period, and to each at most once; spares and quarantined Nibs run
them back to back (R576). -/
def mayTest (s : State) (n : Nat) : Bool := nibState s n ≠ 1 || (!(testedNow s).contains n && (testedNow s).length < 16)

/-- An active Nib has had its dispatch of this period. -/
def noteTest (n : Nat) (s : State) : State :=
  if nibState s n = 1 then modRt (fun r => { r with period := s.stem.ssi / 8, tested := testedNow s ++ [n] }) s else s

/-- BLOTTER_DISPATCH_DONE: a known-answer dispatch of Nib `n`; `good` says that the signature matched (R579, R600). It is class C work,
which Ductus does not dispatch at catch-up level 1 or 2 (R255, R260). -/
def dispatchDone (n : Nat) (good : Bool) (s' : State) : State :=
  let st := nibState s' n
  if st = 0 ∨ st = 5 ∨ ¬ blotterRuns s' ∨ 1 ≤ effLevel s' ∨ ¬ mayTest s' n then s'
  else
    let s := noteTest n s'
    let r0 := nibRec s n
    let inj := decide (0 < r0.inject)
    let ok := good && !inj
    let s0 := if inj then modNib n (fun q => { q with inject := q.inject - 1, injected := true }) s else s
    let r := nibRec s0 n
    let s1 := if ok then s0 else modRt (fun q => { q with fails := q.fails + 1 }) s0
    let next := fun (u : State) =>
      let v := modNib n (fun q => { q with step := q.step + 1 }) u
      if (nibRec v n).step = 128 then passEnds n v else v
    if st = 4 then
      next (if ok then s1 else modNib n (fun q => { q with failed := some (q.failed.getD q.step) }) s1)
    else if r.retest then
      (if ok then next (transient n s1) else nibFault n 3 r.injected s1)
    else if ok then next s1
    else
      countFault n 1 inj (modNib n (fun q => { q with cls := 1, retest := true, failed := some (q.failed.getD q.step) }) s1)

/-! ### Row retirement (R592 to R594) -/

/-- A region is present: a Reservoir bank or a barrel memory of the variant. -/
def regionPresent (s : State) (g : Nat) : Bool := g < banksOf s.variant || (0x40 ≤ g && g < 0x40 + barrelsOf s.variant)

/-- A row is already retired or fenced. -/
def rowHandled (s : State) (g row : Nat) : Bool :=
  s.rt.repairs.any (fun e => e.region = g && e.row = row) || s.rt.fences.contains (g, row)

/-- Retire a row, or fence it where no spare row is left or the table is full. -/
def retireRow (g row cause : Nat) (s : State) : State :=
  let used := (s.rt.repairs.filter (fun e => e.region = g && e.spare < 4)).length
  if 64 ≤ s.rt.repairs.length then
    let s1 := modRt (fun r => { r with fences := r.fences ++ [(g, row)], fenced := r.fenced + 1 }) s
    raise 0x0E05 (le 1 g ++ zeros 1 ++ le 2 row) (vellumLog 4 g row 0xFF (vellumCount 39 s1))
  else
    let spare := if used < 4 then used else 0xFF
    let e : Repair := { region := g, spare := spare, row := row, cause := cause, ssi := s.stem.ssi }
    let s1 := modRt (fun r => { r with repairs := r.repairs ++ [e], rows := (if spare = 0xFF then r.rows else r.rows + 1), fenced := (if spare = 0xFF then r.fenced + 1 else r.fenced) }) s
    let s2 := if spare ≠ 0xFF ∧ g < 24 then modRec (fun r => { r with bankRet := tabMod 0 r.bankRet g (· + 1) }) s1 else s1
    raise 0x0E04 (le 1 g ++ le 1 spare ++ le 2 row ++ le 1 cause ++ le 1 s1.rt.repairs.length)
      (vellumLog 4 g row spare (vellumCount (if spare = 0xFF then 39 else 38) s2))

/-- A MEMORY fault of a row: it is retired once (R579). -/
def memoryRow (g row cause : Nat) (s : State) : State := if rowHandled s g row then s else retireRow g row cause s

/-- The watch list takes a word corrected by the scrub, or the word recurs (R578, R579): `g` is a region, 0x100 + n being
the Nib store of Nib `n`. -/
def watchWord (g word : Nat) (s : State) : State :=
  if s.rt.watch.any (fun w => w.1 = g && w.2.1 = word) then
    let s1 := modRt (fun r => { r with watch := r.watch.filter (fun w => ¬ (w.1 = g ∧ w.2.1 = word)) }) s
    if 0x100 ≤ g then nibFault (g - 0x100) 3 false s1 else memoryRow g (word / 128) 1 s1
  else modRt (fun r => { r with watch := (r.watch ++ [(g, word, s.stem.ms)]).drop ((r.watch.length + 1) - 256) }) s

/-- NIB_UNCORRECTABLE_ERROR: a Nib's read meets an uncorrectable error: in its Nib store (kind 0), in a program image or
folio in barrel memory (1), or in instance state there (2, of the instance of key `key`); `word` is the word's index in the
memory (R579, R591). -/
def nibUe (n kind word key : Nat) (s : State) : State :=
  if nibState s n = 0 then s
  else
    let g := if kind = 0 then 0x100 + n else 0x40 + n / 16
    let s0 := vellumLog 5 g (8 * word) 1 (vellumCount 45 s)
    match kind with
    | 0 => nibFault n 4 false s0
    | 1 => signalGiveUp 3 (memoryRow g (word / 128) 0 (vellumCount 49 (modRt (fun r => { r with folioUe := r.folioUe + 1 }) s0)))
    | _ => memoryRow g (word / 128) 0 (modInst key (fun i => { i with unfinite := true }) (modRt (fun r => { r with stateUe := r.stateUe + 1 }) s0))

/-! ### Coverage and re-admission (R577, R595, R599) -/

/-- The bound on the time since the full pass of Nib `n`, in ms, extended by the time in periods at catch-up level 1 or 2 and in
planned-shed ones since (R577). -/
def coverBound (s : State) (n : Nat) : Nat :=
  (if blotterLow s then 64000 else 8000) + (s.rt.shedPeriods - (nibRec s n).passShed) * 8000 / fsOp s

/-- COVERAGE of Nib `n`, once each time it passes its bound. -/
def coverage (n : Nat) (s : State) : State :=
  let r := nibRec s n
  if nibState s n = 0 ∨ nibState s n = 5 ∨ ¬ blotterRuns s ∨ r.late ∨ s.stem.ms < r.passMs + coverBound s n then s
  else raise 0x0E06 (le 2 n ++ zeros 2 ++ le 4 ((s.stem.ms - r.passMs) / 1000)) (vellumCount 41 (modNib n (fun q => { q with late := true }) s))

/-- NIB_READMIT of Nib `n`: READMIT consecutive full passes and 60 s in QUARANTINE. -/
def nibReadmit (n : Nat) (s : State) : State :=
  let r := nibRec s n
  if nibState s n ≠ 4 ∨ r.run < s.rt.readmit ∨ s.stem.ms < r.quarMs + 60000 then s else setNib n 2 2 s

/-- A Nib that fails the quick check of a wake is quarantined, and its instances move to a spare from zero state (R157, R160). -/
def wakeCheckFails (s : State) (n : Nat) : State :=
  if nibState s n = 1 then
    let l := instsOnNib s n
    match targetOf s n with
    | some t => quarantine n 4 true (setNib t 1 4 (moveLane n t s))
    | none => replaceAndShed n l (quarantine n 4 true s)
  else if nibState s n = 2 ∨ nibState s n = 3 then quarantine n 4 true s
  else s

/-! ### The commands -/

/-- RT.STATUS_GET's Nib record. -/
def rtNibRecord (s : State) (n : Nat) : Bytes :=
  if nibState s n = 0 then zeros 8
  else
    let r := nibRec s n
    le 2 n ++ le 1 (nibState s n) ++ le 1 r.faults ++ le 1 r.cls ++ le 1 (min r.run 255) ++ le 2 (min 65535 ((s.stem.ms - r.passMs) / 1000))

/-- RT.STATUS_GET. -/
def cmdRtStatusGet : Cmd where
  lens := inlineOnly 0
  body := fun _ s =>
    let r := s.rt
    { st := s, sheet := some ((List.range 144).flatMap (rtNibRecord s)),
      data := le 1 (sparesLeft s) ++ le 1 (nibsIn s 4).length ++ le 1 (nibsIn s 5).length ++ le 1 r.repairs.length ++ le 2 (shedCount s) ++
        le 1 r.warmup ++ le 1 r.readmit ++ le 1 r.faultLimit ++ zeros 3 ++ le 4 r.migrations ++ le 4 r.rows ++ le 4 r.fenced }

/-- RT.CONFIG. -/
def cmdRtConfig : Cmd where
  lens := inlineOnly 4
  range := fun x _ => 1 ≤ u8 x.p 0 && u8 x.p 0 ≤ 16 && 1 ≤ u8 x.p 1 && u8 x.p 1 ≤ 16 && 1 ≤ u8 x.p 2 && u8 x.p 2 ≤ 15 && u8 x.p 3 ≤ 1
  body := fun x s =>
    let s1 := modRt (fun r => { r with warmup := u8 x.p 0, readmit := u8 x.p 1, faultLimit := u8 x.p 2 }) s
    { st := if u8 x.p 3 = 1 then modRt (fun r => { r with nvs := (u8 x.p 0, u8 x.p 1, u8 x.p 2) }) s1 else s1 }

/-- A Nib number that names no Nib of the variant (R597). -/
def nibMissing (x : Ctx) (s : State) : Bool := u16 x.p 0 < 144 && nibState s (u16 x.p 0) = 0

/-- RT.NIB_TEST (R597). -/
def cmdRtNibTest : Cmd where
  lens := inlineOnly 4
  absent := nibMissing
  range := fun x s => u16 x.p 0 < 144 && nibState s (u16 x.p 0) ≠ 5
  body := fun x s =>
    let n := u16 x.p 0
    if s.rt.tests.any (fun t => t.1 = n) then fail .busy s
    else
      let s1 := modNib n (fun r => { r with step := 0, failed := none }) s
      { st := modRt (fun r => { r with tests := r.tests ++ [(n, x.client, x.seq)] }) s1, wait := true }

/-- RT.MIGRATE (R598). -/
def cmdRtMigrate : Cmd where
  lens := inlineOnly 4
  absent := nibMissing
  range := fun x s => u16 x.p 0 < 144 && nibState s (u16 x.p 0) = 1
  body := fun x s =>
    let n := u16 x.p 0
    if ¬ s.rt.migs.isEmpty then fail .busy s
    else match targetOf s n with
    | none => fail .capacity s
    | some t => { st := beginMigration n 0 1 false s, data := le 2 t ++ le 8 (8 * (s.stem.ssi / 8 + 2 + s.rt.warmup)) }

/-- RT.SHED_SET: numbers beyond the variant's count are CAPACITY, or omitted with FIT (R14, R229). -/
def cmdRtShedSet : Cmd where
  lens := inlineOnly 8
  range := fun x _ =>
    let k := u8 x.p 0
    k ≤ 2 && u8 x.p 6 ≤ 7 && 1 ≤ u16 x.p 4 && !indexBad k (u16 x.p 2 + u16 x.p 4 - 1) && u16 x.p 2 + u16 x.p 4 ≤ kindRange k
  body := fun x s =>
    let k := u8 x.p 0
    let all := (List.range (u16 x.p 4)).map (· + u16 x.p 2)
    let gone := all.filter (indexAbsent s k)
    if ¬ gone.isEmpty ∧ ¬ x.fit then fail .capacity s
    else
      let put := (all.filter (fun n => !gone.contains n)).foldl (fun t n => tabPut 8 t (instKey k n) (u8 x.p 6)) s.rt.prio
      { st := modRt (fun r => { r with prio := put }) s, warns := gone.map (fun n => { code := 2, group := 0x0E, item := n, requested := n, applied := 0 }) }

/-- The shed priority of a number, whether an instance is there or not. -/
def prioAt (s : State) (kind index : Nat) : Nat :=
  let k := instKey kind index
  let v := tabGet 8 s.rt.prio k
  if v < 8 then v
  else match instAt s kind index with
  | some e => prioDefault e.2.prog
  | none => if kind = 0 then 4 else 6

/-- RT.SHED_GET. -/
def cmdRtShedGet : Cmd where
  lens := inlineOnly 4
  range := fun x _ => u8 x.p 0 ≤ 2 && u16 x.p 2 < kindRange (u8 x.p 0)
  body := fun x s =>
    let a := u16 x.p 2
    { st := s, sheet := sheetOf ((List.range (kindCount s (u8 x.p 0) - a)).map (fun i => BitVec.ofNat 8 (prioAt s (u8 x.p 0) (a + i)))) }

/-- The 16 bytes of entry `i` of the field repair table. -/
def repairBytes (s : State) (i : Nat) : Bytes :=
  match s.rt.repairs[i]? with
  | none => le 1 0xFF ++ zeros 15
  | some e => le 1 e.region ++ le 1 e.spare ++ le 2 e.row ++ le 1 e.cause ++ zeros 3 ++ le 8 e.ssi

/-- RT.REPAIR_GET. -/
def cmdRtRepairGet : Cmd where
  lens := inlineOnly 0
  body := fun _ s => { st := s, sheet := some ((List.range 64).flatMap (repairBytes s)) }

/-- The present Nib with the longest time since its last full pass, and that time in ms. -/
def worstNib (s : State) : Nat × Nat :=
  (presentNibs s).foldl (fun (m : Nat × Nat) n =>
    let t := s.stem.ms - (nibRec s n).passMs
    if m.2 < t then (n, t) else m) ((presentNibs s).headD 0, 0)

/-- BT.STATUS_GET. -/
def cmdBtStatusGet : Cmd where
  lens := inlineOnly 0
  body := fun _ s =>
    let w := worstNib s
    let r := s.rt
    answer (le 4 w.2 ++ le 2 w.1 ++ le 1 (b2n (blotterLow s)) ++ zeros 1 ++ le 4 (r.scrubLast / 1000) ++ le 4 ((s.stem.ms - r.scrubMs) / 1000) ++
      le 4 r.passes ++ le 4 r.fails ++ le 2 r.watch.length ++ zeros 2) s

/-- RT.ROW_RETIRE. -/
def cmdRtRowRetire : Cmd where
  lens := inlineOnly 4
  absent := fun x s => (u8 x.p 0 < 24 || (0x40 ≤ u8 x.p 0 && u8 x.p 0 < 0x49)) && !regionPresent s (u8 x.p 0)
  range := fun x s => regionPresent s (u8 x.p 0) && u16 x.p 2 < 2048
  body := fun x s => { st := s, after := retireRow (u8 x.p 0) (u16 x.p 2) 2 }

/-- BT.INJECT (R600). -/
def cmdBtInject : Cmd where
  lens := inlineOnly 3
  absent := nibMissing
  range := fun x _ => u16 x.p 0 < 144 && 1 ≤ u8 x.p 2 && u8 x.p 2 ≤ 3
  body := fun x s => { st := vellumLog 15 (u16 x.p 0) (u8 x.p 2) 0 (modNib (u16 x.p 0) (fun r => { r with inject := u8 x.p 2 }) s) }

/-! ### The meanings -/

/-- RT_STATUS_GET. -/
def execRtStatusGet (r : Request) (s : State) : Host.Outcome State Fault Refusal := serve 0x0E01 cmdRtStatusGet r s
/-- RT_CONFIG. -/
def execRtConfig (r : Request) (s : State) : Host.Outcome State Fault Refusal := serve 0x0E02 cmdRtConfig r s
/-- RT_NIB_TEST (R597). -/
def execRtNibTest (r : Request) (s : State) : Host.Outcome State Fault Refusal := serve 0x0E03 cmdRtNibTest r s
/-- RT_MIGRATE (R598). -/
def execRtMigrate (r : Request) (s : State) : Host.Outcome State Fault Refusal := serve 0x0E04 cmdRtMigrate r s
/-- RT_SHED_SET (R588). -/
def execRtShedSet (r : Request) (s : State) : Host.Outcome State Fault Refusal := serve 0x0E05 cmdRtShedSet r s
/-- RT_SHED_GET. -/
def execRtShedGet (r : Request) (s : State) : Host.Outcome State Fault Refusal := serve 0x0E06 cmdRtShedGet r s
/-- RT_REPAIR_GET. -/
def execRtRepairGet (r : Request) (s : State) : Host.Outcome State Fault Refusal := serve 0x0E07 cmdRtRepairGet r s
/-- BT_STATUS_GET. -/
def execBtStatusGet (r : Request) (s : State) : Host.Outcome State Fault Refusal := serve 0x0E08 cmdBtStatusGet r s
/-- RT_ROW_RETIRE (R592). -/
def execRtRowRetire (r : Request) (s : State) : Host.Outcome State Fault Refusal := serve 0x0E18 cmdRtRowRetire r s
/-- BT_INJECT (R600). -/
def execBtInject (r : Request) (s : State) : Host.Outcome State Fault Refusal := serve 0x0E19 cmdBtInject r s
/-- BLOTTER_DISPATCH_DONE (R579): the Nib, and whether the signature matched. -/
def execBlotterDispatchDone (n : Nat) (good : Bool) (s : State) : Host.Outcome State Fault Refusal := .next (dispatchDone n good s)
/-- DISPATCH_TIMEOUT (R579). -/
def execDispatchTimeout (n : Nat) (s : State) : Host.Outcome State Fault Refusal := .next (if nibState s n = 0 then s else nibFault n 4 false s)
/-- NIB_UNCORRECTABLE_ERROR (R579, R591). -/
def execNibUncorrectableError (n kind word key : Nat) (s : State) : Host.Outcome State Fault Refusal := .next (nibUe n kind word key s)
/-- MIGRATION_COPY (R583). -/
def execMigrationCopy (n : Nat) (s : State) : Host.Outcome State Fault Refusal := .next (migrationCopy n s)
/-- MIGRATION_SWAP (R583). -/
def execMigrationSwap (n : Nat) (same : Bool) (s : State) : Host.Outcome State Fault Refusal := .next (migrationSwap n same s)
/-- NIB_READMIT (R595). -/
def execNibReadmit (n : Nat) (s : State) : Host.Outcome State Fault Refusal := .next (nibReadmit n s)
/-- COVERAGE (R599). -/
def execCoverage (n : Nat) (s : State) : Host.Outcome State Fault Refusal := .next (coverage n s)
/-- WATCH_LIST_EXPIRY (R578): entries of 24 h leave the list. -/
def execWatchListExpiry (s : State) : Host.Outcome State Fault Refusal :=
  .next (modRt (fun r => { r with watch := r.watch.filter (fun w => decide (s.stem.ms < w.2.2 + 86400000)) }) s)
/-- REPAIR_TABLE_WRITE (R593): the table's entries are in NVS. -/
def execRepairTableWrite (s : State) : Host.Outcome State Fault Refusal :=
  .next (modRt (fun r => { r with repairs := r.repairs.map (fun e => { e with stored := true }) }) s)

end Sys2Proof.Machine
end

