-- ==== Sys2Proof/Machine/Boot.lean ====
section
/-! DEFINITION. Resets, the boot, READY, restarts of Scribe, STANDBY entry and wakes (chapters 04 and 05). -/

namespace Sys2Proof.Machine

/-! ### What a reset leaves (R105) -/

/-- The clock after a reset: the rate comes from NVS at Stem lock; AON's time of day and the crystal are kept (R44, R105). -/
def coldStem (m : Stem) : Stem :=
  { nvsFamily := m.nvsFamily, nvsMult := m.nvsMult, xoIn := m.xoIn, aonMs := m.aonMs, aonSet := m.aonSet, ms := m.ms, aonInt := !m.xoIn }

/-- Baseline after a reset at instant `ms`: FREE with a steering word of 0, or HOLDOVER at the stored frequency, whose limit waits for the
Stem's lock (R72). No candidate has met its criteria for any time yet (R58). -/
def coldBaseline (ms : Nat) (b : Baseline) : Baseline :=
  let b1 : Baseline := { policy := b.nvsPolicy, refs := b.nvsRefs, outs := b.nvsOuts, nvsPolicy := b.nvsPolicy, nvsRefs := b.nvsRefs,
                         nvsOuts := b.nvsOuts, nvsFreq := b.nvsFreq,
                         refSt := (List.range 24).foldl (fun t n => tabPut {} t n { qualMs := ms }) [] }
  match b.nvsFreq with
  | none => b1
  | some f =>
    if b.nvsPolicy.startHo = 1 ∧ -200000000 ≤ f ∧ f ≤ 200000000 then { b1 with state := .holdover, freq := f, hoFreq := f, hoWait := true } else b1

/-- The boot state after a reset: the OTP, the flash and the settings in NVS are kept. -/
def coldBoot (b : Boot) : Boot :=
  { pref := b.pref, source := b.source, svnOtp := b.svnOtp, flash := b.flash, resumeMode := b.resumeMode, autosave := b.autosave,
    resumeBad := b.resumeBad, porMs := b.porMs }

/-- A Serif port after a reset, with its gate closed on a twin partner until the claim comparison opens it. -/
def coldPort (gate : Bool) (p : SerPort) : SerPort := { cfg := p.nvs, nvs := p.nvs, gate := gate }

/-- The Serif ports after a reset. -/
def coldSerif (partner : Bool) (f : Serif) : Serif :=
  { ports := (List.range 16).foldl (fun t n => tabPut {} t n (coldPort (!partner) (tabGet {} f.ports n))) [] }

/-- Quill after a reset, on its stored settings. -/
def coldQuill (q : Quill) : Quill :=
  { ports := (List.range 4).foldl (fun t n => let p := tabGet {} q.ports n; tabPut {} t n { cfg := p.nvs, nvs := p.nvs }) [],
    ptp := (List.range 4).foldl (fun t n => let p := tabGet {} q.ptp n; tabPut {} t n { cfg := p.nvs, nvs := p.nvs }) [],
    cfg := q.nvs, nvs := q.nvs, nmos := q.nmosNvs, nmosNvs := q.nmosNvs, macBase := q.macBase }

/-- Retouch after a reset: the Nib record and the stored repairs come from NVS (R574, R593). -/
def coldRetouch (r : Retouch) : Retouch :=
  { warmup := r.nvs.1, readmit := r.nvs.2.1, faultLimit := r.nvs.2.2, nvs := r.nvs, nibs := r.nibs, repairs := r.repairs.filter (·.stored) }

/-- Ductus after a reset: the Nib states of the record, where a Nib in warm-up is a spare again (log 62). -/
def coldDuctus (v : Variant) (d : Ductus) : Ductus :=
  { nibs := d.nibs.foldl (fun t e => tabPut (nibDefault v e.1) t e.1 (if e.2 = 3 then 2 else e.2)) [], lanes := d.lanes, sw := d.nvsSw, nvsSw := d.nvsSw }

/-- The life-cycle unit after POR_N: fuses and keys are kept; nonces, the count of invalid authorisations, the debug unlock and the JTAG
instruction are not (R606, R607, R611). -/
def coldLife (l : Life) : Life := { l with nonces := [], invalid := 0, debugOpen := false, jtag := 0, tap := 0, boundary := [] }

/-- The host interfaces after a reset: pins, temperature and stored settings are kept, and the endpoint as given. -/
def coldHost (p : Pcie) (h : HostIf) : HostIf :=
  { pcie := p, pins := h.pins, temp := h.temp, tempMax := h.temp, ltc := { cfg := h.ltc.nvs, nvs := h.ltc.nvs } }

/-- The Inkwells after a reset: the grants are kept, and clients 0 and 1, whose Inkwells are open from then on, hold their grants (R224). -/
def coldInks (k : Inks) : Inks :=
  { hostGrants := k.hostGrants, certs := k.certs, anonRole := k.anonRole,
    wells := tabPut { bind := .pcie, role := 5 } (tabPut { bind := .hspi, role := 3 } [] 1 { bind := .hspi, role := k.hostGrants.getD 1 0 }) 0
      { bind := .pcie, role := k.hostGrants.getD 0 0 } }

/-- What both resets share: everything outside AON and the PCIe endpoint is cleared, but for NVS and OTP (R105). -/
def coldState (s : State) : State :=
  let part := s.twin.nvs.en
  { pending := s.pending, draws := s.draws, variant := s.variant, stem := coldStem s.stem, bl := coldBaseline s.stem.ms s.bl, boot := coldBoot s.boot,
    power := { wakeEn := s.power.nvsWakeEn, stbyPort := s.power.nvsStbyPort, nvsWakeEn := s.power.nvsWakeEn, nvsStbyPort := s.power.nvsStbyPort },
    ink := coldInks s.ink, host := coldHost {} s.host,
    twin := { cfg := s.twin.nvs, nvs := s.twin.nvs, partner := part, gateOpen := !part }, hush := { nvs := s.hush.nvs },
    serif := coldSerif part s.serif, quill := coldQuill s.quill, ms := { cfg := s.ms.nvs, nvs := s.ms.nvs, roster := s.ms.roster },
    rt := coldRetouch s.rt, life := coldLife s.life, feed := { xmiMib := s.feed.xmiMib, cols := s.feed.cols }, dx := coldDuctus s.variant s.dx,
    prog := { cue := { cfg := s.prog.cue.nvs, nvs := s.prog.cue.nvs, map := s.prog.cue.map } }, lig := { patch := s.lig.nvsPatch, nvsPatch := s.lig.nvsPatch },
    sheen := { image := s.sheen.nvs, nvs := s.sheen.nvs }, vl := s.vl, resume := s.resume }

/-- POR_N low: everything but AON's time of day, NVS and OTP is cleared, and the engine is HELD (R100, R101, R105). -/
def porReset (s : State) : State :=
  let t := modPower (fun p => { p with mode := .held }) (coldState s)
  { t with draws := t.draws + 1, life := { t.life with ephemeral := t.draws } }

/-- Hush as an internal reset leaves it: the supervision goes on, and the override restarts as AON holds it (R383). -/
def keptHush (h : Hush) : Hush := { h with ovUp := h.asserted, ovDone := 0, ovLen := 0, ovFrom := 0 }

/-- The Power and wake state that AON keeps through an internal reset (R732). -/
def keptPower (p : Power) : Power :=
  { wakeEn := p.wakeEn, stbyPort := p.stbyPort, nvsWakeEn := p.nvsWakeEn, nvsStbyPort := p.nvsStbyPort, wakeAt := p.wakeAt, causes := p.causes,
    first := p.first, hostRead := p.hostRead, wakeMs := p.wakeMs, wakePin := p.wakePin, stbyEntries := p.stbyEntries, wakeMaxMs := p.wakeMaxMs }

/-- The stage changes with its signal, whatever the present one is. -/
def toStage (g : Stage) (s : State) : State := if s.boot.stage = g then s else setStage g s

/-- The internal reset after XO_IN loss or by SYS.RESTART: everything outside AON and the PCIe endpoint is cleared, and the engine is in
BOOT; Serif ports that the Hush record names run on its PORT_CFG again (R105, R118, R130). RESET_CAUSE gathers the cause `bit`. -/
def internalReset (bit : Nat) (s : State) : State :=
  let s0 := coldState s
  let s1 := { s0 with power := keptPower s.power, hush := keptHush s.hush, life := s.life, host := coldHost s.host.pcie s.host,
                      boot := { s0.boot with resetCause := setBit s.boot.resetCause bit, stage := s.boot.stage } }
  toStage .rom (takeHushPorts {} s1)

/-! ### The boot (R110 to R115) -/

/-- RET_PENDING is blown and RET is not (R610). -/
def zeroising (s : State) : Bool := s.life.retPending && s.life.state ≠ 3

/-- The boot ROM begins to choose a source: under HOST_FIRST it waits for the host image (R110). -/
def chooseSource (s : State) : State :=
  let s1 := modBoot (fun b => { b with tried := [], waitMs := s.stem.ms }) s
  toStage (if s.boot.source = 1 ∧ ¬ zeroising s then .waitHost else .rom) s1

/-- Baseline starts in HOLDOVER or FREE: HOLDOVER_ENTER, or FREE_ENTER with CAUSE 4 (R72, R95). -/
def startBaseline (s : State) : State :=
  if s.bl.state = .holdover then let t := enterHoldover s; { t with bl := { t.bl with hoWait := true } } else enterFree 4 s

/-- The boot starts once XO_IN runs: Baseline starts, the board record is read, and the boot ROM begins (R666, R728). -/
def beginBoot (s : State) : State := chooseSource (readBoard (startBaseline (modBoot (fun b => { b with bootMs := s.stem.ms }) s)))

/-- The flash slots not yet tried at this boot, in order (R110). -/
def slotsLeft (s : State) : List Nat := [s.boot.pref, 1 - s.boot.pref].filter (fun n => !s.boot.tried.contains n)

/-- Record a boot failure of a source (R111). -/
def recordFail (src code : Nat) (s : State) : State :=
  modBoot (fun b => if src = 0 then { b with failA := code } else if src = 1 then { b with failB := code } else { b with failHost := code }) s

/-- A source has failed: the next one is tried, or the ROM waits for a host image without limit (R111). -/
def sourceFails (src code : Nat) (s : State) : State :=
  let s1 := modBoot (fun b => { b with tried := src :: b.tried, running := false }) (recordFail src code s)
  if (slotsLeft s1).isEmpty then toStage .waitHost s1 else toStage .rom s1

/-- An image starts: BOOT_STATUS says whence it came, and the boot watchdog runs (R112, R113). -/
def startImage (src : Nat) (c : ImageCheck) (s : State) : State :=
  let s1 := recordFail src c.code (modBoot (fun b => { b with slot := src, fallback := b.tried ≠ [], unverified := c.code ≠ 0, svnImg := c.svn,
                                                              fwVer := c.ver, waitMs := s.stem.ms, running := false }) s)
  toStage .fwInit s1

/-- The boot ROM reads a source's header, verifies the image, and starts or rejects it (R111, R113). -/
def trySource (src : Nat) (readOk : Bool) (s : State) : State :=
  let s1 := toStage .header s
  if ¬ readOk then sourceFails src 7 s1
  else
    let c := checkImage s.life.state src s
    if c.code = 1 then sourceFails src 1 s1
    else
      let n := u32 (imageBytes s src 0 256) 12
      let s2 := sealUse (sha256 (imageBytes s src 256 n)) n (toStage .verifying s1)
      if c.runs then startImage src c s2 else sourceFails src c.code s2

/-- The boot ROM reads the next flash slot. -/
def bootSourceRead (readOk : Bool) (s : State) : State :=
  if s.power.mode ≠ .booting ∨ ¬ s.stem.xoIn ∨ s.boot.stage ≠ .rom ∨ zeroising s then s
  else match slotsLeft s with
  | [] => s
  | n :: _ => trySource n readOk s

/-- BOOT_CTRL.GO: the host image is in the load window; acted on only in WAIT_HOST (R115). -/
def bootGo (s : State) : State := if s.boot.stage = .waitHost then trySource 2 true s else s

/-- HOST_FIRST's wait of 2 s has passed with no GO: NO_IMAGE (R110). -/
def hostWaitExpires (s : State) : State :=
  if s.boot.stage = .waitHost ∧ s.boot.source = 1 ∧ s.boot.tried = [] ∧ s.boot.waitMs + 2000 ≤ s.stem.ms then sourceFails 2 1 s else s

/-- The boot watchdog: no running signal within 2 s of the image's start (R112). -/
def bootWatchdog (s : State) : State :=
  if s.boot.stage ≠ .fwInit ∨ s.boot.running ∨ s.stem.ms < s.boot.waitMs + 2000 then s
  else sourceFails s.boot.slot 6 (modBoot (fun b => { b with resetCause := setBit b.resetCause 7 }) s)

/-- The firmware signals that it runs; the Scribe watchdog is armed (R112, R729). -/
def fwRunning (s : State) : State :=
  if s.boot.stage ≠ .fwInit ∨ s.boot.running then s
  else
    let s1 := modBoot (fun b => { b with running := true, wdtArmed := true }) s
    if s.boot.fallback then vellumCount 11 s1 else s1

/-- Inkwells serve basic commands, and the resume begins (R122, R133). -/
def serveBasic (s : State) : State :=
  if s.boot.stage ≠ .fwInit ∨ ¬ s.boot.running then s else toStage .restoring (modBoot (fun b => { b with inkBasic := true }) s)

/-- Zeroisation: the final export is written, the keys and the user data of NVS are erased, and RET is blown (R610). -/
def zeroise (s : State) : State :=
  if ¬ zeroising s ∨ s.power.mode ≠ .booting ∨ ¬ s.stem.xoIn ∨ s.boot.stage ≠ .rom then s
  else
    let s1 :=
      if s.life.finalDone then s
      else
        let t := vellumWrite 4 [] s
        modLife (fun l => { l with finalDone := true }) { modVl (fun v => { v with final := some (exportBytes 1 [] t) }) t with draws := t.draws + 1 }
    let blank : State := { variant := s.variant }
    let e := { blank with life := s1.life, quill := { macBase := s1.quill.macBase }, rt := { nibs := s1.rt.nibs, repairs := s1.rt.repairs },
                          dx := { nibs := s1.dx.nibs, lanes := s1.dx.lanes }, stem := { s1.stem with nvsFamily := 0, nvsMult := 1 } }
    let c := coldState e
    let boot := { s1.boot with pref := 0, source := 0, resumeMode := 0, autosave := 60, resumeBad := false }
    let ink := { s1.ink with hostGrants := c.ink.hostGrants, wells := c.ink.wells, certs := [], anonRole := 1 }
    let power := { s1.power with nvsWakeEn := 15, nvsStbyPort := 0 }
    let host := { s1.host with ltc := {} }
    let s2 := { s1 with bl := c.bl, twin := c.twin, serif := c.serif, quill := c.quill, ms := c.ms, rt := c.rt, dx := c.dx, prog := c.prog,
                        lig := c.lig, sheen := c.sheen, stem := e.stem, boot := boot, ink := ink, power := power, host := host, resume := none }
    let s3 := modHush (fun h => { h with nvs := none, cfg := {}, record := [], defaults := true }) s2
    let gone := modLife (fun l => { l with idKey := none, idPub := zeros 64, idKeyHash := 0, state := 3 }) s3
    chooseSource (countTransition s.life.state 3 gone)

/-! ### READY (R119, R128, R129, R472, R478) -/

/-- RESUME_FAIL. -/
def resumeFails (cause count : Nat) (s : State) : State := raise 0x0104 (le 1 cause ++ zeros 3 ++ le 4 count) s

/-- The engine can become ready. -/
def canReady (s : State) : Bool := s.boot.stage = .restoring && s.power.mode = .booting && s.stem.stemLock

/-- The engine becomes ready at a boundary: the record is applied, and the mode is entered. -/
def becomeReady (s : State) : State :=
  if ¬ canReady s then s
  else
    let good := s.resume.isSome && !s.boot.resumeBad
    let s1 := match s.resume with
      | some r =>
        let b := Config.resumeBytes r
        let t := sealUse (le 4 (crc32c b).toNat) b.length s
        if good then applyRecord r t else t
      | none => s
    let part := isPartner s
    let member := s.ms.cfg.autoJoin && s.ms.cfg.msId ≠ 0
    let target := if part then Mode.shadow else if member then .commission else if good ∧ s.boot.resumeMode = 0 then .showing else .commission
    let full := decide (target = .showing ∨ target = .shadow)
    let s2 := if full then shedExcess s1.prog.insts.length s1 else s1
    let s3 := startPorts s2
    let s4 := enterMode target 1 s3
    let ready := s.stem.ms - s.boot.bootMs
    let s5 := vellumBin 7 (min 15 (ready / 100)) (startAutosave (modBoot (fun b => { b with readyMs := ready }) (toStage .ready s4)))
    let shed := (shedKeys s2).length
    let s6 := if s.resume.isNone then resumeFails 0 0 s5 else if ¬ good then resumeFails 1 0 s5 else if 0 < shed then resumeFails 2 shed s5 else s5
    let s7 := announceUnwarned s6
    if part then twinHello (twinState 3 0 (modTwin (fun w => { w with forming := true, formMs := s.stem.ms }) s7))
    else if member then startJoin s7 else s7

/-! ### Restarts of Scribe (R106, R107, R729) -/

/-- The network control sessions drop; their tokens stay (R107). -/
def dropSessions (s : State) : State :=
  (wellNumbers.filter (fun n => live n s)).foldl (fun t n =>
    modWell n (fun w => { w with connected := false, dropped := true, dropMs := s.stem.ms, unanswered := 0 }) t) s

/-- Scribe runs, from the boot ROM on: neither watchdog nor comparator acts in STANDBY (R729). -/
def scribeRuns (s : State) : Bool := s.power.mode ≠ .held && s.stem.xoIn && (s.power.mode ≠ .standby || s.power.waking)

/-- The firmware has signalled that it runs: the Scribe watchdog acts (R729). -/
def firmwareRuns (s : State) : Bool := s.boot.wdtArmed && scribeRuns s

/-- The Inkwell hardware answers every waiting request NOT_READY (R120, R149). -/
def answerEvery (s : State) : State := wellNumbers.foldl (fun t n => answerAll n t) s

/-- Scribe restarts: cores and TCM are cleared, sessions drop, what it interrupts is kept in mind, and the hardware answers the requests
that wait (R105, R120, R729). -/
def scribeRestart (cause counter : Nat) (s : State) : State :=
  let st := if s.boot.stage = .scribeRestart then s.boot.resumeStage else some s.boot.stage
  let s1 := modBoot (fun b => { b with resumeStage := st, inkBasic := false, resetCause := setBit b.resetCause cause }) (vellumCount counter (dropSessions s))
  toStage .scribeRestart (answerEvery { s1 with feed := { s1.feed with tcm := [] }, ink := { s1.ink with tls := 0, tlsQueue := 0 } })

/-- SCRIBE_RESTART_DONE: the firmware resumes what was interrupted, and raises the events that Hush has latched (R384, R729). -/
def scribeDone (s : State) : State :=
  if s.boot.stage ≠ .scribeRestart then s
  else
    let g := match s.boot.resumeStage with
      | some .waking => Stage.waking
      | some .ready => .ready
      | _ => .restoring
    let s1 := modBoot (fun b => { b with resumeStage := none, inkBasic := g ≠ .waking }) s
    showHidden (toStage g s1)

/-- SYS.RESTART: the reply is written first (R130). -/
def cmdRestart : Cmd where
  lens := inlineOnly 1
  range := fun x _ => u8 x.p 0 ≤ 1
  body := fun x s =>
    if u8 x.p 0 = 1 then { st := s, after := fun t => rebootDue (vellumCount 9 t) } else { st := s, after := scribeRestart 4 9 }

/-- The reboot of SYS.RESTART at a period boundary (R130). -/
def reboot (s : State) : State := if s.boot.restartDue then beginBoot (internalReset 8 s) else s

/-! ### The crystal (R39) -/

/-- XO_IN stops: AON goes over to its own oscillator and the internal reset holds everything outside AON (R39, R105, log 62). -/
def xoStops (s : State) : State :=
  let gone := fun (t : State) => { t with stem := { t.stem with xoIn := false, xoOk := false, aonInt := true, stemLock := false } }
  if ¬ s.stem.xoIn then s
  else if s.power.mode = .held then gone s
  else gone (internalReset 1 (vellumLog 9 0 0 0 (vellumCount 4 s)))

/-- XO_IN has been present for 10 ms: AON returns to it, and the boot starts. -/
def xoReturns (s : State) : State :=
  if s.stem.xoIn then s
  else
    let s1 := { s with stem := { s.stem with xoIn := true, xoOk := true, aonInt := false } }
    if s.power.mode = .held then s1 else beginBoot s1

/-! ### POR_N (R99 to R101, R116, R117) -/

/-- POR_N is released: the records load, AON starts with Hush asserted, and the boot begins once XO_IN runs. -/
def porRelease (xo : Bool) (s : State) : State :=
  if s.power.mode ≠ .held ∨ s.life.jtag = 2 then s
  else
    let s1 := loadVellum { s with stem := { s.stem with xoIn := xo, xoOk := xo, aonInt := !xo } }
    let s2 := loadHushRecord (modBoot (fun b => { b with porMs := s.stem.ms }) (modPower (fun p => { p with mode := .booting }) s1))
    let s3 := if hushRecordBad s2 then latchFault 2 s2 else s2
    if xo then beginBoot s3 else s3

/-! ### STANDBY and wakes (R145 to R160) -/

/-- End the network control sessions and discard their tokens (R147). -/
def endSessions (s : State) : State :=
  (wellNumbers.filter (fun n => (well s n).bind = .net)).foldl (fun t n => closeInk n t) s

/-- The contents of the Nib stores and of the accumulator files are lost with the Nibs' power (R145). -/
def loseStores (s : State) : State :=
  { s with feed := { s.feed with store := [], poison := s.feed.poison.filter (fun w => ¬ (0x48000000 ≤ 8 * w ∧ 8 * w < 0x49200000)) },
           dx := { s.dx with acc := [] } }

/-- The units power down to their STANDBY states: the links of the other ports, their candidates, the FSYNC candidates, the Serif
ports that Hush does not hold, and the Nibs (R145, R146). -/
def powerDown (s : State) : State :=
  let others := (List.range (netPorts s.variant)).filter (· ≠ s.power.stbyPort)
  let s1 := others.foldl (fun t n => causeArises n 2 (linkDown n t)) s
  let s2 := (portNumbers s1).foldl (fun t n => causeArises (8 + n) 2 t) s1
  loseStores (stopPorts s2)

/-- A WAKE_AT that the SSI has reached fires, once (R156). -/
def timerFires (s : State) : State :=
  if s.power.mode = .standby ∧ s.power.wakeAt ≠ 0 ∧ s.power.wakeAt ≤ s.stem.ssi then latchCause 5 (modPower (fun p => { p with wakeAt := 0 }) s) else s

/-- STANDBY entry can complete: the fades are over. -/
def canStandby (s : State) : Bool := s.power.entering && s.power.fadeLen ≤ s.power.fadeDone && s.power.gen.len ≤ s.power.gen.done

/-- STANDBY entry completes after the fade, at a boundary; a wake returns to the mode that it leaves (R137, R147, R155, R156). -/
def standbyReached (s : State) : State :=
  if ¬ canStandby s then s
  else
    let s1 := writeResume { s with quill := { s.quill with txOff := true } }
    let s2 := vellumWrite 2 [] (vellumCount 12 (endSessions s1))
    let s3 := enterMode .standby 0 (powerDown s2)
    let free := decide (s.bl.state = .holdover ∨ s.bl.state = .free)
    let s4 := modPower (fun p => { p with entering := false, enterFrom := s.power.mode, causes := 0, first := 7, hostRead := false, wakeMs := 0, wakeHeld := none,
                                          stbyEntries := p.stbyEntries + 1, refLost := free }) s3
    let s5 := toStage .standby (answerEvery (modBoot (fun b => { b with inkBasic := false }) s4))
    match s.power.wakeHeld with
    | some i => startWake i s5
    | none => timerFires s5

/-- ARMED_DROPPED for the actions that fell due while no command was served (R151). -/
def tellDeferred (s : State) : State :=
  s.ink.deferred.foldl (fun t e => raiseTo e.1 e.2.ssi e.2.type e.2.payload t) { s with ink := { s.ink with deferred := [] } }

/-- During a wake, Inkwells serve basic commands again (R157). -/
def wakeServes (s : State) : State :=
  if ¬ s.power.waking ∨ s.boot.inkBasic ∨ s.boot.stage ≠ .waking then s else tellDeferred (modBoot (fun b => { b with inkBasic := true }) s)

/-- A sink as it starts again after a wake: at the target of its crossfade and ramp (R160). -/
def restSink (k : Sink) : Sink :=
  { k with live := k.held.getD k.live, held := none, cmd := none, moving := none, fadeLen := 0, fadePos := 0, ramp := none }

/-- A wake can complete. -/
def canWake (s : State) : Bool := s.power.waking && s.boot.inkBasic

/-- The wake completes: failing Nibs are retired, everything starts from zero state, and the engine is back in the mode it left
(R157 to R160). `bad` are the Nibs that fail the quick check. -/
def wakeDone (bad : List Nat) (s : State) : State :=
  if ¬ canWake s then s
  else
    let s1 := bad.foldl wakeCheckFails s
    let sinks := s1.lig.sinks.foldl (fun t e => tabPut {} t e.1 (restSink e.2)) []
    let s2 := { s1 with prog := { s1.prog with insts := s1.prog.insts.map (fun e => (e.1, restInst e.2)) }, lig := { s1.lig with sinks := sinks, fifo := [] },
                        dx := { s1.dx with open_ := [], carried := false, repeatTo := 0, stall := 0 }, quill := { s1.quill with txOff := false } }
    let ms := s.stem.ms - s.power.wakeMs0
    let s3 := vellumBin 6 (min 15 (ms / 8)) (vellumCount 13 (startPorts s2))
    let s4 := enterMode s.power.enterFrom 2 (modPower (fun p => { p with waking := false }) s3)
    let s5 := modPower (fun p => { p with wakeMs := ms, wakeMaxMs := max p.wakeMaxMs ms, events := setBit p.events 1 }) s4
    toStage .ready (startAutosave s5)

/-! ### Steps at a boundary (R138) -/

/-- The guard of a step. -/
def canStep (s : State) : ModeStep → Bool
  | .ready => canReady s
  | .standby => canStandby s
  | .wake _ => canWake s

/-- The effect of a step. -/
def runStep (s : State) : ModeStep → State
  | .ready => becomeReady s
  | .standby => standbyReached s
  | .wake bad => wakeDone bad s

/-- A step that changes the mode acts at a boundary: between boundaries it waits for the next (R138). -/
def stepOrWait (p : ModeStep) (s : State) : State :=
  if s.stem.ssi % 8 = 0 then runStep s p
  else if canStep s p ∧ p ∉ s.power.steps then modPower (fun q => { q with steps := q.steps ++ [p] }) s
  else s

/-- The steps that have waited for this boundary. -/
def runSteps (s : State) : State := s.power.steps.foldl runStep (modPower (fun q => { q with steps := [] }) s)

/-- An AUTOSAVE interval ends: with changes, the record is written (R127). -/
def autosaveEnds (s : State) : State :=
  let b := s.boot
  if b.autosave = 0 ∨ s.stem.ms < b.autoMs + 1000 * b.autosave ∨ b.stage ≠ .ready ∨ s.power.mode = .standby then s
  else
    if resumeStale s then writeResume (startAutosave s) else startAutosave s

/-! ### The meanings -/

/-- SYS_RESTART (R130). -/
def execSysRestart (r : Request) (s : State) : Host.Outcome State Fault Refusal := serve 0x0131 cmdRestart r s
/-- BOOT_CTRL_GO (R115). -/
def execBootCtrlGo (via : Via) (s : State) : Host.Outcome State Fault Refusal := .next (if reach via s then bootGo (access via s) else s)
/-- POR_N_ASSERT (R100). -/
def execPorNAssert (s : State) : Host.Outcome State Fault Refusal := .next (porReset s)
/-- POR_N_RELEASE (R99). -/
def execPorNRelease (xo : Bool) (s : State) : Host.Outcome State Fault Refusal := .next (porRelease xo s)
/-- XO_LOSS (R39). -/
def execXoLoss (s : State) : Host.Outcome State Fault Refusal := .next (xoStops s)
/-- XO_RETURN (R39). -/
def execXoReturn (s : State) : Host.Outcome State Fault Refusal := .next (xoReturns s)
/-- BOOT_SOURCE_READ (R113): whether the flash could be read. -/
def execBootSourceRead (readOk : Bool) (s : State) : Host.Outcome State Fault Refusal := .next (bootSourceRead readOk s)
/-- HOST_FIRST_WAIT_EXPIRY (R110). -/
def execHostFirstWaitExpiry (s : State) : Host.Outcome State Fault Refusal := .next (hostWaitExpires s)
/-- BOOT_WATCHDOG (R112). -/
def execBootWatchdog (s : State) : Host.Outcome State Fault Refusal := .next (bootWatchdog s)
/-- FW_RUNNING_SIGNAL (R112). -/
def execFwRunningSignal (s : State) : Host.Outcome State Fault Refusal := .next (fwRunning s)
/-- INKWELLS_SERVE_BASIC (R122). -/
def execInkwellsServeBasic (s : State) : Host.Outcome State Fault Refusal := .next (serveBasic s)
/-- READY (R128). -/
def execReady (s : State) : Host.Outcome State Fault Refusal := .next (stepOrWait .ready s)
/-- ZEROISATION (R610). -/
def execZeroisation (s : State) : Host.Outcome State Fault Refusal := .next (zeroise s)
/-- SCRIBE_WATCHDOG (R106). -/
def execScribeWatchdog (s : State) : Host.Outcome State Fault Refusal := .next (if firmwareRuns s then scribeRestart 3 7 s else s)
/-- LOCKSTEP_MISMATCH (R105): the claim is given up, and Scribe restarts (R487). -/
def execLockstepMismatch (s : State) : Host.Outcome State Fault Refusal :=
  .next (if scribeRuns s then scribeRestart 5 8 (vellumLog 10 0 0 0 (signalGiveUp 1 s)) else s)
/-- SCRIBE_RESTART_DONE (R729). -/
def execScribeRestartDone (s : State) : Host.Outcome State Fault Refusal := .next (scribeDone s)
/-- STANDBY_ENTRY_COMPLETE (R147). -/
def execStandbyEntryComplete (s : State) : Host.Outcome State Fault Refusal := .next (stepOrWait .standby s)
/-- WAKE_INKWELLS_READY (R157). -/
def execWakeInkwellsReady (s : State) : Host.Outcome State Fault Refusal := .next (wakeServes s)
/-- WAKE_COMPLETE (R158). -/
def execWakeComplete (bad : List Nat) (s : State) : Host.Outcome State Fault Refusal := .next (stepOrWait (.wake bad) s)
/-- WAKE_AT_REACHED (R156). -/
def execWakeAtReached (s : State) : Host.Outcome State Fault Refusal := .next (timerFires s)
/-- AUTOSAVE (R127). -/
def execAutosave (s : State) : Host.Outcome State Fault Refusal := .next (autosaveEnds s)

end Sys2Proof.Machine
end

