-- ==== Sys2Proof/Machine/Cancel.lean ====
section
/-! DEFINITION. SYS.ARMED_CANCEL: the role it needs, and the removal of an armed action (R239, R240). -/

namespace Sys2Proof.Machine

/-- An armed change sets a parameter that needs ENGINEER. -/
def changeEngineer (s : State) (c : Change) : Bool :=
  match mapGet s.prog.insts c.key with | some i => c.params.any (entryEngineer s c.key i) | none => false

/-- The role that arming the action took: that of its opcode, and ENGINEER for an engineer's parameter and for NO_SAFES (R239). -/
def armedRole (s : State) (a : Armed) : Nat :=
  let base := ((opRow a.opcode).map (·.role)).getD 1
  match a.opcode with
  | 0x0703 => if a.turn.changes.any (changeEngineer s) then 3 else base
  | 0x0802 | 0x0C06 => if bit a.turn.flags 2 then 3 else base
  | _ => base

/-- The role that cancelling needs (R239). -/
def cancelRole (x : Ctx) (s : State) : Bool :=
  let n := namedClient x (u8 x.p 0)
  if n = x.client then
    match armedAt s n (u16 x.p 2) with
    | some a => roleMeets x.role (armedRole s a)
    | none => true
  else roleMeets x.role 3

/-- Remove the action of a client and SEQ. -/
def removeArmed (n q : Nat) (s : State) : State :=
  { s with ink := { s.ink with armed := s.ink.armed.filter (fun a => ¬ (a.client = n ∧ a.seq = q)) } }

/-- What an action holds beside its arming: a handover of the Twin unit, a Flourish of the manuscript. -/
def withdraw (a : Armed) (s : State) : State :=
  match a.opcode with
  | 0x0B03 => modTwin (fun w => { w with handover := if (w.handover.bind (·.cmd)) = some (a.client, a.seq) then none else w.handover }) s
  | 0x0C06 => modMs (fun m => { m with flourishes := m.flourishes.filter (fun f => ¬ (f.client = a.client ∧ f.cseq = a.seq ∧ f.apply = a.applySsi)) }) s
  | _ => s

/-- The command SYS.ARMED_CANCEL (R239, R240). -/
def cmdArmedCancel : Cmd where
  lens := inlineOnly 4
  role := cancelRole
  range := fun x _ => isClient (u8 x.p 0)
  body := fun x s =>
    let n := namedClient x (u8 x.p 0)
    match armedAt s n (u16 x.p 2) with
    | none => fail .badParam s
    | some a => if a.applySsi < s.stem.ssi + 16 then fail .late s else { st := withdraw a (removeArmed n (u16 x.p 2) s) }

/-- SYS.ARMED_CANCEL. -/
def execSysArmedCancel (r : Request) (s : State) : Host.Outcome State Fault Refusal := serve 0x0153 cmdArmedCancel r s

end Sys2Proof.Machine
end

