-- ==== Sys2Proof/Machine/Memory.lean ====
section
/-! DEFINITION. The Feed address map and the memories on it (R528, R529, R532, R533). -/

namespace Sys2Proof.Machine

/-- The regions of the address map (R528). -/
inductive Region where
  | rom | tcm | res | exch | ink | regs | barrel | store | nvs | xmi
  deriving DecidableEq, Repr

/-- The unit that a register block belongs to is present (R31). -/
def blockPresent (v : Variant) (i : Nat) : Bool := (i ≠ 8 || hasTwin v) && (i ≠ 12 || hasXmi v)

/-- The region of a Feed address, or none where DECODE answers (R528, R529). -/
def regionOf (s : State) (a : Nat) : Option Region :=
  let v := s.variant
  if a < 0x10000 then some .rom
  else if 0x1000000 ≤ a ∧ a < 0x1100000 then some .tcm
  else if 0x10000000 ≤ a ∧ a < 0x10000000 + banksOf v * 0x200000 then some .res
  else if 0x14000000 ≤ a ∧ a < 0x14040000 then some .exch
  else if 0x20000000 ≤ a ∧ a < 0x20400000 then some .ink
  else if 0x30000000 ≤ a ∧ a < 0x31000000 then (if blockPresent v ((a - 0x30000000) / 0x100000) then some .regs else none)
  else if 0x40000000 ≤ a ∧ a < 0x40000000 + barrelsOf v * 0x200000 then some .barrel
  else if 0x48000000 ≤ a ∧ a < 0x49200000 then (if nibState s ((a - 0x48000000) / 0x20000) ≠ 0 then some .store else none)
  else if 0x50000000 ≤ a ∧ a < 0x51000000 then some .nvs
  else if 0x1000000000 ≤ a ∧ a < 0x1000000000 + xmiMib s * 0x100000 then some .xmi
  else none

/-- The target port of an address in a region (R528). -/
def feedPort (g : Region) (a : Nat) : Nat :=
  match g with
  | .rom => 0 | .tcm => 0 | .res => if (a - 0x10000000) / 0x200000 % 2 = 0 then 1 else 2
  | .exch => 3 | .ink => 4 | .regs => 5 | .barrel => 6 | .store => 6 | .nvs => 7 | .xmi => 8

/-- The memories that STANDBY keeps in retention, in self-refresh or without power (R145). -/
def retained : Region → Bool
  | .tcm | .res | .exch | .barrel | .store | .xmi => true
  | _ => false

/-- The masters that reach a target port (R532). -/
def reaches : Nat → Nat → Bool
  | 0, _ => true
  | 9, _ => true
  | 1, t => [1, 2, 6, 8].contains t
  | 2, t => [1, 2].contains t
  | 3, t => [1, 2].contains t
  | 4, t => [1, 2, 4].contains t
  | 5, t => [1, 2, 4].contains t
  | 6, t => [0, 1, 2, 3, 6, 7, 8].contains t
  | 7, t => [1, 2, 6].contains t
  | 8, t => [1, 2, 6, 8].contains t
  | _, _ => false

/-- Master `m` may make this access: the path, the Nib stores, M9 outside MAINTENANCE, and the read-only regions (R532, R533). -/
def permitted (s : State) (m : Nat) (write : Bool) (g : Region) (a : Nat) : Bool :=
  reaches m (feedPort g a) && (g ≠ .store || [0, 1, 7, 9].contains m) && (m ≠ 9 || s.power.mode = .maintenance) &&
    !(write && (g = .nvs || g = .rom)) && !(memoriesHeld s && retained g)

/-- The image load area covers an address while the boot ROM runs: the sheet pool's region and the first 4 KiB of bank 4 (R114). -/
def inLoadArea (s : State) (a : Nat) : Bool :=
  romRuns s && 0x10000000 ≤ a && a < 0x10801000

/-- The byte at a Feed address outside the Inkwells and the register blocks. -/
def memByte (s : State) (a : Nat) : Byte :=
  match regionOf s a with
  | some .rom => Config.romByte a
  | some .tcm => memGet 0 s.feed.tcm (a - 0x1000000)
  | some .res =>
    if inLoadArea s a then memGet 0 s.boot.loadArea (a - 0x10000000)
    else if a < 0x10800000 then memGet 0 s.ink.sheetMem (a - 0x10000000) else memGet 0 s.feed.res (a - 0x10000000)
  | some .exch => memGet 0 s.feed.exch (a - 0x14000000)
  | some .barrel => memGet 0 s.feed.barrel (a - 0x40000000)
  | some .store => memGet 0 s.feed.store (a - 0x48000000)
  | some .nvs => Config.nvsByte (a - 0x50000000)
  | some .xmi => memGet 0 s.feed.xmi (a - 0x1000000000)
  | _ => 0

/-- Write a byte at a Feed address outside the Inkwells and the register blocks. -/
def setByte (a : Nat) (b : Byte) (s : State) : State :=
  let f := s.feed
  match regionOf s a with
  | some .tcm => { s with feed := { f with tcm := tabPut 0 f.tcm (a - 0x1000000) b } }
  | some .res =>
    if inLoadArea s a then { s with boot := { s.boot with loadArea := tabPut 0 s.boot.loadArea (a - 0x10000000) b } }
    else if a < 0x10800000 then { s with ink := { s.ink with sheetMem := tabPut 0 s.ink.sheetMem (a - 0x10000000) b } }
    else { s with feed := { f with res := tabPut 0 f.res (a - 0x10000000) b } }
  | some .exch => { s with feed := { f with exch := tabPut 0 f.exch (a - 0x14000000) b } }
  | some .barrel => { s with feed := { f with barrel := tabPut 0 f.barrel (a - 0x40000000) b } }
  | some .store => { s with feed := { f with store := tabPut 0 f.store (a - 0x48000000) b } }
  | some .xmi => { s with feed := { f with xmi := tabPut 0 f.xmi (a - 0x1000000000) b } }
  | _ => s

/-- `n` bytes upwards from a Feed address. -/
def memBytes (s : State) (a : Nat) : Nat → Bytes
  | 0 => []
  | n + 1 => memByte s a :: memBytes s (a + 1) n

/-- The 64-bit word that holds an address is poisoned (R543). -/
def poisoned (s : State) (a : Nat) : Bool := s.feed.poison.contains (a / 8)

/-- Change Feed. -/
def modFeed (f : Feed → Feed) (s : State) : State := { s with feed := f s.feed }

/-! ### Errors and what Feed reports (R534, R543, R558) -/

/-- Feed answers master `m` at address `a` with a response other than OKAY (R534). -/
def respond (code m a : Nat) (s : State) : State :=
  let t := match regionOf s a with | some g => feedPort g a | none => 0
  let s1 := modFeed (fun f => { f with lastResp := code, lastMaster := m, lastTarget := t, lastAddr := a }) s
  match code with
  | 1 => modFeed (fun f => { f with decode := (f.decode + 1) % 2 ^ 32 }) s1
  | 2 => modFeed (fun f => { f with access := (f.access + 1) % 2 ^ 32 }) s1
  | 3 => modFeed (fun f => { f with ecc := (f.ecc + 1) % 2 ^ 32 }) s1
  | 5 => modFeed (fun f => { f with atomic := (f.atomic + 1) % 2 ^ 32 }) s1
  | _ => s1

/-- MEM_FAULT: at most one per KIND per 100 ms, with the events since the last one (R558). -/
def memFault (kind unit master offset n : Nat) (s : State) : State :=
  let c := tabGet 0 s.feed.memCount kind + n
  let last := tabGet 0 s.feed.memMs kind
  if last ≠ 0 ∧ s.stem.ms + 1 < last + 100 then modFeed (fun f => { f with memCount := tabPut 0 f.memCount kind c }) s
  else
    raise 0x0105 (le 1 kind ++ le 1 unit ++ le 1 master ++ zeros 1 ++ le 4 offset ++ le 4 c)
      (modFeed (fun f => { f with memCount := tabPut 0 f.memCount kind 0, memMs := tabPut 0 f.memMs kind (s.stem.ms + 1) }) s)

/-- The Retouch region that an address lies in, and its word there: a Reservoir bank, a barrel memory, or 0x100 + n for the Nib
store of Nib n; none for the memories that no row table covers. -/
def rowRegion (s : State) (a : Nat) : Option (Nat × Nat) :=
  match regionOf s a with
  | some .res => some ((a - 0x10000000) / 0x200000, (a - 0x10000000) % 0x200000 / 8)
  | some .barrel => some (0x40 + (a - 0x40000000) / 0x200000, (a - 0x40000000) % 0x200000 / 8)
  | some .store => some (0x100 + (a - 0x48000000) / 0x20000, (a - 0x48000000) % 0x20000 / 8)
  | _ => none

/-- A read finds a single-bit error: the corrected word is written back and counted (R543). -/
def foundCe (a : Nat) (s : State) : State :=
  match rowRegion s a with
  | none => s
  | some (g, _) =>
    let s1 := vellumCount 44 s
    if g < 24 then
      modRec (fun r => { r with bankCe := tabMod 0 r.bankCe g (· + 1) }) (modFeed (fun f => { f with ce := tabMod 0 f.ce g (fun c => (c + 1) % 2 ^ 32) }) s1)
    else s1

/-- An uncorrectable word of barrel memory: its row is retired, and where it holds a LIVE or NEXT folio, which the manual gives no place
in the memory, it is a give-up cause (R245, R579; log 108). -/
def barrelUe (g w : Nat) (s : State) : State :=
  let t := memoryRow g (w / 128) 0 { s with draws := s.draws + 1 }
  if Config.holdsFolio s.draws then signalGiveUp 3 t else t

/-- SHARED_FREE has fallen below 64 since `s`, which signals vector 68 (R196). -/
def poolFell (s t : State) : State := if 64 ≤ sharedFree s ∧ sharedFree t < 64 then signalBoth 68 t else t

/-- A read by master `m` finds an uncorrectable error: it is counted, latched and reported, and the word is poisoned (R543). -/
def foundUe (m a : Nat) (s : State) : State :=
  let s0 := poolFell s <| modFeed (fun f => { f with poison := if f.poison.contains (a / 8) then f.poison else a / 8 :: f.poison }) s
  match rowRegion s a with
  | none => s0
  | some (g, w) =>
    let s1 := vellumLog 5 g (8 * w) m (vellumCount 45 s0)
    if g < 24 then
      let s2 := modFeed (fun f => { f with ue := tabMod 0 f.ue g (fun c => (c + 1) % 2 ^ 32), ueOfs := tabPut 0 f.ueOfs g (8 * w) }) s1
      let s3 := modRec (fun r => { r with bankUe := tabMod 0 r.bankUe g (· + 1) }) s2
      memFault 0 g m (8 * w) 1 (memoryRow g (w / 128) 0 s3)
    else if g < 0x100 then barrelUe g w s1
    else nibFault (g - 0x100) 4 false s1

/-- The response that one master meets at an address, from the map and the paths alone. -/
def pathResp (s : State) (m : Nat) (write : Bool) (a : Nat) : Nat :=
  match regionOf s a with
  | none => 1
  | some g => if permitted s m write g a then 0 else 2

/-- The first of `len` bytes from `a` that master `m` cannot read by the map and the paths, with the response: page by page, since
every boundary of the map is a 4 KiB boundary. -/
def pathFault (s : State) (m a : Nat) : Nat → Nat → Option (Nat × Nat)
  | 0, _ => none
  | fuel + 1, len =>
    if len = 0 then none
    else
      let k := min len (4096 - a % 4096)
      match pathResp s m false a with
      | 0 => (pathFault s m (a + k) fuel (len - k)).map (fun e => (e.1, e.2 + k))
      | c => some (c, 0)

/-- The first poisoned byte among `len` bytes from `a`. -/
def poisonFault (s : State) (a len : Nat) : Option (Nat × Nat) :=
  (s.feed.poison.filter (fun w => a < 8 * w + 8 && 8 * w < a + len)).foldl
    (fun t w => match t with | none => some (3, 8 * w - a) | some e => some (3, min e.2 (8 * w - a))) none

/-- The earlier of two faults. -/
def earlier : Option (Nat × Nat) → Option (Nat × Nat) → Option (Nat × Nat)
  | none, b => b
  | a, none => a
  | some a, some b => some (if b.2 < a.2 then b else a)

/-- The first byte of a read at which master `m` meets a response other than OKAY, with the response. -/
def readFault (s : State) (m a len : Nat) : Option (Nat × Nat) :=
  earlier (pathFault s m a (len / 4096 + 2) len) (poisonFault s a len)

end Sys2Proof.Machine
end

