-- ==== Sys2Proof/Machine/HostRegs.lean ====
section
/-! DEFINITION. The host register page and the Inkwells as BAR0, HSPI and Feed reach them (chapters 04, 05, 06 and 23). -/

namespace Sys2Proof.Machine

/-! ### The host register page (R655, R656) -/

/-- BOOT_STATUS. -/
def bootStatusWord (s : State) : Nat :=
  let b := s.boot
  b.slot + 4 * b2n b.fallback + 8 * b2n b.unverified + 16 * b.failHost + 256 * b.svnOtp + 65536 * b.failA + 1048576 * b.failB

/-- A word of the MSI-X table: address, data and vector control with the mask bit. -/
def vecWord (s : State) (k : Nat) : Nat :=
  if k % 4 = 3 then b2n (s.host.pcie.vecMask.contains (k / 4)) else (tabGet 0 s.host.pcie.vecTable k).toNat

/-- A word of the pending-bit array. -/
def pbaWord (s : State) (k : Nat) : Nat := sumN ((s.host.pcie.pending.dedup.filter (fun v => v / 32 = k)).map (fun v => 2 ^ (v % 32)))

/-- A word of the host register page, without the effects of reading it; unlisted offsets read zero (R655). -/
def pageWord (s : State) (off : Nat) : Nat :=
  match off with
  | 0x00 => sysId s
  | 0x04 => caps0 s
  | 0x08 => caps1 s
  | 0x10 => modeWord s
  | 0x14 => wakeCauseWord s
  | 0x18 => hostStatusWord s
  | 0x1C => s.host.hostErr
  | 0x20 => gpioLevels s
  | 0x28 => s.host.hspiIrq
  | 0x2C => s.host.hspiIrqEn
  | 0x40 => bootStatusWord s
  | 0x48 => s.boot.resetCause
  | 0x50 => sharedFree s + 65536 * s.ink.ptr + 16777216 * b2n s.ink.wrRej
  | 0x54 => s.ink.contended % 2 ^ 32
  | _ =>
    if 0x8000 ≤ off ∧ off < 0x8480 then vecWord s ((off - 0x8000) / 4)
    else if 0x9000 ≤ off ∧ off < 0x9010 then pbaWord s ((off - 0x9000) / 4)
    else 0

/-- HOST_ERR bit `i` is set. -/
def setHostErr (i : Nat) (s : State) : State := modHost (fun h => { h with hostErr := setBit h.hostErr i }) s

/-- A read of WAKE_CAUSE: over PCIe it sets HOST_READ, and WAKE# may go (R161). -/
def readWakeCause (v : Via) (s : State) : State :=
  match v with
  | .pcie => settleWakePin (modPower (fun p => { p with hostRead := true }) s)
  | .hspi => s

/-- A read of one word of the page, with its effects: SHEET_ALLOC allocates (R186), WAKE_CAUSE notes the host (R161). -/
def pageRead (v : Via) (off : Nat) (s : State) : Nat × State :=
  if 0x1000 ≤ off ∧ off < 0x1100 then
    let n := (off - 0x1000) / 4
    let t := sheetAlloc [(v, n)] s
    (tabGet 0 t.ink.allocRead n, t)
  else if off = 0x14 then (wakeCauseWord s, readWakeCause v s)
  else (pageWord s off, s)

/-- RESET_CAUSE is written: only where the writing client holds ADMIN (R134, R657). -/
def resetCauseWrite (v : Via) (w : Nat) (s : State) : State :=
  let n := match v with | .pcie => 0 | .hspi => 1
  if (well s n).role = 5 then modBoot (fun b => { b with resetCause := w1c b.resetCause (w % 512) }) s else s

/-- A word of the MSI-X table is written; a vector that is unmasked is sent when it is pending (R731). -/
def vecWrite (k w : Nat) (s : State) : State :=
  if k % 4 = 3 then
    flushVectors (modPcie (fun p => { p with vecMask := if w % 2 = 1 then (if p.vecMask.contains (k / 4) then p.vecMask else k / 4 :: p.vecMask)
                                                        else p.vecMask.filter (· ≠ k / 4) }) s)
  else modPcie (fun p => { p with vecTable := tabPut 0 p.vecTable k (BitVec.ofNat 32 w) }) s

/-- A write of one word of the page, by its access code (R4). -/
def pageWrite (v : Via) (off w : Nat) (s : State) : State :=
  match off with
  | 0x1C => modHost (fun h => { h with hostErr := w1c h.hostErr (w % 16) }) s
  | 0x28 => modHost (fun h => { h with hspiIrq := w1c h.hspiIrq (w % 2 ^ 14) }) s
  | 0x2C => modHost (fun h => { h with hspiIrqEn := w % 2 ^ 14 }) s
  | 0x44 => if bit w 0 then bootGo s else s
  | 0x48 => resetCauseWrite v w s
  | 0x50 => if bit w 24 then { s with ink := { s.ink with wrRej := false } } else s
  | _ =>
    if 0x1100 ≤ off ∧ off < 0x1200 then sheetFree v ((off - 0x1100) / 4) (w % 2048) s
    else if 0x8000 ≤ off ∧ off < 0x8480 then vecWrite ((off - 0x8000) / 4) w s
    else s

/-! ### The Inkwells (R171 to R174, R206) -/

/-- A control word of Inkwell `n`. -/
def inkWord (s : State) (n off : Nat) : Nat :=
  let w := well s n
  let bindCode := match w.bind with | .unbound => 0 | .pcie => 1 | .hspi => 2 | .net => 3
  match off with
  | 0x00 => n + 256 * bindCode + 65536 * w.role
  | 0x0C => w.reqProd + 65536 * w.reqCons
  | 0x10 => w.repProd
  | 0x14 => w.repCons
  | 0x18 => w.evtProd
  | 0x1C => w.evtCons
  | 0x20 => b2n s.boot.inkBasic
  | 0x24 => w.irqEn
  | 0x28 => w.err
  | 0x2C => inkCredit w
  | 0x30 => w.lastSeq + 65536 * b2n w.fresh
  | 0x34 => w.evtLost % 2 ^ 32
  | 0x38 => sheetsHeld s n + 65536 * reserveFree s n
  | _ => 0

/-- A byte of Inkwell `n` as a party that reaches it reads it (R172). -/
def inkByte (s : State) (n o : Nat) : Byte :=
  let w := well s n
  if o < 0x1000 then BitVec.ofNat 8 (inkWord s n (o / 4 * 4) / 256 ^ (o % 4))
  else if o < 0x2000 then memGet 0 w.reqMem (o - 0x1000)
  else if o < 0x3000 then
    (match tabGet none w.repSlots ((o - 0x2000) / 256) with | some r => (replySlot r).getD (o % 256) 0 | none => 0)
  else if o < 0x4000 then
    (match tabGet none w.evtSlots ((o - 0x3000) / 128) with | some e => (eventSlot e).getD (o % 128) 0 | none => 0)
  else 0

/-- Transport `v` sees Inkwell `n`: bound to it, or unbound and open to it (R171). -/
def inkSeen (v : Via) (n : Nat) (s : State) : Bool := boundTo v n s || openable n s

/-- `k` bytes of the Inkwells from an offset, as transport `v` reads them (R171). -/
def inkBytes (v : Via) (s : State) (a k : Nat) : Bytes :=
  (List.range k).map (fun i => if inkSeen v ((a + i) / 65536) s then inkByte s ((a + i) / 65536) ((a + i) % 65536) else 0)

/-- The heads of the requests that a doorbell of value `x` makes wait, from the request ring. -/
def ringHeads (w : Inkwell) (x : Nat) : List Head :=
  (List.range ((x + 65536 - w.reqProd) % 65536 % 17)).map (fun i =>
    let b := memRead 0 w.reqMem ((w.reqProd + i) % 16 * 256) 16
    { opcode := u16 b 0, seq := u16 b 2, sheet := u16 b 8, sheetLen := u16 b 10 })

/-- A control word is written (R171, R173, R206). -/
def inkWordWrite (v : Via) (n off w : Nat) (s : State) : State :=
  match off with
  | 0x04 =>
    let s1 := if bit w 0 then inkOpen v n s else s
    let s2 := if bit w 1 then inkCtrlClose v n s1 else s1
    if bit w 2 then inkCtrlResync v n s2 else s2
  | 0x08 => doorbell v n w (ringHeads (well s n) (w % 65536)) s
  | 0x14 => repConsWrite v n w s
  | 0x1C => evtConsWrite v n w s
  | 0x24 => if boundTo v n s then modWell n (fun q => { q with irqEn := w % 4 }) s else s
  | 0x28 => if inkSeen v n s then modWell n (fun q => { q with err := w1c q.err (w % 16) }) s else s
  | _ => s

/-- The words of an accepted write to Inkwell `n`, upwards from offset `o`: the request ring takes a bound client's bytes, and the
reply and event rings take none (R173). -/
def inkWrite (v : Via) (n : Nat) : Nat → Nat → Bytes → State → State
  | 0, _, _, s => s
  | fuel + 1, o, b, s =>
    if b.isEmpty then s
    else
      let t :=
        if o < 0x1000 then inkWordWrite v n o (u32 b 0) s
        else if o < 0x2000 ∧ boundTo v n s then modWell n (fun q => { q with reqMem := memPut 0 q.reqMem (o - 0x1000) (b.take 4) }) s
        else s
      inkWrite v n fuel (o + 4) (b.drop 4) t

/-! ### BAR0 (R656) -/

/-- The longest burst that an access of a transport can be: Max_Payload_Size over PCIe, a whole HSPI transfer else (R659, log 71). -/
def maxBurst : Via → Nat
  | .pcie => 256 | .hspi => 4096

/-- An access of `n` bytes to the Inkwells is one that R656 accepts. -/
def inkAccess (v : Via) (write : Bool) (off n : Nat) : Bool :=
  off % 4 = 0 && n % 4 = 0 && 0 < n && n ≤ maxBurst v && off / 65536 = (off + n - 1) / 65536 &&
    !(write && n ≠ 4 && off % 65536 ≤ 8 && 8 < off % 65536 + n)

/-- A write to BAR0 over a transport. -/
def barWrite (v : Via) (off : Nat) (b : Bytes) (s : State) : State :=
  if off < 0x100000 then (if off % 4 = 0 ∧ b.length = 4 then pageWrite v off (u32 b 0) s else setHostErr 0 s)
  else if off < 0x500000 ∧ inkAccess v true off b.length then inkWrite v ((off - 0x100000) / 65536) b.length (off % 65536) b s
  else setHostErr 0 s

/-- A read of `n` bytes of BAR0 over a transport. -/
def barRead (v : Via) (off n : Nat) (s : State) : Bytes × State :=
  if off < 0x100000 then
    if off % 4 = 0 ∧ n = 4 then let q := pageRead v off s; (le 4 q.1, q.2) else (zeros n, setHostErr 0 s)
  else if off < 0x500000 ∧ inkAccess v false off n then (inkBytes v s (off - 0x100000) n, s)
  else (zeros n, setHostErr 0 s)

/-! ### The HSPI target (R658 to R661) -/

/-- The bytes of the window over HSPI: offsets from 8 MiB upwards read zero (R185), as does all of it while the memories cannot be reached
(R145; log 102). -/
def windowBytes (s : State) (off n : Nat) : Bytes :=
  (List.range n).map (fun i => if memoriesHeld s then 0 else if off + i < 0x800000 ∨ romRuns s ∧ off + i < 0x801000 then memByte s (0x10000000 + off + i) else 0)

/-- The words of a write within the host register page, one access each (R659). -/
def pageWords (fuel off : Nat) (b : Bytes) (s : State) : State :=
  match fuel with
  | 0 => s
  | fuel + 1 => if b.isEmpty then s else pageWords fuel (off + 4) (b.drop 4) (barWrite .hspi off (b.take 4) s)

/-- A write at an HSPI address (R659). -/
def hspiStore (a : Nat) (b : Bytes) (s : State) : State :=
  if a < 0x100000 then pageWords (b.length / 4) a b s
  else if a < 0x1000000 then barWrite .hspi a b s
  else if a < 0x5000000 then windowWrite .hspi (a - 0x1000000) b s
  else s

/-- The words of a read within the host register page. -/
def pageFetch (fuel off : Nat) (s : State) : Bytes × State :=
  match fuel with
  | 0 => ([], s)
  | fuel + 1 => let q := barRead .hspi off 4 s; let r := pageFetch fuel (off + 4) q.2; (q.1 ++ r.1, r.2)

/-- A read of one unit at an HSPI address. -/
def hspiFetch (a n : Nat) (s : State) : Bytes × State :=
  if a < 0x100000 then pageFetch (n / 4) a s
  else if a < 0x1000000 then barRead .hspi a n s
  else if a < 0x5000000 then (windowBytes s (a - 0x1000000) n, s)
  else (zeros n, s)

/-- The units of a READ of `n` bytes from `a`: 32 bytes each, or up to the 4 KiB boundary (R660). -/
def hspiUnits (fuel a n : Nat) (s : State) : Bytes × State :=
  match fuel with
  | 0 => ([], s)
  | fuel + 1 =>
    if n = 0 then ([], s)
    else
      let k := min 32 (4096 - a % 4096)
      let q := hspiFetch a k s
      if a % 4096 + k = 4096 then (q.1, if k < n then setHostErr 3 q.2 else q.2)
      else let r := hspiUnits fuel (a + k) (n - k) q.2; (q.1 ++ r.1, r.2)

/-- An HSPI transfer is well formed (R659). -/
def hspiOk (a n : Nat) : Bool := a % 4 = 0 && n % 4 = 0 && n ≤ 4096 && (n = 0 || a / 4096 = (a + n - 1) / 4096)

/-- HSPI_WRITE: the transfer is taken into the buffer, or discarded whole (R659, R661). -/
def hspiWrite (a : Nat) (b : Bytes) (s : State) : State :=
  if ¬ s.host.hspiUp then s
  else if s.host.hspiBuf.isSome then setHostErr 1 s
  else if ¬ hspiOk a b.length then setHostErr 3 s
  else modHost (fun h => { h with hspiBuf := some (a, b) }) s

/-- HSPI_WRITE_COMMIT: the buffer is written to its target and WR_BUSY clears (R661). -/
def hspiCommit (s : State) : State :=
  match s.host.hspiBuf with
  | none => s
  | some (a, b) => hspiStore a b (modHost (fun h => { h with hspiBuf := none }) s)

/-- What the target drove on the data lines of a READ. -/
def hspiDrive (b : Bytes) (s : State) : State := modHost (fun h => { h with hspiOut := b }) s

/-- HSPI_READ of `n` bytes, served after a commit in progress. `onTime` says that the data arrive within 256 clocks of 0xF (R660). -/
def hspiRead (a n : Nat) (onTime : Bool) (s0 : State) : State :=
  if ¬ s0.host.hspiUp then s0
  else
    let s := hspiCommit s0
    if a % 4 ≠ 0 then hspiDrive [] (setHostErr 3 s)
    else if ¬ onTime then hspiDrive [] (setHostErr 2 s)
    else let q := hspiUnits 129 a n s; hspiDrive (q.1.take n) q.2

/-- HSPI_STATUS: WR_BUSY, ERR and SERVING (R658). -/
def hspiStatus (s : State) : State :=
  if ¬ s.host.hspiUp then s
  else hspiDrive (le 1 (b2n s.host.hspiBuf.isSome + 2 * b2n (s.host.hostErr ≠ 0) + 4 * b2n s.boot.inkBasic)) s

/-- HSPI_IRQ_N is driven low (R662). -/
def hspiIrqLow (s : State) : Bool := s.host.hspiIrq &&& s.host.hspiIrqEn ≠ 0

/-! ### The meanings -/

/-- A write to a register of BAR0: it acts by its access code (R4). -/
def execRegisterWrite (via : Via) (off : Nat) (data : Bytes) (s : State) : Host.Outcome State Fault Refusal :=
  .next (if reach via s then barWrite via off data (access via s) else s)
/-- A write of RESET_CAUSE. -/
def execResetCauseWrite (via : Via) (w : Word) (s : State) : Host.Outcome State Fault Refusal :=
  .next (if reach via s then resetCauseWrite via w.toNat (access via s) else s)
/-- A read of WAKE_CAUSE. -/
def execWakeCauseRead (via : Via) (s : State) : Host.Outcome State Fault Refusal :=
  .next (if reach via s then regRead (wakeCauseWord s) (readWakeCause via (access via s)) else s)
/-- An HSPI WRITE. -/
def execHspiWrite (addr : Nat) (data : Bytes) (s : State) : Host.Outcome State Fault Refusal := .next (hspiWrite addr data s)
/-- The commit of an HSPI WRITE. -/
def execHspiWriteCommit (s : State) : Host.Outcome State Fault Refusal := .next (hspiCommit s)
/-- An HSPI READ. -/
def execHspiRead (addr n : Nat) (onTime : Bool) (s : State) : Host.Outcome State Fault Refusal := .next (hspiRead addr n onTime s)
/-- An HSPI STATUS. -/
def execHspiStatus (s : State) : Host.Outcome State Fault Refusal := .next (hspiStatus s)
/-- An unknown HSPI command. -/
def execHspiUnknownCommand (s : State) : Host.Outcome State Fault Refusal := .next (if s.host.hspiUp then setHostErr 3 s else s)

end Sys2Proof.Machine
end

