-- ==== Sys2Proof/Machine/RegsA.lean ====
section
/-! DEFINITION. The register blocks of Baseline, Ductus, Ligature and the System block (chapters 02, 03, 08, 11, 20 and 23). -/

namespace Sys2Proof.Machine

/-- A signed 32-bit register value. -/
def word32 (v : Int) : Nat := unsgn 32 v
/-- A picosecond value as a register shows it (R727). -/
def wordPs (v : Int) : Nat := unsgn 32 (sat32 v)

/-! ### Baseline (chapter 03) -/

/-- BL_OUT_CFG of output `m`. -/
def outCfgWord (o : BlOut) : Nat := b2n o.en + 2 * b2n o.always + 4 * b2n o.pol + 8 * o.mult

/-- A word of the Baseline block. -/
def blWord (s : State) (o : Nat) : Nat :=
  let b := s.bl
  let p := b.policy
  match o with
  | 0x000 => blCode b.state + 4 * b2n (slewing s) + 8 * b2n b.aligning + 16 * b2n b.hoValid + 32 * b.selmode + 256 * selReported s
  | 0x004 => refMask (qualified s)
  | 0x008 => refMask (fun n => (refSt s n).bar)
  | 0x00C => let w := b.selWant.getD (b.selmode, b.forced); w.1 + 4 * w.2
  | 0x010 => p.revert + 2 * p.startHo + 4 * p.wtr + 2 ^ 12 * p.firstPull + 2 ^ 20 * p.flapLimit
  | 0x014 => p.hoLimit
  | 0x018 => p.flapWindow + 65536 * p.barTime
  | 0x01C => p.slewRate
  | 0x020 => p.steerRate
  | 0x024 => word32 b.steer
  | 0x028 => word32 b.freq
  | 0x02C => word32 b.hoFreq
  | 0x030 => word32 (b.nvsFreq.getD 0)
  | 0x034 => hoRemain s
  | 0x038 => p.boMax
  | 0x040 => wordPs b.phaseErr
  | 0x044 => wordPs b.buildout
  | 0x048 => wordPs b.phaseOfs
  | 0x050 => b.events
  | 0x060 => b.switches % 2 ^ 32
  | 0x064 => b.hoEntries % 2 ^ 32
  | 0x068 => b.hoSeconds % 2 ^ 32
  | _ =>
    if 0x100 ≤ o ∧ o < 0x1C0 then
      let c := refCfg s ((o - 0x100) / 8)
      if o % 8 = 0 then c.prio + 16 * c.bw + 256 * c.qualT + 2 ^ 14 * c.pol else c.param
    else if 0x200 ≤ o ∧ o < 0x264 then refStWord s ((o - 0x200) / 4)
    else if 0x300 ≤ o ∧ o < 0x330 then
      let u := blOut s ((o - 0x300) / 12)
      (match (o - 0x300) % 12 with | 0 => outCfgWord u | 4 => word32 (u.ofs / 1000) | _ => u.frame)
    else 0

/-- The candidate settings of a register word are the documented ones (R90): other BW and PARAM values of a candidate act as the
nearest limit or are held to their documented bits (log 72). POL is kept for every candidate, and used by three (R90). -/
def refCfgFrom (n w : Nat) (c : RefCfg) : RefCfg :=
  { c with prio := fld w 0 4, bw := clampN (bwRange n).1 (bwRange n).2 (fld w 4 4), qualT := clampN 1 60 (fld w 8 6),
           pol := fld w 14 1 }

/-- A write of a word of the Baseline block (R96, R723). BL_BO_MAX, whose row states no "acts as", takes the nearest limit of 1 to
1,000,000 for 0 and for greater values (DESIGN CHOICE, log 72). -/
def blWrite (o w : Nat) (s : State) : State :=
  let p := s.bl.policy
  match o with
  | 0x00C => blSelectWrite w s
  | 0x010 => setPolicy { p with revert := fld w 0 1, startHo := fld w 1 1, wtr := min 600 (fld w 2 10), firstPull := clampN 10 200 (fld w 12 8), flapLimit := fld w 20 4 } s
  | 0x014 => setPolicy { p with hoLimit := if fld w 0 17 = 0 then 0 else clampN 10 86400 (fld w 0 17) } s
  | 0x018 => setPolicy { p with flapWindow := clampN 10 3600 (fld w 0 12), barTime := if fld w 16 12 = 0 then 0 else clampN 10 3600 (fld w 16 12) } s
  | 0x01C => setPolicy { p with slewRate := clampN 1 10000 (fld w 0 14) } s
  | 0x020 => setPolicy { p with steerRate := clampN 1000 100000000 (fld w 0 27) } s
  | 0x024 => blSteerWrite w s
  | 0x038 => setPolicy { p with boMax := clampN 1 1000000 (fld w 0 20) } s
  | 0x04C => blStepWrite w s
  | 0x050 => { s with bl := { s.bl with events := w1c s.bl.events (w % 512) } }
  | _ =>
    if 0x100 ≤ o ∧ o < 0x1C0 then
      let n := (o - 0x100) / 8
      if refAbsent s n then s
      else if o % 8 = 0 then setRefCfg n (refCfgFrom n w (refCfg s n)) s
      else if paramOk n (paramHeld n w) then setRefCfg n { refCfg s n with param := paramHeld n w } s
      else s
    else if 0x300 ≤ o ∧ o < 0x330 then
      let m := (o - 0x300) / 12
      let u := blOut s m
      (match (o - 0x300) % 12 with
        | 0 => setOut m { u with en := bit w 0, always := bit w 1, pol := bit w 2, mult := if fld w 3 2 ≠ 3 then fld w 3 2 else 0 } s
        | 4 => setOut m { u with ofs := clampI (-1000000) 1000000 (sgn 32 w) * 1000 } s
        | _ => if m ≠ 2 ∨ (fld w 0 24 ≠ 0 ∧ fld w 24 8 ≠ 0) then setOut m { u with frame := w % 2 ^ 32 } s else s)
    else s

/-! ### Ductus (chapter 08) -/

/-- A word of the Ductus block. -/
def dxWord (s : State) (o : Nat) : Nat :=
  let d := s.dx
  let a := armedPeak s
  match o with
  | 0x000 => d.sw
  | 0x004 => d.level + 4 * b2n d.planned + 8 * b2n d.carried + 16 * b2n (blotterLow s)
  | 0x008 => let l := steadyLoads s; peakTime l % 2 ^ 18 + 2 ^ 24 * busiestNib l
  | 0x00C => a.1 % 2 ^ 18 + 2 ^ 24 * a.2.2
  | 0x010 => 8 * a.2.1 % 2 ^ 32
  | 0x014 => d.armedHi
  | 0x018 => d.lastDone % 2 ^ 24
  | 0x01C => d.carryMax % 2 ^ 24
  | 0x020 => d.late % 2 ^ 32
  | 0x024 => d.missed % 2 ^ 32
  | 0x028 => d.recovered % 2 ^ 32
  | 0x02C => d.wdt % 2 ^ 32
  | 0x030 => d.splits % 2 ^ 32
  | 0x034 => d.pshed % 2 ^ 32
  | 0x040 => d.events
  | _ =>
    if 0x400 ≤ o ∧ o < 0x640 then
      let n := (o - 0x400) / 4
      nibState s n + 16 * nibBarrel s n + 256 * (nibInstances s n % 256) + 65536 * loadPct s (nibTime (steadyLoads s) n)
    else 0

/-- A write of a word of the Ductus block (R268). -/
def dxWrite (o w : Nat) (s : State) : State :=
  match o with
  | 0x000 => dxCtrlWrite w s
  | 0x040 => { s with dx := { s.dx with events := w1c s.dx.events (w % 64) } }
  | _ => s

/-! ### Ligature (chapter 11) -/

/-- A sink has per-sink registers on the variant (R724). -/
def sinkPresent (s : State) (n : Nat) : Bool := n < ligSize s.variant && !serifAbsent s.variant n

/-- The per-sink register that an offset names: its window and the sink. -/
def sinkRegister (o : Nat) : Option (Nat × Nat) :=
  if 0x10000 ≤ o ∧ o < 0x18000 then some (1, (o - 0x10000) / 4)
  else if 0x20000 ≤ o ∧ o < 0x28000 then some (2, (o - 0x20000) / 4)
  else if 0x30000 ≤ o ∧ o < 0x40000 then some (if o % 8 = 0 then 3 else 4, (o - 0x30000) / 8)
  else if 0x50000 ≤ o ∧ o < 0x58000 then some (5, (o - 0x50000) / 4)
  else if 0x60000 ≤ o ∧ o < 0x68000 then some (6, (o - 0x60000) / 4)
  else if 0x70000 ≤ o ∧ o < 0x78000 then some (7, (o - 0x70000) / 4)
  else if 0x80000 ≤ o ∧ o < 0x88000 then some (8, (o - 0x80000) / 4)
  else none

/-- A per-sink register of sink `n`: a setting that waits for its boundary reads as written (R723). -/
def sinkWord (s : State) (r n : Nat) : Nat :=
  let k := sinkOf s n
  let c := k.cfgDue.getD k.cfg
  match r with
  | 1 => k.live
  | 2 => (match pendingRoute s n with | some p => p.2 | none => k.next)
  | 3 => (match pendingRoute s n with | some p => p.1 | none => k.arm) % 2 ^ 32
  | 4 => (match pendingRoute s n with | some p => p.1 | none => k.arm) / 2 ^ 32 % 2 ^ 32
  | 5 => c.thresh + 65536 * c.ret + 131072 * c.hold
  | 6 => unsgn 16 c.gain + 65536 * c.shape
  | 7 => c.shade
  | _ => sinkState k + 4 * b2n (pendingRoute s n).isSome + 8 * b2n k.held.isSome + 16 * b2n (sinkForced k) + 65536 * min k.absCount 65535

/-- A word of the Ligature block. -/
def lgWord (s : State) (o : Nat) : Nat :=
  let g := s.lig
  match o with
  | 0x000 => g.patch
  | 0x010 => g.fallbacks % 2 ^ 32
  | 0x014 => g.returns % 2 ^ 32
  | 0x018 => g.heldCount % 2 ^ 32
  | 0x01C => g.switches % 2 ^ 32
  | 0x020 => hairlineCount s
  | _ => match sinkRegister o with
    | some (r, n) => if sinkPresent s n then sinkWord s r n else 0
    | none => 0

/-- A write of a word of the Ligature block (R366, R735). -/
def lgWrite (o w : Nat) (s : State) : State :=
  if o = 0 then
    if s.power.mode ≠ .commission ∨ isPartner s ∨ isMember s ∨ fld w 0 2 = 3 then s
    else { s with lig := { s.lig with patchDue := some (fld w 0 2) } }
  else match sinkRegister o with
    | none => s
    | some (r, n) =>
      if ¬ sinkPresent s n then s
      else match r with
        | 2 => modSink n (fun k => { k with next := w % 2 ^ 32 }) s
        | 3 => modSink n (fun k => { k with arm := k.arm / 2 ^ 32 * 2 ^ 32 + w % 2 ^ 32 }) s
        | 4 => armSink n w s
        | 5 => sinkCfgWrite n w s
        | 6 => gainWrite n w s
        | 7 => shadeWrite n w s
        | _ => s

/-! ### The System block (chapters 02, 20 and 23) -/

/-- A word of the System block. -/
def syWord (s : State) (o : Nat) : Nat :=
  let m := s.stem
  let r := s.rt
  let l := s.host.ltc
  let c := l.next.getD l.cfg
  match o with
  | 0x100 => m.cfgRate + 4 * m.cfgFamily
  | 0x108 => b2n m.stemLock + 2 * b2n m.aligned + 4 * b2n m.xoOk + 8 * b2n m.aonInt + 16 * b2n m.change.isSome + 65536 * (m.jams % 65536)
  | 0x10C => budget s
  | 0x110 => m.ssi % 2 ^ 32
  | 0x114 => m.ssiHi
  | 0x118 => unsgn 64 m.jamDelta % 2 ^ 32
  | 0x11C => unsgn 64 m.jamDelta / 2 ^ 32
  | 0x400 => r.warmup + 256 * r.readmit + 65536 * r.faultLimit
  | 0x404 => sparesLeft s + 256 * (nibsIn s 4).length + 65536 * (nibsIn s 5).length + 16777216 * r.repairs.length
  | 0x408 => shedCount s % 65536
  | 0x40C => r.migrations % 2 ^ 32
  | 0x410 => r.rows % 2 ^ 32
  | 0x414 => r.fenced % 2 ^ 32
  | 0x418 => r.folioUe % 2 ^ 32
  | 0x41C => r.stateUe % 2 ^ 32
  | 0x420 => r.passes % 2 ^ 32
  | 0x424 => r.fails % 2 ^ 32
  | 0x428 => (worstNib s).2 % 2 ^ 32
  | 0xC40 => s.host.out
  | 0xC44 => gpioLevels s
  | 0xC80 => c.rate + 256 * c.flags
  | 0xC84 => word32 c.tzOfs
  | 0xC88 => c.user
  | 0xC8C => l.state + 4 * l.rate + 32 * b2n l.df + 64 * b2n l.cf
  | 0xC90 => l.time
  | 0xCC0 => s.host.avs.setMv % 65536 + 65536 * s.life.avsBin + 2 ^ 24 * b2n (avsEn s) + 2 ^ 25 * b2n s.host.avs.fault
  | 0xCC4 => unsgn 16 s.host.temp + 65536 * unsgn 16 s.host.tempMax
  | _ =>
    if 0x500 ≤ o ∧ o < 0x740 then
      let n := (o - 0x500) / 4
      if nibState s n = 0 then 0
      else min 65535 ((m.ms - (nibRec s n).passMs) / 1000) + 65536 * (nibRec s n).faults + 2 ^ 24 * (nibRec s n).cls
    else if 0x800 ≤ o ∧ o < 0xC00 then u32 (repairBytes s ((o - 0x800) / 16)) ((o - 0x800) % 16)
    else if 0xC00 ≤ o ∧ o < 0xC40 then
      let p := gpioPin s ((o - 0xC00) / 4)
      p.func + 256 * b2n p.init + 512 * b2n p.pullup + 1024 * b2n p.event
    else 0

/-- A register write of LTC settings: as SYS.LTC_CONFIG without PERSIST. -/
def ltcWrite (f : LtcCfg → LtcCfg) (s : State) : State :=
  let put := fun (l : Ltc) =>
    let c := f (l.next.getD l.cfg)
    { l with cfg := if ltcRuns s then l.cfg else c, next := if ltcRuns s then some c else none }
  modHost (fun h => { h with ltc := put h.ltc }) s

/-- A write of SY_GPIO_CFG: a write making a second PWR_FAIL_N pin is discarded. -/
def gpioCfgWrite (n w : Nat) (s : State) : State :=
  let f := fld w 0 3
  if f = 2 ∧ (failPin s).any (fun k => decide (k ≠ n)) then s
  else setPin n { func := f, init := bit w 8, pullup := bit w 9, event := bit w 10 } s

/-- A write of a word of the System block. -/
def syWrite (o w : Nat) (s : State) : State :=
  match o with
  | 0x100 => { s with stem := { s.stem with cfgRate := fld w 0 2, cfgFamily := fld w 2 1 } }
  | 0x104 =>
    let s1 := if bit w 0 then clkApply s else s
    if bit w 1 ∧ clkCtrlOpen s1 then armJam s1 else s1
  | 0x400 => modRt (fun r => { r with warmup := clampN 1 16 (fld w 0 5), readmit := clampN 1 16 (fld w 8 5), faultLimit := clampN 1 15 (fld w 16 4) }) s
  | 0xC40 => modHost (fun h => { h with out := w % 65536 }) s
  | 0xC80 => ltcWrite (fun c => { c with rate := min 4 (fld w 0 3), flags := fld w 8 2 }) s
  | 0xC84 => ltcWrite (fun c => { c with tzOfs := clampI (-86400) 86400 (sgn 32 w) }) s
  | 0xC88 => ltcWrite (fun c => { c with user := w % 2 ^ 32 }) s
  | _ => if 0xC00 ≤ o ∧ o < 0xC40 then gpioCfgWrite ((o - 0xC00) / 4) w s else s

end Sys2Proof.Machine
end

