-- ==== Sys2Proof/Machine/Seal.lean ====
section
/-! DEFINITION. Seal: the algorithms, jobs, descriptor lists and the output digest (chapter 19). -/

namespace Sys2Proof.Machine

/-- Change Seal. -/
def modSl (f : Seal → Seal) (s : State) : State := { s with sl := f s.sl }

/-- Channel `c`. -/
def sealCh (s : State) (c : Nat) : SealCh := tabGet {} s.sl.chans c

/-- The address at which a channel's descriptor list begins. -/
def listHead (k : SealCh) : Nat := k.headHi * 2 ^ 32 + k.head

/-- Change channel `c`. -/
def modCh (c : Nat) (f : SealCh → SealCh) (s : State) : State := modSl (fun q => { q with chans := tabMod {} q.chans c f }) s

/-! ### The algorithms (R560, R564) -/

/-- The saved state from which a check starts (R562): 40 bytes. -/
def sealInit (alg : Nat) : Bytes :=
  if alg = 3 then shaInit.flatMap (fun w => le 4 w.toNat) ++ le 8 0 else padTo 40 (le (algWidth alg) (algOnes alg))

/-- The saved state that continues from a finished CRC value: its final XOR is removed (R564). -/
def sealSeed (alg seed : Nat) : Bytes := padTo 40 (le (algWidth alg) (seed % 2 ^ (8 * algWidth alg) ^^^ algOnes alg))

/-- The working words of a saved SHA-256 state. -/
def shaWords (saved : Bytes) : List Word := (List.range 8).map (fun i => BitVec.ofNat 32 (u32 saved (4 * i)))

/-- The saved state after folding in bytes, of SHA-256 whole blocks. -/
def sealFold (alg : Nat) (saved b : Bytes) : Bytes :=
  if alg = 3 then (shaBlocks (shaWords saved) b).flatMap (fun w => le 4 w.toNat) ++ le 8 (u64 saved 32 + b.length)
  else padTo 40 (le (algWidth alg) (crcRun (algPoly alg) (ofLe (saved.take (algWidth alg))) b))

/-- The padding of SHA-256 fills the last block of the bytes given; its length field is the count of the saved state and these
bytes together (log 66). -/
def sealPad (done n : Nat) : Bytes := [0x80#8] ++ zeros ((119 - n % 64) % 64) ++ (le 8 (8 * (done + n))).reverse

/-- The finished value over bytes continued from a saved state, 32 bytes (R560). -/
def sealFinal (alg : Nat) (saved b : Bytes) : Bytes :=
  if alg = 3 then (shaBlocks (shaWords saved) (b ++ sealPad (u64 saved 32) b.length)).flatMap wordBe
  else padTo 32 (le (algWidth alg) (ofLe ((sealFold alg saved b).take (algWidth alg)) ^^^ algOnes alg))

/-! ### Jobs (R570 to R572) -/

/-- A channel from 1 to 2 that a job can start on: neither busy nor given to a job. -/
def sealFree (s : State) : Option Nat := [1, 2].find? (fun c => !(sealCh s c).busy && !s.sl.queue.any (fun j => j.chan = c))

/-- The jobs that wait for a channel. -/
def sealWaiting (s : State) : Nat := (s.sl.queue.filter (fun j => j.chan = 0)).length

/-- Start job number `i` of the queue on channel `c`. -/
def sealStart (i c : Nat) (s : State) : State :=
  modCh c (fun q => { q with busy := true, done := false, err := 0, bytes := 0 })
    (modSl (fun q => { q with queue := q.queue.zipIdx.map (fun e => if e.2 = i then { e.1 with chan := c } else e.1) }) s)

/-- The oldest waiting job starts when a channel is free (R571). -/
def sealNext (s : State) : State :=
  match sealFree s, s.sl.queue.findIdx? (fun j => j.chan = 0) with
  | some c, some i => sealStart i c s
  | _, _ => s

/-- The parameters that SEAL.RUN of OBJECT 0 and SEAL.REGION_RUN share are legal (R570, log 65). -/
def sealParams (alg flags len : Nat) : Bool :=
  alg ≤ 3 && !(bit flags 1 && bit flags 2) && !(bit flags 1 && alg = 3) && !(alg = 3 && !bit flags 0 && len % 64 ≠ 0)

/-- The object's complete image as it stands, its own check value included (R566), and the algorithm of the uses table. -/
def sealObject (s : State) (obj index : Nat) : Option Bytes :=
  match obj with
  | 1 => (mapGet s.prog.scenes index).map (fun sc => sceneHeader sc sc.crc ++
      sceneTail (if sc.corrupt then { sc with image := some (Config.sceneBytes [s.draws]) } else sc))
  | 2 => if index ≤ 1 ∧ headerOk (imageBytes s index 0 256) then some [] else none
  | 3 => some (match s.resume with | none => [] | some r => let b := Config.resumeBytes r; b ++ le 4 (crc32c b).toNat)
  | _ => some (s.hush.nvs.getD [])

/-- Queue a job: its reply waits for its completion, and it starts at once when a channel is free (R571). -/
def sealQueue (j : SealJob) (s : State) : Res :=
  if 16 ≤ sealWaiting s then fail .busy s
  else { st := sealNext (modSl (fun q => { q with queue := q.queue ++ [j] }) s), wait := true }

/-- SEAL.RUN's checks and effect (R570). -/
def sealRunBody (x : Ctx) (s : State) : Res :=
  let obj := u8 x.p 0
  let alg := if obj = 0 then u8 x.p 1 else if obj = 2 then 3 else 0
  let j : SealJob := { client := x.client, seq := x.seq, obj := obj, index := u16 x.p 4, alg := alg,
                       flags := (if obj = 0 then u8 x.p 2 else 1), seed := u64 x.p 8, saved := slice x.p 16 40, len := x.sh.length }
  if 4 < obj then fail .badParam s
  else if obj = 0 then
    if x.sh.isEmpty ∨ ¬ sealParams alg (u8 x.p 2) x.sh.length then fail .badParam s else sealQueue j s
  else match sealObject s obj (u16 x.p 4) with
    | none => fail .badParam s
    | some b => sealQueue { j with sheet := b } { s with draws := s.draws + 1 }

/-- SEAL.RUN. -/
def cmdSealRun : Cmd where
  lens := fun l _ => l = 56
  body := sealRunBody

/-- A region lies wholly within the present part of Reservoir, the Exchange window, one barrel memory or XMI (R572). -/
def regionOk (s : State) (a n : Nat) : Bool :=
  1 ≤ n && (match regionOf s a with
    | some .res => a + n ≤ 0x10000000 + banksOf s.variant * 0x200000
    | some .exch => a + n ≤ 0x14040000
    | some .barrel => a + n ≤ 0x40000000 + barrelsOf s.variant * 0x200000
    | some .xmi => a + n ≤ 0x1000000000 + xmiMib s * 0x100000
    | _ => false)

/-- SEAL.REGION_RUN. -/
def cmdSealRegionRun : Cmd where
  lens := inlineOnly 64
  absent := fun x s => 0x1000000000 ≤ u64 x.p 0 && u64 x.p 0 < 0x1400000000 && !hasXmi s.variant
  body := fun x s =>
    if ¬ (regionOk s (u64 x.p 0) (u32 x.p 8) ∧ sealParams (u8 x.p 12) (u8 x.p 13) (u32 x.p 8)) then fail .badParam s
    else sealQueue { client := x.client, seq := x.seq, obj := 5, index := 0, alg := u8 x.p 12, flags := u8 x.p 13, seed := u64 x.p 16,
                     saved := slice x.p 24 40, addr := u64 x.p 0, len := u32 x.p 8 } s

/-- The bytes that a job reads, the check value that its object stores, and the fault that its reads meet. -/
def sealRead (s : State) (j : SealJob) : Bytes × Option Bytes × Option (Nat × Nat) :=
  match j.obj with
  | 0 =>
    let h := match runningAt s j.client j.seq with | some e => e.sheet.getD 0 | none => 0
    (readSheet s h j.len, none, poisonFault s (0x10000000 + h * 4096) j.len)
  | 1 => (j.sheet.take 20 ++ zeros 4 ++ j.sheet.drop 24, some (slice j.sheet 20 4), none)
  | 2 =>
    let h := imageBytes s j.index 0 256
    (imageBytes s j.index 256 (u32 h 12), some (slice h 24 32), none)
  | 3 => (j.sheet.take (j.sheet.length - 4), if j.sheet.isEmpty then none else some (j.sheet.drop (j.sheet.length - 4)), none)
  | 4 => (j.sheet.take 1312, if j.sheet.isEmpty then none else some (slice j.sheet 1312 4), none)
  | _ => (memBytes s j.addr j.len, none, readFault s 6 j.addr j.len)

/-- The saved state from which a job starts. -/
def sealFrom (j : SealJob) : Bytes :=
  if bit j.flags 1 then sealSeed j.alg j.seed
  else if bit j.flags 2 then (if j.alg = 3 then j.saved else padTo 40 (j.saved.take (algWidth j.alg)))
  else sealInit j.alg

/-- The stored value of an object equals the computed one, in a record that has not failed its own check. -/
def sealMatch (s : State) (j : SealJob) (ref : Option Bytes) (result : Bytes) : Bool :=
  match ref with
  | none => false
  | some r => result.take r.length = r && !(j.obj = 3 && s.boot.resumeBad) &&
      !(j.obj = 1 && (match mapGet s.prog.scenes j.index with | some sc => sc.corrupt | none => false))

/-- A channel ends what it ran: its registers, and its counts since POR_N. -/
def sealEnd (c err n : Nat) (result saved : Bytes) (alg : Option Nat) (s : State) : State :=
  modCh c (fun q => { q with busy := false, done := true, err := err, result := result, saved := saved, alg := alg, bytes := n,
                             jobs := (q.jobs + 1) % 2 ^ 32, total := q.total + n }) s

/-- A failed read ends the job at that byte, with RESULT and STATE zero (R565). -/
def sealFails (c : Nat) (j : SealJob) (e : Nat × Nat) (s : State) : State :=
  finishRunning j.client j.seq .ok (zeros 72 ++ le 4 e.2 ++ le 1 4 ++ le 1 j.alg ++ zeros 2)
    (sealEnd c e.1 e.2 (zeros 32) (zeros 40) none (respond e.1 6 (j.addr + e.2) s))

/-- A job completes: its reply is ready, and the next one starts (R570, R571). -/
def sealJobEnds (c : Nat) (j : SealJob) (bad : Option (Nat × Nat)) (s0 : State) : State :=
  let s := match bad with
    | some (3, i) => if j.obj = 5 then foundUe 6 (j.addr + i) s0 else s0
    | _ => s0
  let (b, ref, fault) := sealRead s j
  let s1 := modSl (fun q => { q with queue := q.queue.filter (fun k => k.chan ≠ c) }) s
  match earlier fault (match bad with | some e => if e.2 < b.length ∧ 1 ≤ e.1 ∧ e.1 ≤ 3 then some e else none | none => none) with
  | some e => sealNext (sealFails c j e s1)
  | none =>
    let fin := bit j.flags 0
    let result := if fin then sealFinal j.alg (sealFrom j) b else zeros 32
    let saved := if fin then zeros 40 else sealFold j.alg (sealFrom j) b
    let flags := b2n (fin && sealMatch s j ref result) + 2 * b2n ref.isSome
    sealNext (finishRunning j.client j.seq .ok (result ++ saved ++ le 4 b.length ++ le 1 flags ++ le 1 j.alg ++ zeros 2)
      (sealEnd c 0 b.length result saved (if fin then none else some j.alg) s1))

/-! ### Descriptor lists (R562, R563, R565) -/

/-- What a channel holds while it works through a list: error, finished value, saved state, its ALG when a state is held, bytes in
the current check and in the list. -/
structure SealRun where
  err    : Nat := 0
  result : Bytes := []
  saved  : Bytes := []
  alg    : Option Nat := none
  bytes  : Nat := 0
  total  : Nat := 0
  at_    : Nat := 0
  deriving DecidableEq, Repr

/-- A descriptor that stops the channel with DESC (R563). -/
def badDescriptor (r : SealRun) (d : Bytes) : Bool :=
  let ctrl := u32 d 12
  let alg := ctrl % 4
  let init := bit ctrl 2
  let seeded := bit ctrl 3
  32 ≤ ctrl || 2 ^ 40 ≤ u64 d 0 || (init && seeded) || (seeded && alg = 3) || (!init && !seeded && r.alg ≠ some alg) ||
    (alg = 3 && !bit ctrl 4 && u32 d 8 % 64 ≠ 0)

/-- Process one legal descriptor: a failed read ends the list at that byte. -/
def sealDescriptor (s : State) (r : SealRun) (d : Bytes) : SealRun :=
  let ctrl := u32 d 12
  let alg := ctrl % 4
  let fresh := bit ctrl 2 || bit ctrl 3
  let base := if bit ctrl 2 then sealInit alg else if bit ctrl 3 then sealSeed alg (u64 d 16) else r.saved
  let n0 := if fresh then 0 else r.bytes
  match readFault s 6 (u64 d 0) (u32 d 8) with
  | some (e, i) => { r with err := e, result := [], saved := [], alg := none, bytes := n0 + i, total := r.total + i, at_ := u64 d 0 + i }
  | none =>
    let b := memBytes s (u64 d 0) (u32 d 8)
    let n := n0 + b.length
    if bit ctrl 4 then { r with result := sealFinal alg base b, saved := [], alg := none, bytes := n, total := r.total + b.length }
    else { r with saved := sealFold alg base b, alg := some alg, bytes := n, total := r.total + b.length }

/-- Work through a list from a descriptor's address; none when the list has not ended within `fuel` descriptors. -/
def sealList (s : State) : Nat → Nat → SealRun → Option SealRun
  | 0, _, _ => none
  | fuel + 1, a, r =>
    if a = 0 then some r
    else match readFault s 6 a 32 with
      | some (e, _) => some { r with err := e, result := [], saved := [], alg := none, at_ := a }
      | none =>
        let d := memBytes s a 32
        if badDescriptor r d then some { r with err := 4, result := [], saved := [], alg := none }
        else
          let r1 := sealDescriptor s r d
          if r1.err ≠ 0 then some r1 else sealList s fuel (u64 d 24 % 2 ^ 40 / 32 * 32) r1

/-- The most descriptors that Reservoir can hold without one of them being met twice: a longer list never ends (log 67). -/
def sealFuel (s : State) : Nat := banksOf s.variant * 65536 + 1

/-- What channel `q` holds before its list. -/
def listFrom (q : SealCh) : SealRun := { saved := q.saved, alg := q.alg, result := q.result, bytes := q.bytes }

/-- What the list of channel `c` comes to, if it ends. -/
def listRun (s : State) (c : Nat) : Option SealRun := sealList s (sealFuel s) (listHead (sealCh s c)) (listFrom (sealCh s c))

/-- The expert list of channel `c` has come to `o`. -/
def listEnds (c : Nat) (o : Option SealRun) (s : State) : State :=
  match o with
  | none => s
  | some r =>
    let s1 := if 1 ≤ r.err ∧ r.err ≤ 3 then respond r.err 6 r.at_ s else s
    sealNext (modCh c (fun k => { k with total := k.total + r.total - r.bytes })
      (sealEnd c r.err r.bytes (padTo 32 r.result) (padTo 40 r.saved) r.alg s1))

/-- The expert list of channel `c` ends, where it ends; `bad` is an error that one of its reads meets (its code and the number of
bytes read before it). -/
def sealListEnds (c : Nat) (bad : Option (Nat × Nat)) (s : State) : State :=
  match bad with
  | some (e, i) =>
    if 1 ≤ e ∧ e ≤ 3 then sealNext (sealEnd c e i (zeros 32) (zeros 40) none (respond e 6 (listHead (sealCh s c)) s)) else s
  | none => listEnds c (listRun s c) s

/-- SEAL_JOB_DONE: what channel `c` runs ends. -/
def sealJobDone (c : Nat) (bad : Option (Nat × Nat)) (s : State) : State :=
  if ¬ (sealCh s c).busy then s
  else match s.sl.queue.find? (fun j => j.chan = c) with
    | some j => sealJobEnds c j bad s
    | none => sealListEnds c bad s

/-- SL_CTRL.GO: discarded while the channel is BUSY or a job waits for it, which sets START_REJ (R573). Channel 0 is the boot ROM's
and firmware's, channel 3 the digest's. -/
def sealGo (c : Nat) (s : State) : State :=
  if c ≠ 1 ∧ c ≠ 2 then s
  else if (sealCh s c).busy ∨ s.sl.queue.any (fun j => j.chan = c) then modCh c (fun q => { q with events := setBit q.events 0 }) s
  else modCh c (fun q => { q with busy := true, done := false, err := 0 }) s

/-- SL_CTRL.ABORT: the job is abandoned with ABORTED, and its state cannot be continued. A job of Scribe answers FAILED (log 64). -/
def sealAbort (c : Nat) (s : State) : State :=
  if (c ≠ 1 ∧ c ≠ 2) ∨ ¬ (sealCh s c).busy then s
  else
    let s1 := sealEnd c 5 (sealCh s c).bytes (zeros 32) (zeros 40) none (modSl (fun q => { q with queue := q.queue.filter (fun k => k.chan ≠ c) }) s)
    match s.sl.queue.find? (fun j => j.chan = c) with
    | some j => sealNext (finishRunning j.client j.seq .ok (zeros 76 ++ le 1 4 ++ le 1 j.alg ++ zeros 2) s1)
    | none => sealNext s1

/-- Reading SL_BYTES_LO latches the high word (R573). -/
def sealBytesRead (c : Nat) (s : State) : State :=
  if 1 ≤ c ∧ c ≤ 2 then
    { modCh c (fun q => { q with bytesHi := q.bytes / 2 ^ 32 % 2 ^ 32 }) s with host := { s.host with readData := (sealCh s c).bytes % 2 ^ 32 } }
  else s

/-- Reading SL_DIGEST_SSI_LO of channel 3 latches the rest: the high word and SL_RESULT (R573). -/
def sealDigestRead (s : State) : State :=
  { modSl (fun q => { q with ssiHi := q.digestSsi / 2 ^ 32, latched := q.digest }) s with host := { s.host with readData := s.sl.digestSsi % 2 ^ 32 } }

/-! ### The digest (R484, R568) -/

/-- The five bytes of one captured sample: the value, then the tag. -/
def digestBytes (x : Sample) : Bytes := le 4 x.v.toNat ++ le 1 x.tag

/-- The digest of a period: over the sinks in ascending order and, within a sink, the samples in order (R484). -/
def digestOf (sinks : List Nat) (l : List (Tab Sample)) : Nat :=
  crc64 (sinks.flatMap (fun k => l.flatMap (fun x => digestBytes (tabGet {} x k))))

/-- The sinks that the variant has (R484). -/
def presentSinks (v : Variant) : List Nat := (List.range (ligSize v)).filter (fun n => !serifAbsent v n)

/-- SEAL_DIGEST_READY: the digest of the captured period is ready, and the Twin unit takes it for STATUS (R484). Of the digests not
yet compared the Twin unit keeps the last 16 (log 68). -/
def digestReady (s : State) : State :=
  match s.sl.ready with
  | none => s
  | some (ssi, miss, l) =>
    let d := digestOf (presentSinks s.variant) l
    let s0 := modTwin (fun w => { w with digests := (w.digests ++ [(ssi, d, miss)]).drop (w.digests.length - 15) }) s
    let s1 := modSl (fun q => { q with ready := none, digest := d, digestSsi := ssi }) s0
    modCh 3 (fun q => { q with busy := false, done := true, result := le 8 d, jobs := (q.jobs + 1) % 2 ^ 32,
                               total := q.total + 40 * (presentSinks s.variant).length }) s1

/-! ### Reads -/

/-- One record of SEAL.STATUS_GET. -/
def sealStatus (s : State) (c : Nat) : Bytes :=
  let q := sealCh s c
  le 1 (b2n (q.busy || (c = 3 && s.sl.ready.isSome))) ++ le 1 q.err ++ zeros 2 ++ le 4 q.jobs ++ le 8 q.total

/-- SEAL.STATUS_GET. -/
def cmdSealStatusGet : Cmd where
  lens := inlineOnly 0
  body := fun _ s => answer ((List.range 4).flatMap (sealStatus s) ++ le 2 (sealWaiting s) ++ zeros 2) s

/-- SEAL.DIGEST_GET. -/
def cmdSealDigestGet : Cmd where
  lens := inlineOnly 0
  body := fun _ s => answer (le 8 s.sl.digestSsi ++ le 8 s.sl.digest) s

/-! ### The meanings -/

/-- SEAL.RUN. -/
def execSealRun (r : Request) (s : State) : Host.Outcome State Fault Refusal := serve 0x0D01 cmdSealRun r s
/-- SEAL.STATUS_GET. -/
def execSealStatusGet (r : Request) (s : State) : Host.Outcome State Fault Refusal := serve 0x0D02 cmdSealStatusGet r s
/-- SEAL.DIGEST_GET. -/
def execSealDigestGet (r : Request) (s : State) : Host.Outcome State Fault Refusal := serve 0x0D03 cmdSealDigestGet r s
/-- SEAL.REGION_RUN. -/
def execSealRegionRun (r : Request) (s : State) : Host.Outcome State Fault Refusal := serve 0x0D10 cmdSealRegionRun r s
/-- A job or an expert list ends. -/
def execSealJobDone (c : Nat) (bad : Option (Nat × Nat)) (s : State) : Host.Outcome State Fault Refusal := .next (sealJobDone c bad s)
/-- The digest of a period is ready. -/
def execSealDigestReady (s : State) : Host.Outcome State Fault Refusal := .next (digestReady s)
/-- A write of SL_CTRL.GO. -/
def execSlCtrlGo (c : Nat) (s : State) : Host.Outcome State Fault Refusal := .next (if expertMode s then sealGo c s else s)
/-- A write of SL_CTRL.ABORT. -/
def execSlCtrlAbort (c : Nat) (s : State) : Host.Outcome State Fault Refusal := .next (if expertMode s then sealAbort c s else s)
/-- A read of SL_BYTES_LO. -/
def execSlBytesLoRead (c : Nat) (s : State) : Host.Outcome State Fault Refusal := .next (if expertMode s then sealBytesRead c s else s)
/-- A read of SL_DIGEST_SSI_LO. -/
def execSlDigestSsiLoRead (s : State) : Host.Outcome State Fault Refusal := .next (if expertMode s then sealDigestRead s else s)

end Sys2Proof.Machine
end

