-- ==== Sys2Proof/Machine/RegsB.lean ====
section
/-! DEFINITION. The register blocks of Quill, Serif, Seal, Copybook, Vellum and Twin (chapters 13, 14, 16, 19, 21 and 22). -/

namespace Sys2Proof.Machine

/-- The 32-bit word of a byte record at an offset. -/
def wordAt (b : Bytes) (o : Nat) : Nat := u32 b (o / 4 * 4)

/-- A byte record with one of its words replaced. -/
def putWord (b : Bytes) (o w : Nat) : Bytes := b.take o ++ le 4 w ++ b.drop (o + 4)

/-! ### Quill (chapter 14) -/

/-- The receive entry window of a stream: what has been written and not yet taken, else the entry (R450). -/
def rxWindow (s : State) (n : Nat) : Bytes := padTo 64 ((rxStream s n).window.getD (rxStream s n).entry)
/-- The transmit entry window of a stream. -/
def txWindow (s : State) (n : Nat) : Bytes := padTo 64 ((txStream s n).window.getD (txStream s n).entry)

/-- Receive buffer in use, in KiB. -/
def rxBufferKib (s : State) : Nat := sumN (s.quill.rx.map (fun e => ringBytes s.stem.mult e.2.entry)) / 1024

/-- A word of the Quill block. -/
def qlWord (s : State) (o : Nat) : Nat :=
  let q := s.quill
  if o = 0 then b2n q.cfg.txUnlocked
  else if o = 4 then q.cfg.dscpPtp + 256 * q.cfg.dscpMedia + 65536 * q.cfg.dscpCtrl
  else if o = 8 then rxBufferKib s % 2 ^ 24
  else if o = 0x40 then q.events
  else if 0x1000 ≤ o ∧ o < 0x1400 then
    let n := (o - 0x1000) / 0x100
    let k := o % 0x100
    if netPorts s.variant ≤ n then 0
    else if k = 0 then b2n (netPort s n).link + 2 * (netPort s n).cfg.speed + 4 * (netPort s n).cfg.fec
    else if 0x10 ≤ k ∧ k < 0x44 then wordAt (netPortRecord s n) (44 + k - 0x10)
    else 0
  else if 0x10000 ≤ o ∧ o < 0x50000 then (if (o - 0x10000) / 64 < streamsOf s.variant then wordAt (rxWindow s ((o - 0x10000) / 64)) (o % 64) else 0)
  else if 0x50000 ≤ o ∧ o < 0x90000 then (if (o - 0x50000) / 64 < streamsOf s.variant then wordAt (txWindow s ((o - 0x50000) / 64)) (o % 64) else 0)
  else if 0x90000 ≤ o ∧ o < 0xD0000 then (if (o - 0x90000) / 64 < streamsOf s.variant then wordAt (rxRecord s ((o - 0x90000) / 64)) (o % 64) else 0)
  else if 0xD0000 ≤ o ∧ o < 0x100000 then
    (if (o - 0xD0000) / 48 < streamsOf s.variant ∧ (o - 0xD0000) % 48 < 40 then wordAt (txRecord s ((o - 0xD0000) / 48)) ((o - 0xD0000) % 48) else 0)
  else 0

/-- A write of a word of the Quill block; reserved bits of an entry window read as zero (R5, R450). -/
def qlWrite (o w : Nat) (s : State) : State :=
  if o = 0 then settleStreams (modQuill (fun q => { q with cfg := { q.cfg with txUnlocked := bit w 0 } }) s)
  else if o = 4 then modQuill (fun q => { q with cfg := { q.cfg with dscpPtp := fld w 0 6, dscpMedia := fld w 8 6, dscpCtrl := fld w 16 6 } }) s
  else if o = 0x10 then qlApply w s
  else if o = 0x40 then modQuill (fun q => { q with events := w1c q.events (w % 32) }) s
  else if 0x10000 ≤ o ∧ o < 0x50000 then
    let n := (o - 0x10000) / 64
    if n < streamsOf s.variant then modRx n (fun r => { r with window := some (cleanRx (putWord (rxWindow s n) (o % 64) w)) }) s else s
  else if 0x50000 ≤ o ∧ o < 0x90000 then
    let n := (o - 0x50000) / 64
    if n < streamsOf s.variant then modTx n (fun r => { r with window := some (cleanTx (putWord (txWindow s n) (o % 64) w)) }) s else s
  else s

/-! ### Serif (chapter 13) -/

/-- The four configuration words of a port as its registers read: what is held, else what waits, else the running ones (R409). -/
def portWords (p : SerPort) : SerCfg := p.held.getD (p.due.getD p.cfg)

/-- A word of the Serif block. -/
def srWord (s : State) (o : Nat) : Nat :=
  let n := o / 0x100
  let p := serPort s n
  let c := if hushPort s n then p.cfg else portWords p
  if 16 ≤ n ∨ portAbsent s n then 0
  else match o % 0x100 with
    | 0x00 => c.cfg0
    | 0x04 => c.cfg1
    | 0x08 => c.rxEn
    | 0x0C => c.txEn
    | 0x14 => p.state + 8 * b2n (portDriving p) + 16 * b2n (hushPort s n) + 256 * fillOf p p.rxBuf + 4096 * fillOf p p.txBuf
    | 0x18 => p.events
    | 0x1C => word32 (if serMaster p.cfg then 0 else p.rate)
    | k =>
      if 0x20 ≤ k ∧ k < 0x4C then (portCounters p).getD ((k - 0x20) / 4) 0 % 2 ^ 32
      else if 0x80 ≤ k then tabGet 0 p.slotClip ((k - 0x80) / 4) % 2 ^ 32
      else 0

/-- A write of a word of the Serif block (R409). -/
def srWrite (o w : Nat) (s : State) : State :=
  let n := o / 0x100
  let hold := fun (f : SerCfg → SerCfg) => if hushPort s n then s else modPort n (fun p => { p with held := some (f (portWords p)) }) s
  if 16 ≤ n ∨ portAbsent s n then s
  else match o % 0x100 with
    | 0x00 => hold (fun c => cleanCfg { c with cfg0 := w % 2 ^ 32 })
    | 0x04 => hold (fun c => cleanCfg { c with cfg1 := w % 2 ^ 32 })
    | 0x08 => hold (fun c => { c with rxEn := w % 2 ^ 32 })
    | 0x0C => hold (fun c => { c with txEn := w % 2 ^ 32 })
    | 0x10 => if bit w 0 then portApply n s else s
    | 0x18 => modPort n (fun p => { p with events := w1c p.events (w % 8) }) s
    | _ => s

/-! ### Seal (chapter 19) -/

/-- A word of the Seal block: channel 3 has only its status, its result and the digest's SSI. -/
def slWord (s : State) (o : Nat) : Nat :=
  let c := o / 0x100
  let q := sealCh s c
  let k := o % 0x100
  let st := b2n (q.busy || (c = 3 && s.sl.ready.isSome)) + 2 * b2n q.done + 4 * q.err
  if 4 ≤ c then 0
  else if c = 3 then
    (match k with
      | 0x0C => st
      | 0x10 => s.sl.latched % 2 ^ 32
      | 0x14 => s.sl.latched / 2 ^ 32
      | 0x68 => s.sl.digestSsi % 2 ^ 32
      | 0x6C => s.sl.ssiHi
      | _ => 0)
  else match k with
    | 0x00 => q.head
    | 0x04 => q.headHi
    | 0x0C => st
    | 0x58 => q.bytes % 2 ^ 32
    | 0x5C => q.bytesHi
    | 0x60 => q.events
    | _ => if 0x10 ≤ k ∧ k < 0x30 then wordAt q.result (k - 0x10) else if 0x30 ≤ k ∧ k < 0x58 then wordAt q.saved (k - 0x30) else 0

/-- A write of a word of the Seal block: channel 0 is the firmware's (R573). -/
def slWrite (o w : Nat) (s : State) : State :=
  let c := o / 0x100
  if c ≠ 1 ∧ c ≠ 2 then s
  else match o % 0x100 with
    | 0x00 => modCh c (fun q => { q with head := w % 2 ^ 32 / 32 * 32 }) s
    | 0x04 => modCh c (fun q => { q with headHi := w % 256 }) s
    | 0x08 => let s1 := if bit w 0 then sealGo c s else s; if bit w 1 then sealAbort c s1 else s1
    | 0x60 => modCh c (fun q => { q with events := w1c q.events (w % 2) }) s
    | _ => s

/-! ### Copybook (chapter 21) -/

/-- The tests failed in the last run. -/
def cbFailedMask (s : State) : Nat := (cbTests.filter (fun t => (tabGet {} s.cb.results t).result = 1)).foldl setBit 0

/-- A word of the Copybook block. -/
def cbWord (s : State) (o : Nat) : Nat :=
  let c := s.cb
  match o with
  | 0x00 => c.sel
  | 0x08 => b2n c.busy + 2 * cbCurrent s + 32 * c.state + 128 * b2n c.rej
  | 0x0C => c.runNo % 2 ^ 32
  | 0x10 => cbFailedMask s
  | 0x14 => (c.fifo.length + 3) / 4
  | 0x18 => ofLe (c.fifo.headD [])
  | _ => 0

/-- A write of a word of the Copybook block. -/
def cbWrite (o w : Nat) (s : State) : State :=
  match o with
  | 0x00 => modCb (fun c => { c with sel := w % 2 ^ 17 / 2 * 2 }) s
  | 0x04 => let s1 := if bit w 0 then cbGo s else s; if bit w 1 then cbAbort s1 else s1
  | _ => s

/-! ### Vellum (chapter 22) -/

/-- A word of the Vellum block (R646). -/
def vlWord (s : State) (o : Nat) : Nat :=
  let v := s.vl
  match o with
  | 0x00 => v.ring + 256 * v.spares + 65536 * b2n v.worn + 131072 * b2n v.final.isSome + 262144 * b2n v.clean
  | 0x04 => v.live.writeNo % 2 ^ 32
  | 0x08 => aonSeconds s % 2 ^ 32
  | 0x0C => v.aonHi
  | _ => if 0x10000 ≤ o ∧ o < 0x12000 then wordAt (vlRecordBytes s v.live) (o - 0x10000) else 0

/-! ### Twin (chapter 16) -/

/-- A word of the Twin block: the settings read as stored (R723). -/
def twWord (s : State) (o : Nat) : Nat :=
  let w := s.twin
  match o with
  | 0x00 => b2n w.nvs.en + 2 * w.nvs.unit + 256 * w.nvs.claim + 65536 * w.nvs.pair
  | 0x04 => w.nvs.wait
  | 0x08 => w.state + 256 * (if w.heard then w.pState else 7) + 65536 * w.claim + 2 ^ 24 * b2n w.linkUp + 2 ^ 25 * b2n w.claimInOk +
      2 ^ 26 * b2n w.gateOpen + 2 ^ 27 * b2n w.sole
  | 0x0C => w.cause + 256 * w.formCause
  | 0x20 => w.giveups % 2 ^ 32
  | 0x24 => w.takeovers % 2 ^ 32
  | 0x28 => w.mismatches % 2 ^ 32
  | 0x2C => w.unexplained % 2 ^ 32
  | 0x30 => w.linkErr % 2 ^ 32
  | 0x34 => w.claimFault % 2 ^ 32
  | _ => if 0x100 ≤ o ∧ o < 0x120 then w.nvs.key / 2 ^ (8 * (o - 0x100)) % 2 ^ 32 else 0

/-- A write of a word of the Twin block is stored in NVS and takes effect at the next POR_N; a TW_CFG that TWIN.CONFIG would
refuse is discarded (log 72). -/
def twWrite (o w : Nat) (s : State) : State :=
  let n := s.twin.nvs
  match o with
  | 0x00 => if fld w 8 8 = 0 ∨ fld w 16 16 = 0 then s
      else modTwin (fun t => { t with nvs := { n with en := bit w 0, unit := fld w 1 1, claim := fld w 8 8, pair := fld w 16 16 } }) s
  | 0x04 => modTwin (fun t => { t with nvs := { n with wait := clampN 5 300 (fld w 0 12) } }) s
  | _ =>
    if 0x100 ≤ o ∧ o < 0x120 then
      let i := 8 * (o - 0x100)
      modTwin (fun t => { t with nvs := { n with key := n.key - (n.key / 2 ^ i % 2 ^ 32) * 2 ^ i + (w % 2 ^ 32) * 2 ^ i } }) s
    else s

end Sys2Proof.Machine
end

