-- ==== Sys2Proof/Machine/RegsC.lean ====
section
/-! DEFINITION. The register blocks of Feed, Hush, Sheen, Power and wake, and Life cycle and keys, and the expert register
commands (chapters 05, 07, 12, 17, 18 and 21). -/

namespace Sys2Proof.Machine

/-! ### Feed (chapter 18) -/

/-- The depth of Cartridge `n` in words (R557). -/
def cartDepth (n : Nat) : Nat :=
  if n < 8 then 512 else if n < 10 then 256 else if n < 12 then 64 else if n < 14 then 128 else if n = 14 then 4 else if n < 17 then 16 else 0

/-- Cartridge `n` is present on the variant (R557). -/
def cartPresent (v : Variant) (n : Nat) : Bool :=
  if n < 4 then n < netPorts v else if n < 8 then n - 4 < netPorts v
  else if n = 8 ∨ n = 9 then hasTwin v else if n = 12 ∨ n = 13 then hasXmi v else n < 17

/-- Cartridge `n`. -/
def cartAt (s : State) (n : Nat) : Cart := tabGet {} s.feed.carts n

/-- PKTS of a Cartridge: the words held with E set (R553). -/
def cartPkts (c : Cart) : Nat := (c.words.filter (·.e)).length

/-- A redundant column register: two columns with their USED bits (R546). -/
def colWord (l : List Nat) (i : Nat) : Nat :=
  let f := fun (j : Nat) => match l[j]? with | some c => c % 2 ^ 14 + 2 ^ 15 | none => 0
  f i + 65536 * f (i + 1)

/-- A word of the Feed block. -/
def fdWord (s : State) (o : Nat) : Nat :=
  let f := s.feed
  match o with
  | 0x000 => f.decode % 2 ^ 32
  | 0x004 => f.access % 2 ^ 32
  | 0x008 => f.ecc % 2 ^ 32
  | 0x00C => f.atomic % 2 ^ 32
  | 0x010 => f.lastResp + 16 * f.lastMaster + 256 * f.lastTarget
  | 0x014 => f.lastAddr % 2 ^ 32
  | 0x018 => f.addrHi % 256
  | 0x020 => f.bulkForced % 2 ^ 32
  | 0x024 => min f.bulkWaitMax 65535
  | 0x040 => f.collide % 2 ^ 32
  | 0x044 => f.exWord % 2 ^ 18 / 8 * 8 + 2 ^ 28 * f.exMaster
  | 0x048 => f.rdOld % 2 ^ 32
  | _ =>
    if 0x100 ≤ o ∧ o < 0x280 then
      let b := (o - 0x100) / 16
      if banksOf s.variant ≤ b then 0
      else (match o % 16 with
        | 0 => tabGet 0 f.ce b % 2 ^ 32
        | 4 => tabGet 0 f.ue b % 2 ^ 32
        | 8 => tabGet 0 f.ueOfs b
        | _ => tabGet 0 f.tapUe b % 2 ^ 32)
    else if 0x400 ≤ o ∧ o < 0x4C0 then
      let b := (o - 0x400) / 8
      if banksOf s.variant ≤ b then 0 else colWord (tabGet [] f.cols b) (if o % 8 = 0 then 0 else 2)
    else if 0x800 ≤ o ∧ o < 0xA20 then
      let n := (o - 0x800) / 32
      let c := cartAt s n
      if ¬ cartPresent s.variant n then 0
      else (match o % 32 with
        | 0 => c.words.length + 65536 * cartPkts c
        | 4 => c.ce % 2 ^ 32
        | 8 => c.poison % 2 ^ 32
        | 12 => c.drop % 2 ^ 32
        | _ => 0)
    else 0

/-- A read of FD_LAST_ADDR_LO latches the high word (R559). -/
def lastAddrRead (s : State) : State :=
  regRead (s.feed.lastAddr % 2 ^ 32) (modFeed (fun f => { f with addrHi := f.lastAddr / 2 ^ 32 }) s)

/-! ### Hush (chapter 12) -/

/-- A word of the Hush block (R389). -/
def hsWord (s : State) (o : Nat) : Nat :=
  let h := s.hush
  match o with
  | 0x000 => hushState s + 4 * hushInputs s % 64 + 64 * (h.cause % 4) + 256 * b2n h.defaults + 512 * b2n h.quiet + 65536 * (h.disc % 65536)
  | 0x004 => holdLeft s
  | 0x008 => h.cfg.mute + 256 * h.cfg.entries.length + 65536 * hushPorts s
  | 0x00C => h.cfg.tDisc + 65536 * (h.cfg.release / 100)
  | 0x010 => h.asserts % 2 ^ 32
  | 0x014 => h.faults % 2 ^ 32
  | 0x018 => h.disagree % 2 ^ 32
  | 0x020 => h.lastSsi % 2 ^ 32
  | 0x024 => h.lastHi
  | _ =>
    if 0x100 ≤ o then
      (match h.cfg.entries[(o - 0x100) / 8]? with
        | some e => if o % 8 = 0 then e.sink + 65536 * e.src else unsgn 16 e.gain
        | none => 0)
    else 0

/-! ### Sheen (chapter 17) -/

/-- A source is absent from the peak registers of the variant (R527). -/
def peakAbsent (s : State) (n : Nat) : Bool := ligSize s.variant ≤ n || serifAbsent s.variant n

/-- A word of the Sheen block. -/
def snWord (s : State) (o : Nat) : Nat :=
  let h := s.sheen
  match o with
  | 0x00 => h.epoch % 2 ^ 32
  | 0x08 => h.epochSsi % 2 ^ 32
  | 0x0C => h.epochHi
  | 0x10 => ofLe ((nextBall s).take 4)
  | 0x14 => ofLe (slice (nextBall s) 4 4)
  | 0x18 => ofLe (slice (nextBall s) 8 2)
  | 0x20 => h.decimated % 2 ^ 32
  | 0x24 => h.partials % 2 ^ 32
  | 0x28 => h.records % 2 ^ 32
  | _ =>
    if 0x10000 ≤ o ∧ o < 0x18000 then (if peakAbsent s ((o - 0x10000) / 4) then 0 else (tabGet 0 h.srcPeak ((o - 0x10000) / 4)).toNat)
    else if 0x20000 ≤ o ∧ o < 0x28000 then (if peakAbsent s ((o - 0x20000) / 4) then 0 else (tabGet 0 h.snkPeak ((o - 0x20000) / 4)).toNat)
    else 0

/-- A write of a word of the Sheen block (R526): SN_TARGET is the LOUD_TARGET of the ballistics and takes effect with them. -/
def snWrite (o w : Nat) (s : State) : State :=
  match o with
  | 0x10 => ball0Write w s
  | 0x14 => ball1Write w s
  | 0x18 => ballWrite ((nextBall s).take 8 ++ leI 2 (clampI (-6000) 0 (sgn 16 (fld w 0 16)))) s
  | _ => s

/-! ### Power and wake (chapter 05) -/

/-- A word of the Power and wake block. -/
def pwWord (s : State) (o : Nat) : Nat :=
  let p := s.power
  match o with
  | 0x00 => p.wakeEn
  | 0x04 => p.stbyPort
  | 0x08 => p.wakeAt % 2 ^ 32
  | 0x0C => p.wakeAt / 2 ^ 32 % 2 ^ 32
  | 0x14 => p.events
  | 0x20 => p.stbyEntries % 2 ^ 32
  | 0x24 => min p.wakeMaxMs 65535
  | _ => 0

/-- A write of a word of the Power and wake block. A port absent on the variant is no standby port (log 72). -/
def pwWrite (o w : Nat) (s : State) : State :=
  match o with
  | 0x00 => modPower (fun p => { p with wakeEn := wakeEnOf w }) s
  | 0x04 => if fld w 0 2 < netPorts s.variant then modPower (fun p => { p with stbyPort := fld w 0 2 }) s else s
  | 0x08 => modPower (fun p => { p with wakeAtLo := w % 2 ^ 32 }) s
  | 0x0C => wakeAtHiWrite (w % 2 ^ 32) s
  | 0x10 => modeReqWrite w s
  | 0x14 => modPower (fun p => { p with events := w1c p.events (w % 8) }) s
  | _ => s

/-! ### Life cycle and keys (chapter 21) -/

/-- A word of the Life cycle and keys block (R629). -/
def lcWord (s : State) (o : Nat) : Nat :=
  let l := s.life
  match o with
  | 0x00 => l.state + 4 * lifeFlags s
  | 0x04 => s.boot.svnOtp
  | 0x08 => l.serial % 2 ^ 32
  | 0x0C => l.serial / 2 ^ 32 % 2 ^ 32
  | 0x10 => l.tpRev % 65536 + 65536 * l.year + 2 ^ 24 * l.week
  | 0x14 => min l.colsUsed 255 + 256 * (l.avsBin % 4) + 4096 * l.grade
  | _ =>
    if 0x100 ≤ o ∧ o < 0x120 then wordAt (l.fwKeyHash.getD []) (o - 0x100)
    else if 0x120 ≤ o ∧ o < 0x140 then wordAt (l.ownerHash.getD []) (o - 0x120)
    else if 0x140 ≤ o ∧ o < 0x160 then wordAt (le 32 (idHash s)) (o - 0x140)
    else 0

/-! ### A word of any block (R31) -/

/-- The value of a register word, by block and offset; unused offsets, and the XMI control block, for which no register is listed,
read zero (R529). -/
def regWord (s : State) (i o : Nat) : Nat :=
  match i with
  | 0 => blWord s o
  | 1 => dxWord s o
  | 2 => lgWord s o
  | 3 => qlWord s o
  | 4 => srWord s o
  | 5 => slWord s o
  | 6 => cbWord s o
  | 7 => vlWord s o
  | 8 => if hasTwin s.variant then twWord s o else 0
  | 9 => fdWord s o
  | 10 => hsWord s o
  | 11 => snWord s o
  | 13 => pwWord s o
  | 14 => lcWord s o
  | 15 => syWord s o
  | _ => 0

/-- What a read of a register word does beside answering: latches, and registers that clear when read (R4). -/
def regTouch (i o : Nat) (s : State) : State :=
  match i with
  | 1 => if o = 0x010 then armedSsiRead s else s
  | 5 => if o % 0x100 = 0x58 ∧ o < 0x300 then sealBytesRead (o / 0x100) s else if o = 0x368 then sealDigestRead s else s
  | 6 => if o = 0x18 then cbFifoRead s else s
  | 7 => if o = 0x08 then modVl (fun v => { v with aonHi := aonSeconds s / 2 ^ 32 }) s else s
  | 9 => if o = 0x014 then lastAddrRead s else s
  | 10 => if o = 0x020 then hushSsiRead s else s
  | 11 =>
    if o = 0x008 then epochSsiRead s
    else if 0x10000 ≤ o ∧ o < 0x18000 ∧ ¬ peakAbsent s ((o - 0x10000) / 4) then srcPeakRead ((o - 0x10000) / 4) s
    else if 0x20000 ≤ o ∧ o < 0x28000 ∧ ¬ peakAbsent s ((o - 0x20000) / 4) then snkPeakRead ((o - 0x20000) / 4) s
    else s
  | 15 => if o = 0x110 then ssiLoRead s else s
  | _ => s

/-- Read a register word: its value, and the state after the read. -/
def readReg (i o : Nat) (s : State) : Nat × State :=
  let t := regTouch i o s
  (regWord s i o, { t with host := { t.host with readData := s.host.readData } })

/-- Write a register word by its access code (R4): the Vellum, Feed, Hush and Life blocks hold RO words alone. -/
def writeReg (i o w : Nat) (s : State) : State :=
  match i with
  | 0 => blWrite o w s
  | 1 => dxWrite o w s
  | 2 => lgWrite o w s
  | 3 => qlWrite o w s
  | 4 => srWrite o w s
  | 5 => slWrite o w s
  | 6 => cbWrite o w s
  | 8 => if hasTwin s.variant then twWrite o w s else s
  | 11 => snWrite o w s
  | 13 => pwWrite o w s
  | 15 => syWrite o w s
  | _ => s

/-! ### Absent instances (R724) -/

/-- The absent instance that a register word belongs to, if it belongs to one: its kind within the block and its number. -/
def instAbsent (s : State) (i o : Nat) : Option (Nat × Nat) :=
  let gone := fun (b : Bool) (kind n : Nat) => if b then some (kind, n) else none
  match i with
  | 0 =>
    if 0x100 ≤ o ∧ o < 0x1C0 then gone (refAbsent s ((o - 0x100) / 8)) 0 ((o - 0x100) / 8)
    else if 0x200 ≤ o ∧ o < 0x260 then gone (refAbsent s ((o - 0x200) / 4)) 0 ((o - 0x200) / 4)
    else none
  | 1 => if 0x400 ≤ o ∧ o < 0x640 then gone (nibDefault s.variant ((o - 0x400) / 4) = 0) 0 ((o - 0x400) / 4) else none
  | 2 => (match sinkRegister o with | some (_, n) => gone (!sinkPresent s n) 0 n | none => none)
  | 3 =>
    if 0x1000 ≤ o ∧ o < 0x1400 then gone (netPorts s.variant ≤ (o - 0x1000) / 0x100) 0 ((o - 0x1000) / 0x100)
    else if 0x10000 ≤ o ∧ o < 0x50000 then gone (streamsOf s.variant ≤ (o - 0x10000) / 64) 1 ((o - 0x10000) / 64)
    else if 0x50000 ≤ o ∧ o < 0x90000 then gone (streamsOf s.variant ≤ (o - 0x50000) / 64) 2 ((o - 0x50000) / 64)
    else if 0x90000 ≤ o ∧ o < 0xD0000 then gone (streamsOf s.variant ≤ (o - 0x90000) / 64) 1 ((o - 0x90000) / 64)
    else if 0xD0000 ≤ o ∧ o < 0x100000 then gone (streamsOf s.variant ≤ (o - 0xD0000) / 48) 2 ((o - 0xD0000) / 48)
    else none
  | 4 => if o < 0x1000 then gone (portAbsent s (o / 0x100)) 0 (o / 0x100) else none
  | 9 =>
    if 0x100 ≤ o ∧ o < 0x280 then gone (banksOf s.variant ≤ (o - 0x100) / 16) 0 ((o - 0x100) / 16)
    else if 0x400 ≤ o ∧ o < 0x4C0 then gone (banksOf s.variant ≤ (o - 0x400) / 8) 0 ((o - 0x400) / 8)
    else if 0x800 ≤ o ∧ o < 0xA20 then gone (!cartPresent s.variant ((o - 0x800) / 32)) 1 ((o - 0x800) / 32)
    else none
  | 11 =>
    if 0x10000 ≤ o ∧ o < 0x18000 then gone (peakAbsent s ((o - 0x10000) / 4)) 0 ((o - 0x10000) / 4)
    else if 0x20000 ≤ o ∧ o < 0x28000 then gone (peakAbsent s ((o - 0x20000) / 4)) 1 ((o - 0x20000) / 4)
    else none
  | 15 => if 0x500 ≤ o ∧ o < 0x740 then gone (nibDefault s.variant ((o - 0x500) / 4) = 0) 0 ((o - 0x500) / 4) else none
  | _ => none

/-- The words of a register command: block and offsets. -/
def regOffsets (x : Ctx) : Nat × List Nat :=
  let a := u64 x.whole 0
  ((a - 0x30000000) / 0x100000, (List.range (u16 x.whole 8)).map (fun k => a % 0x100000 + 4 * k))

/-- All of a register command's words belong to an absent block or to absent instances (R11, R724). -/
def regsAbsent (x : Ctx) (s : State) : Bool :=
  let a := u64 x.whole 0
  let q := regOffsets x
  0x30000000 ≤ a && a < 0x31000000 && (!blockPresent s.variant q.1 || (!q.2.isEmpty && q.2.all (fun o => (instAbsent s q.1 o).isSome)))

/-- The address and the count of a register command are legal (R241). -/
def regsRange (x : Ctx) (_ : State) : Bool :=
  let a := u64 x.whole 0
  let n := u16 x.whole 8
  a % 4 = 0 && 0x30000000 ≤ a && a < 0x31000000 && 1 ≤ n && n ≤ 1024 && a % 0x100000 + 4 * n ≤ 0x100000

/-- One OMITTED_ABSENT warning for each absent instance that the words touch, in their order (R724). -/
def absentWarnings (s : State) (i : Nat) (l : List Nat) : List Warning :=
  let gone := l.filterMap (instAbsent s i)
  gone.dedup.map (fun e => { code := 2, group := 0x10, item := e.2, requested := ((gone.filter (· = e)).length : Nat), applied := 0 })

/-- Read words in order. -/
def readRegs (i : Nat) : List Nat → State → Bytes × State
  | [], s => ([], s)
  | o :: l, s => let q := readReg i o s; let r := readRegs i l q.2; (le 4 q.1 ++ r.1, r.2)

/-- Write words in order. -/
def writeRegs (i : Nat) (l : List (Nat × Nat)) (s : State) : State := l.foldl (fun t e => writeReg i e.1 e.2 t) s

/-- EXP.REG_READ (R241). -/
def cmdRegRead : Cmd where
  lens := inlineOnly 16
  absent := regsAbsent
  range := regsRange
  body := fun x s =>
    let q := regOffsets x
    let r := readRegs q.1 q.2 s
    let small := q.2.length ≤ 56
    { st := r.2, data := if small then r.1 else [], sheet := if small then none else some r.1, warns := absentWarnings s q.1 q.2 }

/-- EXP.REG_WRITE (R242). -/
def cmdRegWrite : Cmd where
  lens := eitherPlace
  fits := fun x => x.whole.length = 16 + 4 * u16 x.whole 8
  absent := regsAbsent
  range := regsRange
  body := fun x s =>
    let q := regOffsets x
    { st := writeRegs q.1 (q.2.zipIdx.map (fun e => (e.1, u32 x.whole (16 + 4 * e.2)))) s, warns := absentWarnings s q.1 q.2 }

/-! ### The meanings -/

/-- EXP.REG_READ. -/
def execExpRegRead (r : Request) (s : State) : Host.Outcome State Fault Refusal := serve 0x1001 cmdRegRead r s
/-- EXP.REG_WRITE. -/
def execExpRegWrite (r : Request) (s : State) : Host.Outcome State Fault Refusal := serve 0x1002 cmdRegWrite r s
/-- A read of FD_LAST_ADDR_LO. -/
def execFdLastAddrLoRead (s : State) : Host.Outcome State Fault Refusal := .next (if expertMode s then lastAddrRead s else s)

end Sys2Proof.Machine
end

