-- ==== Sys2Proof/Machine/Feed.lean ====
section
/-! DEFINITION. Feed accesses and atomics, the Cartridges, and the memory status commands (chapter 18). -/

namespace Sys2Proof.Machine

/-! ### Accesses (R534 to R537, R543 to R548) -/

/-- What an access has met so far: the state, the first response other than OKAY with its address, the bytes read before it and
the Exchange words that collided. -/
structure FeedRun where
  st    : State
  resp  : Nat := 0
  addr  : Nat := 0
  data  : Bytes := []
  lost  : Nat := 0

/-- A part or a word of an access meets a response: the first other than OKAY stands (R535). -/
def meets (code a : Nat) (r : FeedRun) : FeedRun := if r.resp = 0 then { r with resp := code, addr := a } else r

/-- Bytes are delivered while every response so far is OKAY. -/
def deliver (b : Bytes) (r : FeedRun) : FeedRun := if r.resp = 0 then { r with data := r.data ++ b } else r

/-- Write the 64 bits of port 0 into an Exchange word (R547). -/
def portZero (w v : Nat) (s : State) : State := ((List.range 8).zip (le 8 v)).foldl (fun t e => setByte (8 * w + e.1) e.2 t) s

/-- A corrected error met by master `m` at a word: the scrub's goes on the watch list as well (R543, R578). -/
def corrected (m a : Nat) (s : State) : State :=
  match rowRegion s a with
  | some (g, w) => if m = 7 then watchWord g w (foundCe a s) else foundCe a s
  | none => s

/-- A delay-line tap that Ductus cannot read is counted against its bank (R545). -/
def tapLost (m a : Nat) (known : Bool) (s : State) : State :=
  match rowRegion s a with
  | some (g, _) =>
    if m = 1 ∧ g < 24 then
      modFeed (fun f => { f with tapUe := tabMod 0 f.tapUe g (fun c => (c + 1) % 2 ^ 32) }) (if known then vellumCount 45 s else s)
    else s
  | none => s

/-- The word of memory meets an uncorrectable error: it is poisoned already, or is found so now. -/
def wordFails (q : FeedReq) (a : Nat) (s : State) : Bool := poisoned s a || q.uncorr.contains (a / 8)

/-- The state after a word has answered ECC. -/
def wordEcc (q : FeedReq) (a : Nat) (s : State) : State :=
  let known := poisoned s a
  tapLost q.master a known (if known then s else foundUe q.master (a / 8 * 8) s)

/-- Read the bytes from `a` to the end of its word, at most `n` of them. -/
def readWord (q : FeedReq) (a n : Nat) (r : FeedRun) : FeedRun :=
  let s := r.st
  if wordFails q a s then meets 3 a { r with st := wordEcc q a s }
  else
    let b := memBytes s a n
    let s1 := if q.single.contains (a / 8) then corrected q.master (a / 8 * 8) s else s
    match q.rdOld.find? (fun e => e.1 = a / 8) with
    | some e => deliver b { r with st := portZero e.1 e.2 (modFeed (fun f => { f with rdOld := (f.rdOld + 1) % 2 ^ 32 }) s1) }
    | none => deliver b { r with st := s1 }

/-- Write the enabled bytes from `a` to the end of its word: fewer than 8 are a read-modify-write (R544). -/
def writeWord (q : FeedReq) (a : Nat) (b : Bytes) (en : List Bool) (r : FeedRun) : FeedRun :=
  let s := r.st
  let whole := a % 8 = 0 && b.length = 8 && en.all id
  match (if regionOf s a = some .exch then q.collide.find? (fun e => e.1 = a / 8) else none) with
  | some e =>
    let t := modFeed (fun f => { f with collide := (f.collide + 1) % 2 ^ 32, exWord := a / 8 * 8 - 0x14000000, exMaster := q.master }) s
    meets 4 a { r with lost := r.lost + 1, st := portZero e.1 e.2 t }
  | none =>
    if ¬ whole ∧ wordFails q a s then meets 3 a { r with st := wordEcc q a s }
    else
      let s1 := if ¬ whole ∧ q.single.contains (a / 8) then corrected q.master (a / 8 * 8) s else s
      let s2 := ((b.zip en).zipIdx).foldl (fun t e => if e.1.2 then setByte (a + e.2) e.1.1 t else t) s1
      { r with st := if whole then modFeed (fun f => { f with poison := f.poison.filter (· ≠ a / 8) }) s2 else s2 }

/-- The words of a part of an access to memory. -/
def memWords (q : FeedReq) : Nat → Nat → Nat → FeedRun → FeedRun
  | 0, _, _, r => r
  | fuel + 1, a, n, r =>
    if n = 0 then r
    else
      let k := min n (8 - a % 8)
      let i := a - q.addr
      memWords q fuel (a + k) (n - k)
        (if q.write then writeWord q a (padTo k (slice q.data i k)) ((List.range k).map (fun j => q.en.getD (i + j) true)) r
         else readWord q a k r)

/-- The host transport that a master stands for, if it stands for one. -/
def masterVia : Nat → Option Via
  | 4 => some .pcie | 5 => some .hspi | _ => none

/-- A part of an access to the Inkwells: a host's as R171 judges it. The engine's own masters read every byte and write the request
rings alone, since what Scribe writes elsewhere is the effect of its commands (log 75). -/
def inkPart (q : FeedReq) (a n : Nat) (r : FeedRun) : FeedRun :=
  let s := r.st
  let o := a - 0x20000000
  let b := padTo n (slice q.data (a - q.addr) n)
  match masterVia q.master with
  | some v =>
    if ¬ q.write then deliver (inkBytes v s o n) r
    else if inkAccess v true o n then { r with st := inkWrite v (o / 65536) n (o % 65536) b s } else { r with st := setHostErr 0 s }
  | none =>
    if ¬ q.write then deliver ((List.range n).map (fun i => inkByte s ((o + i) / 65536) ((o + i) % 65536))) r
    else if 0x1000 ≤ o % 65536 ∧ o % 65536 + n ≤ 0x2000 then
      { r with st := modWell (o / 65536) (fun w => { w with reqMem := memPut 0 w.reqMem (o % 65536 - 0x1000) b }) s }
    else r

/-- A part of an access to a register block: a single beat of 4 bytes aligned to 4 (R536). -/
def regPart (q : FeedReq) (a n : Nat) (r : FeedRun) : FeedRun :=
  let i := (a - 0x30000000) / 0x100000
  let o := a % 0x100000
  if q.len ≠ 4 ∨ n ≠ 4 ∨ a % 4 ≠ 0 ∨ (q.write ∧ (q.en.take 4).any (!·)) then meets 2 a r
  else if q.write then { r with st := writeReg i o (u32 (padTo 4 q.data) 0) r.st }
  else let p := readReg i o r.st; deliver (le 4 p.1) { r with st := p.2 }

/-- One part of an access: it takes effect on its own (R535). -/
def feedPart (q : FeedReq) (a n : Nat) (r : FeedRun) : FeedRun :=
  match regionOf r.st a with
  | none => meets 1 a r
  | some g =>
    if ¬ permitted r.st q.master q.write g a then meets 2 a r
    else match g with
      | .ink => inkPart q a n r
      | .regs => regPart q a n r
      | _ => memWords q (n + 1) a n r

/-- The parts of an access: bursts of at most 16 beats within 4 KiB, in ascending order (R535). -/
def feedParts (q : FeedReq) : Nat → Nat → Nat → FeedRun → FeedRun
  | 0, _, _, r => r
  | fuel + 1, a, n, r =>
    if n = 0 then r
    else
      let k := min n (min (4096 - a % 4096) (512 - a % 32))
      feedParts q fuel (a + k) (n - k) (feedPart q a k r)

/-- A master of the bulk class (R531). -/
def bulkMaster (m : Nat) : Bool := [0, 4, 5, 6, 7, 9].contains m

/-- The register slices of a master, and the slices and access time of a target port (chapter 18, "Paths and latency"). -/
def masterSlices (m : Nat) : Nat := [1, 1, 2, 3, 3, 2, 2, 1, 3, 2].getD m 0
/-- The slices of a target port. -/
def targetSlices (t : Nat) : Nat := [1, 2, 2, 1, 1, 2, 2, 2, 3].getD t 0
/-- The access time of a target port, on XMI that of an open page. -/
def accessTime (t : Nat) : Nat := [2, 5, 5, 2, 2, 6, 4, 32, 40].getD t 0
/-- The unloaded read latency of a path in FEED_CLK cycles, to the first beat (R532). -/
def readLatency (m t : Nat) : Nat := 2 * (masterSlices m + targetSlices t) + accessTime t

/-- A target grants an access: what its wait leaves in Feed's counters. A bulk burst is granted by the guarantee only when the last 7
grants there were real-time ones (R539, R541). -/
def countWait (q : FeedReq) (s : State) : State :=
  match regionOf s q.addr with
  | none => s
  | some g =>
    let t := feedPort g q.addr
    let run := tabGet 0 s.feed.rtRun t
    let s1 := modFeed (fun f => { f with latency := readLatency q.master t }) s
    if bulkMaster q.master then
      modFeed (fun f => { f with bulkWaitMax := max f.bulkWaitMax q.wait,
                                 bulkForced := (f.bulkForced + b2n (q.forced && run = 7)) % 2 ^ 32, rtRun := tabPut 0 f.rtRun t 0 }) s1
    else modFeed (fun f => { f with rtRun := tabPut 0 f.rtRun t (min 7 (run + 1)) }) s1

/-- The last word of the last present Nib store. -/
def lastStoreWord (s : State) : Nat := 0x48000000 + ((presentNibs s).getLastD 0) * 0x20000 + 0x1FFF8

/-- A read by the scrub: a sweep begins at the first Reservoir word and is complete at the last word of the last present Nib store
(R578, log 51). -/
def noteScrub (q : FeedReq) (s : State) : State :=
  let covers := fun (a : Nat) => q.addr ≤ a && a < q.addr + q.len
  if q.master ≠ 7 ∨ q.write then s
  else
    modRt (fun r =>
      let began := if covers 0x10000000 then s.stem.ms else r.scrubBegan
      if covers (lastStoreWord s) then { r with scrubBegan := began, scrubMs := s.stem.ms, scrubLast := s.stem.ms - began }
      else { r with scrubBegan := began }) s

/-- FEED_ACCESS. -/
def feedAccess (q : FeedReq) (s : State) : State :=
  if 10 ≤ q.master ∨ q.len = 0 then s
  else
    let r := feedParts q (q.len + 1) q.addr q.len { st := countWait q s }
    let s1 := if r.resp = 0 then r.st else respond r.resp q.master r.addr r.st
    let s2 := if r.lost = 0 then s1 else memFault 1 0 q.master s1.feed.exWord r.lost (vellumAdd 46 r.lost s1)
    modFeed (fun f => { f with resp := r.resp, data := r.data }) (noteScrub q s2)

/-! ### Atomics (R538, R549) -/

/-- What an atomic leaves in its word, if it writes: SWAP, CAS and ADD on the old value. -/
def atomicNew (q : FeedAtomic) (old : Nat) : Option Nat :=
  match q.kind with
  | 0 => some (q.a % 2 ^ 64)
  | 1 => if old = q.a % 2 ^ 64 then some (q.b % 2 ^ 64) else none
  | _ => some ((old + q.a) % 2 ^ 64)

/-- An atomic on a word of memory. -/
def atomicWord (q : FeedAtomic) (g : Region) (s : State) : State :=
  let done := fun (code : Nat) (b : Bytes) (t : State) => modFeed (fun f => { f with resp := code, data := b }) t
  let old := if g = .ink then (List.range 8).map (fun i => inkByte s ((q.addr + i - 0x20000000) / 65536) ((q.addr + i - 0x20000000) % 65536)) else memBytes s q.addr 8
  if g ≠ .ink ∧ (poisoned s q.addr ∨ q.uncorr) then
    done 3 [] (respond 3 q.master q.addr (if poisoned s q.addr then s else foundUe q.master q.addr s))
  else match (if g = .exch then q.collide else none) with
    | some v =>
      let s1 := portZero (q.addr / 8) v (modFeed (fun f => { f with collide := (f.collide + 1) % 2 ^ 32, exWord := q.addr - 0x14000000, exMaster := q.master }) s)
      done 4 old (memFault 1 0 q.master (q.addr - 0x14000000) 1 (vellumCount 46 (respond 4 q.master q.addr s1)))
    | none => match atomicNew q (ofLe old) with
      | none => done 0 old s
      | some v =>
        let w : FeedReq := { master := q.master, write := true, addr := q.addr, len := 8, data := le 8 v }
        done 0 old (if g = .ink then (inkPart w q.addr 8 { st := s }).st else (memWords w 2 q.addr 8 { st := s }).st)

/-- FEED_ATOMIC: on T1 to T4, aligned to 8. -/
def feedAtomic (q : FeedAtomic) (s : State) : State :=
  let stop := fun (code : Nat) => modFeed (fun f => { f with resp := code, data := [] }) (respond code q.master q.addr s)
  if 10 ≤ q.master ∨ 2 < q.kind then s
  else match regionOf s q.addr with
    | none => stop 1
    | some g =>
      if ¬ permitted s q.master true g q.addr then stop 2
      else if ¬ (1 ≤ feedPort g q.addr ∧ feedPort g q.addr ≤ 4) then stop 5
      else if q.addr % 8 ≠ 0 then stop 2
      else atomicWord q g s

/-! ### Cartridges (R551 to R557) -/

/-- Change Cartridge `n`. -/
def modCart (n : Nat) (f : Cart → Cart) (s : State) : State := modFeed (fun q => { q with carts := tabMod {} q.carts n f }) s

/-- The words of a packet as they are held: the last one has E set and LEN (R551). -/
def packetWords (l : List (Bytes × Bool)) : List CartWord :=
  l.zipIdx.map (fun e =>
    let last := e.2 + 1 = l.length
    { data := e.1.1, e := last, p := e.1.2, len := if last then e.1.1.length - 1 else 0 })

/-- CARTRIDGE_WRITE: a packet without room is dropped whole by a producer that does not hold its data, and waits at one that does
(R554, R557). -/
def cartWrite (n : Nat) (l : List (Bytes × Bool)) (s : State) : State :=
  if ¬ cartPresent s.variant n ∨ l.isEmpty then s
  else if cartDepth n < (cartAt s n).words.length + l.length then
    if n < 10 then memFault 3 n 0xFF 0 1 (vellumCount 48 (modCart n (fun c => { c with drop := (c.drop + 1) % 2 ^ 32 }) s)) else s
  else
    let s1 := modCart n (fun c => { c with words := c.words ++ packetWords l }) s
    if n = 16 then modFeed (fun f => { f with order := (packetWords l).head?.map (fun w => (w, s.stem.ms)) }) s1 else s1

/-- How the consumer acts on a poisoned word (R556, R557). -/
def cartPoisoned (n : Nat) (s : State) : State :=
  match n with
  | 8 => modTwin (fun w => { w with linkErr := (w.linkErr + 1) % 2 ^ 32 }) s
  | 12 | 13 => modFeed (fun f => { f with ecc := (f.ecc + 1) % 2 ^ 32 }) s
  | 14 => turnOverride true s
  | _ => s

/-- What a good word brings about: the Hush state that it carries decides (R556), and AON acknowledges its order. -/
def cartGood (n : Nat) (s : State) : State :=
  match n with
  | 14 => turnOverride s.hush.asserted s
  | 16 => modFeed (fun f => { f with order := none }) s
  | _ => s

/-- CARTRIDGE_READ: an empty Cartridge answers a word with V 0 (R552). After a poisoned word the consumer discards the words up to
the end mark (R555). -/
def cartRead (n : Nat) (single bad : Bool) (s : State) : State :=
  if ¬ cartPresent s.variant n then s
  else match (cartAt s n).words with
    | [] => modCart n (fun c => { c with out := {} }) s
    | w :: rest =>
      let p := w.p || bad
      let skip := (cartAt s n).discard
      let s1 := modCart n (fun c => { c with words := rest, out := { w with v := true, p := p },
                                             ce := if single ∧ ¬ bad then (c.ce + 1) % 2 ^ 32 else c.ce,
                                             poison := if p then (c.poison + 1) % 2 ^ 32 else c.poison,
                                             discard := (skip || p) && !w.e }) s
      if p then
        let s2 := memFault 2 n 0xFF 0 1 (vellumCount 47 s1)
        if skip then s2 else cartPoisoned n s2
      else if skip then s1 else cartGood n s1

/-- AON_ORDER_RESEND: an order that AON has not acknowledged within 5 ms is sent again (R557). -/
def orderResend (s : State) : State :=
  match s.feed.order with
  | none => s
  | some (w, t) =>
    if s.stem.ms < t + 5 ∨ 16 ≤ (cartAt s 16).words.length then s
    else modFeed (fun f => { f with order := some (w, s.stem.ms) }) (modCart 16 (fun c => { c with words := c.words ++ [w] }) s)

/-! ### The status commands -/

/-- The record of a Reservoir bank, zero for an absent one (R230). -/
def bankRecord (s : State) (b : Nat) : Bytes :=
  let f := s.feed
  if banksOf s.variant ≤ b then zeros 16
  else le 4 (tabGet 0 f.ce b) ++ le 4 (tabGet 0 f.ue b) ++ le 4 (tabGet 0 f.ueOfs b) ++ le 1 (tabGet [] f.cols b).length ++ zeros 3

/-- SYS.MEM_STATUS_GET. -/
def cmdMemStatusGet : Cmd where
  lens := inlineOnly 0
  body := fun _ s =>
    let f := s.feed
    { st := s, sheet := some (le 4 f.decode ++ le 4 f.access ++ le 4 f.ecc ++ le 4 f.atomic ++ le 4 f.bulkForced ++ le 4 f.collide ++ le 4 f.rdOld ++
        le 1 (banksOf s.variant) ++ zeros 3 ++ (List.range 24).flatMap (bankRecord s)) }

/-- The record of a Cartridge, zero for one of an absent unit (R557). -/
def cartRecord (s : State) (n : Nat) : Bytes :=
  let c := cartAt s n
  if ¬ cartPresent s.variant n then zeros 20
  else le 1 n ++ le 1 1 ++ le 2 c.words.length ++ le 2 (cartPkts c) ++ zeros 2 ++ le 4 c.ce ++ le 4 c.poison ++ le 4 c.drop

/-- SYS.CART_STATUS_GET. -/
def cmdCartStatusGet : Cmd where
  lens := inlineOnly 0
  body := fun _ s => { st := s, sheet := some ((List.range 17).flatMap (cartRecord s)) }

/-! ### The meanings -/

/-- SYS.MEM_STATUS_GET. -/
def execSysMemStatusGet (r : Request) (s : State) : Host.Outcome State Fault Refusal := serve 0x0160 cmdMemStatusGet r s
/-- SYS.CART_STATUS_GET. -/
def execSysCartStatusGet (r : Request) (s : State) : Host.Outcome State Fault Refusal := serve 0x0161 cmdCartStatusGet r s
/-- An access of a Feed master. -/
def execFeedAccess (q : FeedReq) (s : State) : Host.Outcome State Fault Refusal := .next (feedAccess q s)
/-- A Feed atomic. -/
def execFeedAtomic (q : FeedAtomic) (s : State) : Host.Outcome State Fault Refusal := .next (feedAtomic q s)
/-- A packet is written to a Cartridge. -/
def execCartridgeWrite (n : Nat) (words : List (Bytes × Bool)) (s : State) : Host.Outcome State Fault Refusal := .next (cartWrite n words s)
/-- A consumer reads a Cartridge. -/
def execCartridgeRead (n : Nat) (single bad : Bool) (s : State) : Host.Outcome State Fault Refusal := .next (cartRead n single bad s)
/-- An order on AON_DOWN is sent again. -/
def execAonOrderResend (s : State) : Host.Outcome State Fault Refusal := .next (orderResend s)

end Sys2Proof.Machine
end

