-- ==== Sys2Proof/Machine/Timed.lean ====
section
/-! DEFINITION. Timed actions at their apply SSI, the readiness deadline and late recalls (R20, R28, R151, R308, R341). -/

namespace Sys2Proof.Machine

/-! ### The order of execution (R306, R465) -/

/-- Flourishes come first at an SSI, in ascending (ORIGIN, NUMBER); every other action keeps Scribe's order (R465, log 77). -/
def actionRank (a : Armed) : List Nat :=
  if a.opcode = 0x0C06 then [a.applySsi, 0, (commitOf a).1, (commitOf a).2] else [a.applySsi, 1, a.order, 0]

/-- Insert an action by its rank. -/
def insertByRank (a : Armed) : List Armed → List Armed
  | [] => [a]
  | b :: l => if lexLess (actionRank a) (actionRank b) then a :: b :: l else b :: insertByRank a l

/-- A list of actions in the order in which they execute. -/
def byRank (l : List Armed) : List Armed := l.foldl (fun t a => insertByRank a t) []

/-! ### Execution -/

/-- A recall turns: the resume record is written when it completes (R127). -/
def recallTurns (a : Armed) (late : Bool) (s : State) : State := writeResume (executeScene a late s)

/-- The owner's part of a Flourish, which applies D later: its changes alone (R467). -/
def ownerTurns (a : Armed) (s : State) : State :=
  a.turn.changes.foldl (fun t c => executeChange c t) s

/-- A Flourish turn: only with COMMIT held, or from the journal on a shadow (R452, R461). -/
def flourishTurns (a : Armed) (s : State) : State :=
  if a.turn.silent then ownerTurns a s
  else if turnCommitted s a then recallTurns a false s
  else s

/-- One action executes (R20). -/
def executeAction (a : Armed) (s : State) : State :=
  let p := a.params
  match a.opcode with
  | 0x0703 | 0x0710 | 0x0822 => executeTurn a s
  | 0x0702 => (match a.turn.remove with | some k => startRemoval k s | none => s)
  | 0x0802 => recallTurns a false s
  | 0x0C06 => flourishTurns a s
  | 0 | 0x0601 => executeRoutes a s
  | 0x0603 => (sinksHere s (u16 p 0) (u16 p 2)).foldl (fun t n => setSinkCfg p n t) s
  | 0x0604 => (sinksHere s (u16 p 0) (u16 p 2)).foldl (fun t n => setSinkGain (i32 p 4) n t) s
  | 0x0605 => commandFallback (u16 p 0) (u8 p 2) s
  | 0x0901 => executeSheenConfig a s
  | 0x0902 => executeLoudReset a s
  | 0x0194 => driveGpio (u16 p 0) (u16 p 2) s
  | 0x0302 => executeMode a s
  | 0x0410 | 0x0412 => executeStream a s
  | 0x0C05 => leaveNow s
  | _ => s

/-- The SSI at which an action is due: a mode change waits for a boundary (R167). -/
def dueSsi (a : Armed) : Nat := if a.opcode = 0x0302 then up8 a.applySsi else a.applySsi

/-- The actions due now. A written phase step is Baseline's and a handover the Twin unit's (R80, R497). -/
def dueActions (s : State) : List Armed :=
  byRank ((waiting s).filter (fun a => decide (dueSsi a ≤ s.stem.ssi) && !a.late && a.opcode ≠ 0x0205 && a.opcode ≠ 0x0B03))

/-- An action that falls due in STANDBY or in a wake is dropped; its client is told once commands are served again, which is at once in
the part of a wake that serves them (R151). -/
def dropDue (a : Armed) (s : State) : State :=
  if a.opcode = 0x0194 then executeAction a s
  else if s.boot.inkBasic then tellDropped .mode a s
  else if a.client < 64 then
    let e : EventRec := { type := 0x0103, evtSeq := 0, ssi := s.stem.ssi, payload := droppedData a .mode }
    { s with ink := { s.ink with deferred := s.ink.deferred ++ [(a.client, e)] } }
  else s

/-- An action leaves the waiting ones and executes, or is dropped. -/
def applyOne (s : State) (a : Armed) : State :=
  let t := forget a s
  if s.power.mode = .standby ∨ s.power.waking then dropDue a t else executeAction a t

/-- Actions of one SSI with, in each, the sinks that a later one names: the later change prevails (R352). -/
def mergeRoutes (s : State) : List Armed → List Armed
  | [] => []
  | a :: l =>
    let later := (l.filter (fun b => b.opcode ≠ 0x0C06 || turnCommitted s b)).flatMap (fun b => b.turn.routes.map (·.1))
    { a with turn := { a.turn with merged := later } } :: mergeRoutes s l

/-- Everything that is due at the present SSI takes effect (R20). -/
def applyTimed (s : State) : State :=
  let t := commitMissed s
  handoverPoint (tellFlourishes (tellEpoch ((mergeRoutes t (dueActions s)).foldl applyOne t)))

/-! ### Readiness (R308, R341) -/

/-- A recall that has reached its readiness deadline. -/
def atDeadline (s : State) (a : Armed) : Bool := decide (a.applySsi ≤ s.stem.ssi + 16) && !a.late

/-- A recall whose folios are not complete: dropped, or made late with LATE_OK (R341). -/
def notComplete (s : State) (id : Nat × Nat) : State :=
  match recallOf s id.1 id.2 with
  | some a => if ¬ atDeadline s a then s
              else if bit a.turn.flags 0 then mapAction a (fun b => { b with ready := false, late := true }) s
              else dropRecall .notReady a s
  | none => s

/-- A recall whose image fails its check while it loads: dropped, and the scene marked CORRUPT (R341). -/
def imageFails (s : State) (id : Nat × Nat) : State :=
  match recallOf s id.1 id.2 with
  | some a =>
    let t := dropRecall .badParam a s
    (match mapGet t.prog.scenes a.turn.scene with
     | some sc => { t with prog := { t.prog with scenes := tabInsert a.turn.scene { sc with corrupt := true } t.prog.scenes } }
     | none => t)
  | none => s

/-- READINESS_DEADLINE (R341, R463). `unready` and `corrupt` name recalls by client and SEQ. -/
def readinessDeadline (unready corrupt : List (Nat × Nat)) (s : State) : State :=
  commitMissed (unready.foldl notComplete (corrupt.foldl imageFails s))

/-- A late recall turns at the first boundary by which its folios are complete (R341). -/
def lateRecall (client seq : Nat) (s : State) : State :=
  match recallOf s client seq with
  | some a => if a.late ∧ s.stem.ssi % 8 = 0 ∧ a.applySsi ≤ s.stem.ssi then tellEpoch (recallTurns a true (forget a s)) else s
  | none => s

/-! ### The meanings -/

/-- TIMED_ACTION_APPLY (R20). -/
def execTimedActionApply (s : State) : Host.Outcome State Fault Refusal := .next (applyTimed s)
/-- READINESS_DEADLINE (R341). -/
def execReadinessDeadline (unready corrupt : List (Nat × Nat)) (s : State) : Host.Outcome State Fault Refusal :=
  .next (readinessDeadline unready corrupt s)
/-- LATE_RECALL_APPLY (R341). -/
def execLateRecallApply (client seq : Nat) (s : State) : Host.Outcome State Fault Refusal := .next (lateRecall client seq s)

end Sys2Proof.Machine
end

