-- ==== Sys2Proof/Machine/Mix.lean ====
section
/-! DEFINITION. Ligature at one sample: sources, the sinks' selection, crossfade, gain and the Hush override (chapter 11, R344 to R360). -/

namespace Sys2Proof.Machine

/-! ### Sources (R344, R348, R261) -/

/-- Samples between a program's input and its release: 8 × (2 + SW) (R21). -/
def latency (s : State) : Nat := 8 * (2 + s.dx.sw)

/-- The sample that an input source presents now; a stopped port or an unbound number carries ABSENT (R344). -/
def inputNow (s : State) (n : Nat) : Sample :=
  if n < 512 then (if (serPort s (n / 32)).state = 2 then serSource s n else {})
  else if isInput s n then quillSource s n
  else {}

/-- The input sources that may present a sample. -/
def inputSources (s : State) : List Nat :=
  (s.serif.ports.filter (fun e => e.2.state = 2)).flatMap (fun e => (List.range 32).map (· + 32 * e.1)) ++
    (s.lig.srcOwner.filter (fun e => 0x1000000 ≤ e.2)).map (·.1)

/-- The samples of a source that a route may still take, newest first; a source that was ABSENT throughout keeps none. -/
def keepHist (l : List Sample) : List Sample := if l.all (fun x => decide (x = {})) then [] else l.take 33

/-- The input sources present their samples. -/
def takeInputs (s : State) : State :=
  let keys := (s.lig.hist.map (·.1) ++ inputSources s).dedup
  { s with lig := { s.lig with hist := keys.foldl (fun t n => tabPut [] t n (keepHist (inputNow s n :: tabGet [] t n))) s.lig.hist } }

/-- A source repeats its last sample while its period is missed, tagged REPEATED (R261). -/
def repeatSample (x : Sample) : Sample := { x with tag := 1 }

/-- The program sources release their samples; those of a missed period are discarded (R261, R348). -/
def releaseSources (s : State) : State :=
  let miss : Bool := s.stem.ssi < s.dx.repeatTo
  let now := s.lig.fifo.foldl (fun t e =>
    tabPut {} t e.1 (if miss then repeatSample (tabGet {} s.lig.now e.1) else if latency s ≤ e.2.length then e.2.headD {} else {})) []
  let fifo := s.lig.fifo.foldl (fun t e => tabPut [] t e.1 (e.2.drop (e.2.length + 1 - latency s))) []
  { s with lig := { s.lig with now := now, fifo := fifo } }

/-- Input source `n` as it was `d` samples ago. -/
def sourceBack (s : State) (n d : Nat) : Sample := (tabGet [] s.lig.hist n).getD d {}

/-- A Serif transmit slot or a Quill transmit channel, where an input source is taken P or 3 samples late (R348). -/
def lineSink (s : State) (n : Nat) : Bool :=
  n < 512 || (0x1000000 ≤ tabGet 0 s.lig.snkOwner n && tabGet 0 s.lig.snkOwner n < 0x2000000)

/-- The sample of source `src` that sink `n` takes (R348, R349). -/
def fetch (s : State) (n src : Nat) (hair : Bool) : Sample :=
  if ¬ isInput s src then tabGet {} s.lig.now src
  else if ¬ lineSink s n then sourceBack s src 0
  else if hair then sourceBack s src 3
  else if s.stem.ssi < s.lig.patchHole then {}
  else sourceBack s src (patchSamples s.lig.patch)

/-! ### Hush and the modes (R136, R139, R376 to R379) -/

/-- The announcement entry of a sink. -/
def annEntry (s : State) (n : Nat) : Option HushEntry := s.hush.cfg.entries.find? (fun e => e.sink = n)

/-- A source is the direct output of a GEN. -/
def genSource (s : State) (n : Nat) : Bool := 512 ≤ n && n < ligInsert s.variant && progAt s 0 (n - 512) = some progGen

/-- A source under the mode fade; announcement sinks are no program sinks (R136, R139, R376, log 79). -/
def modeGate (s : State) (n src : Nat) (x : Sample) : Sample :=
  if (annEntry s n).isSome then x
  else
    let w := if genSource s src then genWeight s else modeWeight s
    if w = 0 then {} else if w = f32One then x else { x with v := f32Mul x.v w }

/-- The Hush override of a sink's output, while `on` (R376 to R378). -/
def hushOver (s : State) (on : Bool) (n : Nat) (x : Sample) : Sample :=
  if ¬ on then x
  else
    let w := hushWeight s
    match annEntry s n with
    | some e => { v := f32Mix w x.v (f32Mul (sourceBack s e.src 3).v (gainF32 e.gain)), tag := 3 }
    | none => { v := f32Mul x.v (f32Sub f32One w), tag := 3 }

/-- The sample that a sink delivers: a sink that holds nothing carries zeros (R346). -/
def outAt (s : State) (on : Bool) (n : Nat) : Sample :=
  match mapGet s.lig.sinks n with
  | some k => k.out
  | none => hushOver s on n {}

/-- The mode fades and the override advance to this sample. -/
def advanceFades (s : State) : State :=
  let p := s.power
  let h := s.hush
  let g := p.gen
  modHush (fun q => { q with ovDone := min h.ovLen (h.ovDone + 1) })
    (modPower (fun q => { q with fadeDone := min p.fadeLen (p.fadeDone + 1), gen := { g with done := min g.len (g.done + 1) } }) s)

/-! ### The backup (R357, R358) -/

/-- The tags that a sink sees now: its primary's and its backup's. -/
def sinkTags (s : State) (n : Nat) : Nat × Nat :=
  let w := (sinkOf s n).live
  ((fetch s n (wSrc w) (wHair w)).tag, (fetch s n (wBackup w) (wHair w)).tag)

/-- The counts of a sink with a backup, at this sample. -/
def countSink (n : Nat) (s : State) : State :=
  let k := sinkOf s n
  let t := sinkTags s n
  if ¬ hasBackup k.live then s
  else
    let cnt := if t.1 = 2 then k.absCount + 1 else 0
    modSink n (fun q => { q with absCount := cnt, want := decide (t.1 = 2) && k.sel = 0 && (k.want || k.cfg.thresh ≤ cnt),
                                 bakCount := (if k.sel = 1 ∧ t.2 = 2 then k.bakCount + 1 else 0), good := (if t.1 = 2 then 0 else k.good + 1) }) s

/-- RETURN_HOLD in samples (R358). -/
def holdSamples (s : State) (k : Sink) : Nat := roundDivN (k.cfg.hold * fsOp s) 10

/-- No crossfade of the sink runs: a move that falls in one waits for its end (log 76). -/
def sinkCalm (k : Sink) : Bool := hasBackup k.live && k.fadeLen ≤ k.fadePos

/-- The sink takes its backup now (R357). -/
def fallbackDue (s : State) (n : Nat) : Bool :=
  let k := sinkOf s n
  let t := sinkTags s n
  sinkCalm k && k.sel = 0 && (k.want || k.cfg.thresh ≤ k.absCount) && t.1 = 2 && t.2 ≠ 2

/-- The cause for which the sink returns to its primary now (R358). -/
def returnCause (s : State) (n : Nat) : Option Nat :=
  let k := sinkOf s n
  let t := sinkTags s n
  if ¬ sinkCalm k ∨ k.sel = 0 ∨ t.1 = 2 then none
  else if k.cfg.thresh ≤ k.bakCount then some 2
  else if k.cfg.ret = 1 ∧ ¬ k.cmdHold ∧ holdSamples s k < k.good then some 1
  else none

/-- The sink moves to its backup where that is due. -/
def backupFallback (n : Nat) (s : State) : State := if fallbackDue s n then toBackup n 0 s else s

/-- The sink returns to its primary where that is due. -/
def backupReturn (n : Nat) (s : State) : State := match returnCause s n with | some c => toPrimary n c s | none => s

/-! ### The sink stage (R355, R356, R359, R360) -/

/-- What a word and a selection give sink `n`. -/
def wordSample (s : State) (n w sel : Nat) : Sample :=
  if ¬ wEn w then {}
  else
    let src := if sel = 1 then wBackup w else wSrc w
    modeGate s n src (fetch s n src (wHair w))

/-- Selection and crossfade: the tag is the first of VALID, REPEATED and ABSENT (R355, R356). -/
def selectSample (s : State) (n : Nat) (k : Sink) : Sample :=
  let new := wordSample s n k.live k.sel
  if k.fadePos < k.fadeLen then
    let old := wordSample s n k.oldWord k.oldSel
    { v := f32Mix (rcos (k.fadePos + 1) k.fadeLen) old.v new.v, tag := min old.tag new.tag }
  else new

/-- The sink's gain at this sample (R359). -/
def sinkGain (s : State) (k : Sink) : F32 := match k.ramp with | some r => rampAt r s.stem.ssi | none => gainF32 k.cfg.gain

/-- A ramp is over after its last sample. -/
def rampOver (u : Nat) (r : Ramp) : Bool := r.start + r.len ≤ u + 1

/-- The sink's stages in order: selection and crossfade, gain, then the Hush override (R360). -/
def runSink (on : Bool) (n : Nat) (s : State) : State :=
  let k := sinkOf s n
  let x := selectSample s n k
  let y : Sample := { x with v := f32Mul x.v (sinkGain s k) }
  let ramp := match k.ramp with | some r => if rampOver s.stem.ssi r then none else some r | none => none
  let s1 := modSink n (fun q => { q with pre := y, out := hushOver s on n y, ramp := ramp, fadePos := min k.fadeLen (k.fadePos + 1) }) s
  if k.fadeLen ≤ k.fadePos + 1 then moveDone n s1 else s1

/-- Every sink at this sample. -/
def runSinks (on : Bool) (s : State) : State :=
  (s.lig.sinks.map (·.1)).foldl (fun t n => runSink on n (backupReturn n (backupFallback n (countSink n t)))) s

/-! ### The meanings -/

/-- BACKUP_FALLBACK (R357). -/
def execBackupFallback (n : Nat) (s : State) : Host.Outcome State Fault Refusal := .next (backupFallback n s)
/-- BACKUP_RETURN (R358). -/
def execBackupReturn (n : Nat) (s : State) : Host.Outcome State Fault Refusal := .next (backupReturn n s)

end Sys2Proof.Machine
end

