-- ==== Sys2Proof/Machine/Chain.lean ====
section
/-! DEFINITION. The stages of a strip, bus or matrix at one sample: filters, dynamics, insert, delay and their crossfades (R274 to R276,
R280, R282 to R286, R315). Log 98 says what the manual leaves open in them. -/

namespace Sys2Proof.Machine

/-- The signal in one processing chain: the instance whose state the stages use, the samples of its channels (a strip's one or two, or the
members of a group of buses), what their insert sends carry, and whether a value was not finite. -/
structure Chain where
  i     : Inst
  vs    : List (Nat × F32) := []
  sends : List (Nat × F32) := []
  bad   : Bool := false
  deriving DecidableEq, Repr

/-- A value as the engine writes it: 0.0 in place of one that is not finite (R292). -/
def finite (v : F32) : F32 := if f32Finite v then v else 0

/-- Values that are not finite become 0.0, and the chain remembers them (R292). -/
def settleChain (c : Chain) : Chain :=
  { c with vs := c.vs.map (fun e => (e.1, finite e.2)), bad := c.bad || !c.vs.all (fun e => f32Finite e.2) }

/-- The crossfade of a stage that runs at sample `u`, with the old form that it leaves (R315). -/
def crossfade (i : Inst) (st u : Nat) : Option (Fade × OldForm) :=
  match i.fades.find? (fun f => f.stage = st && decide (f.start ≤ u) && decide (u < f.stop)), mapGet i.olds st with
  | some f, some o => some (f, o)
  | _, _ => none

/-- The weight of the new form at sample `u`: the raised cosine at (i + 1) ÷ M (R315). -/
def fadeWeightAt (f : Fade) (u : Nat) : F32 := rcos (u - f.start + 1) (f.stop - f.start)

/-- The parameters of an old form. -/
def oldParam (s : State) (prog : Nat) (o : OldForm) (id : Nat) : Int :=
  tabGet (((specOf s prog id).map (·.dflt)).getD 0) o.params id

/-! ### Filters (R275, INST.COEF_SET) -/

/-- One sample of a section: y = b0 x + b1 x1 + b2 x2 − a1 y1 − a2 y2, in that order of fused multiply-adds (R244; log 98). -/
def runSect (w : List F32) (m : Sect) (x : F32) : F32 × Sect :=
  let c := fun j => w.getD j 0
  let y := f32Fma (f32Neg (c 4)) m.y2 (f32Fma (f32Neg (c 3)) m.y1 (f32Fma (c 2) m.x2 (f32Fma (c 1) m.x1 (f32Mul (c 0) x))))
  (y, { x1 := finite x, x2 := m.x1, y1 := finite y, y2 := m.y1 })

/-- The sections that run in crossfade stage `fs` for the parameters `g`: 0 HPF, 1 LPF, 2 to 9 the EQ bands (R275). -/
def sectsOn (g : Nat → Int) (fs : Nat) : List Nat :=
  if fs = 0 then (if g 0x0100 ≠ 1 then [] else if g 0x0102 = 0 then [0] else [0, 1])
  else if fs = 1 then (if g 0x0103 ≠ 1 then [] else if g 0x0105 = 0 then [2] else [2, 3])
  else if g 0x0200 = 1 ∧ g (0x0210 + 16 * (fs - 2)) = 1 then [fs + 2] else []

/-- Sections in series on channel `ch`: the sample after them and their memories. -/
def runSects (s : State) (g : Nat → Int) (coefs : Tab (List F32)) (ch : Nat) (l : List Nat) (x : F32) (t : Tab Sect) : F32 × Tab Sect :=
  l.foldl (fun a st =>
    let r := runSect ((mapGet coefs st).getD (designWords s g st)) (tabGet {} a.2 (32 * ch + st)) a.1
    (r.1, tabPut {} a.2 (32 * ch + st) r.2)) (x, t)

/-- One filter of one channel, with its crossfade from the old form. -/
def filterChannel (s : State) (g : Nat → Int) (u fs : Nat) (c : Chain) (e : Nat × F32) : Chain :=
  let new := runSects s g c.i.coefs e.1 (sectsOn g fs) e.2 c.i.sects
  match crossfade c.i fs u with
  | none => { c with vs := c.vs ++ [(e.1, new.1)], i := { c.i with sects := new.2 } }
  | some (f, o) =>
    let go := oldParam s c.i.prog o
    let old := runSects s go o.coefs e.1 (sectsOn go fs) e.2 o.sects
    { c with vs := c.vs ++ [(e.1, f32Mix (fadeWeightAt f u) old.1 new.1)],
             i := { c.i with sects := new.2, olds := tabInsert fs { o with sects := old.2 } c.i.olds } }

/-- A filter over every channel. -/
def filterStage (s : State) (g : Nat → Int) (u : Nat) (c : Chain) (fs : Nat) : Chain :=
  if (sectsOn g fs).isEmpty ∧ (crossfade c.i fs u).isNone then c
  else settleChain (c.vs.foldl (filterChannel s g u fs) { c with vs := [] })

/-! ### Dynamics (R275, R276, R280) -/

/-- The larger of the channels' magnitudes. -/
def chainLevel (l : List (Nat × F32)) : F32 := l.foldl (fun m e => f32Max m (f32Abs e.2)) 0

/-- One gain on every channel. -/
def applyGain (gain : F32) (c : Chain) : Chain := settleChain { c with vs := c.vs.map (fun e => (e.1, f32Mul e.2 gain)) }

/-- 2^(a × (log2 x − log2 y)) in binary32: a level's distance from a threshold, scaled in dB (R244, R275; log 98). -/
def powerOf (a x y : F32) : F32 := f32Exp2 (f32Mul a (f32Sub (f32Log2 x) (f32Log2 y)))

/-- The gain of a closed expander: below the threshold the level falls GATE_RATIO dB for each dB (R275). -/
def expanderGain (thresh ratio : Int) (lev : F32) : F32 :=
  if lev = 0 then 0 else powerOf (f32Ratio (ratio - 100).toNat 100) lev (gainF32 thresh)

/-- The compressor's gain above the start of its knee: 1/COMP_RATIO of a dB per dB above the knee's end, and in the knee a curve that is
not stated (R275). -/
def compGain (thresh ratio knee : Int) (env : F32) : F32 :=
  if env.toNat < (gainF32 ((2 * thresh + knee) / 2)).toNat then Config.compGain [thresh, ratio, knee] env
  else
    let a := if ratio = 0 then f32One else f32Ratio (ratio - 100).toNat ratio.toNat
    powerOf a (gainF32 thresh) env

/-- The gate: it opens at GATE_THRESH, closes 3 dB below it after its hold, and moves between 1.0 and its closed gain; it is there when its
attack or release time is over. -/
def gateStage (s : State) (g : Nat → Int) (c : Chain) : Chain :=
  if g 0x0300 ≠ 1 then c
  else
    let d := c.i.dyn
    let lev := chainLevel c.vs
    let held : Bool := (gainF32 (g 0x0302 - 300)).toNat ≤ lev.toNat
    let opened : Bool := (gainF32 (g 0x0302)).toNat ≤ lev.toNat || (d.gateOpen && (held || decide (0 < d.gateHold)))
    let age := if opened = d.gateOpen then d.gateAge + 1 else 1
    let course := hundredths s (g (if opened then 0x0305 else 0x0307)).toNat
    let closed := gainF32 (-(g 0x0303))
    let target := if opened then f32One else if g 0x0301 = 0 then closed
      else f32Max closed (unitGain (expanderGain (g 0x0302) (g 0x0304) lev))
    let gain := if course ≤ age then target
      else unitGain (Config.gateStep [if opened then 1 else 0, (course : Nat), (age : Nat)] target d.gateGain)
    let hold := if ¬ opened then 0 else if held then hundredths s (g 0x0306).toNat else d.gateHold - 1
    applyGain gain { c with i := { c.i with dyn := { d with gateOpen := opened, gateAge := age, gateGain := gain, gateHold := hold } } }

/-- The compressor's key: each channel through COMP_KEY_HPF where that is on. -/
def keySamples (s : State) (g : Nat → Int) (c : Chain) : List (Nat × F32) × Tab Sect :=
  if g 0x0318 = 0 then (c.vs, c.i.sects)
  else
    let w := (List.range 5).map (Config.design [3, g 0x0318, (fsOp s : Nat)])
    c.vs.foldl (fun t e =>
      let r := runSect w (tabGet {} t.2 (32 * e.1 + 12)) e.2
      (t.1 ++ [(e.1, finite r.1)], tabPut {} t.2 (32 * e.1 + 12) r.2)) ([], c.i.sects)

/-- The compressor: the larger of the channels' peaks, or of their RMS levels over COMP_ATTACK, moves the envelope; below the knee its gain
is 1.0; then the make-up. -/
def compStage (s : State) (g : Nat → Int) (c : Chain) : Chain :=
  if g 0x0310 ≠ 1 then c
  else
    let d := c.i.dyn
    let attack := hundredths s (g 0x0314).toNat
    let key := keySamples s g c
    let rms : Bool := g 0x0317 = 1
    let wins := if rms then key.1.foldl (fun t e => tabInsert e.1 ((e.2 :: tabGet [] t e.1).take (max 1 attack)) t) d.windows else d.windows
    let lev := if rms then chainLevel (key.1.map (fun e => (e.1, finite (rmsOf (tabGet [] wins e.1))))) else chainLevel key.1
    let env := finite (f32Abs (Config.compStep [g 0x0317, (attack : Nat), (hundredths s (g 0x0315).toNat : Nat)] d.compEnv lev))
    let gain := if g 0x0312 = 100 ∨ env.toNat ≤ (gainF32 ((2 * g 0x0311 - g 0x0313) / 2)).toNat then f32One
      else unitGain (compGain (g 0x0311) (g 0x0312) (g 0x0313) env)
    applyGain (f32Mul gain (gainF32 (g 0x0316)))
      { c with i := { c.i with sects := key.2, dyn := { d with compEnv := env, windows := wins, compGain := gain } } }

/-- The limiter: it acts instantly on the sample peak, without lookahead, and releases by LIM_RELEASE. -/
def limStage (s : State) (g : Nat → Int) (c : Chain) : Chain :=
  if g 0x0320 ≠ 1 then c
  else
    let d := c.i.dyn
    let lev := chainLevel c.vs
    let top := gainF32 (g 0x0321)
    let need := if lev.toNat ≤ top.toNat then f32One else f32Div top lev
    let back := unitGain (Config.limRelease [(hundredths s (g 0x0322).toNat : Nat)] d.limGain)
    let gain := if need.toNat < back.toNat then need else back
    applyGain gain { c with i := { c.i with dyn := { d with limGain := gain } } }

/-! ### Delay and insert (R282 to R286) -/

/-- A tap of a line; the crossfade from the old tap of stage `st` while one runs (R284, R285, R315). -/
def tapLine (s : State) (i : Inst) (st u base id : Nat) (l : List F32) (now : Int) : F32 :=
  let at_ := fun (v : Int) => l.getD (base + v.toNat) 0
  match crossfade i st u with
  | none => at_ now
  | some (f, o) => f32Mix (fadeWeightAt f u) (at_ (oldParam s i.prog o id)) (at_ now)

/-- The delay stage of every channel: a line that begins with zeros (R282, R284). -/
def delayStage (s : State) (g : Nat → Int) (u : Nat) (c : Chain) : Chain :=
  if g 0x0400 ≠ 1 then c
  else settleChain (c.vs.foldl (fun t e =>
    let l := (e.2 :: tabGet [] t.i.lines e.1).take (delayMax s + 1)
    { t with vs := t.vs ++ [(e.1, tapLine s t.i 10 u 0 0x0401 l (g 0x0401))], i := { t.i with lines := tabInsert e.1 l t.i.lines } })
    { c with vs := [] })

/-- The insert stage: the return, the signal delayed within by 8 × (2 + SW) + INS_COMP, or the Shading between them (R285, R286). -/
def insertStage (s : State) (g : Nat → Int) (gain : Nat → F32) (u : Nat) (ret : Nat → F32) (c : Chain) : Chain :=
  if g 0x0500 = 0 then { c with i := { c.i with insert := [] } }
  else settleChain (c.vs.foldl (fun t e =>
    let l := (e.2 :: tabGet [] t.i.insert e.1).take (latency s + 257)
    let inner := tapLine s t.i 11 u (latency s) 0x0501 l (g 0x0501)
    { t with vs := t.vs ++ [(e.1, f32Add (f32Mul (ret e.1) (gain 0x50000)) (f32Mul inner (gain 0x50001)))], sends := t.sends ++ [(e.1, e.2)],
             i := { t.i with insert := tabInsert e.1 l t.i.insert } })
    { c with vs := [], sends := [] })

/-! ### The order of the stages (R274, R315) -/

/-- One stage: 0 HPF and LPF, 1 EQ, 2 gate, 3 compressor, 4 insert, 5 limiter, 6 delay. -/
def chainStage (s : State) (g : Nat → Int) (gain : Nat → F32) (u : Nat) (ret : Nat → F32) (c : Chain) (st : Nat) : Chain :=
  match st with
  | 0 => [0, 1].foldl (filterStage s g u) c
  | 1 => [2, 3, 4, 5, 6, 7, 8, 9].foldl (filterStage s g u) c
  | 2 => gateStage s g c
  | 3 => compStage s g c
  | 4 => insertStage s g gain u ret c
  | 5 => limStage s g c
  | 6 => delayStage s g u c
  | _ => c

/-- The stages of an ORDER (R274). -/
def stageOrder (o : Int) : List Nat :=
  if o = 1 then [0, 2, 3, 1, 4, 5, 6] else if o = 2 then [4, 0, 1, 2, 3, 5, 6] else if o = 3 then [6, 0, 2, 1, 3, 4, 5]
  else [0, 1, 2, 3, 4, 5, 6]

/-- The instance as the old chain of an ORDER crossfade goes on with it. -/
def oldInst (i : Inst) (o : OldForm) : Inst :=
  { i with params := o.params, coefs := o.coefs, sects := o.sects, dyn := o.dyn, lines := o.lines, insert := o.insert, fades := [], olds := [] }

/-- The samples of the old and new chains, mixed channel by channel. -/
def mixChannels (w : F32) (old new : List (Nat × F32)) : List (Nat × F32) :=
  new.map (fun e => (e.1, f32Mix w (((old.find? (fun q => q.1 = e.1)).map (·.2)).getD 0) e.2))

/-- The whole chain of the instance of key `k`: `order` gives the stages for the parameters. While ORDER crossfades, the old and the new
chain run together (R315). -/
def runChain (s : State) (k : Nat) (order : (Nat → Int) → List Nat) (gain : Nat → F32) (u : Nat) (ret : Nat → F32) (c : Chain) : Chain :=
  let c0 := settleChain c
  let g := paramAt s k
  let new := (order g).foldl (chainStage s g gain u ret) c0
  match crossfade c0.i 12 u with
  | none => new
  | some (f, o) =>
    let go := oldParam s c0.i.prog o
    let old := (order go).foldl (chainStage s go gain u ret) { c0 with i := oldInst c0.i o }
    let w := fadeWeightAt f u
    settleChain { i := { new.i with olds := tabInsert 12 (oldForm 12 old.i) new.i.olds }, vs := mixChannels w old.vs new.vs,
                  sends := mixChannels w old.sends new.sends, bad := new.bad || old.bad }

end Sys2Proof.Machine
end

