-- ==== Sys2Proof/Machine/Render.lean ====
section
/-! DEFINITION. One sample of every instance: strips, buses, matrices, alignment delays and generators (chapter 09). The chains of stages
are in Machine/Chain.lean; trims, faders, pans, sends, taps, delays and sums are exact. -/

namespace Sys2Proof.Machine

/-- A running gain of a key at sample `u`, from the instance that holds it (R280). -/
def gainKey (s : State) (k v u : Nat) : F32 :=
  let id := if 0x30000 ≤ v ∧ v < 0x50000 then 0x2100 else v
  match mapGet s.prog.insts (paramKey s k id) with
  | some i => gainAt s (paramKey s k id) i v u
  | none => 0

/-- What a sample of the instances gives: the program sources' samples, the accumulator files, the matrix sends (matrix, product) in
ascending bus, the instances with their state, the keys that computed a value that is not finite, the owner buses' sums, and the remote
inputs counted ABSENT and of another offset. -/
structure Rendered where
  srcs   : List (Nat × F32) := []
  acc    : Tab Nat := []
  msends : List (Nat × Dy) := []
  insts  : List (Nat × Inst) := []
  bad    : List Nat := []
  delays : Tab (List Nat) := []
  absent : Nat := 0
  offset : Nat := 0

/-- Put a source's sample: 0.0 in place of a value that is not finite (R292). -/
def putSource (k n : Nat) (v : F32) (r : Rendered) : Rendered :=
  if f32Finite v then { r with srcs := r.srcs ++ [(n, v)] } else { r with srcs := r.srcs ++ [(n, 0)], bad := k :: r.bad }

/-- Put back an instance after its chain. -/
def putChain (k : Nat) (c : Chain) (r : Rendered) : Rendered :=
  { r with insts := r.insts ++ [(k, c.i)], bad := if c.bad then k :: r.bad else r.bad }

/-- The exact product that a send accumulates (R278). -/
def sendProduct (v g : F32) : Option Dy := match f32Dy v, f32Dy g with | some x, some y => some (x.mul y) | _, _ => none

/-- The word of a lane's accumulator file for bus `b` at sample `u` (R244). -/
def accWord (lane b u : Nat) : Nat := 2048 * lane + 8 * b + u % 8

/-- The exact value of an accumulator word. -/
def accValue (t : Tab Nat) (n : Nat) : Dy := (unpackFmt 53 11 false (tabGet 0 t n)).getD { m := 0, e := 0 }

/-- Add a send to bus `b` in the lane's accumulator file, in binary64 (R273); nothing in place of a value that is not finite (R292). -/
def putSend (k b lane u : Nat) (v g : F32) (r : Rendered) : Rendered :=
  match sendProduct v g with
  | some p =>
    let n := accWord lane b u
    { r with acc := tabPut 0 r.acc n (packFmt 53 11 false ((accValue r.acc n).add p)) }
  | none => { r with bad := k :: r.bad }

/-- The fade of an instance that is being deleted (R298). -/
def removalGain (i : Inst) (u : Nat) : F32 := match tabGet none i.ramps 0x60000 with | some r => rampAt r u | none => f32One

/-- The gain of a tap: 1 before the fader, fader and mute after it, or the Shading between them (R274, R278). -/
def tapGain (s : State) (k n u : Nat) : F32 :=
  f32Add (gainKey s k (0x30000 + n) u) (f32Mul (gainKey s k (0x40000 + n) u) (f32Mul (gainKey s k 0x0600 u) (gainKey s k 0x0601 u)))

/-- A strip's pre-fader sample on a channel. -/
def chainAt (l : List (Nat × F32)) (ch : Nat) : F32 := ((l.find? (fun e => e.1 = ch)).map (·.2)).getD 0

/-- The sends of a strip to bus `n`, mono or first of a group (R277, R278); `c` is the strip after its last stage. -/
def stripSend (s : State) (k u : Nat) (c : Chain) (r : Rendered) (n : Nat) : Rendered :=
  let i := c.i
  let a := chainAt c.vs 0
  let b := chainAt c.vs 1
  let on : Bool := paramAt s k (0x1000 + n) ≠ gainOff || (tabGet none i.ramps (0x1000 + n)).isSome
  if ¬ on ∨ (mapGet s.prog.insts (instKey 1 n)).isNone ∨ groupMember s n then r
  else
    let base := f32Mul (f32Mul (gainKey s k (0x1000 + n) u) (tapGain s k n u)) (removalGain i u)
    let pan := fun j => f32Mul base (gainKey s k (0x20000 + j) u)
    let put := fun (b : Nat) (v g : F32) (r : Rendered) => putSend k b i.lane u v g r
    match linkOf s n, i.prog with
    | 0, 1 => put n a base r
    | 0, _ => put n (f32Mul (f32Add a b) 0x3F000000) base r
    | 1, 1 => put (n + 1) a (pan 1) (put n a (pan 0) r)
    | 1, _ => put (n + 1) b (pan 1) (put n a (pan 0) r)
    | _, 1 => put (n + 2) a (pan 4) (put (n + 1) a (pan 3) (put n a (pan 2) r))
    | _, _ => put (n + 2) b (pan 4) (put n a (pan 2) r)

/-- The channels of a strip with the running gains of their trims. -/
def stripChannels (i : Inst) : List (Nat × Nat) := if i.prog = progLink2 then [(0, 1), (1, 3)] else [(0, 1)]

/-- The sources of channel `ch` of a strip: the direct output from its tap, and the insert send (R274, R342). -/
def stripSources (s : State) (k u : Nat) (trim : List (Nat × F32)) (c : Chain) (r : Rendered) (ch : Nat) : Rendered :=
  let n := keyIndex k + ch
  let pre := chainAt c.vs ch
  let tap := paramAt s k 0x0607
  let x := if tap = 0 then chainAt trim ch else if tap = 1 then pre else f32Mul pre (f32Mul (gainKey s k 0x0600 u) (gainKey s k 0x0601 u))
  let r1 := putSource k (512 + n) (f32Mul (f32Mul x (gainKey s k 0x0608 u)) (removalGain c.i u)) r
  match c.sends.find? (fun e => e.1 = ch) with
  | some w => putSource k (ligInsert s.variant + n) (f32Mul w.2 (removalGain c.i u)) r1
  | none => r1

/-- A strip at one sample (R274 to R278, R285). -/
def renderStrip (s : State) (on : Bool) (u : Nat) (r : Rendered) (e : Nat × Inst) : Rendered :=
  let k := e.1
  let m := keyIndex k
  let trim := (stripChannels e.2).map (fun q => (q.1, f32Mul (outAt s on (512 + m + q.1)).v (gainKey s k q.2 u)))
  let ret := fun ch => (outAt s on (ligInsert s.variant + m + ch)).v
  let c := runChain s k (fun g => stageOrder (g 0)) (fun v => gainKey s k v u) u ret { i := e.2, vs := trim }
  let r1 := ((stripChannels e.2).map (·.1)).foldl (stripSources s k u trim c) (putChain k c r)
  (List.range (busesOf s.variant)).foldl (stripSend s k u c) r1

/-- The phase of a sine as a fraction of a turn: FREQ in 0.1 Hz, or the Hz that a raw word holds, times n over Fs_op (R288). -/
def sinePhase (s : State) (f : Int) (n : Nat) : Nat × Nat :=
  if ¬ isRaw f then (f.toNat * n, 10 * fsOp s)
  else match f32Dy (rawWord f) with
    | some x => (x.m.natAbs * n * 2 ^ x.e.toNat, fsOp s * 2 ^ (-x.e).toNat)
    | none => (0, 1)

/-- The unit sample of a generator: a pulse is one sample at every multiple of Q, a sweep runs over Q samples from each (R288). -/
def genUnit (s : State) (g : Nat → Int) (u : Nat) : F32 :=
  let q := roundDivN ((g 0x7004).toNat * fsOp s) 1000
  match (g 0x7000).toNat with
  | 0 => 0
  | 1 => let p := sinePhase s (g 0x7001) u; sineAt p.1 p.2
  | 2 => Config.whiteNoise (g 0x7005).toNat u
  | 3 => Config.pinkNoise (g 0x7005).toNat (fsOp s) u
  | 4 => Config.sweep [(g 0x7001).toNat, (g 0x7003).toNat, q, fsOp s] (u % q)
  | _ => if u % q = 0 then f32One else 0

/-- A generator at one sample: its unit sample times LEVEL (R288). -/
def renderGen (s : State) (u : Nat) (r : Rendered) (e : Nat × Inst) : Rendered :=
  putSource e.1 (512 + keyIndex e.1)
    (f32Mul (f32Mul (genUnit s (paramAt s e.1) u) (gainKey s e.1 0x7002 u)) (removalGain e.2 u)) r

/-- A binary64 sum of exact values in order (R273). -/
def sum64 (l : List Dy) : Dy := l.foldl (fun t x => dyF64 (t.add x)) { m := 0, e := 0 }

/-- The sum of a bus over its lanes in ascending number (R273). -/
def busSum (r : Rendered) (b u : Nat) : Dy := sum64 ((List.range 144).map (fun l => accValue r.acc (accWord l b u)))

/-- Exact powers of two as binary32. -/
def pow2F32 (n : Int) : F32 := dyF32 { m := 1, e := n }

/-- The remote inputs of an owner bus: the values, those tagged ABSENT and those of another link offset (R458, R459). -/
def remoteInputs (s : State) (on : Bool) (x : Xbus) : List (Dy × Bool × Bool) :=
  (List.range x.remotes).map (fun j =>
    let n := x.sink + j
    let w := (sinkOf s n).live
    let own := tabGet 0 s.lig.srcOwner (wSrc w)
    let other : Bool := wEn w && 0x1000000 ≤ own && linkOfs (rxStream s (own - 0x1000000)).entry ≠ msLink s
    let y := outAt s on n
    let v := ((f32Dy y.v).getD { m := 0, e := 0 }).mul { m := 1, e := x.headroom }
    if other ∨ y.tag = 2 then ({ m := 0, e := 0 }, decide (y.tag = 2) && !other, other) else (v, false, false))

/-- The part of a bus in a manuscript. -/
def xbusOf (s : State) (b : Nat) : Option Xbus := (s.ms.xbus.find? (fun q => q.1 = b)).map (·.2)

/-- A contributor bus: its sum alone, scaled by its headroom, is its output (R457). -/
def renderContributor (s : State) (u b : Nat) (x : Xbus) (r : Rendered) : Rendered :=
  let k := instKey 1 b
  let v := f32Mul (dyF32 (busSum r b u)) (pow2F32 (-(x.headroom : Int)))
  let m := (List.range (matricesOf s.variant)).filterMap (fun j => (sendProduct v (gainKey s k (0x2000 + j) u)).map (fun p => (j, p)))
  let r1 := putSource k (ligBus s.variant + b) v r
  { r1 with msends := r1.msends ++ m }

/-- What enters the stages of bus `b`: its sum, an owner's with its remotes; the owner's own line is kept, and its remotes counted (R273,
R458, R459). -/
def busInput (s : State) (on : Bool) (u b : Nat) (r : Rendered) : F32 × Rendered :=
  let own := busSum r b u
  match xbusOf s b with
  | none => (dyF32 own, r)
  | some x =>
    let ext := remoteInputs s on x
    let line := packFmt 53 11 false own :: tabGet [] r.delays b
    let base := (unpackFmt 53 11 false (line.getD (msDelay s) 0)).getD { m := 0, e := 0 }
    (dyF32 (sum64 (base :: ext.map (·.1))),
      { r with delays := tabPut [] r.delays b (line.take (msDelay s + 1)), absent := r.absent + (ext.filter (fun q => q.2.1)).length,
               offset := r.offset + (ext.filter (fun q => q.2.2)).length })

/-- What leaves bus `b` with pre-fader sample `v`: its source after fader and mute, and its matrix sends (R279, R280). -/
def busOutput (s : State) (u b : Nat) (v : F32) (r : Rendered) : Rendered :=
  let k := instKey 1 b
  let gone := match mapGet s.prog.insts k with | some i => removalGain i u | none => f32One
  let post := f32Mul (f32Mul v (f32Mul (gainKey s k 0x0600 u) (gainKey s k 0x0601 u))) gone
  let tap := fun j => f32Mul (f32Mul (gainKey s k (0x2000 + j) u) (tapGain s k j u)) gone
  let sends := (List.range (matricesOf s.variant)).filter (fun j => tap j ≠ 0)
  let m := sends.filterMap (fun j => (sendProduct v (tap j)).map (fun p => (j, p)))
  let r1 := putSource k (ligBus s.variant + b) post r
  { r1 with msends := r1.msends ++ m, bad := if m.length = sends.length then r1.bad else k :: r1.bad }

/-- The buses of a group, or one mono bus, at one sample: sum, EQ, compressor, limiter, delay, fader and mute, with the state of the group at
its first bus (R279, R280); `live` are the buses that run. -/
def renderGroup (s : State) (on : Bool) (u : Nat) (live : List Nat) (r : Rendered) (f : Nat) : Rendered :=
  let k := instKey 1 f
  let members := (groupOf s f).filter live.contains
  let sole := fun b => match xbusOf s b with | some x => decide (x.role = 1) | none => false
  match mapGet s.prog.insts k with
  | none => r
  | some i =>
    let ins := (members.filter (fun b => !sole b)).foldl (fun (t : List (Nat × F32) × Rendered) b =>
      let q := busInput s on u b t.2
      (t.1 ++ [(b - f, q.1)], q.2)) ([], r)
    let c := runChain s k (fun _ => [1, 3, 5, 6]) (fun _ => 0) u (fun _ => 0) { i := i, vs := ins.1 }
    members.foldl (fun r b => match xbusOf s b with
      | some x => if x.role = 1 then renderContributor s u b x r else busOutput s u b (chainAt c.vs (b - f)) r
      | none => busOutput s u b (chainAt c.vs (b - f)) r) (putChain k c ins.2)

/-- A matrix at one sample: the sends of the buses in ascending number, EQ, limiter, delay, fader and mute (R281). -/
def renderMatrix (s : State) (u : Nat) (r : Rendered) (e : Nat × Inst) : Rendered :=
  let k := e.1
  let sum := sum64 ((r.msends.filter (fun q => q.1 = keyIndex k)).map (·.2))
  let c := runChain s k (fun _ => [1, 5, 6]) (fun _ => 0) u (fun _ => 0) { i := e.2, vs := [(0, dyF32 sum)] }
  let post := f32Mul (f32Mul (chainAt c.vs 0) (f32Mul (gainKey s k 0x0600 u) (gainKey s k 0x0601 u))) (removalGain e.2 u)
  putSource k (ligMatrix s.variant + keyIndex k) post (putChain k c r)

/-- An ALIGN.DELAY at one sample: each output delays its own sink or a bus's output (R287). -/
def renderAlign (s : State) (on : Bool) (u : Nat) (r : Rendered) (e : Nat × Inst) : Rendered :=
  let k := e.1
  match e.2.pool with
  | none => r
  | some (a, b) =>
    let out := (List.range 8).foldl (fun (t : Rendered × Inst) o =>
      let g := fun id => paramAt s k (0x8000 + 16 * o + id)
      let x : F32 := if g 3 < 0 then (outAt s on (b + o)).v else chainAt r.srcs (ligBus s.variant + (g 3).toNat)
      let l := (x :: tabGet [] t.2.lines o).take (delayMax s + 1)
      let y := f32Mul (f32Mul (l.getD (min (g 0).toNat (delayMax s)) 0) (gainKey s k (0x8001 + 16 * o) u)) (removalGain e.2 u)
      (putSource k (a + o) y t.1, { t.2 with lines := tabPut [] t.2.lines o l })) (r, e.2)
    { out.1 with insts := out.1.insts ++ [(k, out.2)] }

/-- One sample of every instance, strips and generators first, then buses, then matrices and alignment delays (R23). The words of the
accumulator files for this place in the period begin at zero. -/
def renderAll (s : State) (on : Bool) (u : Nat) : Rendered :=
  let l := liveInsts s
  let of := fun (p : Nat → Bool) => l.filter (fun e => p e.2.prog)
  let buses := (of (· = progBus)).map (fun e => keyIndex e.1)
  let r0 : Rendered := { delays := s.ms.delays, acc := s.dx.acc.filter (fun e => e.1 % 8 ≠ u % 8) }
  let r1 := (of (· ≤ 2)).foldl (renderStrip s on u) r0
  let r2 := (of (· = progGen)).foldl (renderGen s u) r1
  let r3 := ((buses.map (groupFirst s)).dedup).foldl (renderGroup s on u buses) r2
  let r4 := (of (· = progMatrix)).foldl (renderMatrix s u) r3
  (of (· = progAlign)).foldl (renderAlign s on u) r4

/-- The samples computed now wait for their release (R21, R261); what nothing computes is ABSENT (R291, R344). -/
def pushSources (srcs : List (Nat × F32)) (s : State) : State :=
  let keys := (s.lig.fifo.map (·.1) ++ srcs.map (·.1)).dedup
  let add := fun (t : Tab (List Sample)) n =>
    let old := tabGet [] t n
    let x : Sample := match srcs.find? (fun e => e.1 = n) with | some e => { v := e.2, tag := 0 } | none => {}
    let l := (if old.isEmpty then List.replicate (latency s - 1) {} else old) ++ [x]
    tabPut [] t n (if l.all (fun y => decide (y = {})) then [] else l)
  { s with lig := { s.lig with fifo := keys.foldl add s.lig.fifo } }

/-- NONFINITE of an instance, once until its state is cleared at the boundary (R292, log 81). -/
def nonfinite (s : State) (k : Nat) : State :=
  match mapGet s.prog.insts k with
  | none => s
  | some i =>
    if i.unfinite then s
    else raise 0x0701 (le 1 (keyKind k) ++ zeros 1 ++ le 2 (keyIndex k) ++ le 4 (i.nonfinite + 1))
      (vellumCount 29 (modInst k (fun j => { j with unfinite := true, nonfinite := j.nonfinite + 1 }) s))

/-- Ramps that are over leave their gains at the targets. -/
def endRamps (u : Nat) (i : Inst) : Inst :=
  { i with ramps := i.ramps.filter (fun e => match e.2 with | some r => !rampOver u r || e.1 = 0x60000 | none => false) }

/-- The instances compute the present sample (R258, R272 to R292). -/
def computeSample (on : Bool) (s : State) : State :=
  if ¬ ductusRuns s then pushSources [] s
  else
    let u := s.stem.ssi
    let r := renderAll s on u
    let insts := r.insts.foldl (fun t e => tabInsert e.1 e.2 t) s.prog.insts
    let s1 := { s with dx := { s.dx with acc := r.acc }, prog := { s.prog with insts := insts.map (fun e => (e.1, endRamps u e.2)) },
                       ms := { s.ms with delays := r.delays, xbusAbsent := s.ms.xbusAbsent + r.absent, xbusOffset := s.ms.xbusOffset + r.offset } }
    r.bad.dedup.foldl nonfinite (pushSources r.srcs s1)

/-- An instance whose filter, dynamics and delay state is cleared (R292). -/
def clearedState (i : Inst) : Inst :=
  { i with lines := [], insert := [], sects := [], dyn := {},
           olds := i.olds.map (fun e => (e.1, { e.2 with sects := [], dyn := {}, lines := [], insert := [] })) }

/-- At a boundary the state of an instance that computed a value that is not finite is cleared, a group's at its first bus (R292). -/
def clearUnfinite (s : State) : State :=
  let keys := (s.prog.insts.filter (fun e => e.2.unfinite)).flatMap (fun e => [e.1, paramKey s e.1 0x0200])
  { s with prog := { s.prog with insts := s.prog.insts.map (fun e =>
      (e.1, if keys.contains e.1 then { clearedState e.2 with unfinite := false } else e.2)) } }

end Sys2Proof.Machine
end

