-- ==== Sys2Proof/Machine/Ticks.lean ====
section
/-! DEFINITION. What the engine does at an AON tick, at each sample and at each period boundary (R20, R40, R369). -/

namespace Sys2Proof.Machine

/-! ### AON_TICK (R116, R369, R631, R633, R674) -/

/-- The counters of seconds (R631; log 45). -/
def countSecond (s : State) : State :=
  let s1 := vellumCount 0 s
  let s2 := if fullMode s.power.mode then vellumCount 1 s1 else s1
  let s3 := if s.power.mode = .standby then vellumCount 2 s2 else s2
  let s4 := if s.hush.asserted then vellumCount 53 s3 else s3
  modHost (fun h => { h with uptime := h.uptime + 1 }) s4

/-- The modes in which the Nibs are powered (R136). -/
def nibsPowered : Mode → Bool
  | .commission | .showing | .shadow | .degraded | .maintenance => true
  | _ => false

/-- The histograms that take a sample every minute (R633). -/
def countMinute (s : State) : State :=
  let s1 := if fullMode s.power.mode then vellumBin 2 (min 15 (loadPct s (peakTime (steadyLoads s)) / 625)) s else s
  let s2 := vellumBin 3 (if s.host.temp < -160 then 0 else min 15 (((s.host.temp + 160) / 80).toNat + 1)) s1
  if nibsPowered s.power.mode then vellumBin 8 (min 15 ((s.host.avs.setMv - 700) / 10)) s2 else s2

/-- A millisecond of AON's time: it runs in every mode, and without XO_IN on AON's own oscillator (R39, R44, log 12). -/
def advanceMs (s : State) : State := { s with stem := { s.stem with ms := s.stem.ms + 1, aonMs := s.stem.aonMs + 1 } }

/-- The levels of the GPIO pins at this tick (R673). -/
def takePins (pins : Nat) (s : State) : State := (List.range 16).foldl (fun t n => gpioEdge n (bit pins n) t) s

/-- The parts of Scribe that a tick times: the heartbeat, held events, HELLO, and the periodic write of Vellum (R480, R525, R636, R667). -/
def tickTimers (s : State) : State :=
  let s1 := if s.stem.ms % 100 = 0 ∧ firmwareRuns s then modHost (fun h => { h with heartbeat := h.heartbeat + 1 }) s else s
  let s2 := flushQuill (announceSets (announceGpio s1))
  let s3 := if isPartner s ∧ s.twin.linkUp ∧ s.twin.helloMs + 1000 ≤ s.stem.ms then twinHello s2 else s2
  if periodicDue s3 then vellumWrite 0 [] s3 else s3

/-- What AON does at a tick once it is live: it samples PWR_FAIL_N and the Hush channels (R369, R674, R728). -/
def aonPart (hushA hushB : Bool) (s : State) : State :=
  if aonLive s then hushTick hushA hushB (filterFailPin (sampleFailPin s)) else s

/-- One AON tick. In HELD only the time runs (R100). -/
def aonTick (hushA hushB : Bool) (pins : Nat) (s : State) : State :=
  let s0 := advanceMs s
  if s.power.mode = .held then s0
  else
    let s1 := aonPart hushA hushB (takePins pins s0)
    let s2 := blTick s1
    let s3 := if s2.stem.ms % 1000 = 0 then countSecond s2 else s2
    let s4 := if s3.stem.ms % 60000 = 0 then countMinute s3 else s3
    let s5 := if s4.stem.xoIn ∧ s4.boot.bootMs + 20 ≤ s4.stem.ms then modHost (fun h => { h with hspiUp := true }) s4 else s4
    tickTimers s5

/-! ### SAMPLE_TICK (R20, R42, R45, R85) -/

/-- The sample grid runs: the Stem is locked and the crystal is there (R44); through a rate change it counts on (R45). -/
def gridRuns (s : State) : Bool := s.stem.stemLock && s.stem.xoIn && s.power.mode ≠ .held

/-- The mark of a pulse output at the grid instant of sample `u` (R85, log 82): `ps` is its OFFSET. Times are in 1 ÷ (10^12 × Fs_op) s:
WCLK_OUT is high for the first half of its cycle, PPS_OUT for 100 µs, FRAME_OUT for one sample at Fs_base; LTC_OUT carries its frames. -/
def pulseHigh (s : State) (m u : Nat) (ps : Int) (code frame : Nat) : Bool :=
  let fs : Int := (fsOp s : Nat)
  let base : Int := (fsBase s : Nat)
  let t : Int := (u : Int) * 1000000000000 - ps * fs
  let sec : Int := 1000000000000 * fs
  if m = 0 then
    let f : Int := base * (2 ^ code : Nat)
    decide (2 * (t * f).emod sec < sec)
  else if m = 1 then decide (t.emod sec < fs * 100000000)
  else if m = 2 then
    let num : Int := (frame % 2 ^ 24 : Nat)
    let den : Int := (frame / 2 ^ 24 : Nat)
    decide ((t * den * base).emod (num * sec) < den * sec)
  else ltcHigh s t

/-- The pulse outputs at this sample: PPS_OUT and FRAME_OUT rest low unless the SSI is aligned or ALWAYS is set (R85, R87). -/
def drivePulses (s : State) : State :=
  let go := fun (e : Nat × BlOut) =>
    let o := e.2
    let on : Bool := o.en && (e.1 = 0 || o.always || s.stem.aligned)
    (e.1, { o with level := on && (pulseHigh s e.1 s.stem.ssi o.now o.mult o.frame != o.pol) })
  { s with bl := { s.bl with outs := s.bl.outs.map go } }

/-- The sample that a source presents now. -/
def sourceNow (s : State) (n : Nat) : Sample := if isInput s n then sourceBack s n 0 else tabGet {} s.lig.now n

/-- What one sample brings to a report set's item: a sample meter's sample, or the gains of an instance's dynamics. -/
def itemTake (on : Bool) (s : State) (it : Nat × Nat) (a : Acc) : Acc :=
  match it.1 with
  | 0 => meterTake (sourceNow s it.2) a
  | 1 => meterTake (outAt s on it.2) a
  | 2 => reductionTake s it.2 a
  | _ => a

/-- The report sets' sample meters, the peak registers, and the logs and ballistic peaks of sources and sinks (R508, R509, R514, R527). -/
def takeMeters (on : Bool) (s : State) : State :=
  let u := s.stem.ssi
  let h := s.sheen
  let set_ := fun (r : ReportSet) =>
    if ¬ r.started then r else { r with accs := r.items.zipIdx.foldl (fun t e => tabMod {} t e.2 (itemTake on s e.1)) r.accs }
  let peak := fun (t : Tab F32) (n : Nat) (x : Sample) => tabMod 0 t n (fun p => maxAbs p x.v)
  let log := fun (t : Tab (List (Nat × F32))) (n : Nat) (x : Sample) => tabMod [] t n (logTake (fsOp s) u x.v)
  let ball := fun (t : Tab (F32 × Nat)) (n : Nat) (x : Sample) => tabMod (0, 0) t n (ballTake h.image (fsOp s) u x.v)
  let srcs := (s.lig.now.map (·.1) ++ s.lig.hist.map (·.1)).dedup
  let overSrcs := fun {α : Type} (f : Tab α → Nat → Sample → Tab α) (t : Tab α) => srcs.foldl (fun t n => f t n (sourceNow s n)) t
  let overSnks := fun {α : Type} (f : Tab α → Nat → Sample → Tab α) (t : Tab α) => s.lig.sinks.foldl (fun t e => f t e.1 e.2.out) t
  { s with sheen := { h with sets := h.sets.map (fun e => (e.1, set_ e.2)),
                             srcPeak := overSrcs peak h.srcPeak, snkPeak := overSnks peak h.snkPeak,
                             srcLog := overSrcs log h.srcLog, snkLog := overSnks log h.snkLog,
                             srcBall := overSrcs ball h.srcBall, snkBall := overSnks ball h.snkBall } }

/-- Seal captures the sinks before the Hush override; after a period's last sample channel 3 computes its digest (R484, R568). -/
def captureSinks (s : State) : State :=
  let u := s.stem.ssi
  let now := s.lig.sinks.foldl (fun t e => tabPut {} t e.1 e.2.pre) []
  let miss : Bool := u < s.dx.repeatTo
  let s1 := modSl (fun q =>
    if u % 8 = 0 then { q with capture := [now], capSsi := u, capMiss := miss }
    else { q with capture := q.capture ++ [now], capMiss := q.capMiss || miss }) s
  if u % 8 = 7 then
    modCh 3 (fun q => { q with busy := true, done := false })
      (modSl (fun q => { q with ready := some (q.capSsi, q.capMiss, q.capture), capture := [] }) s1)
  else s1

/-- The receive side of a sample: fades and actions first, so that what they set holds for this sample, then gates, streams and ports
(R20, R353, R397, R423, R443). -/
def sampleInputs (s : State) : State :=
  let s1 := applyTimed (endRouteFades (endFades (removeFaded (advanceFades s))))
  let s2 := presentStreams (twinGates s1)
  (portNumbers s2).foldl (fun t n => portReceive n t) s2

/-- The transmit side of a sample (R394, R434). -/
def sampleOutputs (on : Bool) (s : State) : State :=
  let s1 := gatherStreams (outAt s on) s
  (portNumbers s1).foldl (fun t n => portTransmit n (outAt s on) t) s1

/-- One sample: sources, sinks, instances, meters and outputs, then the SSI counts on (R20, R42). -/
def sampleTick (s : State) : State :=
  if ¬ gridRuns s then s
  else
    let on := hushForced s
    let s1 := runSinks on (releaseSources (takeInputs (sampleInputs s)))
    let s2 := sampleOutputs on (takeMeters on (computeSample on s1))
    let s3 := drivePulses (captureSinks s2)
    let s4 := if s3.stem.ssi % 8 = 4 then twinStatusSend s3 else s3
    { s4 with stem := { s4.stem with ssi := s4.stem.ssi + 1 } }

/-! ### PERIOD_BOUNDARY (R40) -/

/-- A change of P that waits takes effect (R349). -/
def duePatch (s : State) : State := match s.lig.patchDue with | some c => setPatch c s | none => s

/-- The ports that wait for a boundary as masters (R403). -/
def startMasters (s : State) : State := (portNumbers s).foldl (fun t n => if serMaster (serPort t n).cfg then portRunning n t else t) s

/-- Clocks and what waits for this boundary: Baseline, the jam, actions, modes and settings (R46, R62, R138, R349, R364, R679). -/
def boundaryFirst (s : State) : State :=
  dueGpio (applyDueCfg (duePatch (deferredStandby (runSteps (applyModes (applyTimed (blBoundary (ptpJam s))))))))

/-- The instances and the compute window (R54, R142, R143, R258, R292, R590). -/
def boundaryCompute (s : State) : State := ductusBoundary (haltForRate (clearUnfinite (degradedCheck (restoreShed s))))

/-- Reports, stores and ports (R328, R365, R403, R429, R519). -/
def boundaryReports (s : State) : State := settleStreams (settleReceivers (startMasters (startSets (storeScenes (flushMoves s)))))

/-- The pair and the manuscript, and a restart that waits (R130, R471, R474, R479). -/
def boundaryLast (edge : Bool) (s : State) : State := reboot (leaveBoundary (joinBoundary (twinBoundary edge s)))

/-- One period boundary. -/
def periodBoundary (edge : Bool) (s : State) : State :=
  if ¬ gridRuns s ∨ s.stem.ssi % 8 ≠ 0 then s
  else boundaryLast edge (boundaryReports (boundaryCompute (boundaryFirst s)))

/-! ### The meanings -/

/-- AON_TICK (R369). -/
def execAonTick (hushA hushB : Bool) (pins : Nat) (s : State) : Host.Outcome State Fault Refusal := .next (aonTick hushA hushB pins s)
/-- SAMPLE_TICK (R20). -/
def execSampleTick (s : State) : Host.Outcome State Fault Refusal := .next (sampleTick s)
/-- PERIOD_BOUNDARY (R40). -/
def execPeriodBoundary (claimEdge : Bool) (s : State) : Host.Outcome State Fault Refusal := .next (periodBoundary claimEdge s)

end Sys2Proof.Machine
end

