-- ==== Sys2Proof/Machine/Dispatch.lean ====
section
/-! DEFINITION. The one dispatch: each command to its meaning. -/

namespace Sys2Proof.Machine

def exec (i : Instr) (s : State) : Host.Outcome State Fault Refusal :=
  match i with
  | .sysIdentityGet r => Sys2Proof.Machine.execSysIdentityGet r s
  | .sysCapsGet r => Sys2Proof.Machine.execSysCapsGet r s
  | .sysRoleSet r => Sys2Proof.Machine.execSysRoleSet r s
  | .sysGrantGet r => Sys2Proof.Machine.execSysGrantGet r s
  | .sysGrantSet r => Sys2Proof.Machine.execSysGrantSet r s
  | .sysClockGet r => Sys2Proof.Machine.execSysClockGet r s
  | .sysRateSet r => Sys2Proof.Machine.execSysRateSet r s
  | .sysSsiRealign r => Sys2Proof.Machine.execSysSsiRealign r s
  | .sysBootInfo r => Sys2Proof.Machine.execSysBootInfo r s
  | .sysRestart r => Sys2Proof.Machine.execSysRestart r s
  | .sysFwWrite r => Sys2Proof.Machine.execSysFwWrite r s
  | .sysFwSelect r => Sys2Proof.Machine.execSysFwSelect r s
  | .sysFwCommit r => Sys2Proof.Machine.execSysFwCommit r s
  | .sysResumeSet r => Sys2Proof.Machine.execSysResumeSet r s
  | .sysResumeSave r => Sys2Proof.Machine.execSysResumeSave r s
  | .sysInkGet r => Sys2Proof.Machine.execSysInkGet r s
  | .sysInkClose r => Sys2Proof.Machine.execSysInkClose r s
  | .sysSubscribe r => Sys2Proof.Machine.execSysSubscribe r s
  | .sysWarnGet r => Sys2Proof.Machine.execSysWarnGet r s
  | .sysArmedGet r => Sys2Proof.Machine.execSysArmedGet r s
  | .sysArmedCancel r => Sys2Proof.Machine.execSysArmedCancel r s
  | .sysMemStatusGet r => Sys2Proof.Machine.execSysMemStatusGet r s
  | .sysCartStatusGet r => Sys2Proof.Machine.execSysCartStatusGet r s
  | .lcStatusGet r => Sys2Proof.Machine.execLcStatusGet r s
  | .lcNonceGet r => Sys2Proof.Machine.execLcNonceGet r s
  | .lcProvision r => Sys2Proof.Machine.execLcProvision r s
  | .lcDeploy r => Sys2Proof.Machine.execLcDeploy r s
  | .lcReturn r => Sys2Proof.Machine.execLcReturn r s
  | .lcDebugUnlock r => Sys2Proof.Machine.execLcDebugUnlock r s
  | .lcAttest r => Sys2Proof.Machine.execLcAttest r s
  | .sysBoardGet r => Sys2Proof.Machine.execSysBoardGet r s
  | .sysBoardSet r => Sys2Proof.Machine.execSysBoardSet r s
  | .sysGpioConfig r => Sys2Proof.Machine.execSysGpioConfig r s
  | .sysGpioGet r => Sys2Proof.Machine.execSysGpioGet r s
  | .sysGpioSet r => Sys2Proof.Machine.execSysGpioSet r s
  | .sysLtcConfig r => Sys2Proof.Machine.execSysLtcConfig r s
  | .sysLtcStatusGet r => Sys2Proof.Machine.execSysLtcStatusGet r s
  | .sysLinkGet r => Sys2Proof.Machine.execSysLinkGet r s
  | .blStatusGet r => Sys2Proof.Machine.execBlStatusGet r s
  | .blRefConfig r => Sys2Proof.Machine.execBlRefConfig r s
  | .blSelect r => Sys2Proof.Machine.execBlSelect r s
  | .blSteer r => Sys2Proof.Machine.execBlSteer r s
  | .blPhaseStep r => Sys2Proof.Machine.execBlPhaseStep r s
  | .blOutConfig r => Sys2Proof.Machine.execBlOutConfig r s
  | .blPolicySet r => Sys2Proof.Machine.execBlPolicySet r s
  | .blRefClear r => Sys2Proof.Machine.execBlRefClear r s
  | .modeGet r => Sys2Proof.Machine.execModeGet r s
  | .modeSet r => Sys2Proof.Machine.execModeSet r s
  | .modeWakeConfig r => Sys2Proof.Machine.execModeWakeConfig r s
  | .netPortConfig r => Sys2Proof.Machine.execNetPortConfig r s
  | .netPortStatusGet r => Sys2Proof.Machine.execNetPortStatusGet r s
  | .netPtpConfig r => Sys2Proof.Machine.execNetPtpConfig r s
  | .netPtpStatusGet r => Sys2Proof.Machine.execNetPtpStatusGet r s
  | .netQuillConfig r => Sys2Proof.Machine.execNetQuillConfig r s
  | .netRxSet r => Sys2Proof.Machine.execNetRxSet r s
  | .netRxGet r => Sys2Proof.Machine.execNetRxGet r s
  | .netTxSet r => Sys2Proof.Machine.execNetTxSet r s
  | .netTxGet r => Sys2Proof.Machine.execNetTxGet r s
  | .netStatusGet r => Sys2Proof.Machine.execNetStatusGet r s
  | .netNmosConfig r => Sys2Proof.Machine.execNetNmosConfig r s
  | .serConfig r => Sys2Proof.Machine.execSerConfig r s
  | .serConfigGet r => Sys2Proof.Machine.execSerConfigGet r s
  | .serStatusGet r => Sys2Proof.Machine.execSerStatusGet r s
  | .serCountersGet r => Sys2Proof.Machine.execSerCountersGet r s
  | .ligRouteSet r => Sys2Proof.Machine.execLigRouteSet r s
  | .ligRouteGet r => Sys2Proof.Machine.execLigRouteGet r s
  | .ligSinkConfig r => Sys2Proof.Machine.execLigSinkConfig r s
  | .ligGainSet r => Sys2Proof.Machine.execLigGainSet r s
  | .ligFallback r => Sys2Proof.Machine.execLigFallback r s
  | .ligPatchSet r => Sys2Proof.Machine.execLigPatchSet r s
  | .ligStatusGet r => Sys2Proof.Machine.execLigStatusGet r s
  | .instCreate r => Sys2Proof.Machine.execInstCreate r s
  | .instDelete r => Sys2Proof.Machine.execInstDelete r s
  | .instSet r => Sys2Proof.Machine.execInstSet r s
  | .instGet r => Sys2Proof.Machine.execInstGet r s
  | .instList r => Sys2Proof.Machine.execInstList r s
  | .instRename r => Sys2Proof.Machine.execInstRename r s
  | .progList r => Sys2Proof.Machine.execProgList r s
  | .instCoefSet r => Sys2Proof.Machine.execInstCoefSet r s
  | .instCoefGet r => Sys2Proof.Machine.execInstCoefGet r s
  | .dxLoadGet r => Sys2Proof.Machine.execDxLoadGet r s
  | .dxNibGet r => Sys2Proof.Machine.execDxNibGet r s
  | .dxConfig r => Sys2Proof.Machine.execDxConfig r s
  | .sceneStore r => Sys2Proof.Machine.execSceneStore r s
  | .sceneRecall r => Sys2Proof.Machine.execSceneRecall r s
  | .sceneDelete r => Sys2Proof.Machine.execSceneDelete r s
  | .sceneList r => Sys2Proof.Machine.execSceneList r s
  | .sceneExport r => Sys2Proof.Machine.execSceneExport r s
  | .sceneImport r => Sys2Proof.Machine.execSceneImport r s
  | .sceneSafeSet r => Sys2Proof.Machine.execSceneSafeSet r s
  | .sceneSafeGet r => Sys2Proof.Machine.execSceneSafeGet r s
  | .cueConfig r => Sys2Proof.Machine.execCueConfig r s
  | .cueMapSet r => Sys2Proof.Machine.execCueMapSet r s
  | .cueMapGet r => Sys2Proof.Machine.execCueMapGet r s
  | .cueStatusGet r => Sys2Proof.Machine.execCueStatusGet r s
  | .folioMap r => Sys2Proof.Machine.execFolioMap r s
  | .folioRead r => Sys2Proof.Machine.execFolioRead r s
  | .folioWrite r => Sys2Proof.Machine.execFolioWrite r s
  | .sheenConfig r => Sys2Proof.Machine.execSheenConfig r s
  | .sheenLoudReset r => Sys2Proof.Machine.execSheenLoudReset r s
  | .sheenSetDefine r => Sys2Proof.Machine.execSheenSetDefine r s
  | .sheenSetDelete r => Sys2Proof.Machine.execSheenSetDelete r s
  | .sheenSetRead r => Sys2Proof.Machine.execSheenSetRead r s
  | .sheenStatusGet r => Sys2Proof.Machine.execSheenStatusGet r s
  | .sheenConfigGet r => Sys2Proof.Machine.execSheenConfigGet r s
  | .hushStatusGet r => Sys2Proof.Machine.execHushStatusGet r s
  | .hushClear r => Sys2Proof.Machine.execHushClear r s
  | .hushConfig r => Sys2Proof.Machine.execHushConfig r s
  | .hushConfigGet r => Sys2Proof.Machine.execHushConfigGet r s
  | .twinStatusGet r => Sys2Proof.Machine.execTwinStatusGet r s
  | .twinConfig r => Sys2Proof.Machine.execTwinConfig r s
  | .twinPromote r => Sys2Proof.Machine.execTwinPromote r s
  | .twinResync r => Sys2Proof.Machine.execTwinResync r s
  | .twinDissolve r => Sys2Proof.Machine.execTwinDissolve r s
  | .msStatusGet r => Sys2Proof.Machine.execMsStatusGet r s
  | .msConfig r => Sys2Proof.Machine.execMsConfig r s
  | .msRosterSet r => Sys2Proof.Machine.execMsRosterSet r s
  | .msJoin r => Sys2Proof.Machine.execMsJoin r s
  | .msLeave r => Sys2Proof.Machine.execMsLeave r s
  | .msFlourish r => Sys2Proof.Machine.execMsFlourish r s
  | .msXbusSet r => Sys2Proof.Machine.execMsXbusSet r s
  | .msMembersGet r => Sys2Proof.Machine.execMsMembersGet r s
  | .sealRun r => Sys2Proof.Machine.execSealRun r s
  | .sealStatusGet r => Sys2Proof.Machine.execSealStatusGet r s
  | .sealDigestGet r => Sys2Proof.Machine.execSealDigestGet r s
  | .sealRegionRun r => Sys2Proof.Machine.execSealRegionRun r s
  | .rtStatusGet r => Sys2Proof.Machine.execRtStatusGet r s
  | .rtConfig r => Sys2Proof.Machine.execRtConfig r s
  | .rtNibTest r => Sys2Proof.Machine.execRtNibTest r s
  | .rtMigrate r => Sys2Proof.Machine.execRtMigrate r s
  | .rtShedSet r => Sys2Proof.Machine.execRtShedSet r s
  | .rtShedGet r => Sys2Proof.Machine.execRtShedGet r s
  | .rtRepairGet r => Sys2Proof.Machine.execRtRepairGet r s
  | .btStatusGet r => Sys2Proof.Machine.execBtStatusGet r s
  | .rtRowRetire r => Sys2Proof.Machine.execRtRowRetire r s
  | .btInject r => Sys2Proof.Machine.execBtInject r s
  | .cbList r => Sys2Proof.Machine.execCbList r s
  | .cbRun r => Sys2Proof.Machine.execCbRun r s
  | .cbAbort r => Sys2Proof.Machine.execCbAbort r s
  | .cbResultGet r => Sys2Proof.Machine.execCbResultGet r s
  | .vlStatusGet r => Sys2Proof.Machine.execVlStatusGet r s
  | .vlRead r => Sys2Proof.Machine.execVlRead r s
  | .vlExport r => Sys2Proof.Machine.execVlExport r s
  | .vlSave r => Sys2Proof.Machine.execVlSave r s
  | .expRegRead r => Sys2Proof.Machine.execExpRegRead r s
  | .expRegWrite r => Sys2Proof.Machine.execExpRegWrite r s
  | .registerWrite via off data => Sys2Proof.Machine.execRegisterWrite via off data s
  | .clkCtrlApply => Sys2Proof.Machine.execClkCtrlApply s
  | .clkCtrlRealign => Sys2Proof.Machine.execClkCtrlRealign s
  | .bootCtrlGo via => Sys2Proof.Machine.execBootCtrlGo via s
  | .resetCauseWrite via w => Sys2Proof.Machine.execResetCauseWrite via w s
  | .inkCtrlOpen via n => Sys2Proof.Machine.execInkCtrlOpen via n s
  | .inkCtrlClose via n => Sys2Proof.Machine.execInkCtrlClose via n s
  | .inkCtrlResync via n => Sys2Proof.Machine.execInkCtrlResync via n s
  | .doorbell via n v heads => Sys2Proof.Machine.execDoorbell via n v heads s
  | .repConsWrite via n v => Sys2Proof.Machine.execRepConsWrite via n v s
  | .evtConsWrite via n v => Sys2Proof.Machine.execEvtConsWrite via n v s
  | .sheetAlloc reads => Sys2Proof.Machine.execSheetAlloc reads s
  | .sheetFree via n h => Sys2Proof.Machine.execSheetFree via n h s
  | .blSelectWrite w => Sys2Proof.Machine.execBlSelectWrite w s
  | .blStepWrite w => Sys2Proof.Machine.execBlStepWrite w s
  | .blSteerWrite w => Sys2Proof.Machine.execBlSteerWrite w s
  | .pwModeReq w => Sys2Proof.Machine.execPwModeReq w s
  | .pwWakeAtHiWrite w => Sys2Proof.Machine.execPwWakeAtHiWrite w s
  | .dxCtrlWrite w => Sys2Proof.Machine.execDxCtrlWrite w s
  | .lgArmHiWrite n w => Sys2Proof.Machine.execLgArmHiWrite n w s
  | .lgSinkCfgWrite n w => Sys2Proof.Machine.execLgSinkCfgWrite n w s
  | .lgGainWrite n w => Sys2Proof.Machine.execLgGainWrite n w s
  | .lgShadeWrite n w => Sys2Proof.Machine.execLgShadeWrite n w s
  | .srCtrlApply n => Sys2Proof.Machine.execSrCtrlApply n s
  | .qlApply w => Sys2Proof.Machine.execQlApply w s
  | .snBall0Write w => Sys2Proof.Machine.execSnBall0Write w s
  | .snBall1Write w => Sys2Proof.Machine.execSnBall1Write w s
  | .snSrcPeakRead n => Sys2Proof.Machine.execSnSrcPeakRead n s
  | .snSnkPeakRead n => Sys2Proof.Machine.execSnSnkPeakRead n s
  | .ssiLoRead => Sys2Proof.Machine.execSsiLoRead s
  | .dxArmedSsiLoRead => Sys2Proof.Machine.execDxArmedSsiLoRead s
  | .hsLastSsiLoRead => Sys2Proof.Machine.execHsLastSsiLoRead s
  | .snEpochSsiLoRead => Sys2Proof.Machine.execSnEpochSsiLoRead s
  | .fdLastAddrLoRead => Sys2Proof.Machine.execFdLastAddrLoRead s
  | .slBytesLoRead c => Sys2Proof.Machine.execSlBytesLoRead c s
  | .slDigestSsiLoRead => Sys2Proof.Machine.execSlDigestSsiLoRead s
  | .vlAonLoRead => Sys2Proof.Machine.execVlAonLoRead s
  | .wakeCauseRead via => Sys2Proof.Machine.execWakeCauseRead via s
  | .slCtrlGo c => Sys2Proof.Machine.execSlCtrlGo c s
  | .slCtrlAbort c => Sys2Proof.Machine.execSlCtrlAbort c s
  | .cbCtrlGo => Sys2Proof.Machine.execCbCtrlGo s
  | .cbCtrlAbort => Sys2Proof.Machine.execCbCtrlAbort s
  | .cbFifoRead => Sys2Proof.Machine.execCbFifoRead s
  | .hspiWrite addr data => Sys2Proof.Machine.execHspiWrite addr data s
  | .hspiWriteCommit => Sys2Proof.Machine.execHspiWriteCommit s
  | .hspiRead addr n onTime => Sys2Proof.Machine.execHspiRead addr n onTime s
  | .hspiStatus => Sys2Proof.Machine.execHspiStatus s
  | .hspiUnknownCommand => Sys2Proof.Machine.execHspiUnknownCommand s
  | .i2cWrite ptr data => Sys2Proof.Machine.execI2cWrite ptr data s
  | .i2cRead ptr n => Sys2Proof.Machine.execI2cRead ptr n s
  | .bmcCtrlWrite on => Sys2Proof.Machine.execBmcCtrlWrite on s
  | .msixEnable on fnMask => Sys2Proof.Machine.execMsixEnable on fnMask s
  | .porNAssert => Sys2Proof.Machine.execPorNAssert s
  | .porNRelease xo => Sys2Proof.Machine.execPorNRelease xo s
  | .pwrFailAssert => Sys2Proof.Machine.execPwrFailAssert s
  | .pwrFailDeassert => Sys2Proof.Machine.execPwrFailDeassert s
  | .xoLoss => Sys2Proof.Machine.execXoLoss s
  | .xoReturn => Sys2Proof.Machine.execXoReturn s
  | .perstAssert => Sys2Proof.Machine.execPerstAssert s
  | .pcieLinkTrained gen lanes => Sys2Proof.Machine.execPcieLinkTrained gen lanes s
  | .pcieLinkDrop => Sys2Proof.Machine.execPcieLinkDrop s
  | .d3hotToD0 => Sys2Proof.Machine.execD3hotToD0 s
  | .jtagTrst => Sys2Proof.Machine.execJtagTrst s
  | .jtagBoundaryInstruction load => Sys2Proof.Machine.execJtagBoundaryInstruction load s
  | .jtagInternalScan => Sys2Proof.Machine.execJtagInternalScan s
  | .aonTick hushA hushB pins => Sys2Proof.Machine.execAonTick hushA hushB pins s
  | .hushChannelDebounced chB alarm => Sys2Proof.Machine.execHushChannelDebounced chB alarm s
  | .hushFault => Sys2Proof.Machine.execHushFault s
  | .hushRelease => Sys2Proof.Machine.execHushRelease s
  | .hushOutToggle => Sys2Proof.Machine.execHushOutToggle s
  | .pwrFailNFilter => Sys2Proof.Machine.execPwrFailNFilter s
  | .stemLock => Sys2Proof.Machine.execStemLock s
  | .stemRelock => Sys2Proof.Machine.execStemRelock s
  | .sampleTick => Sys2Proof.Machine.execSampleTick s
  | .periodBoundary claimEdge => Sys2Proof.Machine.execPeriodBoundary claimEdge s
  | .classACompletion d => Sys2Proof.Machine.execClassACompletion d s
  | .ductusWdt => Sys2Proof.Machine.execDuctusWdt s
  | .timedActionApply => Sys2Proof.Machine.execTimedActionApply s
  | .readinessDeadline unready corrupt => Sys2Proof.Machine.execReadinessDeadline unready corrupt s
  | .lateRecallApply client seq => Sys2Proof.Machine.execLateRecallApply client seq s
  | .backupFallback n => Sys2Proof.Machine.execBackupFallback n s
  | .backupReturn n => Sys2Proof.Machine.execBackupReturn n s
  | .routeCrossfadeEnd => Sys2Proof.Machine.execRouteCrossfadeEnd s
  | .stageCrossfadeEnd => Sys2Proof.Machine.execStageCrossfadeEnd s
  | .reportIntervalClose => Sys2Proof.Machine.execReportIntervalClose s
  | .sheenRecordWritten => Sys2Proof.Machine.execSheenRecordWritten s
  | .repeatLimitExpiry n => Sys2Proof.Machine.execRepeatLimitExpiry n s
  | .candidateQualified n build fofs => Sys2Proof.Machine.execCandidateQualified n build fofs s
  | .refDisqual n cause => Sys2Proof.Machine.execRefDisqual n cause s
  | .barExpiry n => Sys2Proof.Machine.execBarExpiry n s
  | .refRevert => Sys2Proof.Machine.execRefRevert s
  | .refPulseEdge n dev fofs build => Sys2Proof.Machine.execRefPulseEdge n dev fofs build s
  | .lock err => Sys2Proof.Machine.execLock err s
  | .hoValidSet => Sys2Proof.Machine.execHoValidSet s
  | .holdoverExpired => Sys2Proof.Machine.execHoldoverExpired s
  | .holdoverNvsWrite => Sys2Proof.Machine.execHoldoverNvsWrite s
  | .firstLock theta delta => Sys2Proof.Machine.execFirstLock theta delta s
  | .alignmentComplete => Sys2Proof.Machine.execAlignmentComplete s
  | .slewComplete => Sys2Proof.Machine.execSlewComplete s
  | .steerRampDone => Sys2Proof.Machine.execSteerRampDone s
  | .bootSourceRead readOk => Sys2Proof.Machine.execBootSourceRead readOk s
  | .hostFirstWaitExpiry => Sys2Proof.Machine.execHostFirstWaitExpiry s
  | .bootWatchdog => Sys2Proof.Machine.execBootWatchdog s
  | .fwRunningSignal => Sys2Proof.Machine.execFwRunningSignal s
  | .inkwellsServeBasic => Sys2Proof.Machine.execInkwellsServeBasic s
  | .ready => Sys2Proof.Machine.execReady s
  | .zeroisation => Sys2Proof.Machine.execZeroisation s
  | .scribeWatchdog => Sys2Proof.Machine.execScribeWatchdog s
  | .lockstepMismatch => Sys2Proof.Machine.execLockstepMismatch s
  | .scribeRestartDone => Sys2Proof.Machine.execScribeRestartDone s
  | .standbyEntryComplete => Sys2Proof.Machine.execStandbyEntryComplete s
  | .wakeInkwellsReady => Sys2Proof.Machine.execWakeInkwellsReady s
  | .wakeComplete bad => Sys2Proof.Machine.execWakeComplete bad s
  | .deferredStandby => Sys2Proof.Machine.execDeferredStandby s
  | .wakeAtReached => Sys2Proof.Machine.execWakeAtReached s
  | .autosave => Sys2Proof.Machine.execAutosave s
  | .tlsConnect cert => Sys2Proof.Machine.execTlsConnect cert s
  | .sessionOpen key => Sys2Proof.Machine.execSessionOpen key s
  | .sessionResume key token lastEvt => Sys2Proof.Machine.execSessionResume key token lastEvt s
  | .sessionKeepalive n => Sys2Proof.Machine.execSessionKeepalive n s
  | .sessionClose n => Sys2Proof.Machine.execSessionClose n s
  | .sessionRequestFrame n size length h => Sys2Proof.Machine.execSessionRequestFrame n size length h s
  | .sessionBadFrame n => Sys2Proof.Machine.execSessionBadFrame n s
  | .sessionReplySent n => Sys2Proof.Machine.execSessionReplySent n s
  | .sessionDrop n closed => Sys2Proof.Machine.execSessionDrop n closed s
  | .sessionExpire n => Sys2Proof.Machine.execSessionExpire n s
  | .frameRx f => Sys2Proof.Machine.execFrameRx f s
  | .ptpMessageRx m => Sys2Proof.Machine.execPtpMessageRx m s
  | .ptpSyncTx n => Sys2Proof.Machine.execPtpSyncTx n s
  | .mediaPacketRx p => Sys2Proof.Machine.execMediaPacketRx p s
  | .legDown n leg => Sys2Proof.Machine.execLegDown n leg s
  | .netLink n up => Sys2Proof.Machine.execNetLink n up s
  | .offsetError n => Sys2Proof.Machine.execOffsetError n s
  | .txPacketSend n => Sys2Proof.Machine.execTxPacketSend n s
  | .arpRetry n answer => Sys2Proof.Machine.execArpRetry n answer s
  | .is05Activation tx e mode ns => Sys2Proof.Machine.execIs05Activation tx e mode ns s
  | .is04Heartbeat => Sys2Proof.Machine.execIs04Heartbeat s
  | .sacnPacketRx p => Sys2Proof.Machine.execSacnPacketRx p s
  | .sacnSourceLost univ cid => Sys2Proof.Machine.execSacnSourceLost univ cid s
  | .oscMessageRx net port data => Sys2Proof.Machine.execOscMessageRx net port data s
  | .ltcFrameDecoded f start => Sys2Proof.Machine.execLtcFrameDecoded f start s
  | .ltcInLost => Sys2Proof.Machine.execLtcInLost s
  | .timecodeTrigger n k => Sys2Proof.Machine.execTimecodeTrigger n k s
  | .ltcOutFrame k => Sys2Proof.Machine.execLtcOutFrame k s
  | .serifFrameReference n => Sys2Proof.Machine.execSerifFrameReference n s
  | .serifFrameRx n len bits => Sys2Proof.Machine.execSerifFrameRx n len bits s
  | .rateMeasurement n rate => Sys2Proof.Machine.execRateMeasurement n rate s
  | .noClock n => Sys2Proof.Machine.execNoClock n s
  | .frameError n => Sys2Proof.Machine.execFrameError n s
  | .portRunning n => Sys2Proof.Machine.execPortRunning n s
  | .twinHelloRx h nonce peer => Sys2Proof.Machine.execTwinHelloRx h nonce peer s
  | .twinStatusRx f => Sys2Proof.Machine.execTwinStatusRx f s
  | .twinJournalRx e => Sys2Proof.Machine.execTwinJournalRx e s
  | .twinJAckRx h jsn => Sys2Proof.Machine.execTwinJAckRx h jsn s
  | .journalResend => Sys2Proof.Machine.execJournalResend s
  | .giveupCause cause ns => Sys2Proof.Machine.execGiveupCause cause ns s
  | .twinGiveupRx h cause stop => Sys2Proof.Machine.execTwinGiveupRx h cause stop s
  | .twinHandoverRx h point claim => Sys2Proof.Machine.execTwinHandoverRx h point claim s
  | .handoverPoint => Sys2Proof.Machine.execHandoverPoint s
  | .handoverEnd => Sys2Proof.Machine.execHandoverEnd s
  | .twinCheckRx h period result => Sys2Proof.Machine.execTwinCheckRx h period result s
  | .mismatchCheckDone passed => Sys2Proof.Machine.execMismatchCheckDone passed s
  | .twinSnapRx h at_ offset total data moved => Sys2Proof.Machine.execTwinSnapRx h at_ offset total data moved s
  | .twinLinkDown => Sys2Proof.Machine.execTwinLinkDown s
  | .silentDeath => Sys2Proof.Machine.execSilentDeath s
  | .formWaitExpiry => Sys2Proof.Machine.execFormWaitExpiry s
  | .pairingRetry => Sys2Proof.Machine.execPairingRetry s
  | .giveupCauseCleared => Sys2Proof.Machine.execGiveupCauseCleared s
  | .msPeerConnect member key msId ip => Sys2Proof.Machine.execMsPeerConnect member key msId ip s
  | .msHelloRx h => Sys2Proof.Machine.execMsHelloRx h s
  | .msViewRx via view members scene => Sys2Proof.Machine.execMsViewRx via view members scene s
  | .msPrepareRx via p => Sys2Proof.Machine.execMsPrepareRx via p s
  | .msVoteRx via origin number count st refuser => Sys2Proof.Machine.execMsVoteRx via origin number count st refuser s
  | .msCommitRx via origin number => Sys2Proof.Machine.execMsCommitRx via origin number s
  | .msAbortRx via origin number st => Sys2Proof.Machine.execMsAbortRx via origin number st s
  | .msAckRx via member origin number st => Sys2Proof.Machine.execMsAckRx via member origin number st s
  | .msHeartbeatRx member => Sys2Proof.Machine.execMsHeartbeatRx member s
  | .msHeartbeatTimer => Sys2Proof.Machine.execMsHeartbeatTimer s
  | .msMemberGone member => Sys2Proof.Machine.execMsMemberGone member s
  | .msVoteDeadline number => Sys2Proof.Machine.execMsVoteDeadline number s
  | .msCommitResend number => Sys2Proof.Machine.execMsCommitResend number s
  | .msRejoin => Sys2Proof.Machine.execMsRejoin s
  | .blotterDispatchDone n good => Sys2Proof.Machine.execBlotterDispatchDone n good s
  | .dispatchTimeout n => Sys2Proof.Machine.execDispatchTimeout n s
  | .migrationCopy n => Sys2Proof.Machine.execMigrationCopy n s
  | .migrationSwap n same => Sys2Proof.Machine.execMigrationSwap n same s
  | .nibReadmit n => Sys2Proof.Machine.execNibReadmit n s
  | .coverage n => Sys2Proof.Machine.execCoverage n s
  | .watchListExpiry => Sys2Proof.Machine.execWatchListExpiry s
  | .repairTableWrite => Sys2Proof.Machine.execRepairTableWrite s
  | .feedAccess q => Sys2Proof.Machine.execFeedAccess q s
  | .feedAtomic q => Sys2Proof.Machine.execFeedAtomic q s
  | .cartridgeWrite n words => Sys2Proof.Machine.execCartridgeWrite n words s
  | .cartridgeRead n single bad => Sys2Proof.Machine.execCartridgeRead n single bad s
  | .sealJobDone c bad => Sys2Proof.Machine.execSealJobDone c bad s
  | .sealDigestReady => Sys2Proof.Machine.execSealDigestReady s
  | .copybookDone outs => Sys2Proof.Machine.execCopybookDone outs s
  | .vellumPeriodicWrite => Sys2Proof.Machine.execVellumPeriodicWrite s
  | .vellumWriteDone good => Sys2Proof.Machine.execVellumWriteDone good s
  | .avsStep ack mv => Sys2Proof.Machine.execAvsStep ack mv s
  | .avsRetry ack mv => Sys2Proof.Machine.execAvsRetry ack mv s
  | .gpioEdge pin level => Sys2Proof.Machine.execGpioEdge pin level s
  | .unknownOpcodeRequest op r => Sys2Proof.Machine.execUnknownOpcodeRequest op r s
  | .bar2Write via off data => Sys2Proof.Machine.execBar2Write via off data s
  | .d3hotEntry => Sys2Proof.Machine.execD3hotEntry s
  | .pmeEnWrite on => Sys2Proof.Machine.execPmeEnWrite on s
  | .l1Entry => Sys2Proof.Machine.execL1Entry s
  | .announceReceiptTimeout n => Sys2Proof.Machine.execAnnounceReceiptTimeout n s
  | .tempAlert temp => Sys2Proof.Machine.execTempAlert temp s
  | .nibUncorrectableError n kind word key => Sys2Proof.Machine.execNibUncorrectableError n kind word key s
  | .commandCompletes client seq => Sys2Proof.Machine.execCommandCompletes client seq s
  | .aonOrderResend => Sys2Proof.Machine.execAonOrderResend s

end Sys2Proof.Machine
end

