-- ==== Sys2Proof/Safety.lean ====
section
/-! DEFINITION. What a safe run and a served request are, in the terms that the statements use. -/

namespace Sys2Proof.Machine

/-! ### Outcomes -/

/-- The outcome is a next state. -/
def Runs (o : Host.Outcome State Fault Refusal) : Prop := ∃ t, o = .next t

/-! ### What a command may change -/

/-- A set of parts of the state, one flag for each: `draws` the counter of free values, `stem` the time base, `bl` Baseline,
`boot` boot and reset but for the image load area and the flash, `power` modes, wake and power, `ink` the Inkwells, sessions and
armed actions but for the sheet pool's memory, `host` the host and board interfaces, `twin` the pair, `hush` hush, `serif` the
Serif ports, `quill` Quill, `ms` Manuscript, `rt` Retouch and the Blotter, `life` the lifecycle, `feed` Feed and the Cartridges but
for the memories, `dx` Ductus, `prog` instances, Scenes and cues, `lig` Ligature, `sheen` Sheen, `vl` Vellum, `sl` Seal, `cb`
Copybook, `resume` the resume record, `entry` what MAINTENANCE holds; and `sheets` the sheet
pool's memory, `load` the image load area, `flash` the flash, `mem` the TCM, Reservoir, the Exchange window, the barrel memories,
the Nib stores and XMI, each together with its unit's flag. The queue and the variant are in no set. -/
structure Parts where
  draws : Bool := false
  stem : Bool := false
  bl : Bool := false
  boot : Bool := false
  power : Bool := false
  ink : Bool := false
  host : Bool := false
  twin : Bool := false
  hush : Bool := false
  serif : Bool := false
  quill : Bool := false
  ms : Bool := false
  rt : Bool := false
  life : Bool := false
  feed : Bool := false
  dx : Bool := false
  prog : Bool := false
  lig : Bool := false
  sheen : Bool := false
  vl : Bool := false
  sl : Bool := false
  cb : Bool := false
  resume : Bool := false
  entry : Bool := false
  sheets : Bool := false
  load : Bool := false
  flash : Bool := false
  mem : Bool := false
  deriving DecidableEq, Repr

/-- The six memories of Feed, and nothing else of it. -/
def Feed.mems (f : Feed) : Feed :=
  { tcm := f.tcm, res := f.res, exch := f.exch, barrel := f.barrel, store := f.store, xmi := f.xmi }

/-- The state with the parts `P` blanked out: what is left is what a command that may change `P` only must keep. -/
def State.rest (P : Parts) (s : State) : State :=
  { s with
    draws := if P.draws then 0 else s.draws
    stem := if P.stem then {} else s.stem
    bl := if P.bl then {} else s.bl
    boot := if P.boot then { loadArea := if P.load then [] else s.boot.loadArea, flash := if P.flash then [] else s.boot.flash } else s.boot
    power := if P.power then {} else s.power
    ink := if P.ink then { sheetMem := if P.sheets then [] else s.ink.sheetMem } else s.ink
    host := if P.host then {} else s.host
    twin := if P.twin then {} else s.twin
    hush := if P.hush then {} else s.hush
    serif := if P.serif then {} else s.serif
    quill := if P.quill then {} else s.quill
    ms := if P.ms then {} else s.ms
    rt := if P.rt then {} else s.rt
    life := if P.life then {} else s.life
    feed := if P.feed then if P.mem then {} else s.feed.mems else s.feed
    dx := if P.dx then {} else s.dx
    prog := if P.prog then {} else s.prog
    lig := if P.lig then {} else s.lig
    sheen := if P.sheen then {} else s.sheen
    vl := if P.vl then {} else s.vl
    sl := if P.sl then {} else s.sl
    cb := if P.cb then {} else s.cb
    resume := if P.resume then none else s.resume
    entry := if P.entry then none else s.entry }

/-- What serving a request may change, whatever the command: the Inkwells and their sheets, the signals to the host, the counts of
Feed, the order of unsaved changes (R148), the journal of a pair, and the counter of free values. -/
def serving : Parts := { draws := true, boot := true, ink := true, host := true, twin := true, feed := true, sheets := true }

/-- The parts of the state that each command may change; it keeps the rest. -/
def mayChange : Instr → Parts
  | .blSelectWrite _ | .blStepWrite _ | .blSteerWrite _ | .barExpiry _ | .hoValidSet | .holdoverNvsWrite
  | .firstLock _ _ | .alignmentComplete | .slewComplete | .steerRampDone => { bl := true }
  | .cbCtrlAbort => { cb := true }
  | .dxCtrlWrite _ => { dx := true }
  | .aonOrderResend => { feed := true }
  | .hspiWrite _ _ | .hspiStatus | .hspiUnknownCommand | .i2cRead _ _ | .msixEnable _ _ | .ltcOutFrame _
  | .d3hotEntry | .pmeEnWrite _ | .l1Entry | .tempAlert _ => { host := true }
  | .hushOutToggle => { hush := true }
  | .snBall0Write _ | .snBall1Write _ | .tlsConnect _ | .sessionKeepalive _ | .sessionBadFrame _
  | .sessionReplySent _ | .sessionDrop _ _ => { ink := true }
  | .jtagTrst | .jtagBoundaryInstruction _ => { life := true }
  | .lgSinkCfgWrite _ _ | .lgGainWrite _ _ | .lgShadeWrite _ _ | .backupFallback _ | .backupReturn _
  | .routeCrossfadeEnd => { lig := true }
  | .msPeerConnect _ _ _ _ | .msAckRx _ _ _ _ _ | .msHeartbeatRx _ | .msHeartbeatTimer | .msCommitResend _
  | .msRejoin => { ms := true }
  | .pwWakeAtHiWrite _ => { power := true }
  | .stageCrossfadeEnd | .sacnSourceLost _ _ => { prog := true }
  | .ptpSyncTx _ | .is04Heartbeat => { quill := true }
  | .watchListExpiry | .repairTableWrite => { rt := true }
  | .reportIntervalClose => { sheen := true }
  | .slCtrlGo _ => { sl := true }
  | .twinJAckRx _ _ | .journalResend | .twinHandoverRx _ _ _ | .formWaitExpiry | .pairingRetry
    => { twin := true }
  | .vellumPeriodicWrite => { vl := true }
  | .resetCauseWrite _ _ | .hostFirstWaitExpiry | .bootWatchdog | .inkwellsServeBasic
    => { boot := true, host := true }
  | .fwRunningSignal => { boot := true, vl := true }
  | .sessionOpen _ | .sessionResume _ _ _ => { draws := true, ink := true }
  | .cbFifoRead => { host := true, cb := true }
  | .fdLastAddrLoRead => { host := true, feed := true }
  | .hsLastSsiLoRead => { host := true, hush := true }
  | .snSrcPeakRead _ | .snSnkPeakRead _ | .snEpochSsiLoRead => { host := true, sheen := true }
  | .slBytesLoRead _ | .slDigestSsiLoRead => { host := true, sl := true }
  | .vlAonLoRead => { host := true, vl := true }
  | .inkCtrlOpen _ _ | .inkCtrlClose _ _ | .inkCtrlResync _ _ | .repConsWrite _ _ _ | .evtConsWrite _ _ _
  | .sheetFree _ _ _ | .sessionClose _ | .sessionExpire _ | .ltcInLost | .avsStep _ _ | .avsRetry _ _ | .gpioEdge _ _
  | .commandCompletes _ _ => { ink := true, host := true }
  | .lgArmHiWrite _ _ => { ink := true, lig := true }
  | .msAbortRx _ _ _ _ => { ink := true, ms := true }
  | .slCtrlAbort _ => { ink := true, sl := true }
  | .handoverPoint => { ink := true, twin := true }
  | .wakeCauseRead _ | .pcieLinkTrained _ _ => { power := true, host := true }
  | .pwModeReq _ => { power := true, prog := true }
  | .clkCtrlRealign => { stem := true, bl := true }
  | .ssiLoRead => { stem := true, host := true }
  | .sealDigestReady => { twin := true, sl := true }
  | .candidateQualified _ _ _ | .refDisqual _ _ => { bl := true, ink := true, host := true }
  | .bootCtrlGo _ | .bootSourceRead _ => { boot := true, host := true, sl := true }
  | .perstAssert | .pcieLinkDrop => { boot := true, host := true, vl := true }
  | .wakeInkwellsReady => { boot := true, ink := true, host := true }
  | .d3hotToD0 | .wakeAtReached => { boot := true, power := true, host := true }
  | .sheetAlloc _ => { draws := true, ink := true, host := true }
  | .dxArmedSsiLoRead => { host := true, dx := true, prog := true }
  | .nibReadmit _ => { ink := true, host := true, dx := true }
  | .msHelloRx _ | .msMemberGone _ => { ink := true, host := true, ms := true }
  | .repeatLimitExpiry _ | .mediaPacketRx _ | .legDown _ _ | .offsetError _ | .arpRetry _ _
    => { ink := true, host := true, quill := true }
  | .portRunning _ => { ink := true, host := true, serif := true }
  | .sheenRecordWritten => { ink := true, host := true, sheen := true }
  | .twinGiveupRx _ _ _ | .twinLinkDown | .giveupCauseCleared => { ink := true, host := true, twin := true }
  | .msCommitRx _ _ _ => { ink := true, twin := true, ms := true }
  | .jtagInternalScan => { power := true, hush := true, life := true }
  | .deferredStandby => { power := true, ink := true, host := true }
  | .i2cWrite _ _ | .bmcCtrlWrite _ | .pwrFailAssert | .pwrFailDeassert | .pwrFailNFilter
    => { bl := true, boot := true, host := true, vl := true }
  | .announceReceiptTimeout _ => { bl := true, ink := true, host := true, quill := true }
  | .noClock _ | .frameError _ => { bl := true, ink := true, host := true, serif := true }
  | .refRevert => { bl := true, ink := true, host := true, vl := true }
  | .scribeRestartDone => { boot := true, ink := true, host := true, hush := true }
  | .vellumWriteDone _ => { boot := true, ink := true, host := true, vl := true }
  | .autosave => { boot := true, ink := true, sl := true, resume := true }
  | .refPulseEdge _ _ _ _ => { draws := true, bl := true, ink := true, host := true }
  | .sessionRequestFrame _ _ _ _ => { draws := true, boot := true, ink := true, host := true }
  | .twinHelloRx _ _ _ => { draws := true, ink := true, host := true, twin := true }
  | .qlApply _ | .is05Activation _ _ _ _ => { draws := true, ink := true, twin := true, quill := true }
  | .classACompletion _ => { ink := true, host := true, dx := true, vl := true }
  | .cartridgeWrite _ _ => { ink := true, host := true, feed := true, vl := true }
  | .readinessDeadline _ _ | .msViewRx _ _ _ _ => { ink := true, host := true, ms := true, prog := true }
  | .txPacketSend _ => { ink := true, host := true, quill := true, vl := true }
  | .migrationCopy _ => { ink := true, host := true, rt := true, dx := true }
  | .coverage _ => { ink := true, host := true, rt := true, vl := true }
  | .msVoteRx _ _ _ _ _ _ | .msVoteDeadline _ => { ink := true, host := true, twin := true, ms := true }
  | .twinStatusRx _ => { ink := true, host := true, twin := true, serif := true }
  | .giveupCause _ _ | .twinCheckRx _ _ _ | .mismatchCheckDone _
    => { ink := true, host := true, twin := true, vl := true }
  | .clkCtrlApply => { stem := true, ink := true, host := true, serif := true }
  | .lock _ => { bl := true, boot := true, power := true, ink := true, host := true }
  | .rateMeasurement _ _ => { bl := true, ink := true, host := true, serif := true, vl := true }
  | .srCtrlApply _ | .serifFrameReference _
    => { bl := true, ink := true, host := true, twin := true, serif := true }
  | .frameRx _ => { boot := true, power := true, ink := true, host := true, quill := true }
  | .ptpMessageRx _ => { draws := true, bl := true, ink := true, host := true, quill := true }
  | .doorbell _ _ _ _ => { draws := true, boot := true, power := true, ink := true, host := true }
  | .sacnPacketRx _ | .oscMessageRx _ _ _ | .ltcFrameDecoded _ _ | .timecodeTrigger _ _ | .msPrepareRx _ _
    => { ink := true, host := true, twin := true, ms := true, prog := true }
  | .stemLock => { stem := true, bl := true, ink := true, host := true, serif := true }
  | .netLink _ _ => { bl := true, boot := true, ink := true, host := true, quill := true, vl := true }
  | .serifFrameRx _ _ _ => { bl := true, ink := true, host := true, twin := true, serif := true, vl := true }
  | .holdoverExpired => { bl := true, power := true, ink := true, host := true, twin := true, vl := true }
  | .bar2Write _ _ _ => { boot := true, ink := true, host := true, feed := true, sheets := true, load := true }
  | .hushChannelDebounced _ _ | .hushFault | .hushRelease
    => { boot := true, power := true, ink := true, host := true, hush := true, vl := true }
  | .registerWrite _ _ _ => { draws := true, boot := true, power := true, ink := true, host := true, sl := true }
  | .migrationSwap _ _ => { ink := true, host := true, rt := true, dx := true, prog := true, vl := true }
  | .cartridgeRead _ _ _ => { ink := true, host := true, twin := true, hush := true, feed := true, vl := true }
  | .blotterDispatchDone _ _ | .dispatchTimeout _
    => { ink := true, host := true, twin := true, rt := true, dx := true, vl := true }
  | .handoverEnd | .silentDeath
    => { bl := true, power := true, ink := true, host := true, twin := true, vl := true, entry := true }
  | .ductusWdt
    => { boot := true, power := true, ink := true, host := true, twin := true, dx := true, vl := true }
  | .scribeWatchdog
    => { draws := true, boot := true, ink := true, host := true, feed := true, vl := true, mem := true }
  | .sysIdentityGet _ | .sysCapsGet _ | .sysRoleSet _ | .sysGrantGet _ | .sysGrantSet _ | .sysClockGet _
  | .sysBootInfo _ | .sysFwSelect _ | .sysResumeSet _ | .sysInkGet _ | .sysInkClose _ | .sysSubscribe _
  | .sysWarnGet _ | .sysArmedGet _ | .sysMemStatusGet _ | .sysCartStatusGet _ | .lcStatusGet _ | .lcAttest _
  | .sysBoardGet _ | .sysGpioGet _ | .sysGpioSet _ | .sysLtcConfig _ | .sysLtcStatusGet _ | .sysLinkGet _
  | .blStatusGet _ | .modeGet _ | .netPortStatusGet _ | .netPtpStatusGet _ | .netRxGet _ | .netTxSet _ | .netTxGet _
  | .netStatusGet _ | .serConfigGet _ | .serStatusGet _ | .serCountersGet _ | .ligRouteSet _ | .ligRouteGet _
  | .ligSinkConfig _ | .ligGainSet _ | .ligFallback _ | .ligStatusGet _ | .instGet _ | .instList _ | .progList _
  | .instCoefGet _ | .dxNibGet _ | .sceneList _ | .sceneExport _ | .sceneSafeGet _ | .cueMapGet _ | .cueStatusGet _
  | .folioMap _ | .folioRead _ | .sheenConfig _ | .sheenLoudReset _ | .sheenSetRead _ | .sheenStatusGet _
  | .sheenConfigGet _ | .hushStatusGet _ | .hushConfigGet _ | .twinStatusGet _ | .twinConfig _ | .twinPromote _
  | .twinResync _ | .twinDissolve _ | .msStatusGet _ | .msMembersGet _ | .sealStatusGet _ | .sealDigestGet _
  | .rtStatusGet _ | .rtShedGet _ | .rtRepairGet _ | .btStatusGet _ | .cbList _ | .cbResultGet _ | .vlStatusGet _
  | .vlRead _ | .unknownOpcodeRequest _ _ => serving
  | .nibUncorrectableError _ _ _ _
    => { ink := true, host := true, twin := true, rt := true, dx := true, prog := true, vl := true }
  | .xoReturn => { stem := true, bl := true, boot := true, power := true, ink := true, host := true, vl := true }
  | .blRefConfig _ | .blSelect _ | .blPhaseStep _ | .blOutConfig _ | .blPolicySet _ | .blRefClear _
    => { serving with bl := true }
  | .cbAbort _ => { serving with cb := true }
  | .dxConfig _ => { serving with dx := true }
  | .ligPatchSet _ => { serving with lig := true }
  | .instDelete _ | .instSet _ | .instRename _ | .instCoefSet _ | .dxLoadGet _ | .sceneStore _ | .sceneRecall _
  | .sceneDelete _ | .sceneSafeSet _ | .folioWrite _ => { serving with prog := true }
  | .sheenSetDefine _ | .sheenSetDelete _ => { serving with sheen := true }
  | .sysBoardSet _ | .sysGpioConfig _ => { serving with flash := true }
  | .sealRun _ | .sealRegionRun _ => { serving with sl := true }
  | .lockstepMismatch
    => { draws := true, boot := true, ink := true, host := true, twin := true, feed := true, vl := true, mem := true }
  | .sysFwCommit _ | .vlExport _ | .vlSave _ => { serving with vl := true }
  | .hushClear _ => { serving with hush := true }
  | .lcNonceGet _ | .lcReturn _ | .lcDebugUnlock _ => { serving with life := true }
  | .sysArmedCancel _ | .msConfig _ | .msRosterSet _ | .msJoin _ | .msLeave _ => { serving with ms := true }
  | .netQuillConfig _ | .netRxSet _ | .netNmosConfig _ => { serving with quill := true }
  | .rtConfig _ | .rtNibTest _ | .rtShedSet _ => { serving with rt := true }
  | .modeWakeConfig _ => { serving with power := true }
  | .lateRecallApply _ _
    => { boot := true, ink := true, host := true, dx := true, prog := true, lig := true, sheen := true, sl := true, resume := true }
  | .netPtpConfig _ => { serving with bl := true, quill := true }
  | .serConfig _ => { serving with bl := true, serif := true }
  | .blSteer _ => { serving with bl := true, power := true }
  | .sceneImport _ => { serving with prog := true, sl := true }
  | .sysResumeSave _ => { serving with sl := true, resume := true }
  | .sysFwWrite _ => { serving with sl := true, flash := true }
  | .sysRestart _ => { serving with vl := true, mem := true }
  | .hushConfig _ => { serving with hush := true, sl := true }
  | .lcProvision _ | .lcDeploy _ => { serving with life := true, vl := true }
  | .msFlourish _ => { serving with ms := true, prog := true }
  | .cueConfig _ | .cueMapSet _ => { serving with quill := true, prog := true }
  | .rtMigrate _ => { serving with rt := true, dx := true }
  | .rtRowRetire _ | .btInject _ => { serving with rt := true, vl := true }
  | .hspiWriteCommit | .hspiRead _ _ _
    => { draws := true, boot := true, power := true, ink := true, host := true, feed := true, sl := true, sheets := true, load := true }
  | .modeSet _ => { serving with power := true, prog := true }
  | .sealJobDone _ _
    => { draws := true, ink := true, host := true, twin := true, rt := true, feed := true, dx := true, vl := true, sl := true }
  | .sysSsiRealign _ => { serving with stem := true, bl := true }
  | .netPortConfig _ => { serving with bl := true, quill := true, vl := true }
  | .instCreate _ => { serving with prog := true, lig := true, sheen := true }
  | .msXbusSet _ => { serving with ms := true, prog := true, lig := true }
  | .sysRateSet _ => { serving with stem := true, serif := true, prog := true }
  | .porNRelease _
    => { stem := true, bl := true, boot := true, power := true, ink := true, host := true, twin := true, hush := true, serif := true, vl := true }
  | .cbCtrlGo
    => { bl := true, boot := true, ink := true, host := true, serif := true, quill := true, feed := true, prog := true, vl := true, cb := true, mem := true }
  | .stemRelock
    => { stem := true, bl := true, power := true, ink := true, host := true, serif := true, dx := true, prog := true, lig := true, sheen := true, vl := true }
  | .twinSnapRx _ _ _ _ _ _
    => { bl := true, ink := true, host := true, twin := true, serif := true, quill := true, ms := true, rt := true, prog := true, lig := true, sheen := true, vl := true }
  | .feedAtomic _
    => { serving with power := true, rt := true, dx := true, vl := true, load := true, mem := true }
  | .aonTick _ _ _
    => { draws := true, stem := true, bl := true, boot := true, power := true, ink := true, host := true, twin := true, hush := true, serif := true, quill := true, sheen := true, vl := true }
  | .cbRun _
    => { serving with bl := true, serif := true, quill := true, prog := true, vl := true, cb := true, mem := true }
  | .twinJournalRx _
    => { draws := true, bl := true, boot := true, ink := true, host := true, twin := true, serif := true, quill := true, ms := true, prog := true, lig := true, sheen := true, vl := true, sl := true }
  | .copybookDone _
    => { bl := true, power := true, ink := true, host := true, twin := true, serif := true, quill := true, ms := true, rt := true, dx := true, prog := true, lig := true, sheen := true, vl := true, cb := true }
  | .expRegRead _
    => { serving with stem := true, hush := true, dx := true, prog := true, sheen := true, vl := true, sl := true, cb := true }
  | .timedActionApply
    => { bl := true, boot := true, power := true, ink := true, host := true, twin := true, quill := true, ms := true, dx := true, prog := true, lig := true, sheen := true, vl := true, sl := true, resume := true, entry := true }
  | .sampleTick
    => { stem := true, bl := true, boot := true, power := true, ink := true, host := true, twin := true, hush := true, serif := true, quill := true, ms := true, dx := true, prog := true, lig := true, sheen := true, vl := true, sl := true, resume := true, entry := true }
  | .expRegWrite _
    => { serving with stem := true, bl := true, power := true, serif := true, quill := true, rt := true, dx := true, prog := true, lig := true, vl := true, sl := true, cb := true, mem := true }
  | .ready | .standbyEntryComplete | .wakeComplete _
    => { draws := true, bl := true, boot := true, power := true, ink := true, host := true, twin := true, serif := true, quill := true, ms := true, rt := true, feed := true, dx := true, prog := true, lig := true, sheen := true, vl := true, sl := true, resume := true, entry := true, mem := true }
  | .feedAccess _
    => { serving with stem := true, bl := true, power := true, hush := true, serif := true, quill := true, rt := true, dx := true, prog := true, lig := true, sheen := true, vl := true, sl := true, cb := true, load := true, mem := true }
  | .porNAssert
    => { serving with stem := true, bl := true, power := true, hush := true, serif := true, quill := true, ms := true, rt := true, life := true, dx := true, prog := true, lig := true, sheen := true, sl := true, cb := true, entry := true, load := true, mem := true }
  | .xoLoss
    => { stem := true, bl := true, boot := true, power := true, ink := true, host := true, twin := true, hush := true, serif := true, quill := true, ms := true, rt := true, life := true, feed := true, dx := true, prog := true, lig := true, sheen := true, vl := true, sl := true, cb := true, entry := true, sheets := true, load := true, mem := true }
  | .periodBoundary _
    => { serving with stem := true, bl := true, power := true, hush := true, serif := true, quill := true, ms := true, rt := true, life := true, dx := true, prog := true, lig := true, sheen := true, vl := true, sl := true, cb := true, resume := true, entry := true, load := true, mem := true }
  | .zeroisation
    => { serving with stem := true, bl := true, power := true, hush := true, serif := true, quill := true, ms := true, rt := true, life := true, dx := true, prog := true, lig := true, sheen := true, vl := true, sl := true, cb := true, resume := true, entry := true, load := true, flash := true, mem := true }

/-! ### A request as Scribe takes it (R176, R182, R189) -/

/-- The handle of the sheet that came with the request. -/
def sheetHandle (op : Nat) (r : Request) (s : State) : Option Nat := (claimSheet r (takenState op r s)).2.2.1

/-- The state when Scribe has taken the request and its sheet. -/
def claimed (op : Nat) (r : Request) (s : State) : State := (claimSheet r (takenState op r s)).2.2.2

/-- The request's sheet can be used: its client held it and its words can be read; SEAL.RUN may check one that cannot. -/
def sheetUsable (op : Nat) (r : Request) (s : State) : Bool :=
  (claimSheet r (takenState op r s)).1 || (op = 0x0D01 && (sheetHandle op r s).isSome)

/-- A sheet was free for the sheet bytes of a session's frame. -/
def sheetFound (op : Nat) (r : Request) (s : State) : Bool := (claimSheet r (takenState op r s)).2.1

/-- The bytes of the request's sheet. -/
def sheetBytes (op : Nat) (r : Request) (s : State) : Bytes := requestSheet (takenState op r s) r

/-- The request check as Scribe computes it. -/
def requestCheck (op : Nat) (r : Request) (s : State) : Word := requestCrc op r (sheetBytes op r s)

/-- What the sequence rule says of the request. -/
def verdict (op : Nat) (r : Request) (s : State) : SeqVerdict := seqVerdict (well s r.client) r.seq (requestCheck op r s)

/-- Scribe takes the request: its client exists and is bound, the engine is not HELD, the request waits or the client has the credit to
put one in its ring (R174), and while commands are served the pass has come to its Inkwell (R125). -/
abbrev Taken (r : Request) (s : State) : Prop :=
  r.client < 64 ∧ (well s r.client).bind ≠ .unbound ∧ s.power.mode ≠ .held ∧ ringable s r.client = true ∧
    (s.boot.inkBasic = true → itsTurn s r.client = true)

/-- The request reaches the sequence rule: Scribe takes it, and the opcode is served now. -/
abbrev Reaches (op : Nat) (r : Request) (s : State) : Prop := Taken r s ∧ admitted op s = true

/-- The context in which the command runs. -/
def context (op : Nat) (r : Request) (s : State) : Ctx := ctxOf r (well s r.client).role (sheetBytes op r s)

/-- The command that the checks and the execution take: a frame that does not fit has no lengths of its own (R198). -/
def taken (c : Cmd) (r : Request) (s : State) : Cmd := fitted (misfitWaits s r.client) c

/-- The state in which the command's checks are made: the client is no longer fresh. -/
def checked (op : Nat) (r : Request) (s : State) : State :=
  modWell r.client (fun w => { w with lastSeq := (r.seq + 65535) % 65536, fresh := false }) (claimed op r s)

/-- What the checks of R210 answer: none when all pass. -/
def checks (op : Nat) (c : Cmd) (r : Request) (s : State) : Option (Status × Bytes) :=
  check op (taken c r s) r (context op r s) (sheetUsable op r s) (checked op r s)

/-- What the command does: its effect and its answer, or the arming of a timed command. -/
def effect (op : Nat) (c : Cmd) (r : Request) (s : State) : Res := perform op (taken c r s) (context op r s) (checked op r s)

/-- The request is executed with success: it reaches the sequence rule and is next in order, every check passes, the command
succeeds, and a reply sheet, where it has one, finds a free sheet. -/
abbrev Accepted (op : Nat) (c : Cmd) (r : Request) (s : State) : Prop :=
  Reaches op r s ∧ verdict op r s = .execute ∧ sheetFound op r s = true ∧ checks op c r s = none ∧
    succeeded (effect op c r s).status = true ∧
    ((effect op c r s).wait = true ∨ (placeSheet r.client (effect op c r s).sheet (effect op c r s).st).isSome = true)

/-- The state when an executed command's reply has been written: the effect, LAST_SEQ, the reply with its data, reply sheet and
warnings in the cache and the ring, the request's sheet free again, what follows the reply, and a pair's journal. -/
def replied (op : Nat) (c : Cmd) (r : Request) (s : State) : State :=
  let q := effect op c r s
  match placeSheet r.client q.sheet q.st with
  | none => s
  | some (sh, s3) =>
    let l := warnList op q.warns
    journal op (context op r s) (if l.isEmpty then q.status else .okWarn) l
      (q.after (releaseSheet r.client (sheetHandle op r s)
        (deliverReply r.client (requestCheck op r s) l (replyOf op r.seq q.status q.data sh l) (advanceSeq r.client r.seq s3))))

/-- The state when a command whose reply waits is in execution: the effect, the entry in execution, and LAST_SEQ. -/
def started (op : Nat) (c : Cmd) (r : Request) (s : State) : State :=
  let q := effect op c r s
  let l := warnList op q.warns
  let s1 := { q.st with ink := { q.st.ink with running := q.st.ink.running ++
    [{ client := r.client, seq := r.seq, opcode := op, sheet := sheetHandle op r s, params := (context op r s).whole, warns := l }] } }
  advanceSeq r.client r.seq
    (modWell r.client (fun w => { w with cache := cachePut { seq := r.seq, crc := requestCheck op r s, reply := none } w.cache })
      (journal op (context op r s) q.status l s1))

/-- The state after an accepted request. -/
def served (op : Nat) (c : Cmd) (r : Request) (s : State) : State :=
  if (effect op c r s).wait then started op c r s else replied op c r s

/-- The state after a request that a check refuses: LAST_SEQ takes its number, the reply says why, its sheet is free, and nothing else. -/
def refused (op : Nat) (r : Request) (st : Status) (d : Bytes) (s : State) : State :=
  releaseSheet r.client (sheetHandle op r s)
    (deliverReply r.client (requestCheck op r s) [] (replyOf op r.seq st d none []) (advanceSeq r.client r.seq (checked op r s)))

/-! ### The commands of the Sprinile interface -/

/-- A command that a client requests: its opcode, its row of the opcode table, and its meaning. -/
structure CmdRow where
  op  : Nat
  row : Request → Instr
  cmd : Cmd

/-- The commands of SYS and LC (R714). -/
def sysRows : List CmdRow := [
  ⟨0x0101, .sysIdentityGet, cmdIdentityGet⟩,
  ⟨0x0102, .sysCapsGet, cmdCapsGet⟩,
  ⟨0x0110, .sysRoleSet, cmdRoleSet⟩,
  ⟨0x0111, .sysGrantGet, cmdGrantGet⟩,
  ⟨0x0112, .sysGrantSet, cmdGrantSet⟩,
  ⟨0x0120, .sysClockGet, cmdClockGet⟩,
  ⟨0x0121, .sysRateSet, cmdRateSet⟩,
  ⟨0x0122, .sysSsiRealign, cmdSsiRealign⟩,
  ⟨0x0130, .sysBootInfo, cmdBootInfo⟩,
  ⟨0x0131, .sysRestart, cmdRestart⟩,
  ⟨0x0132, .sysFwWrite, cmdFwWrite⟩,
  ⟨0x0133, .sysFwSelect, cmdFwSelect⟩,
  ⟨0x0134, .sysFwCommit, cmdFwCommit⟩,
  ⟨0x0135, .sysResumeSet, cmdResumeSet⟩,
  ⟨0x0136, .sysResumeSave, cmdResumeSave⟩,
  ⟨0x0140, .sysInkGet, cmdInkGet⟩,
  ⟨0x0141, .sysInkClose, cmdInkClose⟩,
  ⟨0x0150, .sysSubscribe, cmdSubscribe⟩,
  ⟨0x0151, .sysWarnGet, cmdWarnGet⟩,
  ⟨0x0152, .sysArmedGet, cmdArmedGet⟩,
  ⟨0x0153, .sysArmedCancel, cmdArmedCancel⟩,
  ⟨0x0160, .sysMemStatusGet, cmdMemStatusGet⟩,
  ⟨0x0161, .sysCartStatusGet, cmdCartStatusGet⟩,
  ⟨0x0170, .lcStatusGet, cmdLcStatusGet⟩,
  ⟨0x0171, .lcNonceGet, cmdLcNonceGet⟩,
  ⟨0x0172, .lcProvision, cmdLcProvision⟩,
  ⟨0x0173, .lcDeploy, cmdLcDeploy⟩,
  ⟨0x0174, .lcReturn, cmdLcReturn⟩,
  ⟨0x0175, .lcDebugUnlock, cmdLcDebugUnlock⟩,
  ⟨0x0176, .lcAttest, cmdLcAttest⟩,
  ⟨0x0190, .sysBoardGet, cmdBoardGet⟩,
  ⟨0x0191, .sysBoardSet, cmdBoardSet⟩,
  ⟨0x0192, .sysGpioConfig, cmdGpioConfig⟩,
  ⟨0x0193, .sysGpioGet, cmdGpioGet⟩,
  ⟨0x0194, .sysGpioSet, cmdGpioSet⟩,
  ⟨0x0195, .sysLtcConfig, cmdLtcConfig⟩,
  ⟨0x0196, .sysLtcStatusGet, cmdLtcStatusGet⟩,
  ⟨0x0197, .sysLinkGet, cmdLinkGet⟩]

/-- The commands of BL (R714). -/
def blRows : List CmdRow := [
  ⟨0x0201, .blStatusGet, cmdBlStatusGet⟩,
  ⟨0x0202, .blRefConfig, cmdBlRefConfig⟩,
  ⟨0x0203, .blSelect, cmdBlSelect⟩,
  ⟨0x0204, .blSteer, cmdBlSteer⟩,
  ⟨0x0205, .blPhaseStep, cmdBlPhaseStep⟩,
  ⟨0x0206, .blOutConfig, cmdBlOutConfig⟩,
  ⟨0x0207, .blPolicySet, cmdBlPolicySet⟩,
  ⟨0x0208, .blRefClear, cmdBlRefClear⟩]

/-- The commands of MODE (R714). -/
def modeRows : List CmdRow := [
  ⟨0x0301, .modeGet, cmdModeGet⟩,
  ⟨0x0302, .modeSet, cmdModeSet⟩,
  ⟨0x0303, .modeWakeConfig, cmdModeWakeConfig⟩]

/-- The commands of NET (R714). -/
def netRows : List CmdRow := [
  ⟨0x0401, .netPortConfig, cmdNetPortConfig⟩,
  ⟨0x0402, .netPortStatusGet, cmdNetPortStatusGet⟩,
  ⟨0x0403, .netPtpConfig, cmdNetPtpConfig⟩,
  ⟨0x0404, .netPtpStatusGet, cmdNetPtpStatusGet⟩,
  ⟨0x0405, .netQuillConfig, cmdNetQuillConfig⟩,
  ⟨0x0410, .netRxSet, cmdNetRxSet⟩,
  ⟨0x0411, .netRxGet, cmdNetRxGet⟩,
  ⟨0x0412, .netTxSet, cmdNetTxSet⟩,
  ⟨0x0413, .netTxGet, cmdNetTxGet⟩,
  ⟨0x0414, .netStatusGet, cmdNetStatusGet⟩,
  ⟨0x0420, .netNmosConfig, cmdNetNmosConfig⟩]

/-- The commands of SER (R714). -/
def serRows : List CmdRow := [
  ⟨0x0501, .serConfig, cmdSerConfig⟩,
  ⟨0x0502, .serConfigGet, cmdSerConfigGet⟩,
  ⟨0x0503, .serStatusGet, cmdSerStatusGet⟩,
  ⟨0x0504, .serCountersGet, cmdSerCountersGet⟩]

/-- The commands of LIG (R714). -/
def ligRows : List CmdRow := [
  ⟨0x0601, .ligRouteSet, cmdLigRouteSet⟩,
  ⟨0x0602, .ligRouteGet, cmdLigRouteGet⟩,
  ⟨0x0603, .ligSinkConfig, cmdLigSinkConfig⟩,
  ⟨0x0604, .ligGainSet, cmdLigGainSet⟩,
  ⟨0x0605, .ligFallback, cmdLigFallback⟩,
  ⟨0x0606, .ligPatchSet, cmdLigPatchSet⟩,
  ⟨0x0607, .ligStatusGet, cmdLigStatusGet⟩]

/-- The commands of INST, PROG and DX (R714). -/
def instRows : List CmdRow := [
  ⟨0x0701, .instCreate, cmdInstCreate⟩,
  ⟨0x0702, .instDelete, cmdInstDelete⟩,
  ⟨0x0703, .instSet, cmdInstSet⟩,
  ⟨0x0704, .instGet, cmdInstGet⟩,
  ⟨0x0705, .instList, cmdInstList⟩,
  ⟨0x0706, .instRename, cmdInstRename⟩,
  ⟨0x0707, .progList, cmdProgList⟩,
  ⟨0x0710, .instCoefSet, cmdInstCoefSet⟩,
  ⟨0x0711, .instCoefGet, cmdInstCoefGet⟩,
  ⟨0x0780, .dxLoadGet, cmdDxLoadGet⟩,
  ⟨0x0781, .dxNibGet, cmdDxNibGet⟩,
  ⟨0x0782, .dxConfig, cmdDxConfig⟩]

/-- The commands of SCENE, CUE and FOLIO (R714). -/
def sceneRows : List CmdRow := [
  ⟨0x0801, .sceneStore, cmdSceneStore⟩,
  ⟨0x0802, .sceneRecall, cmdSceneRecall⟩,
  ⟨0x0803, .sceneDelete, cmdSceneDelete⟩,
  ⟨0x0804, .sceneList, cmdSceneList⟩,
  ⟨0x0805, .sceneExport, cmdSceneExport⟩,
  ⟨0x0806, .sceneImport, cmdSceneImport⟩,
  ⟨0x0807, .sceneSafeSet, cmdSceneSafeSet⟩,
  ⟨0x0808, .sceneSafeGet, cmdSceneSafeGet⟩,
  ⟨0x0810, .cueConfig, cmdCueConfig⟩,
  ⟨0x0811, .cueMapSet, cmdCueMapSet⟩,
  ⟨0x0812, .cueMapGet, cmdCueMapGet⟩,
  ⟨0x0813, .cueStatusGet, cmdCueStatusGet⟩,
  ⟨0x0820, .folioMap, cmdFolioMap⟩,
  ⟨0x0821, .folioRead, cmdFolioRead⟩,
  ⟨0x0822, .folioWrite, cmdFolioWrite⟩]

/-- The commands of SHEEN (R714). -/
def sheenRows : List CmdRow := [
  ⟨0x0901, .sheenConfig, cmdSheenConfig⟩,
  ⟨0x0902, .sheenLoudReset, cmdSheenLoudReset⟩,
  ⟨0x0910, .sheenSetDefine, cmdSheenSetDefine⟩,
  ⟨0x0911, .sheenSetDelete, cmdSheenSetDelete⟩,
  ⟨0x0912, .sheenSetRead, cmdSheenSetRead⟩,
  ⟨0x0913, .sheenStatusGet, cmdSheenStatusGet⟩,
  ⟨0x0914, .sheenConfigGet, cmdSheenConfigGet⟩]

/-- The commands of HUSH (R714). -/
def hushRows : List CmdRow := [
  ⟨0x0A01, .hushStatusGet, cmdHushStatusGet⟩,
  ⟨0x0A02, .hushClear, cmdHushClear⟩,
  ⟨0x0A03, .hushConfig, cmdHushConfig⟩,
  ⟨0x0A04, .hushConfigGet, cmdHushConfigGet⟩]

/-- The commands of TWIN (R714). -/
def twinRows : List CmdRow := [
  ⟨0x0B01, .twinStatusGet, cmdTwinStatusGet⟩,
  ⟨0x0B02, .twinConfig, cmdTwinConfig⟩,
  ⟨0x0B03, .twinPromote, cmdTwinPromote⟩,
  ⟨0x0B04, .twinResync, cmdTwinResync⟩,
  ⟨0x0B05, .twinDissolve, cmdTwinDissolve⟩]

/-- The commands of MS, but for MS.JOIN and MS.FLOURISH, which first begin a message (R714). -/
def msRows : List CmdRow := [
  ⟨0x0C01, .msStatusGet, cmdMsStatusGet⟩,
  ⟨0x0C02, .msConfig, cmdMsConfig⟩,
  ⟨0x0C03, .msRosterSet, cmdMsRosterSet⟩,
  ⟨0x0C05, .msLeave, cmdMsLeave⟩,
  ⟨0x0C07, .msXbusSet, cmdMsXbusSet⟩,
  ⟨0x0C08, .msMembersGet, cmdMsMembersGet⟩]

/-- The commands of SEAL (R714). -/
def sealRows : List CmdRow := [
  ⟨0x0D01, .sealRun, cmdSealRun⟩,
  ⟨0x0D02, .sealStatusGet, cmdSealStatusGet⟩,
  ⟨0x0D03, .sealDigestGet, cmdSealDigestGet⟩,
  ⟨0x0D10, .sealRegionRun, cmdSealRegionRun⟩]

/-- The commands of RT, BT and CB (R714). -/
def rtRows : List CmdRow := [
  ⟨0x0E01, .rtStatusGet, cmdRtStatusGet⟩,
  ⟨0x0E02, .rtConfig, cmdRtConfig⟩,
  ⟨0x0E03, .rtNibTest, cmdRtNibTest⟩,
  ⟨0x0E04, .rtMigrate, cmdRtMigrate⟩,
  ⟨0x0E05, .rtShedSet, cmdRtShedSet⟩,
  ⟨0x0E06, .rtShedGet, cmdRtShedGet⟩,
  ⟨0x0E07, .rtRepairGet, cmdRtRepairGet⟩,
  ⟨0x0E08, .btStatusGet, cmdBtStatusGet⟩,
  ⟨0x0E18, .rtRowRetire, cmdRtRowRetire⟩,
  ⟨0x0E19, .btInject, cmdBtInject⟩,
  ⟨0x0E20, .cbList, cmdCbList⟩,
  ⟨0x0E21, .cbRun, cmdCbRun⟩,
  ⟨0x0E22, .cbAbort, cmdCbAbort⟩,
  ⟨0x0E23, .cbResultGet, cmdCbResultGet⟩]

/-- The commands of VL (R714). -/
def vlRows : List CmdRow := [
  ⟨0x0F01, .vlStatusGet, cmdVlStatusGet⟩,
  ⟨0x0F02, .vlRead, cmdVlRead⟩,
  ⟨0x0F03, .vlExport, cmdVlExport⟩,
  ⟨0x0F04, .vlSave, cmdVlSave⟩]

/-- The commands of EXP (R714). -/
def expRows : List CmdRow := [
  ⟨0x1001, .expRegRead, cmdRegRead⟩,
  ⟨0x1002, .expRegWrite, cmdRegWrite⟩]

/-- Every command of the Sprinile interface that is a row of the opcode table, but for MS.JOIN and MS.FLOURISH. -/
def sprinileRows : List CmdRow :=
  sysRows ++ blRows ++ modeRows ++ netRows ++ serRows ++ ligRows ++ instRows ++ sceneRows ++ sheenRows ++ hushRows ++ twinRows ++ msRows ++ 
    sealRows ++ rtRows ++ vlRows ++ expRows


/-! ### What the statements about the pair and the streams use -/

/-- A frame that the pair takes arrives: the engine is a partner and the frame is whole and of its pair (R480). -/
abbrev FrameIn (h : TwinHead) (s : State) : Prop := isPartner s = true ∧ frameOk h s = true

/-- The state when a frame of the pair has been counted (R480). -/
def frameCounted (s : State) : State := modTwin (fun w => { w with frames := w.frames + 1 }) s

/-- The request that the window of stream `n` with the entry `e` issues (R450). -/
def windowCtx (n : Nat) (e : Bytes) : Ctx := { client := 0xFC, seq := 0, role := 3, p := le 2 n ++ (padTo 64 e).drop 2 }

/-! ### The canonical form of the memories -/

/-- Every memory of the engine is in canonical form: the memories on the Feed map, the image load area and the flash. -/
abbrev MemoriesCanonical (s : State) : Prop :=
  tabWf (0 : Byte) s.feed.tcm = true ∧ tabWf (0 : Byte) s.feed.res = true ∧ tabWf (0 : Byte) s.feed.exch = true ∧ tabWf (0 : Byte) s.feed.barrel = true ∧
    tabWf (0 : Byte) s.feed.store = true ∧ tabWf (0 : Byte) s.feed.xmi = true ∧ tabWf (0 : Byte) s.ink.sheetMem = true ∧
    tabWf (0 : Byte) s.boot.loadArea = true ∧ tabWf (0xFF : Byte) s.boot.flash = true

end Sys2Proof.Machine
end

