-- ==== Sys2Proof/Certificates/Slice0/Obligations.lean ====
section
/-! DEFINITION. The statements for the provers. Each says in its docstring which rules of spec/ it formalises; a clause that rests on the
model's own choice names the log entry. -/

open Sys2Proof Sys2Proof.Machine

/-- A step takes the command at the front of the queue and runs it on the state with the rest of the queue: commands are executed one at a time, in order
(R176). -/
def Obligations.StepRunsFrontCommand : Prop :=
  ∀ (c : Instr) (rest : List Instr) (s : State), step { s with pending := c :: rest } = exec c { s with pending := rest }

/-- The model's choice of log 1: with no command waiting, a step changes nothing; what time alone brings about are commands of their own in the opcode
table. -/
def Obligations.EmptyQueueIdles : Prop :=
  ∀ s : State, s.pending = [] → step s = .next s

/-- For every state: a step that answers a next state leaves the variant that the fuses set as it is, and removes the command at the front of the queue
and no other, whatever that command does. -/
def Obligations.StepKeepsTheVariantAndTakesTheFront : Prop :=
  ∀ s t : State, step s = .next t → t.variant = s.variant ∧ t.pending = s.pending.tail

/-- The frame of every command: a command that answers a next state changes the parts of the state that `mayChange` lists for it, and nothing else. Among
the parts are the memories: the sheet pool, the image load area, the flash, and the memories of Feed; every byte of them is unchanged by a command
that `mayChange` does not list them for. -/
def Obligations.EveryCommandKeepsTheRest : Prop :=
  ∀ (c : Instr) (s t : State), exec c s = .next t → t.rest (mayChange c) = s.rest (mayChange c)

/-- At reset every memory of the engine is in the one form that stands for its contents: rising addresses, and no entry that reads as an unlisted address
does. -/
def Obligations.ResetMemoriesAreCanonical : Prop :=
  MemoriesCanonical State.reset

/-- From every state in which the memories are in canonical form (the sheet pool, the image load area, the flash, the TCM, Reservoir, the Exchange window,
the barrel memories, the Nib stores and XMI), every step that answers a next state leads to one in which they are, so that equal contents stay equal
states. -/
def Obligations.MemoriesStayCanonical : Prop :=
  ∀ s t : State, MemoriesCanonical s → step s = .next t → MemoriesCanonical t

/-- After reset Baseline is FREE with a steering word of 0 (R72), the host grants are ADMIN, ENGINEER and OPERATOR six times and ANON_ROLE is OBSERVER
(R222, R223), Inkwells 0 and 1 are bound to PCIe and HSPI and the others to none (R170), and no command waits (the queue is the model's). -/
def Obligations.ResetState : Prop :=
  (State.reset.bl.state = .free ∧ State.reset.bl.steer = 0 ∧ State.reset.ink.hostGrants = [5, 3, 2, 2, 2, 2, 2, 2] ∧ State.reset.ink.anonRole = 1 ∧ State.reset.pending = []) ∧
  ((well State.reset 0).bind = .pcie ∧ (well State.reset 1).bind = .hspi) ∧
  (∀ n, 2 ≤ n → (well State.reset n).bind = .unbound)

/-- A request whose client number lies beyond the 64 Inkwells (R170) is no request of this engine: every Sprinile command faults on it, and on no other
ground. -/
def Obligations.RequestsOfNoClientFault : Prop :=
  (∀ e ∈ sprinileRows, ∀ (r : Request) (s : State), 64 ≤ r.client → exec (e.row r) s = .fault .noClient) ∧
  (∀ e ∈ sprinileRows, ∀ (r : Request) (s : State), r.client < 64 → ∃ t, exec (e.row r) s = .next t)

/-- A request on an Inkwell that is bound to no transport changes nothing (R171), and neither does any request while the engine is held in reset. A
request that no slot of the ring may take is not taken: a host client without credit has DB_RANGE set in INK_ERR (R174), a session with 16 requests
unanswered waits (R199). While Scribe serves, a request that its pass has not come to is put in the ring and waits (R125). -/
def Obligations.UnboundAndHeldServeNothing : Prop :=
  (∀ e ∈ sprinileRows, ∀ (r : Request) (s : State), r.client < 64 → (well s r.client).bind = .unbound → exec (e.row r) s = .next s) ∧
  (∀ e ∈ sprinileRows, ∀ (r : Request) (s : State), r.client < 64 → s.power.mode = .held → exec (e.row r) s = .next s) ∧
  (∀ e ∈ sprinileRows, ∀ (r : Request) (s : State), r.client < 64 → (well s r.client).bind ≠ .unbound → s.power.mode ≠ .held → ringable s r.client = false → exec (e.row r) s = .next (if (well s r.client).bind = .net then s else inkErr r.client 0 s)) ∧
  (∀ e ∈ sprinileRows, ∀ (r : Request) (s : State), r.client < 64 → (well s r.client).bind ≠ .unbound → s.power.mode ≠ .held → ringable s r.client = true → s.boot.inkBasic = true → itsTurn s r.client = false → exec (e.row r) s = .next (ringNow e.op r s))

/-- While the Inkwell hardware or Scribe does not serve the command (R120, R122): the request is taken and answered NOT_READY with its own sequence number
and RETRY_MS, equal to HOST_STATUS.RETRY_MS; its sheet stays held (R121), and nothing but the Inkwells, their signals, RETRY_MS and the counter of
free values changes. -/
def Obligations.EarlyRequestsAreNotReady : Prop :=
  (∀ e ∈ sprinileRows, ∀ (r : Request) (s : State), Taken r s → admitted e.op s = false → ∃ (ms : Nat) (t : State), 10 ≤ ms ∧ exec (e.row r) s = .next t ∧ t = writeReply r.client { opcode := e.op, seq := r.seq, status := .notReady, data := le 2 ms } { takenState e.op r s with draws := s.draws + 1, boot := { s.boot with retryMs := ms } } ∧ t.boot.retryMs = ms ∧ t.ink.holders = s.ink.holders ∧ t.rest { draws := true, boot := true, ink := true, host := true } = s.rest { draws := true, boot := true, ink := true, host := true }) ∧
  (∀ (op : Nat) (s : State), s.boot.inkBasic = false → admitted op s = false)

/-- A request that the sequence rule executes and that a check refuses, that finds no sheet for its frame, or whose command itself fails, is answered with
that status and its data, takes LAST_SEQ and frees its sheet, and changes nothing but the Inkwells, their signals, the counts of Feed and the counter
of free values (R210: the first check that fails decides the reply; the engine is left unchanged). -/
def Obligations.RefusedRequestsChangeNothing : Prop :=
  (∀ e ∈ sprinileRows, ∀ (r : Request) (s : State), ∀ (st : Status) (d : Bytes), Reaches e.op r s → verdict e.op r s = .execute → sheetFound e.op r s = true → checks e.op e.cmd r s = some (st, d) → exec (e.row r) s = .next (refused e.op r st d s)) ∧
  (∀ e ∈ sprinileRows, ∀ (r : Request) (s : State), Reaches e.op r s → verdict e.op r s = .execute → sheetFound e.op r s = false → exec (e.row r) s = .next (refused e.op r .poolEmpty [] s)) ∧
  (∀ e ∈ sprinileRows, ∀ (r : Request) (s : State), Reaches e.op r s → verdict e.op r s = .execute → sheetFound e.op r s = true → checks e.op e.cmd r s = none → succeeded (effect e.op e.cmd r s).status = false → (effect e.op e.cmd r s).keep = false → exec (e.row r) s = .next (refused e.op r (effect e.op e.cmd r s).status (effect e.op e.cmd r s).data s)) ∧
  (∀ (op : Nat) (r : Request) (st : Status) (d : Bytes) (s : State), (refused op r st d s).rest { draws := true, ink := true, host := true, feed := true, sheets := true } = s.rest { draws := true, ink := true, host := true, feed := true, sheets := true })

/-- A request that the sequence rule does not execute (R190): a resend whose reply is cached is answered with it and the DUPLICATE flag (SHEET_GONE where
the client gave the reply sheet away as this request's sheet), one still in execution with DUPLICATE and no data, every other with SEQ_CONFLICT; its
sheet is freed. Writing a reply appends it to the ring of its client and counts it; it leaves the cache, LAST_SEQ and everything else but the
transport's signal as they are (R191). -/
def Obligations.ResentRequestsAreNotExecuted : Prop :=
  (∀ e ∈ sprinileRows, ∀ (r : Request) (s : State), ∀ q : Reply, Reaches e.op r s → verdict e.op r s = .resend q → exec (e.row r) s = .next (releaseSheet r.client (sheetHandle e.op r s) (writeReply r.client (resent (sheetHandle e.op r s) q) (claimed e.op r s)))) ∧
  (∀ e ∈ sprinileRows, ∀ (r : Request) (s : State), Reaches e.op r s → verdict e.op r s = .running → exec (e.row r) s = .next (releaseSheet r.client (sheetHandle e.op r s) (writeReply r.client { opcode := e.op, seq := r.seq, status := .duplicate, dup := true } (claimed e.op r s)))) ∧
  (∀ e ∈ sprinileRows, ∀ (r : Request) (s : State), Reaches e.op r s → verdict e.op r s = .conflict → exec (e.row r) s = .next (releaseSheet r.client (sheetHandle e.op r s) (writeReply r.client { opcode := e.op, seq := r.seq, status := .seqConflict } (claimed e.op r s)))) ∧
  (∀ (n : Nat) (q : Reply) (s : State), n < 64 → (well s n).bind ≠ .unbound → ∃ h, writeReply n q s = { setWell n { well s n with replies := (well s n).replies ++ [q], repSlots := tabPut none (well s n).repSlots ((well s n).repProd % 16) (some q), repProd := ((well s n).repProd + 1) % 65536, dups := (well s n).dups + (if q.dup then 1 else 0), conflicts := (well s n).conflicts + (if q.status = .seqConflict then 1 else 0), notReady := (well s n).notReady + (if q.status = .notReady then 1 else 0) } s with host := h })

/-- A request whose opcode is not in the table of R714 and that the sequence rule executes is answered BAD_OPCODE, or BAD_LENGTH where its header is
malformed, which is checked first (R210); it has no other effect. -/
def Obligations.UnknownOpcodesAreRefused : Prop :=
  ∀ (op : Nat) (r : Request) (s : State), (opRow op).isSome = false → Reaches op r s → verdict op r s = .execute → sheetFound op r s = true → exec (.unknownOpcodeRequest op r) s = .next (refused op r (if 224 < r.length ∨ 4096 < r.sheetLen ∨ r.rsv12 ≠ 0 ∨ r.rsv24 ≠ 0 ∨ r.flags / 8 ≠ 0 then .badLength else .badOpcode) [] s)

/-- The commands of SYS and LC (R714). A request that is accepted (it reaches the sequence rule, is next in order, passes every check of R210, succeeds,
and finds a sheet for its reply) completes: the next state is the command's effect with its reply, or, for a command whose reply waits, its effect
with the command in execution. -/
def Obligations.SystemCommandsComplete : Prop :=
  ∀ e ∈ sysRows, ∀ (r : Request) (s : State), Accepted e.op e.cmd r s → exec (e.row r) s = .next (served e.op e.cmd r s)

/-- The commands of BL and MODE (R714). A request that is accepted (it reaches the sequence rule, is next in order, passes every check of R210, succeeds,
and finds a sheet for its reply) completes: the next state is the command's effect with its reply, or, for a command whose reply waits, its effect
with the command in execution. -/
def Obligations.ClockAndModeCommandsComplete : Prop :=
  (∀ e ∈ blRows, ∀ (r : Request) (s : State), Accepted e.op e.cmd r s → exec (e.row r) s = .next (served e.op e.cmd r s)) ∧
  (∀ e ∈ modeRows, ∀ (r : Request) (s : State), Accepted e.op e.cmd r s → exec (e.row r) s = .next (served e.op e.cmd r s))

/-- The commands of NET and SER (R714). A request that is accepted (it reaches the sequence rule, is next in order, passes every check of R210, succeeds,
and finds a sheet for its reply) completes: the next state is the command's effect with its reply, or, for a command whose reply waits, its effect
with the command in execution. -/
def Obligations.NetworkCommandsComplete : Prop :=
  (∀ e ∈ netRows, ∀ (r : Request) (s : State), Accepted e.op e.cmd r s → exec (e.row r) s = .next (served e.op e.cmd r s)) ∧
  (∀ e ∈ serRows, ∀ (r : Request) (s : State), Accepted e.op e.cmd r s → exec (e.row r) s = .next (served e.op e.cmd r s))

/-- The commands of LIG, INST, PROG and DX (R714). A request that is accepted (it reaches the sequence rule, is next in order, passes every check of R210,
succeeds, and finds a sheet for its reply) completes: the next state is the command's effect with its reply, or, for a command whose reply waits, its
effect with the command in execution. -/
def Obligations.LigatureCommandsComplete : Prop :=
  (∀ e ∈ ligRows, ∀ (r : Request) (s : State), Accepted e.op e.cmd r s → exec (e.row r) s = .next (served e.op e.cmd r s)) ∧
  (∀ e ∈ instRows, ∀ (r : Request) (s : State), Accepted e.op e.cmd r s → exec (e.row r) s = .next (served e.op e.cmd r s))

/-- The commands of SCENE, CUE and FOLIO (R714). A request that is accepted (it reaches the sequence rule, is next in order, passes every check of R210,
succeeds, and finds a sheet for its reply) completes: the next state is the command's effect with its reply, or, for a command whose reply waits, its
effect with the command in execution. -/
def Obligations.SceneCommandsComplete : Prop :=
  ∀ e ∈ sceneRows, ∀ (r : Request) (s : State), Accepted e.op e.cmd r s → exec (e.row r) s = .next (served e.op e.cmd r s)

/-- The commands of SHEEN, HUSH and TWIN (R714). A request that is accepted (it reaches the sequence rule, is next in order, passes every check of R210,
succeeds, and finds a sheet for its reply) completes: the next state is the command's effect with its reply, or, for a command whose reply waits, its
effect with the command in execution. -/
def Obligations.MonitorCommandsComplete : Prop :=
  (∀ e ∈ sheenRows, ∀ (r : Request) (s : State), Accepted e.op e.cmd r s → exec (e.row r) s = .next (served e.op e.cmd r s)) ∧
  (∀ e ∈ hushRows, ∀ (r : Request) (s : State), Accepted e.op e.cmd r s → exec (e.row r) s = .next (served e.op e.cmd r s)) ∧
  (∀ e ∈ twinRows, ∀ (r : Request) (s : State), Accepted e.op e.cmd r s → exec (e.row r) s = .next (served e.op e.cmd r s))

/-- The commands of MS (R714); MS.JOIN and MS.FLOURISH first begin a message. A request that is accepted (it reaches the sequence rule, is next in order,
passes every check of R210, succeeds, and finds a sheet for its reply) completes: the next state is the command's effect with its reply, or, for a
command whose reply waits, its effect with the command in execution. -/
def Obligations.ManuscriptCommandsComplete : Prop :=
  (∀ e ∈ msRows, ∀ (r : Request) (s : State), Accepted e.op e.cmd r s → exec (e.row r) s = .next (served e.op e.cmd r s)) ∧
  (∀ (r : Request) (s : State), Accepted 0x0C04 cmdMsJoin r (msBegin s) → exec (.msJoin r) s = .next (served 0x0C04 cmdMsJoin r (msBegin s))) ∧
  (∀ (r : Request) (s : State), Accepted 0x0C06 cmdMsFlourish r (msBegin s) → exec (.msFlourish r) s = .next (served 0x0C06 cmdMsFlourish r (msBegin s)))

/-- The commands of SEAL, RT, BT, CB, VL and EXP (R714). A request that is accepted (it reaches the sequence rule, is next in order, passes every check of
R210, succeeds, and finds a sheet for its reply) completes: the next state is the command's effect with its reply, or, for a command whose reply
waits, its effect with the command in execution. -/
def Obligations.MaintenanceCommandsComplete : Prop :=
  (∀ e ∈ sealRows, ∀ (r : Request) (s : State), Accepted e.op e.cmd r s → exec (e.row r) s = .next (served e.op e.cmd r s)) ∧
  (∀ e ∈ rtRows, ∀ (r : Request) (s : State), Accepted e.op e.cmd r s → exec (e.row r) s = .next (served e.op e.cmd r s)) ∧
  (∀ e ∈ vlRows, ∀ (r : Request) (s : State), Accepted e.op e.cmd r s → exec (e.row r) s = .next (served e.op e.cmd r s)) ∧
  (∀ e ∈ expRows, ∀ (r : Request) (s : State), Accepted e.op e.cmd r s → exec (e.row r) s = .next (served e.op e.cmd r s))

/-- R174: a DOORBELL write of v is accepted if (v − REQ_PROD) mod 65,536 lies in 1 to 16 and (v − REP_CONS) mod 65,536 is at most 16, and then sets
REQ_PROD to v and takes the new requests, latches the wake cause of a doorbell, and while the Inkwells are not served has them answered NOT_READY; any
other is discarded and sets INK_ERR.DB_RANGE (bit 0). -/
def Obligations.DoorbellRange : Prop :=
  (∀ (via : Via) (n v : Nat) (heads : List Head) (s : State), reach via s = true → boundTo via n s = true → v < 65536 → 1 ≤ (v + 65536 - (well s n).reqProd) % 65536 → (v + 65536 - (well s n).reqProd) % 65536 ≤ 16 → (v + 65536 - (well s n).repCons) % 65536 ≤ 16 → ∀ t : State, t = latchCause 0 (setWell n { well s n with reqProd := v, waiting := (well s n).waiting ++ (List.range ((v + 65536 - (well s n).reqProd) % 65536)).map (fun i => { heads.getD i {} with misfit := false }) } (access via s)) → exec (.doorbell via n v heads) s = .next (if s.boot.inkBasic then t else answerAll n t)) ∧
  (∀ (via : Via) (n v : Nat) (heads : List Head) (s : State), reach via s = true → boundTo via n s = true → v < 65536 → ((v + 65536 - (well s n).reqProd) % 65536 = 0 ∨ 16 < (v + 65536 - (well s n).reqProd) % 65536 ∨ 16 < (v + 65536 - (well s n).repCons) % 65536) → exec (.doorbell via n v heads) s = .next (inkErr n 0 (access via s))) ∧
  (∀ (n i : Nat) (s : State), n < 64 → well (inkErr n i s) n = { well s n with err := setBit (well s n).err i })

/-- R178: a write to REP_CONS or EVT_CONS is accepted if it moves the index forward by no more than the number of unread records, which are then read; any
other is discarded and sets INK_ERR.CONS_RANGE (bit 2). -/
def Obligations.ConsumerIndexes : Prop :=
  (∀ (via : Via) (n v k : Nat) (s : State), reach via s = true → boundTo via n s = true → k = (v % 65536 + 65536 - (well s n).repCons) % 65536 → k ≤ (well s n).replies.length → exec (.repConsWrite via n v) s = .next (setWell n { well s n with repCons := v % 65536, replies := (well s n).replies.drop k } (access via s))) ∧
  (∀ (via : Via) (n v : Nat) (s : State), reach via s = true → boundTo via n s = true → (well s n).replies.length < (v % 65536 + 65536 - (well s n).repCons) % 65536 → exec (.repConsWrite via n v) s = .next (inkErr n 2 (access via s))) ∧
  (∀ (via : Via) (n v k : Nat) (s : State), reach via s = true → boundTo via n s = true → k = (v % 65536 + 65536 - (well s n).evtCons) % 65536 → k ≤ (well s n).events.length → exec (.evtConsWrite via n v) s = .next (setWell n { well s n with evtCons := v % 65536, events := (well s n).events.drop k } (access via s))) ∧
  (∀ (via : Via) (n v : Nat) (s : State), reach via s = true → boundTo via n s = true → (well s n).events.length < (v % 65536 + 65536 - (well s n).evtCons) % 65536 → exec (.evtConsWrite via n v) s = .next (inkErr n 2 (access via s)))

/-- R206: OPEN binds an unbound Inkwell from 2 to 7 to the transport, CLOSE frees the sheets of one bound to the transport and unbinds it (its commands in
execution complete without a reply: the model's choice, log 104), RESYNC makes the client of one bound to the transport fresh; an OPEN of a bound
Inkwell, and OPEN and CLOSE of Inkwells 0 and 1, are discarded, as is what another transport asks. -/
def Obligations.InkwellControl : Prop :=
  (∀ (via : Via) (n : Nat) (s : State), reach via s = true → openable n s = true → exec (.inkCtrlOpen via n) s = .next (setWell n { bind := bindOf via, role := s.ink.hostGrants.getD n 0, err := (well s n).err } (access via s))) ∧
  (∀ (via : Via) (n : Nat) (s : State), reach via s = true → boundTo via n s = true → 2 ≤ n → exec (.inkCtrlClose via n) s = .next (dropRunning n (setWell n {} (freeAllSheets n (access via s))))) ∧
  (∀ (via : Via) (n : Nat) (s : State), reach via s = true → boundTo via n s = true → exec (.inkCtrlResync via n) s = .next (makeFresh n (access via s))) ∧
  (∀ (via : Via) (n : Nat) (s : State), reach via s = true → ((well s n).bind ≠ .unbound ∨ n < 2) → exec (.inkCtrlOpen via n) s = .next (access via s)) ∧
  (∀ (via : Via) (n : Nat) (s : State), reach via s = true → (boundTo via n s = false ∨ n < 2) → exec (.inkCtrlClose via n) s = .next (access via s)) ∧
  (∀ (via : Via) (n : Nat) (s : State), reach via s = true → boundTo via n s = false → exec (.inkCtrlResync via n) s = .next (access via s))

/-- R207: a read of SHEET_ALLOC for a client whose Inkwell is not bound to the accessing transport returns zero with EMPTY (bit 15) set, and a write of
SHEET_FREE for one is discarded; neither changes anything (the word read is the model's `allocRead`). -/
def Obligations.ForeignSheetAccesses : Prop :=
  (∀ (via : Via) (n : Nat) (s : State), reach via s = true → boundTo via n s = false → exec (.sheetAlloc [(via, n)]) s = .next (setAllocRead n 0x8000 (access via s))) ∧
  (∀ (via : Via) (n h : Nat) (s : State), reach via s = true → boundTo via n s = false → exec (.sheetFree via n h) s = .next (access via s))

/-- R134: a write of RESET_CAUSE by a client that holds ADMIN clears the bits written as one; a write by any other client is ignored. -/
def Obligations.ResetCauseNeedsAdmin : Prop :=
  (∀ (via : Via) (w : Word) (s : State), reach via s = true → (well s (match via with | .pcie => 0 | .hspi => 1)).role = 5 → exec (.resetCauseWrite via w) s = .next (modBoot (fun b => { b with resetCause := w1c b.resetCause (w.toNat % 512) }) (access via s))) ∧
  (∀ (via : Via) (w : Word) (s : State), reach via s = true → (well s (match via with | .pcie => 0 | .hspi => 1)).role ≠ 5 → exec (.resetCauseWrite via w) s = .next (access via s))

/-- R552: a read of an empty Cartridge answers at once a word with V 0 and every other field 0, and removes nothing: no other Cartridge and nothing else
of the state changes. -/
def Obligations.EmptyCartridgeRead : Prop :=
  ∀ (n : Nat) (single bad : Bool) (s : State), cartPresent s.variant n = true → (cartAt s n).words = [] → exec (.cartridgeRead n single bad) s = .next (modCart n (fun c => { c with out := { data := [], v := false, e := false, p := false, len := 0 } }) s)

/-- R549: an atomic on a word of the Exchange window whose write cycle meets a write of port 0 to that word answers the old value with WRITE_COLLIDED and
leaves the memory as port 0 wrote it: each byte of the word reads as port 0's, every other byte of the map as before. -/
def Obligations.CollidingAtomic : Prop :=
  ∀ (q : FeedAtomic) (v : Nat) (s : State), q.master < 10 → q.kind ≤ 2 → regionOf s q.addr = some .exch → permitted s q.master true .exch q.addr = true → q.addr % 8 = 0 → poisoned s q.addr = false → q.uncorr = false → q.collide = some v → ∃ t, exec (.feedAtomic q) s = .next t ∧ t.feed.resp = 4 ∧ t.feed.data = memBytes s q.addr 8 ∧ ∀ a, memByte t a = memByte (portZero (q.addr / 8) v s) a

/-- R228: a SYS.GRANT_SET that passes the checks and would leave no host or certificate entry at ADMIN is answered BAD_PARAM, and the grants stay as they
are. -/
def Obligations.SomeAdminRemains : Prop :=
  (∀ (r : Request) (s t : State), Reaches 0x0112 r s → verdict 0x0112 r s = .execute → sheetFound 0x0112 r s = true → checks 0x0112 cmdGrantSet r s = none → grantWrite (u8 (context 0x0112 r s).p 0) (u8 (context 0x0112 r s).p 1) (if u8 (context 0x0112 r s).p 0 = 0 then u8 (context 0x0112 r s).p 4 else ofLe (slice (context 0x0112 r s).p 4 32)) (checked 0x0112 r s) = some t → someAdmin t = false → exec (.sysGrantSet r) s = .next (refused 0x0112 r .badParam [] s)) ∧
  (∀ (r : Request) (s : State), (refused 0x0112 r .badParam [] s).ink.hostGrants = s.ink.hostGrants ∧ (refused 0x0112 r .badParam [] s).ink.certs = s.ink.certs ∧ (refused 0x0112 r .badParam [] s).ink.anonRole = s.ink.anonRole)

/-- R389, R646: writes to the register blocks of Hush (10) and Vellum (7) are discarded, whatever the offset and the word; so are those to the Life cycle
and keys block (14), and no register write changes the lifecycle (of R629 the part about register writes). -/
def Obligations.ReadOnlyBlocks : Prop :=
  (∀ (o w : Nat) (s : State), writeReg 10 o w s = s ∧ writeReg 7 o w s = s ∧ writeReg 14 o w s = s) ∧
  (∀ (i o w : Nat) (s : State), (writeReg i o w s).life = s.life)

/-- Accesses to the host register page: a transport that reaches the engine has its access carried out, a write of one word by the access code of its
register, one of another size only setting HOST_ERR; a read of WAKE_CAUSE returns it. Rules: R4, R115, R161, R651, R653, R658. -/
def Obligations.HostRegisterAccessesComplete : Prop :=
  (∀ (via : Via) (off : Nat) (data : Bytes) (s : State), reach via s = true → off < 0x100000 → off % 4 = 0 → data.length = 4 → exec (.registerWrite via off data) s = .next (pageWrite via off (u32 data 0) (access via s))) ∧
  (∀ (via : Via) (off : Nat) (data : Bytes) (s : State), reach via s = true → off < 0x100000 → (off % 4 ≠ 0 ∨ data.length ≠ 4) → exec (.registerWrite via off data) s = .next (setHostErr 0 (access via s))) ∧
  (∀ (via : Via) (off : Nat) (data : Bytes) (s : State), reach via s = true → 0x100000 ≤ off → off < 0x500000 → inkAccess via true off data.length = true → exec (.registerWrite via off data) s = .next (inkWrite via ((off - 0x100000) / 65536) data.length (off % 65536) data (access via s))) ∧
  (∀ (via : Via) (s : State), reach via s = true → s.boot.stage = .waitHost → exec (.bootCtrlGo via) s = .next (trySource 2 true (access via s))) ∧
  (∀ (s : State), reach .hspi s = true → exec (.wakeCauseRead .hspi) s = .next (regRead (wakeCauseWord s) s)) ∧
  (∀ (s : State), reach .pcie s = true → exec (.wakeCauseRead .pcie) s = .next (regRead (wakeCauseWord s) (settleWakePin (modPower (fun p => { p with hostRead := true }) (access .pcie s)))))

/-- The sheet pool: a read of SHEET_ALLOC by a bound client allocates; a doorbell of an unbound Inkwell of a local transport sets INK_ERR bit 1;
SHEET_FREE frees a sheet that the client holds and otherwise sets a bit of INK_ERR; a write to the window reaches a sheet held by a local client, sets
WR_REJ for another, and fills the load area while the boot ROM runs. Rules: R174, R184, R186, R207, R651, R653, R658. -/
def Obligations.SheetPoolAccessesComplete : Prop :=
  (∀ (via : Via) (n : Nat) (s : State), reach via s = true → boundTo via n s = true → exec (.sheetAlloc [(via, n)]) s = .next (allocFor n (access via s))) ∧
  (∀ (via : Via) (n h : Nat) (s : State), reach via s = true → boundTo via n s = true → holderOf s (h % 2048) = .client n → exec (.sheetFree via n h) s = .next (freeSheet n (h % 2048) (access via s))) ∧
  (∀ (via : Via) (n h : Nat) (s : State), reach via s = true → boundTo via n s = true → holderOf s (h % 2048) ≠ .client n → exec (.sheetFree via n h) s = .next (inkErr n 3 (access via s))) ∧
  (∀ (via : Via) (off : Nat) (data : Bytes) (s : State), reach via s = true → memoriesHeld s = false → romRuns s = false → off < 0x800000 → off % 4096 + data.length ≤ 4096 → data ≠ [] → localHolder s (off / 4096) = true → exec (.bar2Write via off data) s = .next (poolWrite (match via with | .pcie => 4 | .hspi => 5) off data (access via s))) ∧
  (∀ (via : Via) (off : Nat) (data : Bytes) (s : State), reach via s = true → memoriesHeld s = false → romRuns s = false → off < 0x800000 → off % 4096 + data.length ≤ 4096 → data ≠ [] → localHolder s (off / 4096) = false → exec (.bar2Write via off data) s = .next ({ access via s with ink := { s.ink with wrRej := true } })) ∧
  (∀ (via : Via) (off : Nat) (data : Bytes) (s : State), reach via s = true → memoriesHeld s = false → romRuns s = true → off < 0x801000 → exec (.bar2Write via off data) s = .next ({ access via s with boot := { s.boot with loadArea := memPut 0 s.boot.loadArea off (data.take (0x801000 - off)) } })) ∧
  (∀ (via : Via) (n v : Nat) (heads : List Head) (s : State), reach via s = true → openable n s = true → exec (.doorbell via n v heads) s = .next (inkErr n 1 (access via s)))

/-- The HSPI target: a WRITE that is well formed is taken into the buffer and its commit carries it out; a READ returns the data of its units, or none
when it is late or misaligned; STATUS shows WR_BUSY, ERR and SERVING; a malformed WRITE or an unknown command sets bit 3 of HOST_ERR, a WRITE while
the buffer is busy bit 1. Rules: R658, R659, R660, R661. -/
def Obligations.HspiTransfersComplete : Prop :=
  (∀ (a : Nat) (b : Bytes) (s : State), s.host.hspiUp = true → s.host.hspiBuf = none → hspiOk a b.length = true → exec (.hspiWrite a b) s = .next (modHost (fun h => { h with hspiBuf := some (a, b) }) s)) ∧
  (∀ (a : Nat) (b : Bytes) (s : State), s.host.hspiUp = true → s.host.hspiBuf.isSome = true → exec (.hspiWrite a b) s = .next (setHostErr 1 s)) ∧
  (∀ (a : Nat) (b : Bytes) (s : State), s.host.hspiUp = true → s.host.hspiBuf = none → hspiOk a b.length = false → exec (.hspiWrite a b) s = .next (setHostErr 3 s)) ∧
  (∀ (a : Nat) (b : Bytes) (s : State), s.host.hspiBuf = some (a, b) → exec (.hspiWriteCommit) s = .next (hspiStore a b (modHost (fun h => { h with hspiBuf := none }) s))) ∧
  (∀ (a n : Nat) (s : State), s.host.hspiUp = true → a % 4 = 0 → exec (.hspiRead a n true) s = .next (hspiDrive ((hspiUnits 129 a n (hspiCommit s)).1.take n) (hspiUnits 129 a n (hspiCommit s)).2)) ∧
  (∀ (a n : Nat) (s : State), s.host.hspiUp = true → a % 4 = 0 → exec (.hspiRead a n false) s = .next (hspiDrive [] (setHostErr 2 (hspiCommit s)))) ∧
  (∀ (a n : Nat) (onTime : Bool) (s : State), s.host.hspiUp = true → a % 4 ≠ 0 → exec (.hspiRead a n onTime) s = .next (hspiDrive [] (setHostErr 3 (hspiCommit s)))) ∧
  (∀ (s : State), s.host.hspiUp = true → exec (.hspiStatus) s = .next (hspiDrive (le 1 (b2n s.host.hspiBuf.isSome + 2 * b2n (s.host.hostErr ≠ 0) + 4 * b2n s.boot.inkBasic)) s)) ∧
  (∀ (s : State), s.host.hspiUp = true → exec (.hspiUnknownCommand) s = .next (setHostErr 3 s))

/-- The board interfaces: the I2C target is read and BMC_CTRL written, with its power-fail warning; a GPIO input edge with EVENT is announced; the set
point moves in steps of at most 10 mV and a fault is retried; the temperature is taken with its alert. Rules: R102, R104, R667, R669, R671, R672,
R673, R674. -/
def Obligations.BoardPinsComplete : Prop :=
  (∀ (data : Bytes) (s : State), i2cUp s = true → data ≠ [] → exec (.i2cWrite 0x28 data) s = .next (bmcWrite (bit (u8 data 0) 0) s)) ∧
  (∀ (ptr n : Nat) (x : Bytes) (s : State), i2cUp s = true → x = i2cBytes s ptr n → ∃ t, exec (.i2cRead ptr n) s = .next t ∧ t.host.i2cOut = x ∧ t.power = s.power ∧ t.ink = s.ink) ∧
  (∀ (on : Bool) (s : State), i2cUp s = true → exec (.bmcCtrlWrite on) s = .next (judgeWarning (modHost (fun h => { h with bmcWarn := on }) s))) ∧
  (∀ (pin : Nat) (level : Bool) (s : State), s.power.mode ≠ .held → pin < 16 → bit s.host.pins pin ≠ level → (gpioPin s pin).func = 0 → (gpioPin s pin).event = true → exec (.gpioEdge pin level) s = .next (announceGpio (modHost (fun h => { h with gpioAcc := setBit h.gpioAcc pin }) (modHost (fun h => { h with pins := putBit h.pins pin level }) s)))) ∧
  (∀ (pin : Nat) (level : Bool) (s : State), s.power.mode ≠ .held → pin < 16 → bit s.host.pins pin ≠ level → ((gpioPin s pin).func ≠ 0 ∨ (gpioPin s pin).event = false) → exec (.gpioEdge pin level) s = .next (modHost (fun h => { h with pins := putBit h.pins pin level }) s)) ∧
  (∀ (ack : Bool) (mv : Nat) (s : State), avsEn s = true → s.power.mode ≠ .held → s.host.avs.setMv < avsWant s → exec (.avsStep ack mv) s = .next (avsRequest (min (avsWant s) (s.host.avs.setMv + 10)) ack mv s)) ∧
  (∀ (ack : Bool) (mv : Nat) (s : State), avsEn s = true → s.power.mode ≠ .held → avsWant s < s.host.avs.setMv → s.host.avs.fault = false → exec (.avsStep ack mv) s = .next (avsRequest (max (avsWant s) (s.host.avs.setMv - 10)) ack mv s)) ∧
  (∀ (ack : Bool) (mv : Nat) (s : State), avsEn s = true → s.power.mode ≠ .held → s.host.avs.fault = true → s.host.avs.faultMs + 10 ≤ s.stem.ms → exec (.avsRetry ack mv) s = .next (avsRequest s.host.avs.faultReq ack mv s)) ∧
  (∀ (temp : Int) (s : State), s.power.mode ≠ .held → exec (.tempAlert temp) s = .next (takeTemp temp s)) ∧
  (∀ (s : State), s.power.mode ≠ .held → s.host.bmcWarn = false → (failPin s).isSome = true → s.boot.pwrFail = false → exec (.pwrFailAssert) s = .next (warningAsserts (modHost (fun h => { h with pwrLow := true }) s))) ∧
  (∀ (s : State), s.power.mode ≠ .held → s.host.bmcWarn = false → s.boot.pwrFail = true → exec (.pwrFailDeassert) s = .next ({ modHost (fun h => { h with pwrLow := false }) s with boot := { s.boot with pwrFail := false } })) ∧
  (∀ (s : State), 2 ≤ s.host.lowRun → exec (.pwrFailNFilter) s = .next (takeFailPin true s)) ∧
  (∀ (s : State), s.host.lowRun < 2 → 10 ≤ s.host.highRun → exec (.pwrFailNFilter) s = .next (takeFailPin false s))

/-- The PCIe endpoint: PERST# and a surprise link loss reset the link, its configuration space and MSI-X, and are counted; a link trains at a speed and
width that the board allows; the power states, PME and L1 change as written; the enabling of MSI-X sends what is pending. Rules: R105, R108, R152,
R154, R155, R161, R651, R653, R654, R666, R731. -/
def Obligations.PcieEventsComplete : Prop :=
  (∀ (s : State), s.power.mode ≠ .held → s.host.pcie.perst = false → exec (.perstAssert) s = .next (modPcie (fun p => { p with persts := p.persts + 1 }) (vellumCount 10 (perstReset true s)))) ∧
  (∀ (gen lanes : Nat) (s : State), s.power.mode ≠ .held → s.stem.xoIn = true → (1 ≤ gen ∧ gen ≤ u8 (boardBytes s) 12) → (lanes = 1 ∨ lanes = 2 ∨ lanes = 4) → lanes ≤ u8 (boardBytes s) 13 → exec (.pcieLinkTrained gen lanes) s = .next (settleWakePin (flushVectors (modPcie (fun p => { p with perst := false, trained := true, linkL0 := true, inL1 := false, gen := gen, lanes := lanes }) s)))) ∧
  (∀ (s : State), s.host.pcie.trained = true → exec (.pcieLinkDrop) s = .next (modPcie (fun p => { p with surprise := p.surprise + 1 }) (vellumCount 10 (perstReset false s)))) ∧
  (∀ (s : State), s.host.pcie.trained = true → s.host.pcie.dstate = 0 → exec (.d3hotEntry) s = .next (modPcie (fun p => { p with dstate := 3 }) s)) ∧
  (∀ (s : State), s.host.pcie.trained = true → s.host.pcie.dstate = 3 → exec (.d3hotToD0) s = .next (flushVectors (latchCause 1 (modPcie (fun p => { p with dstate := 0 }) (access .pcie s))))) ∧
  (∀ (on : Bool) (s : State), s.host.pcie.trained = true → exec (.pmeEnWrite on) s = .next (modPcie (fun p => { p with pmeEn := on }) (access .pcie s))) ∧
  (∀ (s : State), s.host.pcie.trained = true → s.host.pcie.linkL0 = true → exec (.l1Entry) s = .next (modPcie (fun p => { p with l1En := true, inL1 := true, linkL0 := false }) s)) ∧
  (∀ (fnMask : Bool) (a : State) (s : State), a = access .pcie s → a.host.pcie.trained = true → a.host.pcie.perst = false → a.host.pcie.stale = true → exec (.msixEnable true fnMask) s = .next (flushVectors { a with host := { a.host with pcie := { a.host.pcie with msixEn := true, fnMask := fnMask, pending := unreadWork a, stale := false } } })) ∧
  (∀ (on fnMask : Bool) (a : State) (s : State), a = access .pcie s → a.host.pcie.trained = true → a.host.pcie.perst = false → a.host.pcie.stale = false → exec (.msixEnable on fnMask) s = .next (flushVectors { a with host := { a.host with pcie := { a.host.pcie with msixEn := on, fnMask := fnMask } } }))

/-- The network control sessions: a connection attempt starts a handshake, waits or is refused; an OPEN with a grant takes the lowest free Inkwell and a
token; a RESUME takes a dropped session with a new token; frames, keepalives and replies count as the rules say; a session drops, expires and closes.
Rules: R123, R124, R157, R170, R175, R182, R190, R198, R199, R200, R201, R202, R203, R205, R221, R222, R224, R604. -/
def Obligations.SessionsComplete : Prop :=
  (∀ (s : State), tlsOpen s = true → s.ink.tls < 8 → exec (.tlsConnect true) s = .next ({ s with ink := { s.ink with tls := s.ink.tls + 1, presented := some (commonName s, tlsKey s) } })) ∧
  (∀ (s : State), tlsOpen s = true → 8 ≤ s.ink.tls → s.ink.tlsQueue < 64 → exec (.tlsConnect true) s = .next ({ s with ink := { s.ink with tlsQueue := s.ink.tlsQueue + 1 } })) ∧
  (∀ (cert : Bool) (s : State), tlsOpen s = true → 8 ≤ s.ink.tls → 64 ≤ s.ink.tlsQueue → exec (.tlsConnect cert) s = .next ({ s with ink := { s.ink with tlsRefused := s.ink.tlsRefused + 1 } })) ∧
  (∀ (key n : Nat) (s : State), tlsOpen s = true → s.ink.tls ≠ 0 → keyGrant s key ≠ 0 → sessionWell (tlsDone s) = some n → exec (.sessionOpen key) s = .next (sendControl (le 1 2 ++ le 1 n ++ zeros 2 ++ le 8 (Config.token (tlsDone s).draws % 2 ^ 64)) (setWell n { bind := .net, role := keyGrant s key, token := Config.token (tlsDone s).draws % 2 ^ 64, keyHash := key, connected := true, lastMs := s.stem.ms } { tlsDone s with draws := (tlsDone s).draws + 1 }))) ∧
  (∀ (key : Nat) (s : State), tlsOpen s = true → s.ink.tls ≠ 0 → keyGrant s key = 0 → exec (.sessionOpen key) s = .next (refuseSession .role (tlsDone s))) ∧
  (∀ (key tok last n : Nat) (s : State), tlsOpen s = true → s.ink.tls ≠ 0 → keyGrant s key ≠ 0 → resumable (tlsDone s) tok key = some n → ∃ t, exec (.sessionResume key tok last) s = .next t ∧ (well t n).connected = true ∧ (well t n).dropped = false ∧ (well t n).token = Config.token (tlsDone s).draws % 2 ^ 64 ∧ (well t n).resumes = (well s n).resumes + 1) ∧
  (∀ (key tok last : Nat) (s : State), tlsOpen s = true → s.ink.tls ≠ 0 → keyGrant s key ≠ 0 → resumable (tlsDone s) tok key = none → exec (.sessionResume key tok last) s = .next (refuseSession .seqConflict (tlsDone s))) ∧
  (∀ (n : Nat) (s : State), live n s = true → exec (.sessionKeepalive n) s = .next (modWell n (fun w => { w with lastMs := s.stem.ms }) s)) ∧
  (∀ (n : Nat) (s : State), live n s = true → 2 ≤ n → exec (.sessionClose n) s = .next (dropRunning n (setWell n {} (freeAllSheets n s)))) ∧
  (∀ (n size len : Nat) (h : Head) (s : State), live n s = true → (well s n).unanswered < 16 → s.boot.inkBasic = true → size = 32 + len + h.sheetLen → h.sheet = 0 → ∃ t, exec (.sessionRequestFrame n size len h) s = .next t ∧ (well t n).waiting = (well s n).waiting ++ [{ h with misfit := false }] ∧ (well t n).unanswered = (well s n).unanswered + 1 ∧ (well t n).lastMs = s.stem.ms) ∧
  (∀ (n : Nat) (s : State), live n s = true → exec (.sessionBadFrame n) s = .next (modWell n (fun w => { w with connected := false, dropped := true, dropMs := s.stem.ms, unanswered := 0 }) { s with ink := { s.ink with badFrames := s.ink.badFrames + 1 } })) ∧
  (∀ (n : Nat) (r : Reply) (rest : List Reply) (s : State), live n s = true → (well s n).replies = r :: rest → r.sheetLen = 0 → exec (.sessionReplySent n) s = .next (modWell n (fun w => { w with replies := rest, repCons := (w.repCons + 1) % 65536, unanswered := w.unanswered - 1, out := [replyFrame r []] }) s)) ∧
  (∀ (n : Nat) (closed : Bool) (s : State), live n s = true → (closed = true ∨ (well s n).lastMs + 15000 ≤ s.stem.ms) → exec (.sessionDrop n closed) s = .next (modWell n (fun w => { w with connected := false, dropped := true, dropMs := s.stem.ms, unanswered := 0 }) s)) ∧
  (∀ (n : Nat) (s : State), n < 64 → 2 ≤ n → (well s n).bind = .net → (well s n).dropped = true → (well s n).dropMs + 30000 ≤ s.stem.ms → exec (.sessionExpire n) s = .next (dropRunning n (setWell n {} (freeAllSheets n s))))

/-- The write registers of Baseline: in COMMISSION or MAINTENANCE, BL_SELECT takes a mode and a reference that BL.SELECT would take, BL_STEP keeps a phase
step for the next multiple of 96 000, BL_STEER takes a frequency clamped to its range while Baseline is FREE; a write that the command would refuse
changes nothing but an event bit; in any other mode each of the three writes changes nothing. Rules: R30, R96. -/
def Obligations.BaselineRegistersComplete : Prop :=
  (∀ (w : Word) (s : State), expertMode s = true → fld w.toNat 0 2 ≠ 3 → (¬ (24 < fld w.toNat 2 5 ∧ fld w.toNat 0 2 = 1)) → selectRefused (fld w.toNat 0 2) (fld w.toNat 2 5) s = none → exec (.blSelectWrite w) s = .next ({ s with bl := { s.bl with selWant := some (fld w.toNat 0 2, fld w.toNat 2 5) } })) ∧
  (∀ (w : Word) (s : State), expertMode s = true → (fld w.toNat 0 2 = 3 ∨ (selectRefused (fld w.toNat 0 2) (fld w.toNat 2 5) s).isSome = true) → exec (.blSelectWrite w) s = .next (blEvent 7 s)) ∧
  (∀ (w : Word) (s : State), expertMode s = true → stepRefused (sgn 32 w.toNat) s = none → exec (.blStepWrite w) s = .next ({ s with bl := { s.bl with stepPend := some { step := sgn 32 w.toNat, atSsi := nextBoundary s } } })) ∧
  (∀ (w : Word) (s : State), expertMode s = true → (stepRefused (sgn 32 w.toNat) s).isSome = true → exec (.blStepWrite w) s = .next (blEvent 6 s)) ∧
  (∀ (w : Word) (s : State), expertMode s = true → s.bl.state = .free → exec (.blSteerWrite w) s = .next (setSteer (clampI (-200000000) 200000000 (sgn 32 w.toNat)) s)) ∧
  (∀ (w : Word) (s : State), expertMode s = true → s.bl.state ≠ .free → exec (.blSteerWrite w) s = .next (s)) ∧
  (∀ (w : Word) (s : State), expertMode s = false → exec (.blSelectWrite w) s = .next (s)) ∧
  (∀ (w : Word) (s : State), expertMode s = false → exec (.blStepWrite w) s = .next (s)) ∧
  (∀ (w : Word) (s : State), expertMode s = false → exec (.blSteerWrite w) s = .next (s))

/-- The references of Baseline: a candidate whose time has run qualifies unless it is too far off in frequency or phase; a disqualified one is recorded; a
bar ends; the loop returns to a better reference; an edge of a reference is measured; the loop locks; the holdover memory becomes valid, is saved and
expires. Rules: R57, R58, R59, R61, R62, R63, R66, R68, R69, R70, R71, R74, R75, R77, R84, R152, R726. -/
def Obligations.ReferenceEventsComplete : Prop :=
  (∀ (n : Nat) (build fofs : Int) (s : State), criteriaMet s n = true → n ≤ 23 → refAbsent s n = false → (refCfg s n).prio ≠ 0 → (refSt s n).bar = false → (refSt s n).qual = false → (refSt s n).qualMs + max 1 (min (refCfg s n).qualT 60) * 1000 ≤ s.stem.ms → fofs.natAbs ≤ 15000 → tooFar (modRef n (fun r => { r with buildout := build, fofs := fofs }) s) n = false → exec (.candidateQualified n build fofs) s = .next (modRef n (fun r => { r with qual := true, cause := 0, qualMs := s.stem.ms, hits := 0, hitDue := false }) (modRef n (fun r => { r with buildout := build, fofs := fofs }) s))) ∧
  (∀ (n cause : Nat) (s : State), n ≤ 23 → refAbsent s n = false → (1 ≤ cause ∧ cause ≤ 10) → (refSt s n).qual = true → exec (.refDisqual n cause) s = .next (disqualify n cause s)) ∧
  (∀ (n cause : Nat) (s : State), n ≤ 23 → refAbsent s n = false → (1 ≤ cause ∧ cause ≤ 10) → cause ≠ 8 → (refSt s n).qual = false → exec (.refDisqual n cause) s = .next (modRef n (fun r => { r with los := r.los || decide (cause = 2), qualMs := s.stem.ms, cause := causeKept s r (refCfg s n).prio cause }) s)) ∧
  (∀ (n t : Nat) (s : State), (refSt s n).bar = true → (refSt s n).barUntil = some t → t ≤ s.stem.ms → exec (.barExpiry n) s = .next (modRef n (fun r => { r with bar := false, barUntil := none, qualMs := s.stem.ms }) s)) ∧
  (∀ (b : Nat) (s : State), bestRef s = some b → s.bl.selmode = 0 → following s = true → s.bl.sel ≠ 24 → revertDue s b = true → s.stem.ssi % 8 = 0 → exec (.refRevert) s = .next (switchTo b 0xFE s)) ∧
  (∀ (n : Nat) (dev fofs build : Int) (s : State), 4 ≤ n → n ≤ 23 → refAbsent s n = false → refPowered s n = true → baselineTested s = false → fofs.natAbs ≤ 15000 → following s = true → s.bl.sel = n → measuredAtBoundary n = false → exec (.refPulseEdge n dev fofs build) s = .next (measure n dev (modRef n (fun r => { r with dev := dev, fofs := fofs, buildout := build, los := false }) s))) ∧
  (∀ (n : Nat) (dev fofs build : Int) (s : State), 4 ≤ n → n ≤ 23 → refAbsent s n = false → refPowered s n = true → baselineTested s = false → fofs.natAbs ≤ 15000 → tooFar (modRef n (fun r => { r with dev := dev, fofs := fofs, buildout := build, los := false }) s) n = false → (following s = false ∨ s.bl.sel ≠ n) → exec (.refPulseEdge n dev fofs build) s = .next (modRef n (fun r => { r with dev := dev, fofs := fofs, buildout := build, los := false }) s)) ∧
  (∀ (err : Int) (m : Nat) (s : State), s.bl.state = .acquiring → err.natAbs ≤ lockThreshold s.bl.sel → s.bl.inMs = some m → m + 2000 ≤ s.stem.ms → s.bl.aligning = false → s.bl.thetaStep = false → (s.stem.jamArmed = false ∨ 4 ≤ s.bl.sel ∨ s.bl.jamDue = true) → s.power.mode ≠ .standby → exec (.lock err) s = .next (blEvent 3 (raise 0x0204 (le 1 s.bl.sel ++ zeros 3 ++ leI 4 (sat32 (errBound { s.bl with state := .locked } err))) { s with bl := { s.bl with state := .locked, phaseErr := errBound { s.bl with state := .locked } err, lockMs := s.stem.ms, hist := [] } }))) ∧
  (∀ (s : State), s.bl.state = .locked → s.bl.lockMs + 10000 ≤ s.stem.ms → exec (.hoValidSet) s = .next ({ s with bl := { s.bl with hoValid := true, nvsMs := if s.bl.hoValid then s.bl.nvsMs else s.stem.ms } })) ∧
  (∀ (s : State), s.bl.hoValid = true → s.bl.nvsMs + 600000 ≤ s.stem.ms → exec (.holdoverNvsWrite) s = .next ({ s with bl := { s.bl with nvsFreq := some s.bl.hoFreq, nvsMs := s.stem.ms } })) ∧
  (∀ (sec : Nat) (s : State), s.bl.state = .holdover → s.bl.hoWait = false → s.bl.policy.hoLimit ≠ 0 → s.bl.hoMs + s.bl.policy.hoLimit * 1000 ≤ s.stem.ms → sec = (s.stem.ms - s.bl.hoMs) / 1000 → exec (.holdoverExpired) s = .next (vellumLog 8 0 0 sec (vellumCount 19 (signalGiveUp 5 (enterFree 1 (blEvent 2 (raise 0x0206 (leI 4 s.bl.hoFreq ++ le 4 sec) s)))))))

/-- The loop of Baseline: with the jam armed a PTP reference aligns the samples in the full modes and steps theta in the others; an alignment that ends
makes the jam due; a build-out within one slew step is cleared; a ramp of the steering ends at its target. Stem: CLK_CTRL begins a change of rate or
arms the jam while it is open; a read of the low word of SSI latches the high word; Stem locks once in the boot with SSI from the AON clock or zero; a
change of rate that completes carries SSI over to the new rate, rounded down to a multiple of 8. Rules: R30, R44, R46, R47, R51, R55, R72, R76, R78,
R249, R725. -/
def Obligations.LoopAndClockEventsComplete : Prop :=
  (∀ (theta delta : Int) (s : State), s.stem.jamArmed = true → s.bl.sel < 4 → following s = true → s.bl.aligning = false → s.bl.thetaStep = false → s.bl.jamDue = false → fullMode s.power.mode = true → exec (.firstLock theta delta) s = .next (setFollowFreq { s with bl := { s.bl with aligning := true, theta := thetaReduced s theta, ptpDelta := delta } })) ∧
  (∀ (theta delta : Int) (s : State), s.stem.jamArmed = true → s.bl.sel < 4 → following s = true → s.bl.aligning = false → s.bl.thetaStep = false → s.bl.jamDue = false → fullMode s.power.mode = false → exec (.firstLock theta delta) s = .next ({ s with bl := { s.bl with thetaStep := true, theta := thetaReduced s theta, ptpDelta := delta } })) ∧
  (∀ (s : State), s.bl.aligning = true → s.bl.theta.natAbs ≤ pullStep s → exec (.alignmentComplete) s = .next (settleErr (setFollowFreq { s with bl := { s.bl with aligning := false, theta := 0, jamDue := true } }))) ∧
  (∀ (s : State), s.bl.buildout.natAbs ≤ s.bl.policy.slewRate → exec (.slewComplete) s = .next (settleErr (setFollowFreq { s with bl := { s.bl with buildout := 0 } }))) ∧
  (∀ (s : State), s.bl.state = .free → rampFreq s = s.bl.steer → exec (.steerRampDone) s = .next ({ s with bl := { s.bl with freq := s.bl.steer } })) ∧
  (∀ (s : State), clkCtrlOpen s = true → s.stem.cfgRate ≠ 3 → (s.stem.cfgFamily ≠ s.stem.family ∨ rateMult s.stem.cfgRate ≠ s.stem.mult) → exec (.clkCtrlApply) s = .next (stopPorts { s with stem := { s.stem with change := some { family := s.stem.cfgFamily, mult := rateMult s.stem.cfgRate } } })) ∧
  (∀ (s : State), clkCtrlOpen s = false → exec (.clkCtrlApply) s = .next (s)) ∧
  (∀ (s : State), clkCtrlOpen s = true → exec (.clkCtrlRealign) s = .next ({ s with stem := { s.stem with aligned := false, jamArmed := true }, bl := { s.bl with aligning := false, thetaStep := false, jamDue := false, theta := 0 } })) ∧
  (∀ (s : State), clkCtrlOpen s = false → exec (.clkCtrlRealign) s = .next (s)) ∧
  (∀ (s : State), expertMode s = true → exec (.ssiLoRead) s = .next (regRead (s.stem.ssi % 2 ^ 32) { s with stem := { s.stem with ssiHi := s.stem.ssi / 2 ^ 32 } })) ∧
  (∀ (s : State), s.stem.stemLock = false → s.power.mode = .booting → s.stem.xoIn = true → s.stem.aonSet = false → s.hush.cfg.ports = [] → ∃ t, exec (.stemLock) s = .next t ∧ t.stem.stemLock = true ∧ t.stem.ssi = 0 ∧ t.stem.family = s.stem.nvsFamily ∧ t.stem.mult = s.stem.nvsMult ∧ t.ink = s.ink ∧ t.prog = s.prog) ∧
  (∀ (s : State), s.stem.stemLock = false → s.power.mode = .booting → s.stem.xoIn = true → s.stem.aonSet = true → s.hush.cfg.ports = [] → ∃ t, exec (.stemLock) s = .next t ∧ t.stem.stemLock = true ∧ t.stem.ssi % 8 = 0 ∧ t.ink = s.ink ∧ t.prog = s.prog) ∧
  (∀ (c : RateChange) (s : State), s.stem.change = some c → c.halted = true → s.stem.ssi % 8 = 0 → ∃ t, exec (.stemRelock) s = .next t ∧ t.stem.change = none ∧ t.stem.family = c.family ∧ t.stem.mult = c.mult ∧ t.stem.jamArmed = true)

/-- Operating modes: a mode request written in COMMISSION or MAINTENANCE waits for the next boundary or sets an event bit; the wake timer is kept in
multiples of 8; a deferred standby begins or is refused; standby is reached when its fades are done; a wake serves the Inkwells and then returns to
the mode it left; the wake timer wakes; an autosave saves. Rules: R30, R127, R138, R147, R156, R157, R158, R164, R165, R169. -/
def Obligations.ModeEventsComplete : Prop :=
  (∀ (w : Word) (l : List Nat) (s : State), expertMode s = true → bit w.toNat 8 = true → modeOutcome (fld w.toNat 0 3) false s = .go l → exec (.pwModeReq w) s = .next (pendMode (fld w.toNat 0 3) (nextBoundary s) none s)) ∧
  (∀ (w : Word) (st : Status) (s : State), expertMode s = true → bit w.toNat 8 = true → modeOutcome (fld w.toNat 0 3) false s = .refuse st → exec (.pwModeReq w) s = .next (modPower (fun p => { p with events := setBit p.events 0 }) s)) ∧
  (∀ (w : Word) (s : State), expertMode s = true → exec (.pwWakeAtHiWrite w) s = .next (modPower (fun p => { p with wakeAt := up8 (w.toNat * 2 ^ 32 + p.wakeAtLo) }) s)) ∧
  (∀ (c : Nat × Nat) (s : State), s.power.stbyDefer = some c → s.power.waking = false → s.stem.ssi % 8 = 0 → s.power.mode ≠ .standby → isPartner s = false → isMember s = false → hushOn s = false → exec (.deferredStandby) s = .next (beginEntry (modPower (fun p => { p with stbyDefer := none }) s))) ∧
  (∀ (c : Nat × Nat) (s : State), s.power.stbyDefer = some c → s.power.waking = false → s.stem.ssi % 8 = 0 → s.power.mode ≠ .standby → isPartner s = false → isMember s = false → hushOn s = true → exec (.deferredStandby) s = .next (modPower (fun p => { p with events := setBit p.events 2 }) (modeRefused c.1 2 .hushActive (modPower (fun p => { p with stbyDefer := none }) s)))) ∧
  (∀ (s : State), s.power.entering = true → s.power.fadeLen ≤ s.power.fadeDone → s.power.gen.len ≤ s.power.gen.done → s.stem.ssi % 8 = 0 → s.power.wakeHeld = none → s.power.wakeAt = 0 → ∃ t, exec (.standbyEntryComplete) s = .next t ∧ t.power.mode = .standby ∧ t.power.entering = false ∧ t.boot.inkBasic = false) ∧
  (∀ (s : State), s.power.waking = true → s.boot.inkBasic = false → s.boot.stage = .waking → exec (.wakeInkwellsReady) s = .next (tellDeferred (modBoot (fun b => { b with inkBasic := true }) s))) ∧
  (∀ (bad : List Nat) (s : State), s.power.waking = true → s.boot.inkBasic = true → s.stem.ssi % 8 = 0 → ∃ t, exec (.wakeComplete bad) s = .next t ∧ t.boot.stage = .ready ∧ t.boot.autoMs = s.stem.ms) ∧
  (∀ (s : State), s.power.mode = .standby → s.power.wakeAt ≠ 0 → s.power.wakeAt ≤ s.stem.ssi → exec (.wakeAtReached) s = .next (latchCause 5 (modPower (fun p => { p with wakeAt := 0 }) s))) ∧
  (∀ (s : State), s.boot.autosave ≠ 0 → s.boot.autoMs + 1000 * s.boot.autosave ≤ s.stem.ms → s.boot.stage = .ready → s.power.mode ≠ .standby → resumeStale s = true → exec (.autosave) s = .next (writeResume (startAutosave s)))

/-- Reset and power pins: POR_N low holds the engine with nothing armed, no instance, FREE steering at zero; its release starts AON and, with XO_IN, the
boot; a loss of XO_IN puts the engine through the internal reset and AON on its own clock; its return starts the boot unless the engine is HELD.
Rules: R39, R99, R100, R101, R105. -/
def Obligations.ResetPinsComplete : Prop :=
  (∀ (s : State), ∃ t, exec (.porNAssert) s = .next t ∧ t.power.mode = .held ∧ t.ink.armed = [] ∧ t.prog.insts = [] ∧ t.bl.steer = 0 ∧ t.twin.cfg = s.twin.nvs) ∧
  (∀ (s : State), s.power.mode = .held → s.life.jtag ≠ 2 → ∃ t, exec (.porNRelease false) s = .next t ∧ t.power.mode = .booting ∧ t.stem.xoIn = false ∧ t.stem.aonInt = true) ∧
  (∀ (s : State), s.power.mode = .held → s.life.jtag ≠ 2 → ∃ t, exec (.porNRelease true) s = .next t ∧ t.power.mode = .booting ∧ t.stem.xoIn = true ∧ (t.boot.stage = .rom ∨ t.boot.stage = .waitHost)) ∧
  (∀ (s : State), s.stem.xoIn = true → ∃ t, exec (.xoLoss) s = .next t ∧ t.stem.xoIn = false ∧ t.stem.aonInt = true ∧ t.stem.stemLock = false) ∧
  (∀ (s : State), s.stem.xoIn = false → s.power.mode = .held → exec (.xoReturn) s = .next ({ s with stem := { s.stem with xoIn := true, xoOk := true, aonInt := false } })) ∧
  (∀ (s : State), s.stem.xoIn = false → s.power.mode ≠ .held → ∃ t, exec (.xoReturn) s = .next t ∧ t.stem.xoIn = true ∧ (t.boot.stage = .rom ∨ t.boot.stage = .waitHost))

/-- Boot: a source is read and checked; HOST_FIRST waits 2 s; the boot watchdog gives a source up with bit 7 of RESET_CAUSE; the firmware signals that it
runs, serves the basic commands and becomes ready with its operating mode; Scribe's watchdog and a lockstep mismatch restart it, after which it shows
the Hush events held back; zeroisation reaches RETURNED. Rules: R70, R105, R106, R110, R112, R113, R120, R122, R128, R133, R138, R384, R487, R488,
R610, R635, R729. -/
def Obligations.BootEventsComplete : Prop :=
  (∀ (readOk : Bool) (n : Nat) (l : List Nat) (s : State), s.power.mode = .booting → s.stem.xoIn = true → s.boot.stage = .rom → zeroising s = false → slotsLeft s = n :: l → exec (.bootSourceRead readOk) s = .next (trySource n readOk s)) ∧
  (∀ (s : State), s.boot.stage = .waitHost → s.boot.source = 1 → s.boot.tried = [] → s.boot.waitMs + 2000 ≤ s.stem.ms → exec (.hostFirstWaitExpiry) s = .next (sourceFails 2 1 s)) ∧
  (∀ (s : State), s.boot.stage = .fwInit → s.boot.running = false → s.boot.waitMs + 2000 ≤ s.stem.ms → exec (.bootWatchdog) s = .next (sourceFails s.boot.slot 6 (modBoot (fun b => { b with resetCause := setBit b.resetCause 7 }) s))) ∧
  (∀ (s : State), s.boot.stage = .fwInit → s.boot.running = false → s.boot.fallback = false → exec (.fwRunningSignal) s = .next (modBoot (fun b => { b with running := true, wdtArmed := true }) s)) ∧
  (∀ (s : State), s.boot.stage = .fwInit → s.boot.running = false → s.boot.fallback = true → exec (.fwRunningSignal) s = .next (vellumCount 11 (modBoot (fun b => { b with running := true, wdtArmed := true }) s))) ∧
  (∀ (s : State), s.boot.stage = .fwInit → s.boot.running = true → exec (.inkwellsServeBasic) s = .next (toStage .restoring (modBoot (fun b => { b with inkBasic := true }) s))) ∧
  (∀ (s : State), s.boot.stage = .restoring → s.power.mode = .booting → s.stem.stemLock = true → isPartner s = false → s.ms.cfg.autoJoin = false → s.resume = none → s.stem.ssi % 8 = 0 → ∃ t, exec (.ready) s = .next t ∧ t.power.mode = .commission ∧ t.boot.stage = .ready ∧ t.boot.readyMs = s.stem.ms - s.boot.bootMs) ∧
  (∀ (s : State), firmwareRuns s = true → exec (.scribeWatchdog) s = .next (scribeRestart 3 7 s)) ∧
  (∀ (s : State), scribeRuns s = true → exec (.lockstepMismatch) s = .next (scribeRestart 5 8 (vellumLog 10 0 0 0 (signalGiveUp 1 s)))) ∧
  (∀ (s : State), s.boot.stage = .scribeRestart → s.boot.resumeStage = some .ready → exec (.scribeRestartDone) s = .next (showHidden (toStage .ready (modBoot (fun b => { b with resumeStage := none, inkBasic := true }) s)))) ∧
  (∀ (s : State), s.boot.stage = .scribeRestart → s.boot.resumeStage = some .waking → exec (.scribeRestartDone) s = .next (showHidden (toStage .waking (modBoot (fun b => { b with resumeStage := none, inkBasic := false }) s)))) ∧
  (∀ (s : State), zeroising s = true → s.power.mode = .booting → s.stem.xoIn = true → s.boot.stage = .rom → ∃ t, exec (.zeroisation) s = .next t ∧ t.life.state = 3 ∧ t.life.idKey = none ∧ t.hush.record = [] ∧ t.resume = none)

/-- Hush: a channel that has been debounced, a disagreement that runs its time and a release that has held judge the inputs again; HUSH_OUT toggles while
there is no fault and stays low with one; a read of the low word of the last SSI latches its high word. Rules: R30, R101, R368, R370, R371, R372,
R373, R728. -/
def Obligations.HushInputsComplete : Prop :=
  (∀ (chB alarm : Bool) (q : HushCh) (s : State), aonLive s = true → chB = false → q = { pin := alarm != s.hush.cfg.polA, last := alarm, run := 4, deb := alarm } → exec (.hushChannelDebounced chB alarm) s = .next (hushJudge s.hush.a.deb s.hush.b.deb { s with hush := { s.hush with a := q } })) ∧
  (∀ (chB alarm : Bool) (q : HushCh) (s : State), aonLive s = true → chB = true → q = { pin := alarm != s.hush.cfg.polB, last := alarm, run := 4, deb := alarm } → exec (.hushChannelDebounced chB alarm) s = .next (hushJudge s.hush.a.deb s.hush.b.deb { s with hush := { s.hush with b := q } })) ∧
  (∀ (s : State), aonLive s = true → s.hush.a.deb ≠ s.hush.b.deb → s.hush.fault = false → exec (.hushFault) s = .next (hushJudge s.hush.a.deb s.hush.b.deb { s with hush := { s.hush with disc := s.hush.cfg.tDisc - 1 } })) ∧
  (∀ (s : State), aonLive s = true → s.hush.a.deb = false → s.hush.b.deb = false → s.hush.fault = false → s.hush.asserted = true → exec (.hushRelease) s = .next (hushJudge false false { s with hush := { s.hush with quiet := true, hold := s.hush.cfg.release - 1 } })) ∧
  (∀ (s : State), aonLive s = true → s.hush.fault = false → exec (.hushOutToggle) s = .next ({ s with hush := { s.hush with out := !s.hush.out } })) ∧
  (∀ (s : State), (aonLive s = false ∨ s.hush.fault = true) → exec (.hushOutToggle) s = .next ({ s with hush := { s.hush with out := false } })) ∧
  (∀ (s : State), expertMode s = true → exec (.hsLastSsiLoRead) s = .next (regRead (s.hush.lastSsi % 2 ^ 32) { s with hush := { s.hush with lastHi := s.hush.lastSsi / 2 ^ 32 } }))

/-- The JTAG port: TRST_N ends boundary mode, a boundary instruction enters or leaves it; the internal scan, once entered, holds the engine and only POR_N
ends it; it opens in BLANK and RETURNED only. Ductus: DX_CTRL takes a number of periods of software delay in COMMISSION and sets an event bit
otherwise; a read of the armed peak's SSI latches its high word; a class-A group that is done takes the first open period off and is kept in the load;
the watchdog after four stalled periods halts the class-A work, empties the open periods and logs it. Rules: R30, R105, R109, R260, R263, R267, R268,
R269, R613, R614. -/
def Obligations.JtagAndDuctusEventsComplete : Prop :=
  (∀ (s : State), s.life.jtag ≠ 2 → exec (.jtagTrst) s = .next ({ s with life := { s.life with jtag := 0, boundary := [], tap := 0 } })) ∧
  (∀ (cells : List (Pin × PinDrive)) (e : JtagInstr) (s : State), s.life.jtag ≠ 2 → (e = .extest ∨ e = .clamp) → exec (.jtagBoundaryInstruction ⟨e, cells⟩) s = .next ({ s with life := { s.life with jtag := 1, boundary := cells } })) ∧
  (∀ (cells : List (Pin × PinDrive)) (s : State), s.life.jtag ≠ 2 → exec (.jtagBoundaryInstruction ⟨.highz, cells⟩) s = .next ({ s with life := { s.life with jtag := 1, boundary := [] } })) ∧
  (∀ (cells : List (Pin × PinDrive)) (s : State), s.life.jtag ≠ 2 → exec (.jtagBoundaryInstruction ⟨.other, cells⟩) s = .next ({ s with life := { s.life with jtag := 0, boundary := [] } })) ∧
  (∀ (load : JtagLoad) (s : State), s.life.jtag = 2 → exec (.jtagBoundaryInstruction load) s = .next (s)) ∧
  (∀ (s : State), (s.life.state = 0 ∨ s.life.state = 3) → exec (.jtagInternalScan) s = .next ({ s with power := { s.power with mode := .held }, hush := { s.hush with out := false }, life := { s.life with jtag := 2, boundary := [] } })) ∧
  (∀ (s : State), s.life.state ≠ 0 → s.life.state ≠ 3 → exec (.jtagInternalScan) s = .next ({ s with life := { s.life with tap := 1 } })) ∧
  (∀ (w : Word) (s : State), s.power.mode = .commission → fld w.toNat 0 2 ≠ 3 → swBusy s = false → fld w.toNat 0 2 ≠ s.dx.sw → exec (.dxCtrlWrite w) s = .next ({ s with dx := { s.dx with swDue := some (fld w.toNat 0 2, none) } })) ∧
  (∀ (w : Word) (s : State), s.power.mode = .maintenance → exec (.dxCtrlWrite w) s = .next (dxEvent 5 s)) ∧
  (∀ (w : Word) (s : State), s.power.mode = .commission → (fld w.toNat 0 2 = 3 ∨ swBusy s = true) → exec (.dxCtrlWrite w) s = .next (dxEvent 5 s)) ∧
  (∀ (v : Nat) (s : State), expertMode s = true → v = 8 * (armedPeak s).2.1 → exec (.dxArmedSsiLoRead) s = .next (regRead (v % 2 ^ 32) { s with dx := { s.dx with armedHi := v / 2 ^ 32 } })) ∧
  (∀ (t k : Nat) (rest : List Nat) (s : State), s.dx.open_ = k :: rest → s.dx.level = 0 → t ≤ budget s → s.stem.ssi < 8 * (k + 2 + s.dx.sw) → exec (.classACompletion ⟨true, t⟩) s = .next ({ s with dx := { s.dx with open_ := rest, progress := true, lastDone := t, wdtLast := 8 * (k + 2 + s.dx.sw), done := (s.stem.ms, t) :: s.dx.done.filter (fun e => s.stem.ms < e.1 + 1000), carryMax := max s.dx.carryMax (t - budget s) } })) ∧
  (∀ (t k : Nat) (rest : List Nat) (s : State), s.dx.open_ = k :: rest → ∃ x, exec (.classACompletion ⟨true, t⟩) s = .next x ∧ x.dx.open_ = rest ∧ x.dx.progress = true ∧ x.dx.lastDone = t) ∧
  (∀ (t k : Nat) (rest : List Nat) (s : State), s.dx.open_ = k :: rest → exec (.classACompletion ⟨false, t⟩) s = .next ({ s with dx := { s.dx with progress := true } })) ∧
  (∀ (s : State), 4 ≤ s.dx.stall → ∃ t, exec (.ductusWdt) s = .next t ∧ t.dx.halted = true ∧ t.dx.open_ = [] ∧ t.dx.stall = 0 ∧ t.dx.wdt = s.dx.wdt + 1 ∧ t.boot.resetCause = setBit s.boot.resetCause 6)

/-- Ligature and the mix: the sink registers keep their values clamped for the next boundary; an arming of a sink schedules its route; a finished route
crossfade ends; a sink falls back to its backup and returns; a finished stage crossfade ends and the coefficients that waited for it are taken. Rules:
R315, R316, R350, R353, R357, R358, R366, R735. -/
def Obligations.RouteEventsComplete : Prop :=
  (∀ (n : Nat) (w : Word) (s : State), expertMode s = true → n < ligSize s.variant → serifAbsent s.variant n = false → exec (.lgSinkCfgWrite n w) s = .next (modSink n (fun k => { k with cfgDue := some { (k.cfgDue.getD k.cfg) with thresh := max 1 (fld w.toNat 0 16), ret := fld w.toNat 16 1, hold := clampN 1 600 (fld w.toNat 17 10) } }) s)) ∧
  (∀ (n : Nat) (w : Word) (s : State), expertMode s = true → n < ligSize s.variant → serifAbsent s.variant n = false → sgn 16 (fld w.toNat 0 16) ≠ gainOff → exec (.lgGainWrite n w) s = .next (modSink n (fun k => { k with cfgDue := some { (k.cfgDue.getD k.cfg) with gain := clampI (-14400) 1200 (sgn 16 (fld w.toNat 0 16)), shape := min 2 (fld w.toNat 16 2) } }) s)) ∧
  (∀ (n : Nat) (w : Word) (s : State), expertMode s = true → n < ligSize s.variant → serifAbsent s.variant n = false → exec (.lgShadeWrite n w) s = .next (modSink n (fun k => { k with cfgDue := some { (k.cfgDue.getD k.cfg) with shade := clampN 50 200000 (fld w.toNat 0 18) } }) s)) ∧
  (∀ (n : Nat) (w : Word) (s : State), expertMode s = true → n < ligSize s.variant → serifAbsent s.variant n = false → hairOk s n (sinkOf s n).next = false → exec (.lgArmHiWrite n w) s = .next (modSink n (fun k => { k with next := k.live }) (modSink n (fun k => { k with arm := (sinkOf s n).arm % 2 ^ 32 + w.toNat * 2 ^ 32 }) s))) ∧
  (∀ (n : Nat) (w : Word) (a : Nat) (s : State), expertMode s = true → n < ligSize s.variant → serifAbsent s.variant n = false → hairOk s n (sinkOf s n).next = true → a = (sinkOf s n).arm % 2 ^ 32 + w.toNat * 2 ^ 32 → s.stem.ssi < a → routeBusy s a n = false → ∃ t, exec (.lgArmHiWrite n w) s = .next t ∧ t.ink.order = s.ink.order + 1 ∧ t.ink.sched = s.ink.sched ++ [{ client := 0xFF, seq := 0, opcode := 0, applySsi := a, order := s.ink.order, turn := { routes := [(n, (sinkOf s n).next)], silent := true } }]) ∧
  (∀ (n : Nat) (k : Sink) (s : State), s.lig.sinks = [(n, k)] → k.fadeLen ≠ 0 → k.fadeLen ≤ k.fadePos → k.moving = none → k.held = none → k.cmd = none → exec (.routeCrossfadeEnd) s = .next (modSink n (fun k => { k with fadeLen := 0, fadePos := 0, held := none, cmd := none }) s)) ∧
  (∀ (n : Nat) (s : State), fallbackDue s n = true → exec (.backupFallback n) s = .next (toBackup n 0 s)) ∧
  (∀ (n c : Nat) (s : State), returnCause s n = some c → exec (.backupReturn n) s = .next (toPrimary n c s)) ∧
  (∀ (k : Nat) (i : Inst) (s : State), s.prog.insts = [(k, i)] → i.held = [] → exec (.stageCrossfadeEnd) s = .next (putInst k { i with fades := i.fades.filter (fun f => s.stem.ssi < f.stop), held := [], olds := i.olds.filter (fun o => !((i.fades.filter (fun f => f.stop ≤ s.stem.ssi)).map (·.stage)).contains o.1) } s))

/-- Serif ports: SR_CTRL takes a held configuration that is correct and sets an event bit otherwise; at a frame reference a configuration that is due is
taken and a shared port's gate is opened; a rate beyond 100 ppm is a rate mismatch with its disqualification; a slave without a clock, or with wrong
frames, leaves its running state; a port whose buffers are full runs. Rules: R30, R397, R400, R401, R403, R404, R405, R409. -/
def Obligations.SerifEventsComplete : Prop :=
  (∀ (n : Nat) (c : SerCfg) (s : State), expertMode s = true → portAbsent s n = false → hushPort s n = false → (serPort s n).held = some c → serCfgOk s.stem.mult (cleanCfg c) = true → (serShared (cleanCfg c) && !hasTwin s.variant) = false → exec (.srCtrlApply n) s = .next (setPortCfg n (cleanCfg c) s)) ∧
  (∀ (n : Nat) (c : SerCfg) (s : State), expertMode s = true → portAbsent s n = false → hushPort s n = false → (serPort s n).held = some c → serCfgOk s.stem.mult (cleanCfg c) = false → exec (.srCtrlApply n) s = .next (modPort n (fun q => { q with held := none, events := setBit q.events 0 }) s)) ∧
  (∀ (n : Nat) (p : SerPort) (s : State), portAbsent s n = false → serPort s n = p → p.due = none → serShared p.cfg = true → p.gate = true → p.driving = false → p.state ≠ 0 → exec (.serifFrameReference n) s = .next (modPort n (fun q => { q with driving := true, handover := q.handover + 1 }) s)) ∧
  (∀ (n : Nat) (s : State), portAbsent s n = false → (serPort s n).due = none → serShared (serPort s n).cfg = false → exec (.serifFrameReference n) s = .next (s)) ∧
  (∀ (n len bits : Nat) (s : State), portAbsent s n = false → (serPort s n).state ≠ 0 → (serPort s n).due = none → serMaster (serPort s n).cfg = true → serShared (serPort s n).cfg = false → exec (.serifFrameRx n len bits) s = .next (modPort n (fun p => { p with rxBuf := [frameSamples (serPort s n).cfg bits] }) s)) ∧
  (∀ (n len bits : Nat) (s : State), portAbsent s n = false → (serPort s n).state ≠ 0 → (serPort s n).due = none → serMaster (serPort s n).cfg = false → serShared (serPort s n).cfg = false → len = frameLen (serPort s n).cfg → exec (.serifFrameRx n len bits) s = .next (announceSlip n 0 (goodFrame n bits s))) ∧
  (∀ (n : Nat) (rate : Int) (s : State), portAbsent s n = false → serMaster (serPort s n).cfg = false → ((serPort s n).state = 1 ∨ (serPort s n).state = 2) → 10000 < rate.natAbs → exec (.rateMeasurement n rate) s = .next (causeArises (8 + n) 9 (vellumCount 68 (portState n 4 (modPort n (fun q => { q with mismatch := q.mismatch + 1, rxBuf := [], txBuf := [] }) (modPort n (fun q => { q with calm := 0, measured := false }) (modPort n (fun q => { q with rate := rate }) s))))))) ∧
  (∀ (n : Nat) (rate : Int) (s : State), portAbsent s n = false → serMaster (serPort s n).cfg = false → ((serPort s n).state = 1 ∨ (serPort s n).state = 2) → rate.natAbs ≤ 10000 → exec (.rateMeasurement n rate) s = .next (portRunning n (modPort n (fun q => { q with measured := true }) (modPort n (fun q => { q with rate := rate }) s)))) ∧
  (∀ (n : Nat) (s : State), portAbsent s n = false → serMaster (serPort s n).cfg = false → (serPort s n).state ≠ 0 → (serPort s n).state ≠ 3 → exec (.noClock n) s = .next (causeArises (8 + n) 2 (portState n 3 (modPort n (fun q => { q with noClock := q.noClock + 1 }) s)))) ∧
  (∀ (n : Nat) (s : State), portAbsent s n = false → serMaster (serPort s n).cfg = false → ((serPort s n).state = 1 ∨ (serPort s n).state = 2 ∨ (serPort s n).state = 4) → exec (.frameError n) s = .next (enterFrameError n s)) ∧
  (∀ (n : Nat) (s : State), portAbsent s n = false → (serPort s n).state = 1 → serMaster (serPort s n).cfg = true → s.stem.ssi % 8 = 0 → exec (.portRunning n) s = .next (portState n 2 s)) ∧
  (∀ (n : Nat) (s : State), portAbsent s n = false → (serPort s n).state = 1 → serMaster (serPort s n).cfg = false → (serPort s n).measured = true → buffersFull (serPort s n) = true → exec (.portRunning n) s = .next (portState n 2 s))

/-- Sheen: the ballistics registers are kept clamped; a read of a held peak returns and clears it; a read of the epoch's low word latches its high word; a
report interval that closes starts a record, and a record that is due is written. Rules: R4, R30, R520, R521, R526, R527. -/
def Obligations.SheenEventsComplete : Prop :=
  (∀ (w : Word) (s : State), expertMode s = true → exec (.snBall0Write w) s = .next (ballWrite (le 2 (min 10000 (fld w.toNat 0 16)) ++ le 2 (clampN 10 1000 (fld w.toNat 16 10)) ++ (nextBall s).drop 4) s)) ∧
  (∀ (w : Word) (s : State), expertMode s = true → exec (.snBall1Write w) s = .next (ballWrite ((nextBall s).take 4 ++ le 2 (clampN 10 3000 (fld w.toNat 0 12)) ++ le 2 (clampN 50 3000 (fld w.toNat 16 12)) ++ (nextBall s).drop 8) s)) ∧
  (∀ (n : Nat) (s : State), expertMode s = true → exec (.snSrcPeakRead n) s = .next (regRead (tabGet 0 s.sheen.srcPeak n).toNat { s with sheen := { s.sheen with srcPeak := tabErase n s.sheen.srcPeak } })) ∧
  (∀ (n : Nat) (s : State), expertMode s = true → exec (.snSnkPeakRead n) s = .next (regRead (tabGet 0 s.sheen.snkPeak n).toNat { s with sheen := { s.sheen with snkPeak := tabErase n s.sheen.snkPeak } })) ∧
  (∀ (s : State), expertMode s = true → exec (.snEpochSsiLoRead) s = .next (regRead (s.sheen.epochSsi % 2 ^ 32) { s with sheen := { s.sheen with epochHi := s.sheen.epochSsi / 2 ^ 32 } })) ∧
  (∀ (n : Nat) (r : ReportSet) (s : State), s.sheen.sets = [(n, r)] → r.started = true → r.close ≤ s.stem.ssi → exec (.reportIntervalClose) s = .next (modSet n (fun q => { q with partOpen := false, close := s.stem.ssi / setLength s r.interval * setLength s r.interval + setLength s r.interval }) (emitRecord n r s.stem.ssi r.partOpen s))) ∧
  (∀ (c : Closing) (s : State), s.sheen.closing.find? (recordDue s) = some c → mapGet s.sheen.sets c.set_ = none → exec (.sheenRecordWritten) s = .next ({ s with sheen := { s.sheen with closing := s.sheen.closing.erase c } })) ∧
  (∀ (c : Closing) (r : ReportSet) (s : State), s.sheen.closing.find? (recordDue s) = some c → mapGet s.sheen.sets c.set_ = some r → r.readyMs ≠ 0 → s.stem.ms + 1 < r.readyMs + 50 → ∃ t, exec (.sheenRecordWritten) s = .next t ∧ t.sheen.closing = s.sheen.closing.erase c ∧ t.sheen.records = (s.sheen.records + 1) % 2 ^ 32 ∧ t.ink = s.ink)

/-- Feed and the Cartridges: an access of a master is carried out part by part and its response recorded; an atomic operation acts on one aligned word of
an unprotected region; an address of no region is answered by a decode error; a Cartridge takes the words of a packet while it has room and counts a
drop otherwise; a read takes its first word, marking poison; the order to AON is sent again after 5 ms. Rules: R30, R552, R554, R555, R557, R559. -/
def Obligations.MemorySystemComplete : Prop :=
  (∀ (s : State), expertMode s = true → exec (.fdLastAddrLoRead) s = .next (regRead (s.feed.lastAddr % 2 ^ 32) (modFeed (fun f => { f with addrHi := f.lastAddr / 2 ^ 32 }) s))) ∧
  (∀ (q : FeedReq) (r : FeedRun) (s : State), q.master < 10 → q.len ≠ 0 → r = feedParts q (q.len + 1) q.addr q.len { st := countWait q s } → r.resp = 0 → r.lost = 0 → exec (.feedAccess q) s = .next (modFeed (fun f => { f with resp := r.resp, data := r.data }) (noteScrub q r.st))) ∧
  (∀ (q : FeedReq) (r : FeedRun) (s : State), q.master < 10 → q.len ≠ 0 → r = feedParts q (q.len + 1) q.addr q.len { st := countWait q s } → r.resp ≠ 0 → r.lost = 0 → exec (.feedAccess q) s = .next (modFeed (fun f => { f with resp := r.resp, data := r.data }) (noteScrub q (respond r.resp q.master r.addr r.st)))) ∧
  (∀ (q : FeedAtomic) (g : Region) (s : State), q.master < 10 → q.kind ≤ 2 → regionOf s q.addr = some g → permitted s q.master true g q.addr = true → (1 ≤ feedPort g q.addr ∧ feedPort g q.addr ≤ 4) → q.addr % 8 = 0 → exec (.feedAtomic q) s = .next (atomicWord q g s)) ∧
  (∀ (q : FeedAtomic) (s : State), q.master < 10 → q.kind ≤ 2 → regionOf s q.addr = none → exec (.feedAtomic q) s = .next (modFeed (fun f => { f with resp := 1, data := [] }) (respond 1 q.master q.addr s))) ∧
  (∀ (n : Nat) (l : List (Bytes × Bool)) (s : State), cartPresent s.variant n = true → l ≠ [] → (cartAt s n).words.length + l.length ≤ cartDepth n → n ≠ 16 → exec (.cartridgeWrite n l) s = .next (modCart n (fun c => { c with words := c.words ++ packetWords l }) s)) ∧
  (∀ (n : Nat) (l : List (Bytes × Bool)) (s : State), cartPresent s.variant n = true → l ≠ [] → cartDepth n < (cartAt s n).words.length + l.length → n < 10 → exec (.cartridgeWrite n l) s = .next (memFault 3 n 0xFF 0 1 (vellumCount 48 (modCart n (fun c => { c with drop := (c.drop + 1) % 2 ^ 32 }) s)))) ∧
  (∀ (n : Nat) (single : Bool) (w : CartWord) (rest : List CartWord) (s : State), cartPresent s.variant n = true → (cartAt s n).words = w :: rest → w.p = false → (cartAt s n).discard = false → exec (.cartridgeRead n single false) s = .next (cartGood n (modCart n (fun c => { c with words := rest, out := { w with v := true, p := false }, ce := if single then (c.ce + 1) % 2 ^ 32 else c.ce, poison := c.poison, discard := false }) s))) ∧
  (∀ (w : CartWord) (t : Nat) (s : State), s.feed.order = some (w, t) → t + 5 ≤ s.stem.ms → (cartAt s 16).words.length < 16 → exec (.aonOrderResend) s = .next (modFeed (fun f => { f with order := some (w, s.stem.ms) }) (modCart 16 (fun c => { c with words := c.words ++ [w] }) s)))

/-- Seal: a channel starts by its control register, a busy one setting an event bit; an abort ends it; a job that is done ends with its result; the digest
of the sinks that is ready is kept; reads of the low words latch the high words. Rules: R30, R484, R573. -/
def Obligations.SealEventsComplete : Prop :=
  (∀ (c : Nat) (s : State), expertMode s = true → (1 ≤ c ∧ c ≤ 2) → exec (.slBytesLoRead c) s = .next (regRead ((sealCh s c).bytes % 2 ^ 32) (modCh c (fun q => { q with bytesHi := q.bytes / 2 ^ 32 % 2 ^ 32 }) s))) ∧
  (∀ (s : State), expertMode s = true → exec (.slDigestSsiLoRead) s = .next (regRead (s.sl.digestSsi % 2 ^ 32) (modSl (fun q => { q with ssiHi := q.digestSsi / 2 ^ 32, latched := q.digest }) s))) ∧
  (∀ (c : Nat) (s : State), expertMode s = true → (c = 1 ∨ c = 2) → (sealCh s c).busy = false → s.sl.queue.any (fun j => j.chan = c) = false → exec (.slCtrlGo c) s = .next (modCh c (fun q => { q with busy := true, done := false, err := 0 }) s)) ∧
  (∀ (c : Nat) (s : State), expertMode s = true → (c = 1 ∨ c = 2) → (sealCh s c).busy = true → exec (.slCtrlGo c) s = .next (modCh c (fun q => { q with events := setBit q.events 0 }) s)) ∧
  (∀ (c : Nat) (s : State), expertMode s = true → (c = 1 ∨ c = 2) → (sealCh s c).busy = true → s.sl.queue = [] → exec (.slCtrlAbort c) s = .next (sealNext (sealEnd c 5 (sealCh s c).bytes (zeros 32) (zeros 40) none s))) ∧
  (∀ (c : Nat) (bad : Option (Nat × Nat)) (j : SealJob) (s : State), (sealCh s c).busy = true → s.sl.queue.find? (fun j => j.chan = c) = some j → exec (.sealJobDone c bad) s = .next (sealJobEnds c j bad s)) ∧
  (∀ (c : Nat) (bad : Option (Nat × Nat)) (s : State), (sealCh s c).busy = true → s.sl.queue.find? (fun j => j.chan = c) = none → exec (.sealJobDone c bad) s = .next (sealListEnds c bad s)) ∧
  (∀ (ssi : Nat) (miss : Bool) (d : Nat) (l : List (Tab Sample)) (s : State), s.sl.ready = some (ssi, miss, l) → d = digestOf (presentSinks s.variant) l → ∃ t, exec (.sealDigestReady) s = .next t ∧ t.sl.ready = none ∧ t.sl.digest = d ∧ t.sl.digestSsi = ssi ∧ (sealCh t 3).busy = false ∧ (sealCh t 3).result = le 8 d)

/-- Copybook and Vellum: CB_CTRL starts the selected tests in MAINTENANCE and sets REJ otherwise; an abort ends them; CB_FIFO gives the next result word;
a run that is done is reported; a periodic save is written after 600 s, and a slot of Vellum that is written is the newest or is retired; a read of
the AON seconds latches their high word. Rules: R30, R618, R619, R620, R622, R626, R627, R628, R636, R638, R639, R647. -/
def Obligations.CopybookEventsComplete : Prop :=
  (∀ (m : Nat) (s : State), s.power.mode = .maintenance → m = s.cb.sel % 65536 → m ≠ 0 → m % 2 = 0 → fld s.cb.sel 16 1 = 0 → s.cb.busy = false → exec (.cbCtrlGo) s = .next (cbStart 0 m s)) ∧
  (∀ (s : State), s.power.mode = .commission → exec (.cbCtrlGo) s = .next (modCb (fun c => { c with rej := true }) s)) ∧
  (∀ (s : State), expertMode s = true → s.cb.busy = true → exec (.cbCtrlAbort) s = .next (modCb (fun c => { c with aborting := true }) s)) ∧
  (∀ (s : State), expertMode s = true → exec (.cbFifoRead) s = .next (regRead (ofLe (s.cb.fifo.headD [])) (modCb (fun c => { c with fifo := c.fifo.tail }) s))) ∧
  (∀ (outs : List CbOutcome) (s : State), s.cb.busy = true → s.cb.aborting = true → ∃ t, exec (.copybookDone outs) s = .next t ∧ t.cb.busy = false ∧ t.cb.aborting = false ∧ t.cb.elapsed = s.stem.ms - s.cb.startMs) ∧
  (∀ (s : State), expertMode s = true → exec (.vlAonLoRead) s = .next (regRead (s.stem.aonMs / 1000 % 2 ^ 32) { s with vl := { s.vl with aonHi := s.stem.aonMs / 1000 / 2 ^ 32 } })) ∧
  (∀ (s : State), s.vl.lastMs + 600000 ≤ s.stem.ms → s.power.mode ≠ .held → s.vl.worn = false → s.vl.writing = none → exec (.vellumPeriodicWrite) s = .next (beginWrite 0 [] s)) ∧
  (∀ (w : VlWrite) (s : State), s.vl.writing = some w → exec (.vellumWriteDone true) s = .next (slotStored w s)) ∧
  (∀ (w : VlWrite) (s : State), s.vl.writing = some w → exec (.vellumWriteDone false) s = .next (slotRetired w s))

/-- Quill's ports and PTP: a frame with a bad FCS is counted and dropped; a PAUSE frame is counted; a wake packet latches cause 2; another frame is
admitted by its class; a Sync and an Announce of the port's domain are taken and Sync is sent by a leader; a link comes up and goes down; a time-out
of Announce, and the retry of ARP, act. Rules: R58, R415, R416, R417, R418, R436. -/
def Obligations.NetFramesComplete : Prop :=
  (∀ (f : Frame) (s : State), f.port < netPorts s.variant → (netPort s f.port).link = true → f.fcs = false → exec (.frameRx f) s = .next (modNet f.port (fun q => { q with fcsErr := q.fcsErr + 1 }) s)) ∧
  (∀ (f : Frame) (s : State), f.port < netPorts s.variant → (netPort s f.port).link = true → f.fcs = true → f.ether = 0x8808 → exec (.frameRx f) s = .next (modNet f.port (fun q => { q with pause := q.pause + 1 }) (modNet f.port (fun q => { newSecond s q with rxFrames := q.rxFrames + 1 }) s))) ∧
  (∀ (f : Frame) (s : State), f.port < netPorts s.variant → (netPort s f.port).link = true → f.fcs = true → f.ether ≠ 0x8808 → wakePacket s f = false → exec (.frameRx f) s = .next (admitFrame f (modNet f.port (fun q => { newSecond s q with rxFrames := q.rxFrames + 1 }) s))) ∧
  (∀ (m : PtpMsg) (s : State), m.port < netPorts s.variant → (netPort s m.port).link = true → (ptpPort s m.port).cfg.role ≠ 0 → m.domain = (ptpPort s m.port).cfg.domain → m.iface = (ptpPort s m.port).cfg.iface → m.kind = 1 → exec (.ptpMessageRx m) s = .next (takeAnnounce m.port m.data s)) ∧
  (∀ (m : PtpMsg) (s : State), m.port < netPorts s.variant → (netPort s m.port).link = true → (ptpPort s m.port).cfg.role ≠ 0 → m.domain = (ptpPort s m.port).cfg.domain → m.iface = (ptpPort s m.port).cfg.iface → m.kind = 0 → (ptpPort s m.port).state = 2 → exec (.ptpMessageRx m) s = .next (takeSync m s)) ∧
  (∀ (n : Nat) (s : State), n < netPorts s.variant → (netPort s n).link = true → (ptpPort s n).state = 3 → (ptpPort s n).cfg.oneStep = true → exec (.ptpSyncTx n) s = .next (sendNet n (ptpPort s n).cfg.iface 0 true (.ptpSync (gridPs s)) (modNet n (fun q => { q with txFrames := q.txFrames + 1 }) (modPtp n (fun q => { q with syncTx := q.syncTx + 1, sent := announced s n, sentPs := gridPs s }) s)))) ∧
  (∀ (n : Nat) (s : State), n < netPorts s.variant → (netPort s n).link = true → (ptpPort s n).state = 3 → (ptpPort s n).cfg.oneStep = false → exec (.ptpSyncTx n) s = .next (sendNet n (ptpPort s n).cfg.iface 0 true (.ptpSync (gridPs s)) (modNet n (fun q => { q with txFrames := q.txFrames + 2 }) (modPtp n (fun q => { q with syncTx := q.syncTx + 1, sent := announced s n, sentPs := gridPs s }) s)))) ∧
  (∀ (n : Nat) (s : State), n < netPorts s.variant → exec (.netLink n true) s = .next (linkUp n s)) ∧
  (∀ (n : Nat) (s : State), n < netPorts s.variant → exec (.netLink n false) s = .next (linkDown n s)) ∧
  (∀ (n : Nat) (s : State), n < netPorts s.variant → (ptpPort s n).cfg.role = 1 → (ptpPort s n).state = 2 → announceLate s n = true → exec (.announceReceiptTimeout n) s = .next (leaveFollower n 1 2 (modPtp n (fun q => { q with timeouts := q.timeouts + 1 }) s))) ∧
  (∀ (n : Nat) (s : State), n < netPorts s.variant → (ptpPort s n).cfg.role = 3 → (ptpPort s n).state = 2 → announceLate s n = true → exec (.announceReceiptTimeout n) s = .next (leaveFollower n 3 2 (modPtp n (fun q => { q with timeouts := q.timeouts + 1 }) s))) ∧
  (∀ (n p a mac : Nat) (s : State), enOf (txStream s n).entry = true → txUnicast (txStream s n).entry = true → (txStream s n).arp = false → (netPort s (portOf (txStream s n).entry)).link = true → p = portOf (txStream s n).entry → a = u8 (txStream s n).entry 4 → exec (.arpRetry n (some mac)) s = .next (settleTx n (modTx n (fun q => { q with arp := true }) (learnArp p (nextHop s p a (u32 (txStream s n).entry 12)) mac (sendNet p a 2 false (.arpRequest (nextHop s p a (u32 (txStream s n).entry 12))) s))))) ∧
  (∀ (n p a : Nat) (s : State), enOf (txStream s n).entry = true → txUnicast (txStream s n).entry = true → (txStream s n).arp = false → (netPort s (portOf (txStream s n).entry)).link = true → p = portOf (txStream s n).entry → a = u8 (txStream s n).entry 4 → exec (.arpRetry n none) s = .next (settleTx n (sendNet p a 2 false (.arpRequest (nextHop s p a (u32 (txStream s n).entry 12))) s)))

/-- Media streams and NMOS: a packet of a heard stream is counted unaligned, or taken into its buffer; a leg without packets for 16 packet times falls; an
offset error and a repeat limit settle the receiver; a packet that is due is sent or gated; a window is applied as NET.RX_SET or NET.TX_SET would; an
IS-05 activation is refused with 403 or carried out; IS-04 counts its heartbeats. Rules: R30, R50, R126, R136, R421, R423, R427, R429, R431, R435,
R436, R445, R446, R450, R717. -/
def Obligations.StreamEventsComplete : Prop :=
  (∀ (p : MediaPacket) (s : State), s.power.mode ≠ .standby → p.stream < streamsOf s.variant → p.port < netPorts s.variant → (netPort s p.port).link = true → streamHeard p s = true → s.stem.aligned = false → exec (.mediaPacketRx p) s = .next (modNet p.port (fun q => { q with unaligned := q.unaligned + 1 }) s)) ∧
  (∀ (p : MediaPacket) (s : State), s.power.mode ≠ .standby → p.stream < streamsOf s.variant → p.port < netPorts s.variant → (netPort s p.port).link = true → streamHeard p s = true → s.stem.aligned = true → exec (.mediaPacketRx p) s = .next (packetNow p (packetNext p s))) ∧
  (∀ (n : Nat) (s : State), enOf (rxStream s n).entry = true → (rxStream s n).buf.seen1 + 16 * sppAt s.stem.mult (rxStream s n).entry ≤ s.stem.ssi → exec (.legDown n 1) s = .next (legFalls n 1 s)) ∧
  (∀ (n : Nat) (s : State), enOf (rxStream s n).entry = true → (rxStream s n).buf.seen2 + 16 * sppAt s.stem.mult (rxStream s n).entry ≤ s.stem.ssi → exec (.legDown n 2) s = .next (legFalls n 2 s)) ∧
  (∀ (n t : Nat) (s : State), (rxStream s n).badMs = some t → enOf (rxStream s n).entry = true → t + 100 ≤ s.stem.ms → exec (.offsetError n) s = .next (settleRx n (modRx n (fun q => { q with offsetErr := true }) s))) ∧
  (∀ (n : Nat) (s : State), (rxStream s n).running = true → u16 (rxStream s n).entry 46 ≤ (rxStream s n).repeats → exec (.repeatLimitExpiry n) s = .next (settleRx n (modRx n (fun q => { q with running := false }) s))) ∧
  (∀ (n u : Nat) (l : List (List Sample)) (s : State), (txStream s n).due = some (u, l) → (txStream (settleTx n s) n).state = 2 → exec (.txPacketSend n) s = .next (sendPacket n u l (settleTx n s))) ∧
  (∀ (n u : Nat) (l : List (List Sample)) (s : State), (txStream s n).due = some (u, l) → (txStream (settleTx n s) n).state ≠ 2 → exec (.txPacketSend n) s = .next (modTx n (fun q => { q with due := none, gated := q.gated + 1 }) (settleTx n s))) ∧
  (∀ (w : Word) (s : State), expertMode s = true → bit w.toNat 31 = true → fld w.toNat 0 13 < streamsOf s.variant → bit w.toNat 16 = false → succeeded (issueInternal 0x0410 cmdNetRxSet (windowCtx (fld w.toNat 0 13) ((rxStream s (fld w.toNat 0 13)).window.getD (rxStream s (fld w.toNat 0 13)).entry)) s).1 = true → exec (.qlApply w) s = .next (modRx (fld w.toNat 0 13) (fun q => { q with window := none }) (issueInternal 0x0410 cmdNetRxSet (windowCtx (fld w.toNat 0 13) ((rxStream s (fld w.toNat 0 13)).window.getD (rxStream s (fld w.toNat 0 13)).entry)) s).2)) ∧
  (∀ (tx : Bool) (e : Is05Params) (mode ns : Nat) (s : State), s.quill.nmos.en = true → s.boot.netUp = true → s.boot.stage = .ready → s.quill.nmos.write = false → exec (.is05Activation tx e mode ns) s = .next (modQuill (fun q => { q with http := 403 }) s)) ∧
  (∀ (e : Is05Params) (d : Sdp) (ns mode : Nat) (s : State), s.quill.nmos.en = true → s.boot.netUp = true → s.boot.stage = .ready → s.quill.nmos.write = true → e.sdp = some d → sdpRateOk s d = false → exec (.is05Activation false e mode ns) s = .next (modQuill (fun q => { q with http := 400, debug := some .badParam }) s)) ∧
  (∀ (entry : Bytes) (x : Ctx) (s : State), s.quill.nmos.en = true → s.boot.netUp = true → s.boot.stage = .ready → s.quill.nmos.write = true → x = { client := 0xFD, seq := s.ink.order % 65536, role := 3, p := nmosEntry false (padTo 64 entry) s } → succeeded (issueInternal 0x0410 cmdNetRxSet x s).1 = true → exec (.is05Activation false ⟨entry, none⟩ 0 0) s = .next (modQuill (fun q => { q with http := httpOf (issueInternal 0x0410 cmdNetRxSet x s).1, debug := some (issueInternal 0x0410 cmdNetRxSet x s).1 }) (issueInternal 0x0410 cmdNetRxSet x s).2)) ∧
  (∀ (s : State), s.quill.nmos.en = true → s.boot.netUp = true → exec (.is04Heartbeat) s = .next (modQuill (fun q => { q with beats := q.beats + 1, published := nmosResources s }) s))

/-- Cue inputs and LTC: a packet with another start code or of Preview is counted and discarded; a source without packets for 2.5 s is dropped and another
one followed; an OSC message that no cue matches is counted; a bad LTC frame counts an error and its loss ends the lock; a timecode cue in the coming
frame fires; LTC out sends the frame's time. Rules: R330, R331, R332, R333, R334, R675, R676. -/
def Obligations.CueInputsComplete : Prop :=
  (∀ (p : SacnPacket) (s : State), cueLive s = true → bit s.prog.cue.cfg.sacnPorts p.port = true → p.port < netPorts s.variant → (universesOf s.prog.cue.map).contains p.univ = true → (p.start ≠ 0 ∨ p.preview = true) → exec (.sacnPacketRx p) s = .next (modCueCount 1 (fun c => { c with received := c.received + 1, discarded := c.discarded + 1 }) (msBegin s))) ∧
  (∀ (p : SacnPacket) (s : State), cueLive s = false → exec (.sacnPacketRx p) s = .next (msBegin s)) ∧
  (∀ (p : SacnPacket) (s : State), cueLive s = true → bit s.prog.cue.cfg.sacnPorts p.port = true → p.port < netPorts s.variant → (universesOf s.prog.cue.map).contains p.univ = true → p.start = 0 → p.preview = false → p.terminated = false → (tabGet {} s.prog.cue.universes p.univ).sources = [] → (tabGet {} s.prog.cue.universes p.univ).started = false → ∃ t, exec (.sacnPacketRx p) s = .next t ∧ ∃ u, mapGet t.prog.cue.universes p.univ = some u ∧ u.follow = p.cid ∧ u.started = true ∧ u.slots = putSlots [] p.slots) ∧
  (∀ (univ cid : Nat) (s : State), (tabGet {} s.prog.cue.universes univ).sources.any (fun x => x.cid = cid && x.ms + 2500 ≤ s.stem.ms) = true → exec (.sacnSourceLost univ cid) s = .next (modCue (fun c => { c with universes := tabPut {} c.universes univ (reselect { tabGet {} s.prog.cue.universes univ with sources := (tabGet {} s.prog.cue.universes univ).sources.filter (fun x => x.cid ≠ cid) }) }) s)) ∧
  (∀ (net port : Nat) (data : Bytes) (s : State), cueLive s = true → net < netPorts s.variant → s.prog.cue.cfg.oscPort ≠ 0 → port = s.prog.cue.cfg.oscPort → s.prog.cue.map = [] → exec (.oscMessageRx net port data) s = .next ((oscMessages (data.length + 1) [data]).foldl (fun t m => oscAct m t) (modCueCount 2 (fun c => { c with received := c.received + 1, discarded := c.discarded + 1 }) (msBegin s)))) ∧
  (∀ (f : LtcFrame) (start : Nat) (s : State), f.valid = false → s.host.ltc.state = 0 → exec (.ltcFrameDecoded f start) s = .next (ltcState 1 { msBegin s with host := { s.host with ltc := { s.host.ltc with errors := (s.host.ltc.errors + 1) % 2 ^ 32, good := 0, bad := s.host.ltc.bad + 1 } } })) ∧
  (∀ (f : LtcFrame) (start : Nat) (s : State), f.valid = false → s.host.ltc.state = 1 → exec (.ltcFrameDecoded f start) s = .next ({ msBegin s with host := { s.host with ltc := { s.host.ltc with errors := (s.host.ltc.errors + 1) % 2 ^ 32, good := 0, bad := s.host.ltc.bad + 1 } } })) ∧
  (∀ (s : State), s.host.ltc.state ≠ 0 → exec (.ltcInLost) s = .next (raise 0x0109 (le 1 s.host.ltc.state ++ le 1 0 ++ le 1 s.host.ltc.rate) { s with host := { s.host with ltc := { s.host.ltc with good := 0, bad := 0, state := 0 } } })) ∧
  (∀ (n k : Nat) (e : CueEntry) (go : Nat) (s : State), s.prog.cue.map.find? (fun e => e.1 = n && e.2.source = 3) = some (n, e) → s.prog.cue.cfg.tcSource = 2 → s.stem.aligned = true → cueLive s = true → k = tcIndex s.prog.cue.cfg.tcRate e.tc → go = (frameStart s s.prog.cue.cfg.tcRate k + 86400 * fsOp s - sinceMidnight s s.prog.cue.cfg.tzOfs) % (86400 * fsOp s) → frameStart s s.prog.cue.cfg.tcRate 2 ≤ go → go < frameStart s s.prog.cue.cfg.tcRate 3 → exec (.timecodeTrigger n k) s = .next (fireCue n e none (s.stem.ssi + go) (modCueCount 3 (fun c => { c with received := c.received + 1 }) (msBegin s)))) ∧
  (∀ (k : Nat) (cfg : LtcCfg) (s : State), ltcRuns s = true → s.stem.stemLock = true → k = ltcDayFrame s → cfg = s.host.ltc.next.getD s.host.ltc.cfg → ∃ t, exec (.ltcOutFrame k) s = .next t ∧ t.host.ltc.cfg = cfg ∧ t.host.ltc.next = none ∧ t.host.ltc.outTime = tcAddress cfg.rate k ∧ (t.host.ltc.sent.map (·.bits)).head? = some (ltcBits cfg (tcAddress cfg.rate k)) ∧ t.ink = s.ink ∧ t.bl = s.bl)

/-- The twin link: a frame that the partner takes counts as one; HELLO brings the link up and judges the pair; STATUS keeps the partner's state; JOURNAL
is replayed in order, an old one acknowledged again and a gap making the unit COLD; an acknowledgement, GIVEUP, HANDOVER, CHECK and SNAP act as the
unit's state allows; a frame that is not the pair's counts a link error. Rules: R476, R481, R483, R485, R486, R489, R497, R500. -/
def Obligations.TwinFramesComplete : Prop :=
  (∀ (h : TwinHead) (nonce : Nat) (peer : TwinPeer) (s : State), FrameIn h s → s.twin.linkUp = true → exec (.twinHelloRx h nonce peer) s = .next (judgePair (modTwin (fun w => { w with linkUp := true, silent := 0, nonce := nonce, hello := some peer }) (frameCounted s)))) ∧
  (∀ (h : TwinHead) (nonce : Nat) (peer : TwinPeer) (s : State), isPartner s = true → frameOk h s = false → exec (.twinHelloRx h nonce peer) s = .next (modTwin (fun w => { w with linkErr := w.linkErr + 1 }) s)) ∧
  (∀ (f : TwinStatus) (s : State), FrameIn f.head s → s.twin.linkUp = true → s.twin.state = 4 → s.twin.handover = none → exec (.twinStatusRx f) s = .next (compareDigest f.period f.digest (bit f.flags 0) (unitsMeet f (claimGate f (modTwin (fun w => { w with heard := true, pState := f.state, partnerClaim := f.claim, pFlags := f.flags, partnerIp := f.ip, pGm := f.gm, pHeld := f.held, sole := w.sole && !(f.state = 2), snapSent := if f.state = 3 then w.snapSent else none }) (frameCounted s)))))) ∧
  (∀ (e : TwinEntry) (s : State), FrameIn e.head s → s.twin.linkUp = true → s.twin.state = 2 → e.jsn = s.twin.jsn + 1 → s.stem.ssi + 16 ≤ e.applySsi → exec (.twinJournalRx e) s = .next (sendAck e.jsn (modTwin (fun w => { w with jsn := e.jsn }) (replay e (frameCounted s))))) ∧
  (∀ (e : TwinEntry) (s : State), FrameIn e.head s → s.twin.linkUp = true → s.twin.state = 2 → s.twin.jsn + 1 < e.jsn → exec (.twinJournalRx e) s = .next (becomeCold (frameCounted s))) ∧
  (∀ (h : TwinHead) (jsn : Nat) (s : State), FrameIn h s → s.twin.linkUp = true → exec (.twinJAckRx h jsn) s = .next (modTwin (fun w => { w with unacked := w.unacked.filter (fun e => e.jsn ≠ jsn) }) (frameCounted s))) ∧
  (∀ (h : TwinHead) (cause stop : Nat) (s : State), FrameIn h s → s.twin.linkUp = true → s.twin.state = 2 → s.twin.handover = none → exec (.twinGiveupRx h cause stop) s = .next (modTwin (fun w => { w with claim := w.cfg.claim, openAt := some stop, closeAt := none, serifAt := some (stop, true), actAt := some { at_ := nextBoundary s, state := 1, kind := 0, stop := stop } }) (frameCounted s))) ∧
  (∀ (h : TwinHead) (point claim : Nat) (s : State), FrameIn h s → s.twin.linkUp = true → s.twin.state = 2 → s.twin.handover = none → exec (.twinHandoverRx h point claim) s = .next (modTwin (fun w => { w with handover := some { point := point, newClaim := claim, cmd := none, incoming := true } }) (frameCounted s))) ∧
  (∀ (h : TwinHead) (period result : Nat) (s : State), FrameIn h s → s.twin.linkUp = true → s.twin.state = 2 → result = 0 → exec (.twinCheckRx h period result) s = .next (startCheck period (frameCounted s))) ∧
  (∀ (h : TwinHead) (at_ total : Nat) (data : Bytes) (s : State), FrameIn h s → s.twin.linkUp = true → s.twin.state = 3 → s.twin.snapReq = true → s.twin.snap = none → data.length < total → exec (.twinSnapRx h at_ 0 total data false) s = .next (modTwin (fun w => { w with snap := some (at_, data) }) (frameCounted s))) ∧
  (∀ (h : TwinHead) (at_ total : Nat) (data : Bytes) (s : State), FrameIn h s → s.twin.linkUp = true → s.twin.state = 3 → s.twin.snapReq = false → s.twin.snap = none → exec (.twinSnapRx h at_ 0 total data false) s = .next (takeSignals (Config.signalsOf data) (frameCounted s))) ∧
  (∀ (passed : Bool) (c : TwinCheck) (s : State), s.twin.check = some c → c.own = none → exec (.mismatchCheckDone passed) s = .next (judgeCheck (twinSend 7 (le 8 c.period ++ le 1 (if passed then 1 else 2)) (modTwin (fun w => { w with check := some { c with own := some (if passed then 1 else 2) } }) s)))) ∧
  (∀ (s : State), isPartner s = true → s.twin.state = 1 → s.twin.linkUp = true → exec (.journalResend) s = .next (s.twin.unacked.foldl (fun t e => twinSend 3 (journalFrame e) t) s))

/-- A pair of engines: a cause of giving up makes the ACTIVE unit give its work to a WARM partner, or tell that it is alone, and the other unit OUT; a
handover closes and opens the gates at its point and 8 samples later exchanges the states; a link without frames goes down; a WARM unit whose partner
dies silently takes its claim; the wait for forming, the retry of the pairing and the clearing of a cause act. Rules: R476, R478, R481, R487, R488,
R490, R491, R493, R497. -/
def Obligations.TwinTimersComplete : Prop :=
  (∀ (cause ns : Nat) (s : State), (1 ≤ cause ∧ cause ≤ 6) → isPartner s = true → (s.twin.state = 2 ∨ s.twin.state = 3) → exec (.giveupCause cause ns) s = .next (twinState 4 cause (dropHandover (modTwin (fun w => { w with cause := cause, causeMs := s.stem.ms, causeMark := s.rt.passes }) s)))) ∧
  (∀ (cause ns : Nat) (s : State), (1 ≤ cause ∧ cause ≤ 6) → isPartner s = true → s.twin.state = 1 → s.twin.claim ≠ 0 → partnerWarm s = true → exec (.giveupCause cause ns) s = .next (giveUp cause (stopSsiAt s ns) (modTwin (fun w => { w with cause := cause, causeMs := s.stem.ms, causeMark := s.rt.passes }) s))) ∧
  (∀ (h : Handover) (s : State), s.twin.handover = some h → h.began = false → h.point ≤ s.stem.ssi → h.timed = false → h.incoming = true → ∃ t, exec (.handoverPoint) s = .next t ∧ t.twin.claim = h.newClaim ∧ t.twin.openAt = some h.point ∧ t.twin.serifAt = some (h.point, true) ∧ t.twin.handover = some { h with began := true }) ∧
  (∀ (h : Handover) (s : State), s.twin.handover = some h → h.began = false → h.point ≤ s.stem.ssi → h.timed = false → h.incoming = false → ∃ t, exec (.handoverPoint) s = .next t ∧ t.twin.claim = s.twin.claim ∧ t.twin.closeAt = some (h.point + 8) ∧ t.twin.serifAt = some (h.point, false) ∧ t.twin.handover = some { h with began := true }) ∧
  (∀ (h : Handover) (s : State), s.twin.handover = some h → h.began = true → h.point + 8 ≤ s.stem.ssi → h.incoming = true → exec (.handoverEnd) s = .next (takeClaim 2 h.newClaim h.point (modTwin (fun w => { w with pState := 2 }) s))) ∧
  (∀ (h : Handover) (s : State), s.twin.handover = some h → h.began = true → h.point + 8 ≤ s.stem.ssi → h.incoming = false → exec (.handoverEnd) s = .next (becomeShadow 2 0 (modTwin (fun w => { w with handover := none, handovers := w.handovers + 1, pState := 1 }) s))) ∧
  (∀ (s : State), isPartner s = true → s.twin.linkUp = true → 2 ≤ s.twin.silent → s.twin.state = 2 → exec (.twinLinkDown) s = .next (becomeCold (raise 0x0B05 (le 1 0 ++ le 1 0) (modTwin (fun w => { w with linkUp := false, heard := false, helloOk := false, unacked := [], snapSent := none }) s)))) ∧
  (∀ (s : State), isPartner s = true → (s.twin.state = 2 ∨ s.twin.state = 3) → s.twin.pState = 1 → 2 ≤ s.twin.silent → 2 ≤ s.twin.noEdge → s.stem.ssi % 8 = 0 → exec (.silentDeath) s = .next (takeClaim 1 s.twin.cfg.claim 0 (dropHandover s))) ∧
  (∀ (s : State), isPartner s = true → s.twin.forming = true → s.twin.state = 3 → s.twin.formMs + 100 * s.twin.cfg.wait ≤ s.stem.ms → s.twin.heard = false → s.twin.linkUp = false → s.twin.claimInOk = false → exec (.formWaitExpiry) s = .next (modTwin (fun w => { w with forming := false, actAt := some { at_ := nextBoundary s, state := 1, kind := 4 } }) s)) ∧
  (∀ (s : State), isPartner s = true → s.twin.forming = true → s.twin.state = 3 → s.twin.formMs + 100 * s.twin.cfg.wait ≤ s.stem.ms → s.twin.linkUp = true → s.twin.pState = 1 → exec (.formWaitExpiry) s = .next (modTwin (fun w => { w with forming := false, snapReq := true }) s)) ∧
  (∀ (s : State), isPartner s = true → s.twin.formCause ≠ 0 → s.twin.linkUp = true → s.twin.retryMs + 1000 ≤ s.stem.ms → exec (.pairingRetry) s = .next (judgePair s)) ∧
  (∀ (s : State), isPartner s = true → s.twin.state = 4 → causeCleared s = true → exec (.giveupCauseCleared) s = .next (becomeCold (modTwin (fun w => { w with cause := 0 }) s)))

/-- Manuscript: a peer of the roster that connects is greeted with HELLO; HELLO, VIEW and the messages of a flourish are taken as the member's state
allows: VIEW joins, PREPARE is passed on and voted, votes settle, COMMIT is held for its time or late, ABORT drops, acknowledgements are counted at
the origin. Rules: R451, R453, R454, R455, R456, R461, R463, R464, R466, R471. -/
def Obligations.ManuscriptMessagesComplete : Prop :=
  (∀ (member key msId ip : Nat) (s : State), s.ms.cfg.msId ≠ 0 → msId = s.ms.cfg.msId → s.ms.state ≠ 0 → actsForPair s = true → key ≠ 0 → s.ms.roster.any (fun e => e.2 = (member, key)) = true → exec (.msPeerConnect member key msId ip) s = .next (msSend member 1 (helloBody (msBegin s)) (modMs (fun m => { m with peers := m.peers.filter (fun q => q.member ≠ member) ++ [{ member := member, ip := ip, lastMs := s.stem.ms }] }) (msBegin s)))) ∧
  (∀ (h : MsHello) (s : State), hasPeer s h.sender = true → actsForPair s = true → s.ms.state = 2 → h.asks = false → exec (.msHelloRx h) s = .next (msSend h.sender 2 (viewBody s.ms.members) (heardFrom h.sender (modMs (fun m => { m with peers := m.peers.map (fun p => if p.member = h.sender then { p with hello := true } else p) }) (msBegin s))))) ∧
  (∀ (h : MsHello) (s : State), hasPeer s h.sender = false → exec (.msHelloRx h) s = .next (msBegin s)) ∧
  (∀ (via view : Nat) (members : List Nat) (s : State), s.ms.cfg.msId ≠ 0 → actsForPair s = true → s.ms.state = 2 → members.contains (msMe s) = true → s.ms.view < view → exec (.msViewRx via view members none) s = .next (adoptView (some via) view members (heardFrom via (msBegin s)))) ∧
  (∀ (via : Nat) (p : MsPrepare) (s : State), msReady s = true → s.ms.joinView ≤ p.view → p.origin ≠ msMe s → flourishOf s p.origin p.number = none → ∃ t, exec (.msPrepareRx via p) s = .next t ∧ (∃ g, flourishOf t p.origin p.number = some g ∧ g.apply = p.apply ∧ g.scene = p.scene)) ∧
  (∀ (via origin number count st refuser : Nat) (f : Flourish) (s : State), msReady s = true → flourishOf s origin number = some f → f.votes.contains via = false → f.phase = 0 → st = 0 → exec (.msVoteRx via origin number count st refuser) s = .next (settleVotes { f with votes := via :: f.votes, ready := f.ready + count } (putFlourish { f with votes := via :: f.votes, ready := f.ready + count } (heardFrom via (msBegin s))))) ∧
  (∀ (via origin number : Nat) (f : Flourish) (s : State), msReady s = true → flourishOf s origin number = some f → f.origin ≠ msMe s → f.ack = none → f.missed = false → commitLate s f = false → exec (.msCommitRx via origin number) s = .next (msSend via 7 (numberBody f ++ le 2 0) (holdCommit f (msFlood (some via) 5 (numberBody f) (heardFrom via (msBegin s)))))) ∧
  (∀ (via origin number a : Nat) (f : Flourish) (s : State), msReady s = true → flourishOf s origin number = some f → f.origin ≠ msMe s → f.ack = some a → exec (.msCommitRx via origin number) s = .next (msSend via 7 (numberBody f ++ le 2 a) (heardFrom via (msBegin s)))) ∧
  (∀ (via origin number st : Nat) (f : Flourish) (s : State), msReady s = true → flourishOf s origin number = some f → f.origin ≠ msMe s → f.phase = 2 → exec (.msAbortRx via origin number st) s = .next (msSend via 7 (numberBody f ++ le 2 0) (heardFrom via (msBegin s)))) ∧
  (∀ (via origin number st : Nat) (f : Flourish) (s : State), msReady s = true → flourishOf s origin number = some f → f.origin ≠ msMe s → f.phase = 0 → exec (.msAbortRx via origin number st) s = .next (msSend via 7 (numberBody f ++ le 2 0) (modMs (fun m => { m with aborts := m.aborts + 1 }) (putFlourish { f with phase := 2, ack := some 0 } (dropTurn origin number (msFlood (some via) 6 (numberBody f ++ le 2 st) (heardFrom via (msBegin s)))))))) ∧
  (∀ (via member origin number : Nat) (f : Flourish) (s : State), msReady s = true → flourishOf s origin number = some f → f.origin = msMe s → f.acked.contains member = false → f.lateBy.contains member = false → exec (.msAckRx via member origin number 0) s = .next (putFlourish { f with acked := f.acked ++ [member] } (heardFrom via (msBegin s)))) ∧
  (∀ (member : Nat) (s : State), exec (.msHeartbeatRx member) s = .next (modMs (fun q => { q with peers := q.peers.map (fun p => if p.member = member then { p with lastMs := s.stem.ms } else p) }) s))

/-- Manuscript's timers: a member sends its heartbeat every 500 ms; a peer without messages for 3 s is gone; at its vote deadline a flourish commits, when
it may be partial and nothing refused, or aborts; COMMIT is sent again to those that have not answered; a member that was left asks to join again
every second. Rules: R455, R461, R462, R464, R473. -/
def Obligations.ManuscriptTimersComplete : Prop :=
  (∀ (s : State), msReady s = true → s.ms.beatMs + 500 ≤ s.stem.ms → exec (.msHeartbeatTimer) s = .next (msFlood none 8 (le 8 s.stem.ssi) (modMs (fun m => { m with beatMs := s.stem.ms }) (msBegin s)))) ∧
  (∀ (member : Nat) (p : Peer) (s : State), s.ms.peers.find? (fun p => p.member = member) = some p → p.lastMs + 3000 ≤ s.stem.ms → actsForPair s = true → s.ms.state ≠ 2 → exec (.msMemberGone member) s = .next (modMs (fun q => { q with peers := q.peers.filter (fun p => p.member ≠ member) }) (msBegin s))) ∧
  (∀ (number : Nat) (f : Flourish) (s : State), flourishOf s (msMe s) number = some f → f.phase = 0 → f.apply ≤ s.stem.ssi + msLead s / 2 → bit f.flags 3 = true → f.refusal = none → exec (.msVoteDeadline number) s = .next (commitFlourish f (msBegin s))) ∧
  (∀ (number : Nat) (f : Flourish) (s : State), flourishOf s (msMe s) number = some f → f.phase = 0 → f.apply ≤ s.stem.ssi + msLead s / 2 → bit f.flags 3 = false → exec (.msVoteDeadline number) s = .next (abortFlourish f 0x1A (msBegin s))) ∧
  (∀ (number : Nat) (f : Flourish) (s : State), flourishOf s (msMe s) number = some f → f.phase = 1 → commitLate s f = false → f.sentMs + 2 ≤ s.stem.ms → exec (.msCommitResend number) s = .next (putFlourish { f with sentMs := s.stem.ms } ((s.ms.members.filter (fun m => ¬ f.acked.contains m ∧ ¬ f.lateBy.contains m)).foldl (fun t m => msSend m 5 (numberBody f) t) (msBegin s)))) ∧
  (∀ (s : State), s.ms.state = 3 → s.ms.retryMs + 1000 ≤ s.stem.ms → actsForPair s = true → exec (.msRejoin) s = .next (s.ms.peers.foldl (fun t p => msSend p.member 1 (helloBody t) t) (modMs (fun m => { m with retryMs := s.stem.ms, tries := m.tries + 1 }) (msBegin s))))

/-- Retouch and Blotter: a Nib's test step that passes goes on to the next, one that fails is retried; a dispatch time-out and an uncorrectable error are
Nib faults or memory rows; a migration copies and swaps the work; a quarantined Nib that has run clean is admitted again; a Nib that is not covered in
time is told; the watch list forgets after a day; the repairs are stored. Rules: R255, R260, R578, R579, R583, R591, R593, R595, R599, R600. -/
def Obligations.RetouchEventsComplete : Prop :=
  (∀ (n : Nat) (x : State) (s : State), (nibState s n = 1 ∨ nibState s n = 2 ∨ nibState s n = 3) → blotterRuns s = true → effLevel s = 0 → mayTest s n = true → x = noteTest n s → (nibRec s n).inject = 0 → (nibRec s n).retest = false → (nibRec s n).step ≠ 127 → exec (.blotterDispatchDone n true) s = .next (modNib n (fun q => { q with step := q.step + 1 }) x)) ∧
  (∀ (n : Nat) (x : State) (s : State), (nibState s n = 1 ∨ nibState s n = 2 ∨ nibState s n = 3) → blotterRuns s = true → effLevel s = 0 → mayTest s n = true → x = noteTest n s → (nibRec s n).inject = 0 → (nibRec s n).retest = false → exec (.blotterDispatchDone n false) s = .next (countFault n 1 false (modNib n (fun q => { q with cls := 1, retest := true, failed := some (q.failed.getD q.step) }) (modRt (fun q => { q with fails := q.fails + 1 }) x)))) ∧
  (∀ (n : Nat) (s : State), nibState s n ≠ 0 → exec (.dispatchTimeout n) s = .next (nibFault n 4 false s)) ∧
  (∀ (n word key : Nat) (s : State), nibState s n ≠ 0 → exec (.nibUncorrectableError n 0 word key) s = .next (nibFault n 4 false (vellumLog 5 (0x100 + n) (8 * word) 1 (vellumCount 45 s)))) ∧
  (∀ (n word key : Nat) (s : State), nibState s n ≠ 0 → exec (.nibUncorrectableError n 1 word key) s = .next (signalGiveUp 3 (memoryRow (0x40 + n / 16) (word / 128) 0 (vellumCount 49 (modRt (fun r => { r with folioUe := r.folioUe + 1 }) (vellumLog 5 (0x40 + n / 16) (8 * word) 1 (vellumCount 45 s))))))) ∧
  (∀ (n : Nat) (m : Migration) (s : State), s.rt.migs.find? (fun m => m.src = n && m.mode = 0 && !m.copied) = some m → m.q + 2 ≤ s.stem.ssi / 8 → s.dx.open_ = [] → copyBlocked s n (s.stem.ssi / 8) = false → exec (.migrationCopy n) s = .next (setNib m.dst 3 m.cause (modRt (fun r => { r with migs := r.migs.map (fun x => if x.src = n then { x with copied := true, swapSsi := 8 * (s.stem.ssi / 8 + r.warmup) } else x) }) s))) ∧
  (∀ (n : Nat) (same : Bool) (m : Migration) (s : State), s.rt.migs.find? (fun m => m.src = n && m.copied) = some m → m.swapSsi ≤ s.stem.ssi → m.dst ≠ 144 → exec (.migrationSwap n same) s = .next (swapTo m same (modRt (fun r => { r with migs := r.migs.filter (fun x => x.src ≠ n) }) s))) ∧
  (∀ (n : Nat) (s : State), nibState s n = 4 → s.rt.readmit ≤ (nibRec s n).run → (nibRec s n).quarMs + 60000 ≤ s.stem.ms → exec (.nibReadmit n) s = .next (setNib n 2 2 s)) ∧
  (∀ (n : Nat) (s : State), nibState s n ≠ 0 → nibState s n ≠ 5 → blotterRuns s = true → (nibRec s n).late = false → (nibRec s n).passMs + coverBound s n ≤ s.stem.ms → exec (.coverage n) s = .next (raise 0x0E06 (le 2 n ++ zeros 2 ++ le 4 ((s.stem.ms - (nibRec s n).passMs) / 1000)) (vellumCount 41 (modNib n (fun q => { q with late := true }) s)))) ∧
  (∀ (s : State), exec (.watchListExpiry) s = .next (modRt (fun r => { r with watch := r.watch.filter (fun w => decide (s.stem.ms < w.2.2 + 86400000)) }) s)) ∧
  (∀ (s : State), exec (.repairTableWrite) s = .next (modRt (fun r => { r with repairs := r.repairs.map (fun e => { e with stored := true }) }) s))

/-- The clocks of the engine: a millisecond counts, samples the pins and runs the timers, and while the engine is HELD it only counts; a sample takes its
inputs, computes, drives its outputs and counts SSI; a period boundary applies what is due before it computes; timed actions, late recalls and the
readiness deadline apply; a command whose result is known is answered and its sheet freed. Rules: R20, R40, R42, R100, R179, R341, R369, R463. -/
def Obligations.TicksAndTimesComplete : Prop :=
  (∀ (a b : Bool) (pins : Nat) (s : State), s.power.mode = .held → exec (.aonTick a b pins) s = .next ({ s with stem := { s.stem with ms := s.stem.ms + 1, aonMs := s.stem.aonMs + 1 } })) ∧
  (∀ (a b : Bool) (pins : Nat) (x : State) (s : State), s.power.mode ≠ .held → x = blTick (aonPart a b (takePins pins (advanceMs s))) → x.stem.ms % 1000 ≠ 0 → x.stem.ms % 60000 ≠ 0 → x.stem.xoIn = false → exec (.aonTick a b pins) s = .next (tickTimers x)) ∧
  (∀ (x : State) (s : State), gridRuns s = true → x = drivePulses (captureSinks (sampleOutputs (hushForced s) (takeMeters (hushForced s) (computeSample (hushForced s) (runSinks (hushForced s) (releaseSources (takeInputs (sampleInputs s)))))))) → x.stem.ssi % 8 ≠ 4 → exec (.sampleTick) s = .next ({ x with stem := { x.stem with ssi := x.stem.ssi + 1 } })) ∧
  (∀ (edge : Bool) (s : State), gridRuns s = true → s.stem.ssi % 8 = 0 → exec (.periodBoundary edge) s = .next (boundaryLast edge (boundaryReports (boundaryCompute (boundaryFirst s))))) ∧
  (∀ (s : State), dueActions s = [] → s.ms.flourishes = [] → s.twin.handover = none → s.sheen.note = none → ∃ t, exec (.timedActionApply) s = .next t ∧ t.prog = s.prog ∧ t.lig = s.lig ∧ t.stem = s.stem) ∧
  (∀ (a : Armed) (s : State), dueActions s = [a] → s.ms.flourishes = [] → exec (.timedActionApply) s = .next (handoverPoint (tellFlourishes (tellEpoch (applyOne s { a with turn := { a.turn with merged := [] } }))))) ∧
  (∀ (l : List (Nat × Nat)) (s : State), exec (.readinessDeadline l []) s = .next (commitMissed (l.foldl notComplete s))) ∧
  (∀ (client seq : Nat) (a : Armed) (s : State), recallOf s client seq = some a → a.late = true → s.stem.ssi % 8 = 0 → a.applySsi ≤ s.stem.ssi → exec (.lateRecallApply client seq) s = .next (tellEpoch (recallTurns a true (forget a s)))) ∧
  (∀ (client seq : Nat) (e : Running) (r : Reply) (x : CacheEntry) (s : State), runningAt s client seq = some e → e.result = some r → e.events = [] → (well s client).cache.find? (fun x => x.seq = r.seq && x.reply = none) = some x → exec (.commandCompletes client seq) s = .next (releaseSheet client e.sheet (deliverReply client x.crc e.warns r { s with ink := { s.ink with running := s.ink.running.filter (fun x => ¬ (x.client = client ∧ x.seq = seq)) } })))
end

