-- ==== Sys2Proof/Laws/Table.lean ====
section
/-! SUPPORT. The laws of the sparse tables and memories: every operation keeps the canonical form, a read after a write to the
same place gives what was written, and a write leaves every other place alone. -/

namespace Sys2Proof
namespace Machine

variable {α : Type} [DecidableEq α]

/-- A lower bound on the keys may be lowered. -/
theorem tabWfFrom_mono (d : α) (t : Tab α) (lo : Option Nat) (k : Nat) (hlo : ∀ l, lo = some l → l ≤ k)
    (h : tabWfFrom d (some k) t = true) : tabWfFrom d lo t = true := by
  cases t with
  | nil => rfl
  | cons e t =>
    obtain ⟨a, v⟩ := e
    simp only [tabWfFrom, Bool.and_eq_true, decide_eq_true_eq] at h ⊢
    refine ⟨⟨?_, h.1.2⟩, h.2⟩
    cases lo with
    | none => rfl
    | some l => have := hlo l rfl; simp only [decide_eq_true_eq]; omega

/-- A key below every listed one reads as unlisted. -/
theorem tabGet_below (d : α) (t : Tab α) (a k : Nat) (h : tabWfFrom d (some a) t = true) (hk : k ≤ a) : tabGet d t k = d := by
  cases t with
  | nil => rfl
  | cons e t =>
    obtain ⟨b, w⟩ := e
    simp only [tabWfFrom, Bool.and_eq_true, decide_eq_true_eq] at h
    have : k < b := by omega
    simp [tabGet, this]

/-- Inserting keeps the canonical form. -/
theorem tabInsert_wfFrom (d : α) (k : Nat) (v : α) (hv : v ≠ d) (t : Tab α) (lo : Option Nat) (hlo : ∀ l, lo = some l → l < k)
    (h : tabWfFrom d lo t = true) : tabWfFrom d lo (tabInsert k v t) = true := by
  induction t generalizing lo with
  | nil =>
    cases lo with
    | none => simp [tabInsert, tabWfFrom, hv]
    | some l => have := hlo l rfl; simp [tabInsert, tabWfFrom, hv, this]
  | cons e t ih =>
    obtain ⟨a, w⟩ := e
    have h' := h
    simp only [tabWfFrom, Bool.and_eq_true, decide_eq_true_eq] at h
    unfold tabInsert
    split
    · rename_i hk
      simp only [tabWfFrom, Bool.and_eq_true, decide_eq_true_eq]
      exact ⟨⟨by cases lo with | none => rfl | some l => simpa using hlo l rfl, hv⟩, ⟨hk, h.1.2⟩, h.2⟩
    · split
      · rename_i hk
        subst hk
        simp only [tabWfFrom, Bool.and_eq_true, decide_eq_true_eq]
        exact ⟨⟨by cases lo with | none => rfl | some l => simpa using hlo l rfl, hv⟩, h.2⟩
      · rename_i h1 h2
        simp only [tabWfFrom, Bool.and_eq_true, decide_eq_true_eq]
        exact ⟨h.1, ih (some a) (by intro l hl; cases hl; omega) h.2⟩

/-- Erasing keeps the canonical form. -/
theorem tabErase_wfFrom (d : α) (k : Nat) (t : Tab α) (lo : Option Nat) (h : tabWfFrom d lo t = true) :
    tabWfFrom d lo (tabErase k t) = true := by
  induction t generalizing lo with
  | nil => exact h
  | cons e t ih =>
    obtain ⟨a, w⟩ := e
    have h' := h
    simp only [tabWfFrom, Bool.and_eq_true, decide_eq_true_eq] at h
    unfold tabErase
    split
    · exact h'
    · split
      · refine tabWfFrom_mono d t lo a ?_ h.2
        intro l hl
        subst hl
        have := h.1.1
        simp only [decide_eq_true_eq] at this
        omega
      · simp only [tabWfFrom, Bool.and_eq_true, decide_eq_true_eq]
        exact ⟨h.1, ih (some a) h.2⟩

/-- Writing keeps the canonical form. -/
@[simp] theorem tabPut_wf (d : α) (t : Tab α) (k : Nat) (v : α) (h : tabWf d t = true) : tabWf d (tabPut d t k v) = true := by
  unfold tabPut
  split
  · exact tabErase_wfFrom d k t none h
  · rename_i hv
    exact tabInsert_wfFrom d k v hv t none (by intro l hl; cases hl) h

/-- Changing an entry keeps the canonical form. -/
@[simp] theorem tabMod_wf (d : α) (t : Tab α) (k : Nat) (f : α → α) (h : tabWf d t = true) : tabWf d (tabMod d t k f) = true :=
  tabPut_wf d t k _ h

/-- Removing an entry keeps the canonical form. -/
@[simp] theorem tabErase_wf (d : α) (t : Tab α) (k : Nat) (h : tabWf d t = true) : tabWf d (tabErase k t) = true :=
  tabErase_wfFrom d k t none h

/-- The empty table is in canonical form. -/
@[simp] theorem tabWf_nil (d : α) : tabWf d ([] : Tab α) = true := rfl

/-- Writing bytes keeps a memory's canonical form. -/
@[simp] theorem memPut_wf (d : Byte) (m : List Host.Cell) (a : Nat) (b : Bytes) (h : tabWf d m = true) :
    tabWf d (memPut d m a b) = true := by
  induction b generalizing m a with
  | nil => exact h
  | cons x b ih => exact ih _ _ (tabPut_wf d m a x h)

omit [DecidableEq α] in
/-- What is read where a value was inserted. -/
theorem tabGet_insert (d : α) (t : Tab α) (k j : Nat) (v : α) : tabGet d (tabInsert k v t) j = if j = k then v else tabGet d t j := by
  induction t with
  | nil =>
    simp only [tabInsert, tabGet]
    split
    · have : j ≠ k := by omega
      simp [this]
    · rfl
  | cons e t ih =>
    obtain ⟨a, w⟩ := e
    simp only [tabInsert]
    split
    · rename_i hk
      by_cases hj : j = k
      · subst hj; simp [tabGet]
      · simp only [tabGet, if_neg hj]
        by_cases h1 : j < k
        · have : j < a := by omega
          simp [h1, this]
        · simp [h1]
    · split
      · rename_i h1 h2
        subst h2
        by_cases hj : j = k
        · subst hj; simp [tabGet]
        · simp [tabGet, hj]
      · rename_i h1 h2
        simp only [tabGet]
        by_cases hj : j = k
        · subst hj
          have : ¬ j < a := h1
          simp [this, h2, ih]
        · rw [ih, if_neg hj, if_neg hj]

/-- What is read where an entry was removed. -/
theorem tabGet_erase (d : α) (t : Tab α) (k j : Nat) (lo : Option Nat) (h : tabWfFrom d lo t = true) :
    tabGet d (tabErase k t) j = if j = k then d else tabGet d t j := by
  induction t generalizing lo with
  | nil => simp [tabErase, tabGet]
  | cons e t ih =>
    obtain ⟨a, w⟩ := e
    simp only [tabWfFrom, Bool.and_eq_true, decide_eq_true_eq] at h
    simp only [tabErase]
    split
    · rename_i hk
      split
      · rename_i hj
        subst hj
        simp [tabGet, hk]
      · rfl
    · split
      · rename_i h1 h2
        subst h2
        split
        · rename_i hj
          subst hj
          exact tabGet_below d t j j h.2 (Nat.le_refl j)
        · rename_i hj
          simp only [tabGet, if_neg hj]
          split
          · exact tabGet_below d t k j h.2 (by omega)
          · rfl
      · rename_i h1 h2
        simp only [tabGet]
        have h3 := ih (some a) h.2
        by_cases hj : j = k
        · subst hj
          have : ¬ j < a := h1
          simp [this, h2, h3]
        · rw [h3, if_neg hj, if_neg hj]

/-- A read after a write: the value written at its place, what was there at every other. -/
theorem tabGet_put (d : α) (t : Tab α) (k j : Nat) (v : α) (h : tabWf d t = true) :
    tabGet d (tabPut d t k v) j = if j = k then v else tabGet d t j := by
  unfold tabPut
  split
  · rename_i hv
    rw [tabGet_erase d t k j none h, hv]
  · exact tabGet_insert d t k j v

/-- A write of bytes leaves every byte outside them alone. -/
theorem memGet_put_outside (d : Byte) (m : List Host.Cell) (a j : Nat) (b : Bytes) (h : tabWf d m = true)
    (hj : j < a ∨ a + b.length ≤ j) : memGet d (memPut d m a b) j = memGet d m j := by
  induction b generalizing m a with
  | nil => rfl
  | cons x b ih =>
    simp only [List.length_cons] at hj
    rw [memPut, ih _ _ (tabPut_wf d m a x h) (by omega)]
    have : j ≠ a := by omega
    simp [memGet, tabGet_put d m a j x h, this]

/-- A byte that was written reads as it was written. -/
theorem memGet_put_inside (d : Byte) (m : List Host.Cell) (a i : Nat) (b : Bytes) (h : tabWf d m = true) (hi : i < b.length) :
    memGet d (memPut d m a b) (a + i) = b.getD i d := by
  induction b generalizing m a i with
  | nil => simp at hi
  | cons x b ih =>
    cases i with
    | zero =>
      rw [memPut, memGet_put_outside d _ _ _ _ (tabPut_wf d m a x h) (by omega)]
      simp [memGet, tabGet_put d m a a x h]
    | succ i =>
      have := ih (tabPut d m a x) (a + 1) i (tabPut_wf d m a x h) (by simpa using hi)
      rw [memPut, show a + (i + 1) = a + 1 + i by omega, this]
      simp

end Machine
end Sys2Proof
end

