-- ==== Sys2Proof/Laws/Memory.lean ====
section
/-! SUPPORT. The memories of the engine: every operation that writes one keeps the canonical form of all of them, and a byte
written through Feed leaves every other byte alone. -/

namespace Sys2Proof.Machine

/-- Part of a table in canonical form is in canonical form. -/
theorem tabWfFrom_filter {α : Type} [DecidableEq α] (d : α) (p : Nat × α → Bool) (t : Tab α) (lo : Option Nat)
    (h : tabWfFrom d lo t = true) : tabWfFrom d lo (t.filter p) = true := by
  induction t generalizing lo with
  | nil => exact h
  | cons e t ih =>
    obtain ⟨a, v⟩ := e
    simp only [tabWfFrom, Bool.and_eq_true, decide_eq_true_eq] at h
    rw [List.filter_cons]
    split
    · simp only [tabWfFrom, Bool.and_eq_true, decide_eq_true_eq]
      exact ⟨h.1, ih (some a) h.2⟩
    · refine tabWfFrom_mono d _ lo a ?_ (ih (some a) h.2)
      intro l hl
      subst hl
      have := h.1.1
      simp only [decide_eq_true_eq] at this
      omega

/-- Part of a table in canonical form is in canonical form. -/
@[simp] theorem tabWf_filter {α : Type} [DecidableEq α] (d : α) (p : Nat × α → Bool) (t : Tab α) (h : tabWf d t = true) :
    tabWf d (t.filter p) = true := tabWfFrom_filter d p t none h

/-- Folding writes over a table keeps the canonical form. -/
theorem foldl_wf {α β : Type} [DecidableEq α] (d : α) (f : Tab α → β → Tab α) (hf : ∀ t b, tabWf d t = true → tabWf d (f t b) = true)
    (l : List β) (t : Tab α) (h : tabWf d t = true) : tabWf d (l.foldl f t) = true := by
  induction l generalizing t with
  | nil => exact h
  | cons b l ih => exact ih _ (hf _ _ h)

/-- Folding commands that keep the memories canonical keeps them canonical. -/
theorem foldl_canonical {β : Type} (f : State → β → State) (hf : ∀ t b, MemoriesCanonical t → MemoriesCanonical (f t b))
    (l : List β) (s : State) (h : MemoriesCanonical s) : MemoriesCanonical (l.foldl f s) := by
  induction l generalizing s with
  | nil => exact h
  | cons b l ih => exact ih _ (hf _ _ h)

/-- Two states with the same memories are both canonical or neither is. -/
theorem canonical_congr {s t : State} (h1 : t.feed.mems = s.feed.mems) (h2 : t.ink.sheetMem = s.ink.sheetMem)
    (h3 : t.boot.loadArea = s.boot.loadArea) (h4 : t.boot.flash = s.boot.flash) : MemoriesCanonical t ↔ MemoriesCanonical s := by
  simp only [Feed.mems, Feed.mk.injEq] at h1
  unfold MemoriesCanonical
  rw [h2, h3, h4]
  simp_all

/-- Writing one byte through Feed keeps the memories canonical. -/
theorem setByte_canonical (a : Nat) (b : Byte) (s : State) (h : MemoriesCanonical s) : MemoriesCanonical (setByte a b s) := by
  obtain ⟨h1, h2, h3, h4, h5, h6, h7, h8, h9⟩ := h
  simp only [setByte]
  repeat' split
  all_goals simp_all [MemoriesCanonical]

/-- The write of port 0 keeps the memories canonical. -/
theorem portZero_canonical (w v : Nat) (s : State) (h : MemoriesCanonical s) : MemoriesCanonical (portZero w v s) :=
  foldl_canonical _ (fun t e ht => setByte_canonical (8 * w + e.1) e.2 t ht) _ s h

/-- A write into the sheet pool keeps the memories canonical. -/
theorem poolWrite_canonical (m off : Nat) (b : Bytes) (s : State) (h : MemoriesCanonical s) : MemoriesCanonical (poolWrite m off b s) := by
  obtain ⟨h1, h2, h3, h4, h5, h6, h7, h8, h9⟩ := h
  simp only [poolWrite]
  split
  · exact ⟨h1, h2, h3, h4, h5, h6, memPut_wf _ _ _ _ h7, h8, h9⟩
  · refine ⟨h1, h2, h3, h4, h5, h6, ?_, h8, h9⟩
    refine foldl_wf (0 : Byte) _ ?_ _ _ h7
    intro t e ht
    split
    · exact ht
    · exact tabPut_wf _ _ _ _ ht

/-- A write into a sheet keeps the memories canonical. -/
theorem writeSheet_canonical (k : Nat) (b : Bytes) (s : State) (h : MemoriesCanonical s) : MemoriesCanonical (writeSheet k b s) :=
  poolWrite_canonical 0 (k * 4096) b s h

/-- A write of the flash keeps the memories canonical. -/
theorem flashWrite_canonical (o : Nat) (b : Bytes) (s : State) (h : MemoriesCanonical s) : MemoriesCanonical (flashWrite o b s) := by
  obtain ⟨h1, h2, h3, h4, h5, h6, h7, h8, h9⟩ := h
  exact ⟨h1, h2, h3, h4, h5, h6, h7, h8, memPut_wf _ _ _ _ h9⟩

/-- Erasing flash keeps the memories canonical. -/
theorem flashErase_canonical (o n : Nat) (s : State) (h : MemoriesCanonical s) : MemoriesCanonical (flashErase o n s) := by
  obtain ⟨h1, h2, h3, h4, h5, h6, h7, h8, h9⟩ := h
  exact ⟨h1, h2, h3, h4, h5, h6, h7, h8, tabWf_filter _ _ _ h9⟩

/-- A write to the window keeps the memories canonical. -/
theorem windowWrite_canonical (v : Via) (off : Nat) (b : Bytes) (s : State) (h : MemoriesCanonical s) :
    MemoriesCanonical (windowWrite v off b s) := by
  have one : ∀ o c t, MemoriesCanonical t → MemoriesCanonical (writeWindowSheet v o c t) := by
    intro o c t ht
    simp only [writeWindowSheet]
    split
    · exact ht
    · split
      · exact poolWrite_canonical _ _ _ _ ht
      · exact ht
  simp only [windowWrite]
  split
  · exact h
  split
  · obtain ⟨h1, h2, h3, h4, h5, h6, h7, h8, h9⟩ := h
    exact ⟨h1, h2, h3, h4, h5, h6, h7, memPut_wf _ _ _ _ h8, h9⟩
  · exact one _ _ _ (one _ _ _ h)

/-- Writing a byte through Feed leaves the map as it is. -/
theorem setByte_regionOf (a c : Nat) (b : Byte) (s : State) : regionOf (setByte a b s) c = regionOf s c := by
  simp only [setByte]
  repeat' split
  all_goals rfl

/-- Writing a byte through Feed leaves the load area where it is. -/
theorem setByte_inLoadArea (a c : Nat) (b : Byte) (s : State) : inLoadArea (setByte a b s) c = inLoadArea s c := by
  simp only [setByte]
  repeat' split
  all_goals rfl

/-- Where the regions of the map begin. -/
theorem regionOf_low (s : State) (x : Nat) (g : Region) (hx : regionOf s x = some g) :
    (g = .tcm → 0x1000000 ≤ x) ∧ (g = .res → 0x10000000 ≤ x) ∧ (g = .exch → 0x14000000 ≤ x)
      ∧ (g = .barrel → 0x40000000 ≤ x) ∧ (g = .store → 0x48000000 ≤ x) ∧ (g = .xmi → 0x1000000000 ≤ x) := by
  simp only [regionOf] at hx
  repeat' split at hx
  all_goals first | (cases hx; refine ⟨?_, ?_, ?_, ?_, ?_, ?_⟩ <;> intro hg <;> first | omega | (cases hg)) | cases hx

/-- A memory keeps every byte but the one that is written. -/
theorem memGet_put_of_ne (m : List Host.Cell) (i j : Nat) (b : Byte) (hm : tabWf (0 : Byte) m = true) (hij : i ≠ j) :
    memGet 0 (tabPut 0 m i b) j = memGet 0 m j := by
  unfold memGet
  rw [tabGet_put (0 : Byte) m i j b hm, if_neg (fun e => hij e.symm)]

/-- A byte written through Feed leaves the bytes of the other regions alone. -/
theorem memByte_setByte_of_region (a c : Nat) (b : Byte) (s : State) (h : regionOf s c ≠ regionOf s a) :
    memByte (setByte a b s) c = memByte s c := by
  simp only [memByte, setByte_regionOf, setByte_inLoadArea]
  generalize hg : regionOf s c = g at *
  cases g with
  | none => rfl
  | some g =>
    cases ha : regionOf s a with
    | none => simp only [setByte, ha]
    | some k =>
      rw [ha] at h
      simp only [setByte, ha]
      cases k <;> cases g <;> first
        | exact absurd rfl h
        | rfl
        | (by_cases x : inLoadArea s a = true
           · simp only [x, if_true]
           · by_cases y : a < 0x10800000 <;> simp only [x, y, if_true, if_false] <;> rfl)

/-- A byte written through Feed leaves every other byte alone. -/
theorem memByte_setByte_of_ne (a c : Nat) (b : Byte) (s : State) (h : MemoriesCanonical s) (hc : c ≠ a) :
    memByte (setByte a b s) c = memByte s c := by
  obtain ⟨h1, h2, h3, h4, h5, h6, h7, h8, h9⟩ := h
  by_cases e : regionOf s c = regionOf s a
  · simp only [memByte, setByte_regionOf, setByte_inLoadArea]
    cases ha : regionOf s a with
    | none => simp only [e, ha]
    | some k =>
      have lc := regionOf_low s c k (e.trans ha)
      have la := regionOf_low s a k ha
      simp only [e, ha]
      cases k <;> simp only [setByte, ha]
      · have := lc.1 rfl
        have := la.1 rfl
        exact memGet_put_of_ne _ _ _ _ h1 (by omega)
      · have := lc.2.1 rfl
        have := la.2.1 rfl
        repeat' split
        all_goals first
          | exact memGet_put_of_ne _ _ _ _ h8 (by omega)
          | exact memGet_put_of_ne _ _ _ _ h7 (by omega)
          | exact memGet_put_of_ne _ _ _ _ h2 (by omega)
          | rfl
      · have := lc.2.2.1 rfl
        have := la.2.2.1 rfl
        exact memGet_put_of_ne _ _ _ _ h3 (by omega)
      · have := lc.2.2.2.1 rfl
        have := la.2.2.2.1 rfl
        exact memGet_put_of_ne _ _ _ _ h4 (by omega)
      · have := lc.2.2.2.2.1 rfl
        have := la.2.2.2.2.1 rfl
        exact memGet_put_of_ne _ _ _ _ h5 (by omega)
      · have := lc.2.2.2.2.2 rfl
        have := la.2.2.2.2.2 rfl
        exact memGet_put_of_ne _ _ _ _ h6 (by omega)
  · exact memByte_setByte_of_region a c b s e

end Sys2Proof.Machine
end

