-- ==== Sys2Proof/Laws/Rest1.lean ====
section
/-! SUPPORT. What each operation keeps: one lemma for each, which says that it changes no part of the state but those its premises name. First those
that stand on their own. -/

set_option linter.unusedTactic false
set_option linter.unreachableTactic false
set_option linter.unusedSimpArgs false
set_option linter.unusedVariables false
set_option linter.style.longLine false
set_option linter.style.nameCheck false

namespace Sys2Proof
namespace Machine

/-- A fold of operations that keep the rest keeps it. -/
@[simp] theorem foldl_rest (P : Parts) {α : Type} (g : State → α → State) (l : List α) (s : State) (h : ∀ t a, (g t a).rest P = t.rest P) :
    (l.foldl g s).rest P = s.rest P := by
  induction l generalizing s with
  | nil => rfl
  | cons a l ih => simp only [List.foldl_cons]; rw [ih, h]

@[simp] theorem ite_rest (P : Parts) (c : Prop) [Decidable c] (a b : State) :
    (if c then a else b).rest P = if c then a.rest P else b.rest P := apply_ite _ _ _ _

/-- An update of parts of `P` keeps the rest. -/
@[simp] theorem rest_mk (P : Parts) (s : State) (x0 x1 x2 x3 x4 x5 x6 x7 x8 x9 x10 x11 x12 x13 x14 x15 x16 x17 x18 x19 x20 x21 x22 x23)
    (hdraws : P.draws = true ∨ x0 = s.draws) (hstem : P.stem = true ∨ x1 = s.stem) (hbl : P.bl = true ∨ x2 = s.bl) (hboot : (P.boot = true ∧ (P.load = true ∨ x3.loadArea = s.boot.loadArea) ∧ (P.flash = true ∨ x3.flash = s.boot.flash)) ∨ x3 = s.boot) (hpower : P.power = true ∨ x4 = s.power) (hink : (P.ink = true ∧ (P.sheets = true ∨ x5.sheetMem = s.ink.sheetMem)) ∨ x5 = s.ink) (hhost : P.host = true ∨ x6 = s.host) (htwin : P.twin = true ∨ x7 = s.twin) (hhush : P.hush = true ∨ x8 = s.hush) (hserif : P.serif = true ∨ x9 = s.serif) (hquill : P.quill = true ∨ x10 = s.quill) (hms : P.ms = true ∨ x11 = s.ms) (hrt : P.rt = true ∨ x12 = s.rt) (hlife : P.life = true ∨ x13 = s.life) (hfeed : (P.feed = true ∧ (P.mem = true ∨ x14.mems = s.feed.mems)) ∨ x14 = s.feed) (hdx : P.dx = true ∨ x15 = s.dx) (hprog : P.prog = true ∨ x16 = s.prog) (hlig : P.lig = true ∨ x17 = s.lig) (hsheen : P.sheen = true ∨ x18 = s.sheen) (hvl : P.vl = true ∨ x19 = s.vl) (hsl : P.sl = true ∨ x20 = s.sl) (hcb : P.cb = true ∨ x21 = s.cb) (hresume : P.resume = true ∨ x22 = s.resume) (hentry : P.entry = true ∨ x23 = s.entry) :
    (State.mk s.pending x0 s.variant x1 x2 x3 x4 x5 x6 x7 x8 x9 x10 x11 x12 x13 x14 x15 x16 x17 x18 x19 x20 x21 x22 x23).rest P = s.rest P := by
  unfold State.rest
  congr 1
  · rcases hdraws with h | h <;> simp [h]
  · rcases hstem with h | h <;> simp [h]
  · rcases hbl with h | h <;> simp [h]
  · rcases hboot with ⟨h, h2, h3⟩ | h
    · rcases h2 with h2 | h2 <;> rcases h3 with h3 | h3 <;> simp [h, h2, h3]
    · simp [h]
  · rcases hpower with h | h <;> simp [h]
  · rcases hink with ⟨h, h2⟩ | h
    · rcases h2 with h2 | h2 <;> simp [h, h2]
    · simp [h]
  · rcases hhost with h | h <;> simp [h]
  · rcases htwin with h | h <;> simp [h]
  · rcases hhush with h | h <;> simp [h]
  · rcases hserif with h | h <;> simp [h]
  · rcases hquill with h | h <;> simp [h]
  · rcases hms with h | h <;> simp [h]
  · rcases hrt with h | h <;> simp [h]
  · rcases hlife with h | h <;> simp [h]
  · rcases hfeed with ⟨h, h2⟩ | h
    · rcases h2 with h2 | h2 <;> simp [h, h2]
    · simp [h]
  · rcases hdx with h | h <;> simp [h]
  · rcases hprog with h | h <;> simp [h]
  · rcases hlig with h | h <;> simp [h]
  · rcases hsheen with h | h <;> simp [h]
  · rcases hvl with h | h <;> simp [h]
  · rcases hsl with h | h <;> simp [h]
  · rcases hcb with h | h <;> simp [h]
  · rcases hresume with h | h <;> simp [h]
  · rcases hentry with h | h <;> simp [h]

/-- The memories of Feed, read off. -/
@[simp] theorem Feed.mems_eq (f : Feed) :
    f.mems = { tcm := f.tcm, res := f.res, exch := f.exch, barrel := f.barrel, store := f.store, xmi := f.xmi } := rfl

@[simp] theorem modFeed_rest (P : Parts) (hfeed : P.feed = true) (f : Feed → Feed) (s : State) (hf : P.mem = true ∨ ∀ x, (f x).mems = x.mems) :
    (modFeed f s).rest P = s.rest P := by
  rcases hf with h | h <;> simp_all [modFeed]

@[simp] theorem modBoot_rest (P : Parts) (hboot : P.boot = true) (f : Boot → Boot) (s : State)
    (hl : P.load = true ∨ ∀ x, (f x).loadArea = x.loadArea) (hf : P.flash = true ∨ ∀ x, (f x).flash = x.flash) :
    (modBoot f s).rest P = s.rest P := by
  rcases hl with h | h <;> rcases hf with h1 | h1 <;> simp_all [modBoot]

@[simp] theorem putInst_rest (P : Parts) (hprog : P.prog = true) : ∀ (k : Nat) (i : Inst) (s : State), State.rest P (putInst k i s) = State.rest P s := by intros; simp [putInst, hprog]
@[simp] theorem modInst_rest (P : Parts) (hprog : P.prog = true) : ∀ (k : Nat) (f : Inst → Inst) (s : State), State.rest P (modInst k f s) = State.rest P s := by intros; (unfold modInst; split <;> simp [hprog])
@[simp] theorem shedInst_rest (P : Parts) (hprog : P.prog = true) : ∀ (k : Nat) (s : State), State.rest P (shedInst k s) = State.rest P s := by intros; simp [shedInst, hprog]
@[simp] theorem shedExcess_rest (P : Parts) (hprog : P.prog = true) : ∀ (a : Nat) (a_1 : State), State.rest P (shedExcess a a_1) = State.rest P a_1 := by intros; (rename_i k s; induction k generalizing s with | zero => rfl | succ k ih => (unfold shedExcess; repeat' (first | rfl | split | (rw [ih]; simp [hprog]))))
@[simp] theorem fail_rest (P : Parts) : ∀ (st : Status) (s : State) (data : Bytes), State.rest P (fail st s data).st = State.rest P s := by intros; simp [fail]
@[simp] theorem answer_rest (P : Parts) : ∀ (data : Bytes) (s : State), State.rest P (answer data s).st = State.rest P s := by intros; simp [answer]
@[simp] theorem modPower_rest (P : Parts) (hpower : P.power = true) : ∀ (f : Power → Power) (s : State), State.rest P (modPower f s) = State.rest P s := by intros; simp [modPower, hpower]
@[simp] theorem pendMode_rest (P : Parts) (hpower : P.power = true) : ∀ (target at_ : Nat) (cmd : Option (Nat × Nat)) (s : State), State.rest P (pendMode target at_ cmd s) = State.rest P s := by intros; simp [pendMode, hpower]
@[simp] theorem modeSetBody_rest (P : Parts) (hpower : P.power = true) (hprog : P.prog = true) : ∀ (x : Ctx) (s : State), State.rest P (modeSetBody x s).st = State.rest P s := by intros; (unfold modeSetBody; split <;> simp [hpower, hprog])
@[simp] theorem modHush_rest (P : Parts) (hhush : P.hush = true) : ∀ (f : Hush → Hush) (s : State), State.rest P (modHush f s) = State.rest P s := by intros; simp [modHush, hhush]
@[simp] theorem signalHspi_rest (P : Parts) (hhost : P.host = true) : ∀ (i : Nat) (s : State), State.rest P (signalHspi i s) = State.rest P s := by intros; simp [signalHspi, hhost]
@[simp] theorem flushVectors_rest (P : Parts) (hhost : P.host = true) : ∀ (s : State), State.rest P (flushVectors s) = State.rest P s := by intros; simp [flushVectors, hhost]
@[simp] theorem leaveL1_rest (P : Parts) (hhost : P.host = true) : ∀ (s : State), State.rest P (leaveL1 s) = State.rest P s := by intros; simp [leaveL1, hhost]
@[simp] theorem signalVec_rest (P : Parts) (hhost : P.host = true) : ∀ (v : Nat) (s0 : State), State.rest P (signalVec v s0) = State.rest P s0 := by intros; simp [signalVec, hhost]
@[simp] theorem signalBoth_rest (P : Parts) (hhost : P.host = true) : ∀ (v : Nat) (s : State), State.rest P (signalBoth v s) = State.rest P s := by intros; simp [signalBoth, hhost]
@[simp] theorem setStage_rest (P : Parts) (hboot : P.boot = true) (hhost : P.host = true) : ∀ (g : Stage) (s : State), State.rest P (setStage g s) = State.rest P s := by intros; simp [setStage, hboot, hhost]
@[simp] theorem startWake_rest (P : Parts) (hboot : P.boot = true) (hpower : P.power = true) (hhost : P.host = true) : ∀ (i : Nat) (s : State), State.rest P (startWake i s) = State.rest P s := by intros; simp [startWake, hboot, hpower, hhost]
@[simp] theorem latchCause_rest (P : Parts) (hboot : P.boot = true) (hpower : P.power = true) (hhost : P.host = true) : ∀ (i : Nat) (s : State), State.rest P (latchCause i s) = State.rest P s := by intros; simp [latchCause, hboot, hpower, hhost]
@[simp] theorem setWell_rest (P : Parts) (hink : P.ink = true) : ∀ (n : Nat) (w : Inkwell) (s : State), State.rest P (setWell n w s) = State.rest P s := by intros; simp [setWell, hink]
@[simp] theorem signalInk_rest (P : Parts) (hhost : P.host = true) : ∀ (n ring : Nat) (s : State), State.rest P (signalInk n ring s) = State.rest P s := by intros; (unfold signalInk; repeat' (first | (simp [hhost]; done) | split | (dsimp only; split) | (refine foldl_rest P _ _ _ ?_) | intro _))
@[simp] theorem pushEvent_rest (P : Parts) (hink : P.ink = true) (hhost : P.host = true) : ∀ (n type ssi : Nat) (payload : Bytes) (s : State), State.rest P (pushEvent n type ssi payload s) = State.rest P s := by intros; simp [pushEvent, hink, hhost]
@[simp] theorem raiseAt_rest (P : Parts) (hink : P.ink = true) (hhost : P.host = true) : ∀ (ssi type : Nat) (payload : Bytes) (s : State), State.rest P (raiseAt ssi type payload s) = State.rest P s := by intros; simp [raiseAt, hink, hhost]
@[simp] theorem raise_rest (P : Parts) (hink : P.ink = true) (hhost : P.host = true) : ∀ (type : Nat) (payload : Bytes) (s : State), State.rest P (raise type payload s) = State.rest P s := by intros; simp [raise, hink, hhost]
@[simp] theorem hushEvent_rest (P : Parts) (hink : P.ink = true) (hhost : P.host = true) (hhush : P.hush = true) : ∀ (type : Nat) (payload : Bytes) (s : State), State.rest P (hushEvent type payload s) = State.rest P s := by intros; simp [hushEvent, hink, hhost, hhush]
@[simp] theorem modRec_rest (P : Parts) (hvl : P.vl = true) : ∀ (f : VlRecord → VlRecord) (s : State), State.rest P (modRec f s) = State.rest P s := by intros; simp [modRec, hvl]
@[simp] theorem vellumAdd_rest (P : Parts) (hvl : P.vl = true) : ∀ (k n : Nat) (s : State), State.rest P (vellumAdd k n s) = State.rest P s := by intros; simp [vellumAdd, hvl]
@[simp] theorem vellumCount_rest (P : Parts) (hvl : P.vl = true) : ∀ (k : Nat) (s : State), State.rest P (vellumCount k s) = State.rest P s := by intros; simp [vellumCount, hvl]
@[simp] theorem turnOverride_rest (P : Parts) (hhush : P.hush = true) : ∀ (up : Bool) (s : State), State.rest P (turnOverride up s) = State.rest P s := by intros; simp [turnOverride, hhush]
@[simp] theorem hushAssert_rest (P : Parts) (hboot : P.boot = true) (hpower : P.power = true) (hink : P.ink = true) (hhost : P.host = true) (hhush : P.hush = true) (hvl : P.vl = true) : ∀ (first : Nat) (s : State), State.rest P (hushAssert first s) = State.rest P s := by intros; simp [hushAssert, hboot, hpower, hink, hhost, hhush, hvl]
@[simp] theorem vellumLog_rest (P : Parts) (hvl : P.vl = true) : ∀ (kind what arg value : Nat) (s : State), State.rest P (vellumLog kind what arg value s) = State.rest P s := by intros; simp [vellumLog, hvl]
@[simp] theorem latchFault_rest (P : Parts) (hink : P.ink = true) (hhost : P.host = true) (hhush : P.hush = true) (hvl : P.vl = true) : ∀ (cause : Nat) (s : State), State.rest P (latchFault cause s) = State.rest P s := by intros; simp [latchFault, hink, hhost, hhush, hvl]
@[simp] theorem finishRunning_rest (P : Parts) (hink : P.ink = true) : ∀ (n q : Nat) (st : Status) (data : Bytes) (s : State), State.rest P (finishRunning n q st data s) = State.rest P s := by intros; simp [finishRunning, hink]
@[simp] theorem finishThen_rest (P : Parts) (hink : P.ink = true) (hhost : P.host = true) : ∀ (n q : Nat) (st : Status) (data : Bytes) (evs : List (Nat × Nat × Bytes)) (s : State), State.rest P (finishThen n q st data evs s) = State.rest P s := by intros; simp [finishThen, hink, hhost]
@[simp] theorem judgeClears_rest (P : Parts) (hink : P.ink = true) (hhost : P.host = true) (hhush : P.hush = true) : ∀ (s : State), State.rest P (judgeClears s) = State.rest P s := by intros; simp [judgeClears, hink, hhost, hhush]
@[simp] theorem vellumBin_rest (P : Parts) (hvl : P.vl = true) : ∀ (h k : Nat) (s : State), State.rest P (vellumBin h k s) = State.rest P s := by intros; simp [vellumBin, hvl]
@[simp] theorem hushReleased_rest (P : Parts) (hink : P.ink = true) (hhost : P.host = true) (hhush : P.hush = true) (hvl : P.vl = true) : ∀ (s : State), State.rest P (hushReleased s) = State.rest P s := by intros; simp [hushReleased, hink, hhost, hhush, hvl]
@[simp] theorem hushJudge_rest (P : Parts) (hboot : P.boot = true) (hpower : P.power = true) (hink : P.ink = true) (hhost : P.host = true) (hhush : P.hush = true) (hvl : P.vl = true) : ∀ (a0 b0 : Bool) (s : State), State.rest P (hushJudge a0 b0 s) = State.rest P s := by intros; simp [hushJudge, hboot, hpower, hink, hhost, hhush, hvl]
@[simp] theorem channelDebounced_rest (P : Parts) (hboot : P.boot = true) (hpower : P.power = true) (hink : P.ink = true) (hhost : P.host = true) (hhush : P.hush = true) (hvl : P.vl = true) : ∀ (chB alarm : Bool) (s : State), State.rest P (channelDebounced chB alarm s) = State.rest P s := by intros; simp [channelDebounced, hboot, hpower, hink, hhost, hhush, hvl]
@[simp] theorem modQuill_rest (P : Parts) (hquill : P.quill = true) : ∀ (f : Quill → Quill) (s : State), State.rest P (modQuill f s) = State.rest P s := by intros; simp [modQuill, hquill]
@[simp] theorem modNet_rest (P : Parts) (hquill : P.quill = true) : ∀ (n : Nat) (f : NetPort → NetPort) (s : State), State.rest P (modNet n f s) = State.rest P s := by intros; simp [modNet, hquill]
@[simp] theorem sendNet_rest (P : Parts) (hquill : P.quill = true) : ∀ (n i queue : Nat) (ip : Bool) (m : NetMsg) (s : State), State.rest P (sendNet n i queue ip m s) = State.rest P s := by intros; simp [sendNet, hquill]
@[simp] theorem announceAddrs_rest (P : Parts) (hquill : P.quill = true) : ∀ (n : Nat) (s : State), State.rest P (announceAddrs n s) = State.rest P s := by intros; simp [announceAddrs, hquill]
@[simp] theorem modTx_rest (P : Parts) (hquill : P.quill = true) : ∀ (n : Nat) (f : TxStream → TxStream) (s : State), State.rest P (modTx n f s) = State.rest P s := by intros; simp [modTx, hquill]
@[simp] theorem qlEvent_rest (P : Parts) (hquill : P.quill = true) : ∀ (i : Nat) (s : State), State.rest P (qlEvent i s) = State.rest P s := by intros; simp [qlEvent, hquill]
@[simp] theorem settleTx_rest (P : Parts) (hink : P.ink = true) (hhost : P.host = true) (hquill : P.quill = true) : ∀ (n : Nat) (s : State), State.rest P (settleTx n s) = State.rest P s := by intros; (unfold settleTx; repeat' (first | (simp [hink, hhost, hquill]; done) | split | (dsimp only; split) | (refine foldl_rest P _ _ _ ?_) | intro _))
@[simp] theorem settleStreams_rest (P : Parts) (hink : P.ink = true) (hhost : P.host = true) (hquill : P.quill = true) : ∀ (s : State), State.rest P (settleStreams s) = State.rest P s := by intros; simp [settleStreams, hink, hhost, hquill]
@[simp] theorem settleNetUp_rest (P : Parts) (hboot : P.boot = true) : ∀ (s : State), State.rest P (settleNetUp s) = State.rest P s := by intros; simp [settleNetUp, hboot]
@[simp] theorem announceLink_rest (P : Parts) (hink : P.ink = true) (hhost : P.host = true) (hquill : P.quill = true) : ∀ (n : Nat) (s : State), State.rest P (announceLink n s) = State.rest P s := by intros; (unfold announceLink; repeat' (first | (simp [hink, hhost, hquill]; done) | split | (dsimp only; split) | (refine foldl_rest P _ _ _ ?_) | intro _))
@[simp] theorem modPtp_rest (P : Parts) (hquill : P.quill = true) : ∀ (n : Nat) (f : PtpPort → PtpPort) (s : State), State.rest P (modPtp n f s) = State.rest P s := by intros; simp [modPtp, hquill]
@[simp] theorem setPtp_rest (P : Parts) (hink : P.ink = true) (hhost : P.host = true) (hquill : P.quill = true) : ∀ (n st : Nat) (s : State), State.rest P (setPtp n st s) = State.rest P s := by intros; (unfold setPtp; repeat' (first | (simp [hink, hhost, hquill]; done) | split | (dsimp only; split) | (refine foldl_rest P _ _ _ ?_) | intro _))
@[simp] theorem linkUp_rest (P : Parts) (hboot : P.boot = true) (hink : P.ink = true) (hhost : P.host = true) (hquill : P.quill = true) : ∀ (n : Nat) (s : State), State.rest P (linkUp n s) = State.rest P s := by intros; simp [linkUp, hboot, hink, hhost, hquill]
@[simp] theorem modRx_rest (P : Parts) (hquill : P.quill = true) : ∀ (n : Nat) (f : RxStream → RxStream) (s : State), State.rest P (modRx n f s) = State.rest P s := by intros; simp [modRx, hquill]
@[simp] theorem announceLeg_rest (P : Parts) (hink : P.ink = true) (hhost : P.host = true) (hquill : P.quill = true) : ∀ (n leg old new : Nat) (s : State), State.rest P (announceLeg n leg old new s) = State.rest P s := by intros; simp [announceLeg, hink, hhost, hquill]
@[simp] theorem announceLegs_rest (P : Parts) (hink : P.ink = true) (hhost : P.host = true) (hquill : P.quill = true) : ∀ (n : Nat) (old : RxBuf) (s : State), State.rest P (announceLegs n old s) = State.rest P s := by intros; simp [announceLegs, hink, hhost, hquill]
@[simp] theorem legFalls_rest (P : Parts) (hink : P.ink = true) (hhost : P.host = true) (hquill : P.quill = true) : ∀ (n leg : Nat) (s : State), State.rest P (legFalls n leg s) = State.rest P s := by intros; simp [legFalls, hink, hhost, hquill]
@[simp] theorem legsFall_rest (P : Parts) (hink : P.ink = true) (hhost : P.host = true) (hquill : P.quill = true) : ∀ (n : Nat) (s : State), State.rest P (legsFall n s) = State.rest P s := by intros; (unfold legsFall; refine foldl_rest P _ _ _ (fun t e => foldl_rest P _ _ _ (fun t v => ?_)); split <;> simp [hink, hhost, hquill])
@[simp] theorem modRef_rest (P : Parts) (hbl : P.bl = true) : ∀ (n : Nat) (f : RefSt → RefSt) (s : State), State.rest P (modRef n f s) = State.rest P s := by intros; simp [modRef, hbl]
@[simp] theorem blEvent_rest (P : Parts) (hbl : P.bl = true) : ∀ (i : Nat) (s : State), State.rest P (blEvent i s) = State.rest P s := by intros; simp [blEvent, hbl]
@[simp] theorem disqualify_rest (P : Parts) (hbl : P.bl = true) (hink : P.ink = true) (hhost : P.host = true) : ∀ (n cause : Nat) (s : State), State.rest P (disqualify n cause s) = State.rest P s := by intros; simp [disqualify, hbl, hink, hhost]
@[simp] theorem causeArises_rest (P : Parts) (hbl : P.bl = true) (hink : P.ink = true) (hhost : P.host = true) : ∀ (n cause : Nat) (s : State), State.rest P (causeArises n cause s) = State.rest P s := by intros; simp [causeArises, hbl, hink, hhost]
@[simp] theorem leaveFollower_rest (P : Parts) (hbl : P.bl = true) (hink : P.ink = true) (hhost : P.host = true) (hquill : P.quill = true) : ∀ (n st cause : Nat) (s : State), State.rest P (leaveFollower n st cause s) = State.rest P s := by intros; simp [leaveFollower, hbl, hink, hhost, hquill]
@[simp] theorem linkDown_rest (P : Parts) (hbl : P.bl = true) (hboot : P.boot = true) (hink : P.ink = true) (hhost : P.host = true) (hquill : P.quill = true) (hvl : P.vl = true) : ∀ (n : Nat) (s : State), State.rest P (linkDown n s) = State.rest P s := by intros; simp [linkDown, hbl, hboot, hink, hhost, hquill, hvl]
@[simp] theorem netLink_rest (P : Parts) (hbl : P.bl = true) (hboot : P.boot = true) (hink : P.ink = true) (hhost : P.host = true) (hquill : P.quill = true) (hvl : P.vl = true) : ∀ (n : Nat) (up : Bool) (s : State), State.rest P (netLink n up s) = State.rest P s := by intros; simp [netLink, hbl, hboot, hink, hhost, hquill, hvl]
@[simp] theorem modTwin_rest (P : Parts) (htwin : P.twin = true) : ∀ (f : Twin → Twin) (s : State), State.rest P (modTwin f s) = State.rest P s := by intros; simp [modTwin, htwin]
@[simp] theorem raiseTo_rest (P : Parts) (hink : P.ink = true) (hhost : P.host = true) : ∀ (n ssi type : Nat) (payload : Bytes) (s : State), State.rest P (raiseTo n ssi type payload s) = State.rest P s := by intros; simp [raiseTo, hink, hhost]
@[simp] theorem tellDropped_rest (P : Parts) (hink : P.ink = true) (hhost : P.host = true) : ∀ (st : Status) (a : Armed) (s : State), State.rest P (tellDropped st a s) = State.rest P s := by intros; simp [tellDropped, hink, hhost]
@[simp] theorem dropHandover_rest (P : Parts) (hink : P.ink = true) (hhost : P.host = true) (htwin : P.twin = true) : ∀ (s : State), State.rest P (dropHandover s) = State.rest P s := by intros; (unfold dropHandover; repeat' (first | (simp [hink, hhost, htwin]; done) | split))
@[simp] theorem twinState_rest (P : Parts) (hink : P.ink = true) (hhost : P.host = true) (htwin : P.twin = true) : ∀ (new cause : Nat) (s : State), State.rest P (twinState new cause s) = State.rest P s := by intros; simp [twinState, hink, hhost, htwin]
@[simp] theorem settleOuts_rest (P : Parts) (hbl : P.bl = true) : ∀ (s : State), State.rest P (settleOuts s) = State.rest P s := by intros; simp [settleOuts, hbl]
@[simp] theorem startModeFade_rest (P : Parts) (hpower : P.power = true) : ∀ (up genUp twin : Bool) (s : State), State.rest P (startModeFade up genUp twin s) = State.rest P s := by intros; simp [startModeFade, hpower]
@[simp] theorem discardArmed_rest (P : Parts) (hink : P.ink = true) (hhost : P.host = true) : ∀ (s : State), State.rest P (discardArmed s) = State.rest P s := by intros; simp [discardArmed, hink, hhost]
@[simp] theorem enterMode_rest (P : Parts) (hbl : P.bl = true) (hpower : P.power = true) (hink : P.ink = true) (hhost : P.host = true) (hvl : P.vl = true) (hentry : P.entry = true) : ∀ (m : Mode) (cause : Nat) (s : State), State.rest P (enterMode m cause s) = State.rest P s := by intros; simp [enterMode, hbl, hpower, hink, hhost, hvl, hentry]
@[simp] theorem twinMode_rest (P : Parts) (hbl : P.bl = true) (hpower : P.power = true) (hink : P.ink = true) (hhost : P.host = true) (hvl : P.vl = true) (hentry : P.entry = true) : ∀ (m : Mode) (s : State), State.rest P (twinMode m s) = State.rest P s := by intros; simp [twinMode, hbl, hpower, hink, hhost, hvl, hentry]
@[simp] theorem leaveGated_rest (P : Parts) (htwin : P.twin = true) (hserif : P.serif = true) : ∀ (s : State), State.rest P (leaveGated s) = State.rest P s := by intros; simp [leaveGated, htwin, hserif]
@[simp] theorem dissolveBoundary_rest (P : Parts) (hbl : P.bl = true) (hpower : P.power = true) (hink : P.ink = true) (hhost : P.host = true) (htwin : P.twin = true) (hserif : P.serif = true) (hvl : P.vl = true) (hentry : P.entry = true) : ∀ (s : State), State.rest P (dissolveBoundary s) = State.rest P s := by intros; (unfold dissolveBoundary; split <;> simp [hbl, hpower, hink, hhost, htwin, hserif, hvl, hentry])
@[simp] theorem modPort_rest (P : Parts) (hserif : P.serif = true) : ∀ (n : Nat) (f : SerPort → SerPort) (s : State), State.rest P (modPort n f s) = State.rest P s := by intros; simp [modPort, hserif]
@[simp] theorem portUnslaved_rest (P : Parts) (hbl : P.bl = true) (hink : P.ink = true) (hhost : P.host = true) : ∀ (n : Nat) (old : SerCfg) (s : State), State.rest P (portUnslaved n old s) = State.rest P s := by intros; simp [portUnslaved, hbl, hink, hhost]
@[simp] theorem portState_rest (P : Parts) (hink : P.ink = true) (hhost : P.host = true) (hserif : P.serif = true) : ∀ (n st : Nat) (s : State), State.rest P (portState n st s) = State.rest P s := by intros; simp [portState, hink, hhost, hserif]
@[simp] theorem startPort_rest (P : Parts) (hink : P.ink = true) (hhost : P.host = true) (hserif : P.serif = true) : ∀ (n : Nat) (s : State), State.rest P (startPort n s) = State.rest P s := by intros; simp [startPort, hink, hhost, hserif]
@[simp] theorem applyPortCfg_rest (P : Parts) (hbl : P.bl = true) (hink : P.ink = true) (hhost : P.host = true) (htwin : P.twin = true) (hserif : P.serif = true) : ∀ (n : Nat) (c : SerCfg) (s : State), State.rest P (applyPortCfg n c s) = State.rest P s := by intros; simp [applyPortCfg, hbl, hink, hhost, htwin, hserif]
@[simp] theorem modMs_rest (P : Parts) (hms : P.ms = true) : ∀ (f : Ms → Ms) (s : State), State.rest P (modMs f s) = State.rest P s := by intros; simp [modMs, hms]
@[simp] theorem heardFrom_rest (P : Parts) (hms : P.ms = true) : ∀ (m : Nat) (s : State), State.rest P (heardFrom m s) = State.rest P s := by intros; simp [heardFrom, hms]
@[simp] theorem putFlourish_rest (P : Parts) (hms : P.ms = true) : ∀ (f : Flourish) (s : State), State.rest P (putFlourish f s) = State.rest P s := by intros; simp [putFlourish, hms]
@[simp] theorem dropTurn_rest (P : Parts) (hink : P.ink = true) : ∀ (origin number : Nat) (s : State), State.rest P (dropTurn origin number s) = State.rest P s := by intros; simp [dropTurn, hink]
@[simp] theorem msSendAs_rest (P : Parts) (hms : P.ms = true) : ∀ (view dest msg : Nat) (body : Bytes) (s : State), State.rest P (msSendAs view dest msg body s) = State.rest P s := by intros; simp [msSendAs, hms]
@[simp] theorem msFloodAs_rest (P : Parts) (hms : P.ms = true) : ∀ (view : Nat) (via : Option Nat) (msg : Nat) (body : Bytes) (s : State), State.rest P (msFloodAs view via msg body s) = State.rest P s := by intros; simp [msFloodAs, hms]
@[simp] theorem msFlood_rest (P : Parts) (hms : P.ms = true) : ∀ (via : Option Nat) (msg : Nat) (body : Bytes) (s : State), State.rest P (msFlood via msg body s) = State.rest P s := by intros; simp [msFlood, hms]
@[simp] theorem msSend_rest (P : Parts) (hms : P.ms = true) : ∀ (dest msg : Nat) (body : Bytes) (s : State), State.rest P (msSend dest msg body s) = State.rest P s := by intros; simp [msSend, hms]
@[simp] theorem abortRx_rest (P : Parts) (hink : P.ink = true) (hms : P.ms = true) : ∀ (via origin number st : Nat) (s0 : State), State.rest P (abortRx via origin number st s0) = State.rest P s0 := by intros; (unfold abortRx; repeat' (first | (simp [hink, hms]; done) | split | (dsimp only; split) | (refine foldl_rest P _ _ _ ?_) | intro _))
@[simp] theorem flashWrite_rest (P : Parts) (hboot : P.boot = true) (hflash : P.flash = true) : ∀ (o : Nat) (b : Bytes) (s : State), State.rest P (flashWrite o b s) = State.rest P s := by intros; simp [flashWrite, hboot, hflash]
@[simp] theorem flashErase_rest (P : Parts) (hboot : P.boot = true) (hflash : P.flash = true) : ∀ (o n : Nat) (s : State), State.rest P (flashErase o n s) = State.rest P s := by intros; simp [flashErase, hboot, hflash]
@[simp] theorem writeBoard_rest (P : Parts) (hboot : P.boot = true) (hflash : P.flash = true) : ∀ (b : Bytes) (s : State), State.rest P (writeBoard b s) = State.rest P s := by intros; simp [writeBoard, hboot, hflash]
@[simp] theorem gatherTx_rest (P : Parts) (hquill : P.quill = true) : ∀ (out : Nat → Sample) (n : Nat) (s : State), State.rest P (gatherTx out n s) = State.rest P s := by intros; simp [gatherTx, hquill]
@[simp] theorem modVl_rest (P : Parts) (hvl : P.vl = true) : ∀ (f : Vellum → Vellum) (s : State), State.rest P (modVl f s) = State.rest P s := by intros; simp [modVl, hvl]
@[simp] theorem beginWrite_rest (P : Parts) (hvl : P.vl = true) : ∀ (flags : Nat) (cmds : List (Nat × Nat)) (s : State), State.rest P (beginWrite flags cmds s) = State.rest P s := by intros; simp [beginWrite, hvl]
@[simp] theorem vellumWrite_rest (P : Parts) (hvl : P.vl = true) : ∀ (flags : Nat) (cmds : List (Nat × Nat)) (s : State), State.rest P (vellumWrite flags cmds s) = State.rest P s := by intros; (unfold vellumWrite; repeat' (first | (simp [hvl]; done) | split))
@[simp] theorem modHost_rest (P : Parts) (hhost : P.host = true) : ∀ (f : HostIf → HostIf) (s : State), State.rest P (modHost f s) = State.rest P s := by intros; simp [modHost, hhost]
@[simp] theorem warningAsserts_rest (P : Parts) (hbl : P.bl = true) (hboot : P.boot = true) (hhost : P.host = true) (hvl : P.vl = true) : ∀ (s : State), State.rest P (warningAsserts s) = State.rest P s := by intros; simp [warningAsserts, hbl, hboot, hhost, hvl]
@[simp] theorem judgeWarning_rest (P : Parts) (hbl : P.bl = true) (hboot : P.boot = true) (hhost : P.host = true) (hvl : P.vl = true) : ∀ (s : State), State.rest P (judgeWarning s) = State.rest P s := by intros; simp [judgeWarning, hbl, hboot, hhost, hvl]
@[simp] theorem bmcWrite_rest (P : Parts) (hbl : P.bl = true) (hboot : P.boot = true) (hhost : P.host = true) (hvl : P.vl = true) : ∀ (on : Bool) (s : State), State.rest P (bmcWrite on s) = State.rest P s := by intros; simp [bmcWrite, hbl, hboot, hhost, hvl]
@[simp] theorem i2cWrite_rest (P : Parts) (hbl : P.bl = true) (hboot : P.boot = true) (hhost : P.host = true) (hvl : P.vl = true) : ∀ (ptr : Nat) (data : Bytes) (s : State), State.rest P (i2cWrite ptr data s) = State.rest P s := by intros; simp [i2cWrite, hbl, hboot, hhost, hvl]
@[simp] theorem countFault_rest (P : Parts) (hvl : P.vl = true) : ∀ (n c : Nat) (injected : Bool) (s : State), State.rest P (countFault n c injected s) = State.rest P s := by intros; simp [countFault, hvl]
@[simp] theorem modRt_rest (P : Parts) (hrt : P.rt = true) : ∀ (f : Retouch → Retouch) (s : State), State.rest P (modRt f s) = State.rest P s := by intros; simp [modRt, hrt]
@[simp] theorem modNib_rest (P : Parts) (hrt : P.rt = true) : ∀ (n : Nat) (f : NibRec → NibRec) (s : State), State.rest P (modNib n f s) = State.rest P s := by intros; simp [modNib, hrt]
@[simp] theorem setNib_rest (P : Parts) (hink : P.ink = true) (hhost : P.host = true) (hdx : P.dx = true) : ∀ (n new cause : Nat) (s : State), State.rest P (setNib n new cause s) = State.rest P s := by intros; simp [setNib, hink, hhost, hdx]
@[simp] theorem addFault_rest (P : Parts) (hink : P.ink = true) (hhost : P.host = true) (hrt : P.rt = true) (hdx : P.dx = true) (hvl : P.vl = true) : ∀ (n : Nat) (s : State), State.rest P (addFault n s) = State.rest P s := by intros; simp [addFault, hink, hhost, hrt, hdx, hvl]
@[simp] theorem quarantine_rest (P : Parts) (hink : P.ink = true) (hhost : P.host = true) (hrt : P.rt = true) (hdx : P.dx = true) (hvl : P.vl = true) : ∀ (n cause : Nat) (fault : Bool) (s : State), State.rest P (quarantine n cause fault s) = State.rest P s := by intros; simp [quarantine, hink, hhost, hrt, hdx, hvl]
@[simp] theorem tellGiveUp_rest (P : Parts) (hink : P.ink = true) (hhost : P.host = true) (hvl : P.vl = true) : ∀ (cause taken stop : Nat) (s : State), State.rest P (tellGiveUp cause taken stop s) = State.rest P s := by intros; simp [tellGiveUp, hink, hhost, hvl]
@[simp] theorem twinSend_rest (P : Parts) (htwin : P.twin = true) : ∀ (type : Nat) (payload : Bytes) (s : State), State.rest P (twinSend type payload s) = State.rest P s := by intros; simp [twinSend, htwin]
@[simp] theorem giveUp_rest (P : Parts) (hink : P.ink = true) (hhost : P.host = true) (htwin : P.twin = true) (hvl : P.vl = true) : ∀ (cause stop : Nat) (s : State), State.rest P (giveUp cause stop s) = State.rest P s := by intros; simp [giveUp, hink, hhost, htwin, hvl]
@[simp] theorem giveUpCause_rest (P : Parts) (hink : P.ink = true) (hhost : P.host = true) (htwin : P.twin = true) (hvl : P.vl = true) : ∀ (cause ns : Nat) (s : State), State.rest P (giveUpCause cause ns s) = State.rest P s := by intros; simp [giveUpCause, hink, hhost, htwin, hvl]
@[simp] theorem signalGiveUp_rest (P : Parts) (hink : P.ink = true) (hhost : P.host = true) (htwin : P.twin = true) (hvl : P.vl = true) : ∀ (cause : Nat) (s : State), State.rest P (signalGiveUp cause s) = State.rest P s := by intros; simp [signalGiveUp, hink, hhost, htwin, hvl]
@[simp] theorem beginMigration_rest (P : Parts) (hink : P.ink = true) (hhost : P.host = true) (hrt : P.rt = true) (hdx : P.dx = true) : ∀ (n mode cause : Nat) (fault : Bool) (s : State), State.rest P (beginMigration n mode cause fault s) = State.rest P s := by intros; simp [beginMigration, hink, hhost, hrt, hdx]
@[simp] theorem giveUpWork_rest (P : Parts) (hink : P.ink = true) (hhost : P.host = true) (htwin : P.twin = true) (hrt : P.rt = true) (hdx : P.dx = true) (hvl : P.vl = true) : ∀ (n mode : Nat) (fault : Bool) (s : State), State.rest P (giveUpWork n mode fault s) = State.rest P s := by intros; simp [giveUpWork, hink, hhost, htwin, hrt, hdx, hvl]
@[simp] theorem retarget_rest (P : Parts) (hink : P.ink = true) (hhost : P.host = true) (htwin : P.twin = true) (hrt : P.rt = true) (hdx : P.dx = true) (hvl : P.vl = true) : ∀ (t : Nat) (s : State), State.rest P (retarget t s) = State.rest P s := by intros; simp [retarget, hink, hhost, htwin, hrt, hdx, hvl]
@[simp] theorem nibFault_rest (P : Parts) (hink : P.ink = true) (hhost : P.host = true) (htwin : P.twin = true) (hrt : P.rt = true) (hdx : P.dx = true) (hvl : P.vl = true) : ∀ (n cls : Nat) (injected : Bool) (s : State), State.rest P (nibFault n cls injected s) = State.rest P s := by intros; simp [nibFault, hink, hhost, htwin, hrt, hdx, hvl]
@[simp] theorem transient_rest (P : Parts) (hink : P.ink = true) (hhost : P.host = true) (htwin : P.twin = true) (hrt : P.rt = true) (hdx : P.dx = true) (hvl : P.vl = true) : ∀ (n : Nat) (s : State), State.rest P (transient n s) = State.rest P s := by intros; simp [transient, hink, hhost, htwin, hrt, hdx, hvl]
@[simp] theorem modeReqWrite_rest (P : Parts) (hpower : P.power = true) (hprog : P.prog = true) : ∀ (w : Nat) (s : State), State.rest P (modeReqWrite w s) = State.rest P s := by intros; (unfold modeReqWrite; repeat' (first | (simp [hpower, hprog]; done) | split))
@[simp] theorem journalPut_rest (P : Parts) (htwin : P.twin = true) : ∀ (client at_ status : Nat) (body outcome : Bytes) (s : State), State.rest P (journalPut client at_ status body outcome s) = State.rest P s := by intros; simp [journalPut, htwin]
@[simp] theorem holdCommit_rest (P : Parts) (htwin : P.twin = true) (hms : P.ms = true) : ∀ (f : Flourish) (s : State), State.rest P (holdCommit f s) = State.rest P s := by intros; simp [holdCommit, htwin, hms]
@[simp] theorem stopPorts_rest (P : Parts) (hink : P.ink = true) (hhost : P.host = true) (hserif : P.serif = true) : ∀ (s : State), State.rest P (stopPorts s) = State.rest P s := by intros; simp [stopPorts, hink, hhost, hserif]
@[simp] theorem beginRateChange_rest (P : Parts) (hstem : P.stem = true) (hink : P.ink = true) (hhost : P.host = true) (hserif : P.serif = true) : ∀ (c : RateChange) (s : State), State.rest P (beginRateChange c s) = State.rest P s := by intros; simp [beginRateChange, hstem, hink, hhost, hserif]
@[simp] theorem rateSetBody_rest (P : Parts) (hstem : P.stem = true) (hink : P.ink = true) (hhost : P.host = true) (hserif : P.serif = true) (hprog : P.prog = true) : ∀ (x : Ctx) (s : State), State.rest P (rateSetBody x s).st = State.rest P s := by intros; (unfold rateSetBody; repeat' (first | (simp [hstem, hink, hhost, hserif, hprog]; done) | split | (dsimp only; split) | (refine foldl_rest P _ _ _ ?_) | intro _))
@[simp] theorem commitMissed_rest (P : Parts) (hink : P.ink = true) (hhost : P.host = true) (hms : P.ms = true) : ∀ (s : State), State.rest P (commitMissed s) = State.rest P s := by intros; (unfold commitMissed; repeat' (first | (simp [hink, hhost, hms]; done) | split | (dsimp only; split) | (refine foldl_rest P _ _ _ ?_) | intro _))
@[simp] theorem startSets_rest (P : Parts) (hsheen : P.sheen = true) : ∀ (s : State), State.rest P (startSets s) = State.rest P s := by intros; simp [startSets, hsheen]
@[simp] theorem takeClaim_rest (P : Parts) (hbl : P.bl = true) (hpower : P.power = true) (hink : P.ink = true) (hhost : P.host = true) (htwin : P.twin = true) (hvl : P.vl = true) (hentry : P.entry = true) : ∀ (kind claim stop : Nat) (s : State), State.rest P (takeClaim kind claim stop s) = State.rest P s := by intros; simp [takeClaim, hbl, hpower, hink, hhost, htwin, hvl, hentry]
@[simp] theorem silentDeath_rest (P : Parts) (hbl : P.bl = true) (hpower : P.power = true) (hink : P.ink = true) (hhost : P.host = true) (htwin : P.twin = true) (hvl : P.vl = true) (hentry : P.entry = true) : ∀ (s : State), State.rest P (silentDeath s) = State.rest P s := by intros; simp [silentDeath, hbl, hpower, hink, hhost, htwin, hvl, hentry]
@[simp] theorem within2s_rest (P : Parts) (hbl : P.bl = true) : ∀ (s : State), State.rest P (within2s s) = State.rest P s := by intros; simp [within2s, hbl]
@[simp] theorem announceUnwarned_rest (P : Parts) (hink : P.ink = true) (hhost : P.host = true) (hvl : P.vl = true) : ∀ (s : State), State.rest P (announceUnwarned s) = State.rest P s := by intros; simp [announceUnwarned, hink, hhost, hvl]
@[simp] theorem applyStep_rest (P : Parts) (hbl : P.bl = true) (hink : P.ink = true) (hhost : P.host = true) : ∀ (ps : Int) (cmd : Option (Nat × Nat)) (s : State), State.rest P (applyStep ps cmd s) = State.rest P s := by intros; (unfold applyStep; split <;> simp [hbl, hink, hhost])
@[simp] theorem dueSteps_rest (P : Parts) (hbl : P.bl = true) (hink : P.ink = true) (hhost : P.host = true) : ∀ (captured : Bool) (s : State), State.rest P (dueSteps captured s) = State.rest P s := by intros; (unfold dueSteps; repeat' (first | (simp [hbl, hink, hhost]; done) | split))
@[simp] theorem tellEpoch_rest (P : Parts) (hink : P.ink = true) (hhost : P.host = true) (hsheen : P.sheen = true) : ∀ (s : State), State.rest P (tellEpoch s) = State.rest P s := by intros; (unfold tellEpoch; split <;> simp [hink, hhost, hsheen])
@[simp] theorem sealUse_rest (P : Parts) (hsl : P.sl = true) : ∀ (result : Bytes) (n : Nat) (s : State), State.rest P (sealUse result n s) = State.rest P s := by intros; simp [sealUse, hsl]
@[simp] theorem writeResume_rest (P : Parts) (hboot : P.boot = true) (hink : P.ink = true) (hsl : P.sl = true) (hresume : P.resume = true) : ∀ (s : State), State.rest P (writeResume s) = State.rest P s := by intros; simp [writeResume, hboot, hink, hsl, hresume]
@[simp] theorem modSet_rest (P : Parts) (hsheen : P.sheen = true) : ∀ (n : Nat) (f : ReportSet → ReportSet) (s : State), State.rest P (modSet n f s) = State.rest P s := by intros; (unfold modSet; split <;> simp [hsheen])
@[simp] theorem emitRecord_rest (P : Parts) (hsheen : P.sheen = true) : ∀ (n : Nat) (r : ReportSet) (u : Nat) (part : Bool) (s : State), State.rest P (emitRecord n r u part s) = State.rest P s := by intros; simp [emitRecord, hsheen]
@[simp] theorem splitIntervals_rest (P : Parts) (hsheen : P.sheen = true) : ∀ (u : Nat) (s : State), State.rest P (splitIntervals u s) = State.rest P s := by intros; (unfold splitIntervals; repeat' (first | (simp [hsheen]; done) | split | (dsimp only; split) | (refine foldl_rest P _ _ _ ?_) | intro _))
@[simp] theorem closeDue_rest (P : Parts) (hsheen : P.sheen = true) : ∀ (u : Nat) (s : State), State.rest P (closeDue u s) = State.rest P s := by intros; (unfold closeDue; repeat' (first | (simp [hsheen]; done) | split | (dsimp only; split) | (refine foldl_rest P _ _ _ ?_) | intro _))
@[simp] theorem openEpoch_rest (P : Parts) (hsheen : P.sheen = true) : ∀ (cause : Nat) (reset : List Nat) (s : State), State.rest P (openEpoch cause reset s) = State.rest P s := by intros; simp [openEpoch, hsheen]
@[simp] theorem restartGroups_rest (P : Parts) (hsheen : P.sheen = true) : ∀ (l : List Nat) (s : State), State.rest P (restartGroups l s) = State.rest P s := by intros; simp [restartGroups, hsheen]
@[simp] theorem takeSheen_rest (P : Parts) (hprog : P.prog = true) (hsheen : P.sheen = true) : ∀ (l : List (Nat × Nat)) (s : State), State.rest P (takeSheen l s) = State.rest P s := by intros; exact (foldl_rest P _ _ _ (by intros; simp [hprog, hsheen])).trans (by simp [hprog, hsheen])
@[simp] theorem executeChange_rest (P : Parts) (hprog : P.prog = true) : ∀ (c : Change) (s : State), State.rest P (executeChange c s) = State.rest P s := by intros; simp [executeChange, hprog]
@[simp] theorem modSink_rest (P : Parts) (hlig : P.lig = true) : ∀ (n : Nat) (f : Sink → Sink) (s : State), State.rest P (modSink n f s) = State.rest P s := by intros; simp [modSink, hlig]
@[simp] theorem takeWord_rest (P : Parts) (hlig : P.lig = true) : ∀ (n word : Nat) (s : State), State.rest P (takeWord n word s) = State.rest P s := by intros; simp [takeWord, hlig]
@[simp] theorem takeRoutes_rest (P : Parts) (hlig : P.lig = true) : ∀ (q : Turn) (s : State), State.rest P (takeRoutes q s) = State.rest P s := by intros; simp [takeRoutes, hlig]
@[simp] theorem countSplit_rest (P : Parts) (hdx : P.dx = true) : ∀ (k : Nat) (s : State), State.rest P (countSplit k s) = State.rest P s := by intros; simp [countSplit, hdx]
@[simp] theorem executeScene_rest (P : Parts) (hink : P.ink = true) (hhost : P.host = true) (hdx : P.dx = true) (hprog : P.prog = true) (hlig : P.lig = true) (hsheen : P.sheen = true) : ∀ (a : Armed) (late : Bool) (s : State), State.rest P (executeScene a late s) = State.rest P s := by intros; (unfold executeScene; repeat' (first | (simp [hink, hhost, hdx, hprog, hlig, hsheen]; done) | split))
@[simp] theorem recallTurns_rest (P : Parts) (hboot : P.boot = true) (hink : P.ink = true) (hhost : P.host = true) (hdx : P.dx = true) (hprog : P.prog = true) (hlig : P.lig = true) (hsheen : P.sheen = true) (hsl : P.sl = true) (hresume : P.resume = true) : ∀ (a : Armed) (late : Bool) (s : State), State.rest P (recallTurns a late s) = State.rest P s := by intros; simp [recallTurns, hboot, hink, hhost, hdx, hprog, hlig, hsheen, hsl, hresume]
@[simp] theorem forget_rest (P : Parts) (hink : P.ink = true) : ∀ (a : Armed) (s : State), State.rest P (forget a s) = State.rest P s := by intros; simp [forget, hink]
@[simp] theorem lateRecall_rest (P : Parts) (hboot : P.boot = true) (hink : P.ink = true) (hhost : P.host = true) (hdx : P.dx = true) (hprog : P.prog = true) (hlig : P.lig = true) (hsheen : P.sheen = true) (hsl : P.sl = true) (hresume : P.resume = true) : ∀ (client seq : Nat) (s : State), State.rest P (lateRecall client seq s) = State.rest P s := by intros; (unfold lateRecall; split <;> simp [hboot, hink, hhost, hdx, hprog, hlig, hsheen, hsl, hresume])
@[simp] theorem tlsConnect_rest (P : Parts) (hink : P.ink = true) : ∀ (s : State), State.rest P (tlsConnect s) = State.rest P s := by intros; simp [tlsConnect, hink]
@[simp] theorem setHolder_rest (P : Parts) (hink : P.ink = true) : ∀ (h : Nat) (p : Holder) (s : State), State.rest P (setHolder h p s) = State.rest P s := by intros; simp [setHolder, hink]
@[simp] theorem modWell_rest (P : Parts) (hink : P.ink = true) : ∀ (n : Nat) (f : Inkwell → Inkwell) (s : State), State.rest P (modWell n f s) = State.rest P s := by intros; simp [modWell, hink]
@[simp] theorem freeSheet_rest (P : Parts) (hink : P.ink = true) : ∀ (n h : Nat) (s : State), State.rest P (freeSheet n h s) = State.rest P s := by intros; simp [freeSheet, hink]
@[simp] theorem disagreementRuns_rest (P : Parts) (hboot : P.boot = true) (hpower : P.power = true) (hink : P.ink = true) (hhost : P.host = true) (hhush : P.hush = true) (hvl : P.vl = true) : ∀ (s : State), State.rest P (disagreementRuns s) = State.rest P s := by intros; simp [disagreementRuns, hboot, hpower, hink, hhost, hhush, hvl]
@[simp] theorem loseStores_rest (P : Parts) (hfeed : P.feed = true) (hdx : P.dx = true) (hmem : P.mem = true) : ∀ (s : State), State.rest P (loseStores s) = State.rest P s := by intros; simp [loseStores, hfeed, hdx, hmem]
@[simp] theorem powerDown_rest (P : Parts) (hbl : P.bl = true) (hboot : P.boot = true) (hink : P.ink = true) (hhost : P.host = true) (hserif : P.serif = true) (hquill : P.quill = true) (hfeed : P.feed = true) (hdx : P.dx = true) (hvl : P.vl = true) (hmem : P.mem = true) : ∀ (s : State), State.rest P (powerDown s) = State.rest P s := by intros; simp [powerDown, hbl, hboot, hink, hhost, hserif, hquill, hfeed, hdx, hvl, hmem]
@[simp] theorem ownSinks_rest (P : Parts) (hlig : P.lig = true) : ∀ (owner : Nat) (l : List Nat) (s : State), State.rest P (ownSinks owner l s) = State.rest P s := by intros; simp [ownSinks, hlig]
@[simp] theorem takeTxEntry_rest (P : Parts) (htwin : P.twin = true) (hquill : P.quill = true) (hlig : P.lig = true) : ∀ (n : Nat) (e : Bytes) (s : State), State.rest P (takeTxEntry n e s) = State.rest P s := by intros; (unfold takeTxEntry; dsimp only; simp only [or_true, true_or, eq_self, and_self, true_and, implies_true, rest_mk, modTx_rest P hquill, ownSinks_rest P hlig, htwin, hquill, hlig])
@[simp] theorem loadVellum_rest (P : Parts) (hvl : P.vl = true) : ∀ (s : State), State.rest P (loadVellum s) = State.rest P s := by intros; (unfold loadVellum; repeat' (first | (simp [hvl]; done) | split | (dsimp only; split) | (refine foldl_rest P _ _ _ ?_) | intro _))
@[simp] theorem judgePair_rest (P : Parts) (htwin : P.twin = true) : ∀ (s : State), State.rest P (judgePair s) = State.rest P s := by intros; (unfold judgePair; split <;> simp [htwin])
@[simp] theorem pairingRetry_rest (P : Parts) (htwin : P.twin = true) : ∀ (s : State), State.rest P (pairingRetry s) = State.rest P s := by intros; simp [pairingRetry, htwin]
@[simp] theorem armHandover_rest (P : Parts) (htwin : P.twin = true) : ∀ (point claim : Nat) (cmd : Option (Nat × Nat)) (timed incoming : Bool) (s : State), State.rest P (armHandover point claim cmd timed incoming s) = State.rest P s := by intros; simp [armHandover, htwin]
@[simp] theorem leaveDegraded_rest (P : Parts) (hbl : P.bl = true) (hpower : P.power = true) (hink : P.ink = true) (hhost : P.host = true) (hvl : P.vl = true) (hentry : P.entry = true) : ∀ (s : State), State.rest P (leaveDegraded s) = State.rest P s := by intros; simp [leaveDegraded, hbl, hpower, hink, hhost, hvl, hentry]
@[simp] theorem flourishDone_rest (P : Parts) (hink : P.ink = true) (hhost : P.host = true) (hms : P.ms = true) : ∀ (f : Flourish) (result : Nat) (s : State), State.rest P (flourishDone f result s) = State.rest P s := by intros; simp [flourishDone, hink, hhost, hms]
@[simp] theorem abortFlourish_rest (P : Parts) (hink : P.ink = true) (hhost : P.host = true) (hms : P.ms = true) : ∀ (f : Flourish) (st : Nat) (s : State), State.rest P (abortFlourish f st s) = State.rest P s := by intros; simp [abortFlourish, hink, hhost, hms]
@[simp] theorem commitFlourish_rest (P : Parts) (htwin : P.twin = true) (hms : P.ms = true) : ∀ (f : Flourish) (s : State), State.rest P (commitFlourish f s) = State.rest P s := by intros; simp [commitFlourish, htwin, hms]
@[simp] theorem settleVotes_rest (P : Parts) (hink : P.ink = true) (hhost : P.host = true) (htwin : P.twin = true) (hms : P.ms = true) : ∀ (f : Flourish) (s : State), State.rest P (settleVotes f s) = State.rest P s := by intros; (unfold settleVotes; repeat' (first | (simp [hink, hhost, htwin, hms]; done) | split))
@[simp] theorem voteRx_rest (P : Parts) (hink : P.ink = true) (hhost : P.host = true) (htwin : P.twin = true) (hms : P.ms = true) : ∀ (via origin number count st refuser : Nat) (s0 : State), State.rest P (voteRx via origin number count st refuser s0) = State.rest P s0 := by intros; (unfold voteRx; repeat' (first | (simp [hink, hhost, htwin, hms]; done) | split | (dsimp only; split) | (refine foldl_rest P _ _ _ ?_) | intro _))
@[simp] theorem startRemoval_rest (P : Parts) (hprog : P.prog = true) : ∀ (k : Nat) (s : State), State.rest P (startRemoval k s) = State.rest P s := by intros; simp [startRemoval, hprog]
@[simp] theorem modSl_rest (P : Parts) (hsl : P.sl = true) : ∀ (f : Seal → Seal) (s : State), State.rest P (modSl f s) = State.rest P s := by intros; simp [modSl, hsl]
@[simp] theorem modCh_rest (P : Parts) (hsl : P.sl = true) : ∀ (c : Nat) (f : SealCh → SealCh) (s : State), State.rest P (modCh c f s) = State.rest P s := by intros; simp [modCh, hsl]
@[simp] theorem sealStart_rest (P : Parts) (hsl : P.sl = true) : ∀ (i c : Nat) (s : State), State.rest P (sealStart i c s) = State.rest P s := by intros; simp [sealStart, hsl]
@[simp] theorem sealNext_rest (P : Parts) (hsl : P.sl = true) : ∀ (s : State), State.rest P (sealNext s) = State.rest P s := by intros; (unfold sealNext; split <;> simp [hsl])
@[simp] theorem sealQueue_rest (P : Parts) (hsl : P.sl = true) : ∀ (j : SealJob) (s : State), State.rest P (sealQueue j s).st = State.rest P s := by intros; (unfold sealQueue; split <;> simp [hsl])
@[simp] theorem withAction_rest (P : Parts) (hink : P.ink = true) : ∀ (a : Armed) (s : State), State.rest P (withAction a s) = State.rest P s := by intros; simp [withAction, hink]
@[simp] theorem planAt_rest (P : Parts) (hprog : P.prog = true) : ∀ (s : State) (at_ : Nat), State.rest P (planAt s at_) = State.rest P s := by intros; simp [planAt, hprog]
@[simp] theorem schedule_rest (P : Parts) (hink : P.ink = true) : ∀ (x : Ctx) (a : Armed) (s : State), State.rest P (schedule x a s) = State.rest P s := by intros; simp [schedule, hink]
@[simp] theorem armRecall_rest (P : Parts) (hink : P.ink = true) (hprog : P.prog = true) : ∀ (op : Nat) (x : Ctx) (num : Nat) (sc : Scene) (scope flags at_ : Nat) (s : State), State.rest P (armRecall op x num sc scope flags at_ s).st = State.rest P s := by intros; (unfold armRecall; dsimp only; repeat' (first | split | simp only [fail_rest P, schedule_rest P hink, hink, hprog]))
@[simp] theorem recallBody_rest (P : Parts) (hink : P.ink = true) (hprog : P.prog = true) : ∀ (x : Ctx) (s : State), State.rest P (recallBody x s).st = State.rest P s := by intros; (unfold recallBody; split <;> simp [hink, hprog])
@[simp] theorem draw_rest (P : Parts) (hdraws : P.draws = true) : ∀ {α : Type} (f : Nat → α) (s : State), State.rest P (draw f s).2 = State.rest P s := by intros; simp [draw, hdraws]
@[simp] theorem twinHello_rest (P : Parts) (hdraws : P.draws = true) (htwin : P.twin = true) : ∀ (s : State), State.rest P (twinHello s) = State.rest P s := by intros; simp [twinHello, hdraws, htwin]
@[simp] theorem ballWrite_rest (P : Parts) (hink : P.ink = true) : ∀ (d : Bytes) (s : State), State.rest P (ballWrite d s) = State.rest P s := by intros; simp [ballWrite, hink]
@[simp] theorem ball1Write_rest (P : Parts) (hink : P.ink = true) : ∀ (w : Nat) (s : State), State.rest P (ball1Write w s) = State.rest P s := by intros; simp [ball1Write, hink]
@[simp] theorem moveDone_rest (P : Parts) (hlig : P.lig = true) : ∀ (n : Nat) (s : State), State.rest P (moveDone n s) = State.rest P s := by intros; (unfold moveDone; split <;> simp [hlig])
@[simp] theorem settleMove_rest (P : Parts) (hlig : P.lig = true) : ∀ (n : Nat) (s : State), State.rest P (settleMove n s) = State.rest P s := by intros; simp [settleMove, hlig]
@[simp] theorem toBackup_rest (P : Parts) (hlig : P.lig = true) : ∀ (n cause : Nat) (s : State), State.rest P (toBackup n cause s) = State.rest P s := by intros; simp [toBackup, hlig]
@[simp] theorem toPrimary_rest (P : Parts) (hlig : P.lig = true) : ∀ (n cause : Nat) (s : State), State.rest P (toPrimary n cause s) = State.rest P s := by intros; simp [toPrimary, hlig]
@[simp] theorem commandFallback_rest (P : Parts) (hlig : P.lig = true) : ∀ (n action : Nat) (s : State), State.rest P (commandFallback n action s) = State.rest P s := by intros; simp [commandFallback, hlig]
@[simp] theorem endRouteFades_rest (P : Parts) (hlig : P.lig = true) : ∀ (s : State), State.rest P (endRouteFades s) = State.rest P s := by intros; (unfold endRouteFades; repeat' (first | (simp [hlig]; done) | split | (dsimp only; split) | (refine foldl_rest P _ _ _ ?_) | intro _))
@[simp] theorem flushMoves_rest (P : Parts) (hink : P.ink = true) (hhost : P.host = true) (hlig : P.lig = true) : ∀ (s : State), State.rest P (flushMoves s) = State.rest P s := by intros; (unfold flushMoves; repeat' (first | (simp [hink, hhost, hlig]; done) | split | (dsimp only; split) | (refine foldl_rest P _ _ _ ?_) | intro _))
@[simp] theorem adoptFills_rest (P : Parts) (hserif : P.serif = true) : ∀ (l : Tab (Nat × Nat)) (s : State), State.rest P (adoptFills l s) = State.rest P s := by intros; simp [adoptFills, hserif]
@[simp] theorem setPortCfg_rest (P : Parts) (hbl : P.bl = true) (hink : P.ink = true) (hhost : P.host = true) (htwin : P.twin = true) (hserif : P.serif = true) : ∀ (n : Nat) (c : SerCfg) (s : State), State.rest P (setPortCfg n c s) = State.rest P s := by intros; simp [setPortCfg, hbl, hink, hhost, htwin, hserif]
@[simp] theorem ownSources_rest (P : Parts) (hlig : P.lig = true) : ∀ (owner : Nat) (l : List Nat) (s : State), State.rest P (ownSources owner l s) = State.rest P s := by intros; simp [ownSources, hlig]
@[simp] theorem settleRx_rest (P : Parts) (hink : P.ink = true) (hhost : P.host = true) (hquill : P.quill = true) : ∀ (n : Nat) (s : State), State.rest P (settleRx n s) = State.rest P s := by intros; (unfold settleRx; repeat' (first | (simp [hink, hhost, hquill]; done) | split | (dsimp only; split) | (refine foldl_rest P _ _ _ ?_) | intro _))
@[simp] theorem takeRxEntry_rest (P : Parts) (hink : P.ink = true) (hhost : P.host = true) (hquill : P.quill = true) (hlig : P.lig = true) : ∀ (n : Nat) (e : Bytes) (s : State), State.rest P (takeRxEntry n e s) = State.rest P s := by intros; simp [takeRxEntry, hink, hhost, hquill, hlig]
@[simp] theorem applyRecord_rest (P : Parts) (hbl : P.bl = true) (hink : P.ink = true) (hhost : P.host = true) (htwin : P.twin = true) (hserif : P.serif = true) (hquill : P.quill = true) (hms : P.ms = true) (hrt : P.rt = true) (hprog : P.prog = true) (hlig : P.lig = true) (hsheen : P.sheen = true) : ∀ (r : ResumeRec) (s : State), State.rest P (applyRecord r s) = State.rest P s := by intros; simp [applyRecord, hbl, hink, hhost, htwin, hserif, hquill, hms, hrt, hprog, hlig, hsheen]
@[simp] theorem loadSnapshot_rest (P : Parts) (hbl : P.bl = true) (hink : P.ink = true) (hhost : P.host = true) (htwin : P.twin = true) (hserif : P.serif = true) (hquill : P.quill = true) (hms : P.ms = true) (hrt : P.rt = true) (hprog : P.prog = true) (hlig : P.lig = true) (hsheen : P.sheen = true) (hvl : P.vl = true) : ∀ (b : Bytes) (s : State), State.rest P (loadSnapshot b s) = State.rest P s := by intros; simp [loadSnapshot, hbl, hink, hhost, htwin, hserif, hquill, hms, hrt, hprog, hlig, hsheen, hvl]
@[simp] theorem msixEnable_rest (P : Parts) (hhost : P.host = true) : ∀ (on fnMask : Bool) (s : State), State.rest P (msixEnable on fnMask s) = State.rest P s := by intros; simp [msixEnable, hhost]
@[simp] theorem sealEnd_rest (P : Parts) (hsl : P.sl = true) : ∀ (c err n : Nat) (result saved : Bytes) (alg : Option Nat) (s : State), State.rest P (sealEnd c err n result saved alg s) = State.rest P s := by intros; simp [sealEnd, hsl]
@[simp] theorem enterFrameError_rest (P : Parts) (hbl : P.bl = true) (hink : P.ink = true) (hhost : P.host = true) (hserif : P.serif = true) : ∀ (n : Nat) (s : State), State.rest P (enterFrameError n s) = State.rest P s := by intros; simp [enterFrameError, hbl, hink, hhost, hserif]
@[simp] theorem countTx_rest (P : Parts) (hserif : P.serif = true) (hvl : P.vl = true) : ∀ (n k : Nat) (x : Sample) (clip : Bool) (s : State), State.rest P (countTx n k x clip s) = State.rest P s := by intros; simp [countTx, hserif, hvl]
@[simp] theorem sendFrame_rest (P : Parts) (hserif : P.serif = true) (hvl : P.vl = true) : ∀ (n : Nat) (f : List Sample) (s : State), State.rest P (sendFrame n f s) = State.rest P s := by intros; simp [sendFrame, hserif, hvl]
@[simp] theorem underrun_rest (P : Parts) (hserif : P.serif = true) (hvl : P.vl = true) : ∀ (n dir : Nat) (s : State), State.rest P (underrun n dir s) = State.rest P s := by intros; simp [underrun, hserif, hvl]
@[simp] theorem slaveSend_rest (P : Parts) (hserif : P.serif = true) (hvl : P.vl = true) : ∀ (n : Nat) (s : State), State.rest P (slaveSend n s) = State.rest P s := by intros; (unfold slaveSend; repeat' (first | (simp [hserif, hvl]; done) | split | (dsimp only; split) | (refine foldl_rest P _ _ _ ?_) | intro _))
@[simp] theorem wrongFrame_rest (P : Parts) (hbl : P.bl = true) (hink : P.ink = true) (hhost : P.host = true) (hserif : P.serif = true) (hvl : P.vl = true) : ∀ (n : Nat) (s : State), State.rest P (wrongFrame n s) = State.rest P s := by intros; simp [wrongFrame, hbl, hink, hhost, hserif, hvl]
@[simp] theorem toStage_rest (P : Parts) (hboot : P.boot = true) (hhost : P.host = true) : ∀ (g : Stage) (s : State), State.rest P (toStage g s) = State.rest P s := by intros; simp [toStage, hboot, hhost]
@[simp] theorem chooseSource_rest (P : Parts) (hboot : P.boot = true) (hhost : P.host = true) : ∀ (s : State), State.rest P (chooseSource s) = State.rest P s := by intros; simp [chooseSource, hboot, hhost]
@[simp] theorem markRefLost_rest (P : Parts) (hpower : P.power = true) : ∀ (s : State), State.rest P (markRefLost s) = State.rest P s := by intros; simp [markRefLost, hpower]
@[simp] theorem holdoverEnds_rest (P : Parts) (hvl : P.vl = true) : ∀ (s t : State), State.rest P (holdoverEnds s t) = State.rest P t := by intros; simp [holdoverEnds, hvl]
@[simp] theorem enterFree_rest (P : Parts) (hbl : P.bl = true) (hpower : P.power = true) (hink : P.ink = true) (hhost : P.host = true) (hvl : P.vl = true) : ∀ (cause : Nat) (s : State), State.rest P (enterFree cause s) = State.rest P s := by intros; simp [enterFree, hbl, hpower, hink, hhost, hvl]
@[simp] theorem switchTo_rest (P : Parts) (hbl : P.bl = true) (hink : P.ink = true) (hhost : P.host = true) (hvl : P.vl = true) : ∀ (n cause : Nat) (s : State), State.rest P (switchTo n cause s) = State.rest P s := by intros; simp [switchTo, hbl, hink, hhost, hvl]
@[simp] theorem enterHoldover_rest (P : Parts) (hbl : P.bl = true) (hpower : P.power = true) (hink : P.ink = true) (hhost : P.host = true) (hvl : P.vl = true) : ∀ (s : State), State.rest P (enterHoldover s) = State.rest P s := by intros; simp [enterHoldover, hbl, hpower, hink, hhost, hvl]
@[simp] theorem holdOrFree_rest (P : Parts) (hbl : P.bl = true) (hpower : P.power = true) (hink : P.ink = true) (hhost : P.host = true) (hvl : P.vl = true) : ∀ (s : State), State.rest P (holdOrFree s) = State.rest P s := by intros; (unfold holdOrFree; split <;> simp [hbl, hpower, hink, hhost, hvl])
@[simp] theorem selectRef_rest (P : Parts) (hbl : P.bl = true) (hpower : P.power = true) (hink : P.ink = true) (hhost : P.host = true) (hvl : P.vl = true) : ∀ (s : State), State.rest P (selectRef s) = State.rest P s := by intros; (unfold selectRef; repeat' (first | (simp [hbl, hpower, hink, hhost, hvl]; done) | split))
@[simp] theorem dueDisagree_rest (P : Parts) (hbl : P.bl = true) (hink : P.ink = true) (hhost : P.host = true) : ∀ (s : State), State.rest P (dueDisagree s) = State.rest P s := by intros; simp [dueDisagree, hbl, hink, hhost]
@[simp] theorem dueSelect_rest (P : Parts) (hbl : P.bl = true) : ∀ (s : State), State.rest P (dueSelect s) = State.rest P s := by intros; (unfold dueSelect; split <;> simp [hbl])
@[simp] theorem takeAverage_rest (P : Parts) (hbl : P.bl = true) : ∀ (s : State), State.rest P (takeAverage s) = State.rest P s := by intros; simp [takeAverage, hbl]
@[simp] theorem setFollowFreq_rest (P : Parts) (hbl : P.bl = true) : ∀ (s : State), State.rest P (setFollowFreq s) = State.rest P s := by intros; simp [setFollowFreq, hbl]
@[simp] theorem measure_rest (P : Parts) (hdraws : P.draws = true) (hbl : P.bl = true) : ∀ (n : Nat) (dev : Int) (s : State), State.rest P (measure n dev s) = State.rest P s := by intros; (unfold measure; split <;> first | (simp [hdraws, hbl]; done) | (dsimp only; rw [rest_mk]; simp [hdraws, hbl]))
@[simp] theorem boundaryMeasure_rest (P : Parts) (hdraws : P.draws = true) (hbl : P.bl = true) : ∀ (s : State), State.rest P (boundaryMeasure s) = State.rest P s := by intros; simp [boundaryMeasure, hdraws, hbl]
@[simp] theorem dueHits_rest (P : Parts) (hbl : P.bl = true) (hink : P.ink = true) (hhost : P.host = true) : ∀ (s : State), State.rest P (dueHits s) = State.rest P s := by intros; simp [dueHits, hbl, hink, hhost]
@[simp] theorem blBoundary_rest (P : Parts) (hdraws : P.draws = true) (hbl : P.bl = true) (hpower : P.power = true) (hink : P.ink = true) (hhost : P.host = true) (hvl : P.vl = true) : ∀ (s : State), State.rest P (blBoundary s) = State.rest P s := by intros; simp [blBoundary, hdraws, hbl, hpower, hink, hhost, hvl]
@[simp] theorem dropInst_rest (P : Parts) (hprog : P.prog = true) : ∀ (k : Nat) (s : State), State.rest P (dropInst k s) = State.rest P s := by intros; simp [dropInst, hprog]
@[simp] theorem removeInst_rest (P : Parts) (hink : P.ink = true) (hhost : P.host = true) (hms : P.ms = true) (hprog : P.prog = true) (hlig : P.lig = true) : ∀ (k : Nat) (s : State), State.rest P (removeInst k s) = State.rest P s := by intros; (unfold removeInst; repeat' (first | (simp [hink, hhost, hms, hprog, hlig]; done) | split | (dsimp only; split) | (refine foldl_rest P _ _ _ ?_) | intro _))
@[simp] theorem removeFaded_rest (P : Parts) (hink : P.ink = true) (hhost : P.host = true) (hms : P.ms = true) (hprog : P.prog = true) (hlig : P.lig = true) : ∀ (s : State), State.rest P (removeFaded s) = State.rest P s := by intros; simp [removeFaded, hink, hhost, hms, hprog, hlig]
@[simp] theorem moveSheen_rest (P : Parts) (hsheen : P.sheen = true) : ∀ (f : Nat → Nat) (s : State), State.rest P (moveSheen f s) = State.rest P s := by intros; simp [moveSheen, hsheen]
@[simp] theorem moveTimes_rest (P : Parts) (hbl : P.bl = true) (hpower : P.power = true) (hink : P.ink = true) (hdx : P.dx = true) (hprog : P.prog = true) (hlig : P.lig = true) : ∀ (f : Nat → Nat) (s : State), State.rest P (moveTimes f s) = State.rest P s := by intros; simp [moveTimes, hbl, hpower, hink, hdx, hprog, hlig]
@[simp] theorem announceShift_rest (P : Parts) (hink : P.ink = true) (hhost : P.host = true) : ∀ (delta : Int) (cause : Nat) (s : State), State.rest P (announceShift delta cause s) = State.rest P s := by intros; simp [announceShift, hink, hhost]
@[simp] theorem regridSets_rest (P : Parts) (hsheen : P.sheen = true) : ∀ (s : State), State.rest P (regridSets s) = State.rest P s := by intros; simp [regridSets, hsheen]
@[simp] theorem shiftSsi_rest (P : Parts) (hstem : P.stem = true) (hbl : P.bl = true) (hpower : P.power = true) (hink : P.ink = true) (hhost : P.host = true) (hdx : P.dx = true) (hprog : P.prog = true) (hlig : P.lig = true) (hsheen : P.sheen = true) (hvl : P.vl = true) : ∀ (new : Nat) (f : Nat → Nat) (cause : Nat) (s : State), State.rest P (shiftSsi new f cause s) = State.rest P s := by intros; simp [shiftSsi, hstem, hbl, hpower, hink, hhost, hdx, hprog, hlig, hsheen, hvl]
@[simp] theorem sealGo_rest (P : Parts) (hsl : P.sl = true) : ∀ (c : Nat) (s : State), State.rest P (sealGo c s) = State.rest P s := by intros; simp [sealGo, hsl]
@[simp] theorem becomeCold_rest (P : Parts) (hink : P.ink = true) (hhost : P.host = true) (htwin : P.twin = true) : ∀ (s : State), State.rest P (becomeCold s) = State.rest P s := by intros; simp [becomeCold, hink, hhost, htwin]
@[simp] theorem takeSignals_rest (P : Parts) (hprog : P.prog = true) (hlig : P.lig = true) : ∀ (g : Signals) (s : State), State.rest P (takeSignals g s) = State.rest P s := by intros; simp [takeSignals, hprog, hlig]
@[simp] theorem retime_rest (P : Parts) (hink : P.ink = true) : ∀ (e : TwinEntry) (order : Nat) (s : State), State.rest P (retime e order s) = State.rest P s := by intros; simp [retime, hink]
@[simp] theorem resolveStreams_rest (P : Parts) (hink : P.ink = true) (hhost : P.host = true) (hquill : P.quill = true) : ∀ (n addr : Nat) (s : State), State.rest P (resolveStreams n addr s) = State.rest P s := by intros; simp [resolveStreams, hink, hhost, hquill]
@[simp] theorem portFrameError_rest (P : Parts) (hbl : P.bl = true) (hink : P.ink = true) (hhost : P.host = true) (hserif : P.serif = true) : ∀ (n : Nat) (s : State), State.rest P (portFrameError n s) = State.rest P s := by intros; simp [portFrameError, hbl, hink, hhost, hserif]
@[simp] theorem settleErr_rest (P : Parts) (hbl : P.bl = true) : ∀ (s : State), State.rest P (settleErr s) = State.rest P s := by intros; simp [settleErr, hbl]
@[simp] theorem alignmentComplete_rest (P : Parts) (hbl : P.bl = true) : ∀ (s : State), State.rest P (alignmentComplete s) = State.rest P s := by intros; simp [alignmentComplete, hbl]
@[simp] theorem countStall_rest (P : Parts) (hdx : P.dx = true) : ∀ (s : State), State.rest P (countStall s) = State.rest P s := by intros; simp [countStall, hdx]
@[simp] theorem avsRequest_rest (P : Parts) (hink : P.ink = true) (hhost : P.host = true) : ∀ (req : Nat) (ack : Bool) (mv : Nat) (s : State), State.rest P (avsRequest req ack mv s) = State.rest P s := by intros; simp [avsRequest, hink, hhost]
@[simp] theorem avsStep_rest (P : Parts) (hink : P.ink = true) (hhost : P.host = true) : ∀ (ack : Bool) (mv : Nat) (s : State), State.rest P (avsStep ack mv s) = State.rest P s := by intros; simp [avsStep, hink, hhost]
@[simp] theorem journal_rest (P : Parts) (htwin : P.twin = true) : ∀ (op : Nat) (x : Ctx) (st : Status) (warns : List Warning) (s : State), State.rest P (journal op x st warns s) = State.rest P s := by intros; (unfold journal; split <;> simp [htwin])
@[simp] theorem withSsrc_rest (P : Parts) (hdraws : P.draws = true) : ∀ (e : Bytes) (s : State), State.rest P (withSsrc e s).2 = State.rest P s := by intros; (unfold withSsrc; split <;> simp [hdraws])
@[simp] theorem txSetBody_rest (P : Parts) (hdraws : P.draws = true) (hink : P.ink = true) : ∀ (x : Ctx) (s : State), State.rest P (txSetBody x s).st = State.rest P s := by intros; (unfold txSetBody; repeat' (first | (simp [hdraws, hink]; done) | split | (dsimp only; split) | (refine foldl_rest P _ _ _ ?_) | intro _))
@[simp] theorem reportGroups_rest (P : Parts) (hquill : P.quill = true) : ∀ (old s : State), State.rest P (reportGroups old s) = State.rest P s := by intros; simp [reportGroups, hquill]
@[simp] theorem rxSetBody_rest (P : Parts) (hink : P.ink = true) (hquill : P.quill = true) : ∀ (x : Ctx) (s : State), State.rest P (rxSetBody x s).st = State.rest P s := by intros; (unfold rxSetBody; repeat' (first | (simp [hink, hquill]; done) | split | (dsimp only; split) | (refine foldl_rest P _ _ _ ?_) | intro _))
@[simp] theorem readBoard_rest (P : Parts) (hhost : P.host = true) : ∀ (s : State), State.rest P (readBoard s) = State.rest P s := by intros; simp [readBoard, hhost]
@[simp] theorem tapLost_rest (P : Parts) (hfeed : P.feed = true) (hvl : P.vl = true) : ∀ (m a : Nat) (known : Bool) (s : State), State.rest P (tapLost m a known s) = State.rest P s := by intros; (unfold tapLost; split <;> simp [hfeed, hvl])
@[simp] theorem sendControl_rest (P : Parts) (hink : P.ink = true) : ∀ (b : Bytes) (s : State), State.rest P (sendControl b s) = State.rest P s := by intros; simp [sendControl, hink]
@[simp] theorem refuseSession_rest (P : Parts) (hink : P.ink = true) : ∀ (st : Status) (s : State), State.rest P (refuseSession st s) = State.rest P s := by intros; simp [refuseSession, hink]
@[simp] theorem overrun_rest (P : Parts) (hserif : P.serif = true) (hvl : P.vl = true) : ∀ (n dir : Nat) (s : State), State.rest P (overrun n dir s) = State.rest P s := by intros; simp [overrun, hserif, hvl]
@[simp] theorem setAllocRead_rest (P : Parts) (hink : P.ink = true) : ∀ (n v : Nat) (s : State), State.rest P (setAllocRead n v s) = State.rest P s := by intros; simp [setAllocRead, hink]
@[simp] theorem allocSheet_rest (P : Parts) (hdraws : P.draws = true) (hink : P.ink = true) (hhost : P.host = true) : ∀ (n : Nat) (p : Holder) (s : State), State.rest P (allocSheet n p s).2 = State.rest P s := by intros; (unfold allocSheet; repeat' (first | (simp [hdraws, hink, hhost]; done) | split))
@[simp] theorem allocFor_rest (P : Parts) (hdraws : P.draws = true) (hink : P.ink = true) (hhost : P.host = true) : ∀ (n : Nat) (s : State), State.rest P (allocFor n s) = State.rest P s := by intros; (unfold allocFor; repeat' (first | (simp [hdraws, hink, hhost]; done) | split | (dsimp only; split) | (refine foldl_rest P _ _ _ ?_) | intro _ | (rename_i h; replace h := congrArg (fun x => x.2.rest P) h; simp [hdraws, hink, hhost] at h; simp [*, hdraws, hink, hhost]; done)))
@[simp] theorem sheetAlloc_rest (P : Parts) (hdraws : P.draws = true) (hink : P.ink = true) (hhost : P.host = true) : ∀ (l : List (Via × Nat)) (s : State), State.rest P (sheetAlloc l s) = State.rest P s := by intros; simp [sheetAlloc, hdraws, hink, hhost]
@[simp] theorem settleWakePin_rest (P : Parts) (hpower : P.power = true) : ∀ (s : State), State.rest P (settleWakePin s) = State.rest P s := by intros; simp [settleWakePin, hpower]
@[simp] theorem readWakeCause_rest (P : Parts) (hpower : P.power = true) : ∀ (v : Via) (s : State), State.rest P (readWakeCause v s) = State.rest P s := by intros; (unfold readWakeCause; split <;> simp [hpower])
@[simp] theorem pageRead_rest (P : Parts) (hdraws : P.draws = true) (hpower : P.power = true) (hink : P.ink = true) (hhost : P.host = true) : ∀ (v : Via) (off : Nat) (s : State), State.rest P (pageRead v off s).2 = State.rest P s := by intros; (unfold pageRead; repeat' (first | (simp [hdraws, hpower, hink, hhost]; done) | split))
@[simp] theorem clkApply_rest (P : Parts) (hstem : P.stem = true) (hink : P.ink = true) (hhost : P.host = true) (hserif : P.serif = true) : ∀ (s : State), State.rest P (clkApply s) = State.rest P s := by intros; simp [clkApply, hstem, hink, hhost, hserif]
@[simp] theorem blSelectWrite_rest (P : Parts) (hbl : P.bl = true) : ∀ (w : Nat) (s : State), State.rest P (blSelectWrite w s) = State.rest P s := by intros; simp [blSelectWrite, hbl]
@[simp] theorem setPolicy_rest (P : Parts) (hbl : P.bl = true) : ∀ (p : BlPolicy) (s : State), State.rest P (setPolicy p s) = State.rest P s := by intros; simp [setPolicy, hbl]
@[simp] theorem setSteer_rest (P : Parts) (hbl : P.bl = true) : ∀ (t : Int) (s : State), State.rest P (setSteer t s) = State.rest P s := by intros; simp [setSteer, hbl]
@[simp] theorem blSteerWrite_rest (P : Parts) (hbl : P.bl = true) : ∀ (w : Nat) (s : State), State.rest P (blSteerWrite w s) = State.rest P s := by intros; simp [blSteerWrite, hbl]
@[simp] theorem blStepWrite_rest (P : Parts) (hbl : P.bl = true) : ∀ (w : Nat) (s : State), State.rest P (blStepWrite w s) = State.rest P s := by intros; (unfold blStepWrite; split <;> simp [hbl])
@[simp] theorem setRefCfg_rest (P : Parts) (hbl : P.bl = true) (hink : P.ink = true) (hhost : P.host = true) : ∀ (n : Nat) (c : RefCfg) (s : State), State.rest P (setRefCfg n c s) = State.rest P s := by intros; simp [setRefCfg, hbl, hink, hhost]
@[simp] theorem setOut_rest (P : Parts) (hbl : P.bl = true) : ∀ (m : Nat) (o : BlOut) (s : State), State.rest P (setOut m o s) = State.rest P s := by intros; simp [setOut, hbl]
@[simp] theorem blWrite_rest (P : Parts) (hbl : P.bl = true) (hink : P.ink = true) (hhost : P.host = true) : ∀ (o w : Nat) (s : State), State.rest P (blWrite o w s) = State.rest P s := by intros; (unfold blWrite; repeat' (first | (simp [hbl, hink, hhost]; done) | split))
@[simp] theorem dxEvent_rest (P : Parts) (hdx : P.dx = true) : ∀ (i : Nat) (s : State), State.rest P (dxEvent i s) = State.rest P s := by intros; simp [dxEvent, hdx]
@[simp] theorem dxCtrlWrite_rest (P : Parts) (hdx : P.dx = true) : ∀ (w : Nat) (s : State), State.rest P (dxCtrlWrite w s) = State.rest P s := by intros; simp [dxCtrlWrite, hdx]
@[simp] theorem dxWrite_rest (P : Parts) (hdx : P.dx = true) : ∀ (o w : Nat) (s : State), State.rest P (dxWrite o w s) = State.rest P s := by intros; (unfold dxWrite; split <;> simp [hdx])
@[simp] theorem armSink_rest (P : Parts) (hink : P.ink = true) (hlig : P.lig = true) : ∀ (n hi : Nat) (s : State), State.rest P (armSink n hi s) = State.rest P s := by intros; simp [armSink, hink, hlig]
@[simp] theorem dueCfg_rest (P : Parts) (hlig : P.lig = true) : ∀ (n : Nat) (f : SinkCfg → SinkCfg) (s : State), State.rest P (dueCfg n f s) = State.rest P s := by intros; simp [dueCfg, hlig]
@[simp] theorem sinkCfgWrite_rest (P : Parts) (hlig : P.lig = true) : ∀ (n w : Nat) (s : State), State.rest P (sinkCfgWrite n w s) = State.rest P s := by intros; simp [sinkCfgWrite, hlig]
@[simp] theorem gainWrite_rest (P : Parts) (hlig : P.lig = true) : ∀ (n w : Nat) (s : State), State.rest P (gainWrite n w s) = State.rest P s := by intros; simp [gainWrite, hlig]
@[simp] theorem shadeWrite_rest (P : Parts) (hlig : P.lig = true) : ∀ (n w : Nat) (s : State), State.rest P (shadeWrite n w s) = State.rest P s := by intros; simp [shadeWrite, hlig]
@[simp] theorem lgWrite_rest (P : Parts) (hink : P.ink = true) (hlig : P.lig = true) : ∀ (o w : Nat) (s : State), State.rest P (lgWrite o w s) = State.rest P s := by intros; (unfold lgWrite; repeat' (first | (simp [hink, hlig]; done) | split))
@[simp] theorem portApply_rest (P : Parts) (hbl : P.bl = true) (hink : P.ink = true) (hhost : P.host = true) (htwin : P.twin = true) (hserif : P.serif = true) : ∀ (n : Nat) (s : State), State.rest P (portApply n s) = State.rest P s := by intros; (unfold portApply; repeat' (first | (simp [hbl, hink, hhost, htwin, hserif]; done) | split | (dsimp only; split) | (refine foldl_rest P _ _ _ ?_) | intro _))
@[simp] theorem srWrite_rest (P : Parts) (hbl : P.bl = true) (hink : P.ink = true) (hhost : P.host = true) (htwin : P.twin = true) (hserif : P.serif = true) : ∀ (o w : Nat) (s : State), State.rest P (srWrite o w s) = State.rest P s := by intros; (unfold srWrite; split <;> simp [hbl, hink, hhost, htwin, hserif])
@[simp] theorem sealAbort_rest (P : Parts) (hink : P.ink = true) (hsl : P.sl = true) : ∀ (c : Nat) (s : State), State.rest P (sealAbort c s) = State.rest P s := by intros; (unfold sealAbort; repeat' (first | (simp [hink, hsl]; done) | split))
@[simp] theorem slWrite_rest (P : Parts) (hink : P.ink = true) (hsl : P.sl = true) : ∀ (o w : Nat) (s : State), State.rest P (slWrite o w s) = State.rest P s := by intros; (unfold slWrite; split <;> simp [hink, hsl])
@[simp] theorem modCb_rest (P : Parts) (hcb : P.cb = true) : ∀ (f : Copybook → Copybook) (s : State), State.rest P (modCb f s) = State.rest P s := by intros; simp [modCb, hcb]
@[simp] theorem cbStart_rest (P : Parts) (hbl : P.bl = true) (hboot : P.boot = true) (hink : P.ink = true) (hhost : P.host = true) (hserif : P.serif = true) (hquill : P.quill = true) (hfeed : P.feed = true) (hprog : P.prog = true) (hvl : P.vl = true) (hcb : P.cb = true) (hmem : P.mem = true) : ∀ (mode mask : Nat) (s : State), State.rest P (cbStart mode mask s) = State.rest P s := by intros; simp [cbStart, hbl, hboot, hink, hhost, hserif, hquill, hfeed, hprog, hvl, hcb, hmem]
@[simp] theorem cbGo_rest (P : Parts) (hbl : P.bl = true) (hboot : P.boot = true) (hink : P.ink = true) (hhost : P.host = true) (hserif : P.serif = true) (hquill : P.quill = true) (hfeed : P.feed = true) (hprog : P.prog = true) (hvl : P.vl = true) (hcb : P.cb = true) (hmem : P.mem = true) : ∀ (s : State), State.rest P (cbGo s) = State.rest P s := by intros; simp [cbGo, hbl, hboot, hink, hhost, hserif, hquill, hfeed, hprog, hvl, hcb, hmem]
@[simp] theorem cbAbort_rest (P : Parts) (hcb : P.cb = true) : ∀ (s : State), State.rest P (cbAbort s) = State.rest P s := by intros; simp [cbAbort, hcb]
@[simp] theorem cbWrite_rest (P : Parts) (hbl : P.bl = true) (hboot : P.boot = true) (hink : P.ink = true) (hhost : P.host = true) (hserif : P.serif = true) (hquill : P.quill = true) (hfeed : P.feed = true) (hprog : P.prog = true) (hvl : P.vl = true) (hcb : P.cb = true) (hmem : P.mem = true) : ∀ (o w : Nat) (s : State), State.rest P (cbWrite o w s) = State.rest P s := by intros; (unfold cbWrite; split <;> simp [hbl, hboot, hink, hhost, hserif, hquill, hfeed, hprog, hvl, hcb, hmem])
@[simp] theorem twWrite_rest (P : Parts) (htwin : P.twin = true) : ∀ (o w : Nat) (s : State), State.rest P (twWrite o w s) = State.rest P s := by intros; (unfold twWrite; split <;> simp [htwin])
@[simp] theorem ball0Write_rest (P : Parts) (hink : P.ink = true) : ∀ (w : Nat) (s : State), State.rest P (ball0Write w s) = State.rest P s := by intros; simp [ball0Write, hink]
@[simp] theorem snWrite_rest (P : Parts) (hink : P.ink = true) : ∀ (o w : Nat) (s : State), State.rest P (snWrite o w s) = State.rest P s := by intros; (unfold snWrite; split <;> simp [hink])
@[simp] theorem wakeAtHiWrite_rest (P : Parts) (hpower : P.power = true) : ∀ (w : Nat) (s : State), State.rest P (wakeAtHiWrite w s) = State.rest P s := by intros; exact modPower_rest P hpower _ _
@[simp] theorem pwWrite_rest (P : Parts) (hpower : P.power = true) (hprog : P.prog = true) : ∀ (o w : Nat) (s : State), State.rest P (pwWrite o w s) = State.rest P s := by intros; (unfold pwWrite; split <;> simp [hpower, hprog])
@[simp] theorem armJam_rest (P : Parts) (hstem : P.stem = true) (hbl : P.bl = true) : ∀ (s : State), State.rest P (armJam s) = State.rest P s := by intros; simp [armJam, hstem, hbl]
@[simp] theorem ltcWrite_rest (P : Parts) (hhost : P.host = true) : ∀ (f : LtcCfg → LtcCfg) (s : State), State.rest P (ltcWrite f s) = State.rest P s := by intros; simp [ltcWrite, hhost]
@[simp] theorem setPin_rest (P : Parts) (hhost : P.host = true) : ∀ (n : Nat) (p : GpioPin) (s : State), State.rest P (setPin n p s) = State.rest P s := by intros; simp [setPin, hhost]
@[simp] theorem gpioCfgWrite_rest (P : Parts) (hhost : P.host = true) : ∀ (n w : Nat) (s : State), State.rest P (gpioCfgWrite n w s) = State.rest P s := by intros; simp [gpioCfgWrite, hhost]
@[simp] theorem syWrite_rest (P : Parts) (hstem : P.stem = true) (hbl : P.bl = true) (hink : P.ink = true) (hhost : P.host = true) (hserif : P.serif = true) (hrt : P.rt = true) : ∀ (o w : Nat) (s : State), State.rest P (syWrite o w s) = State.rest P s := by intros; (unfold syWrite; split <;> simp [hstem, hbl, hink, hhost, hserif, hrt])
@[simp] theorem roleChanged_rest (P : Parts) (hink : P.ink = true) (hhost : P.host = true) : ∀ (n old new cause : Nat) (s : State), State.rest P (roleChanged n old new cause s) = State.rest P s := by intros; simp [roleChanged, hink, hhost]
@[simp] theorem modCue_rest (P : Parts) (hprog : P.prog = true) : ∀ (f : Cue → Cue) (s : State), State.rest P (modCue f s) = State.rest P s := by intros; simp [modCue, hprog]
@[simp] theorem sacnLost_rest (P : Parts) (hprog : P.prog = true) : ∀ (univ cid : Nat) (s : State), State.rest P (sacnLost univ cid s) = State.rest P s := by intros; simp [sacnLost, hprog]
@[simp] theorem inkErr_rest (P : Parts) (hink : P.ink = true) (hhost : P.host = true) : ∀ (n i : Nat) (s : State), State.rest P (inkErr n i s) = State.rest P s := by intros; (unfold inkErr; split <;> simp [hink, hhost])
@[simp] theorem repConsWrite_rest (P : Parts) (hink : P.ink = true) (hhost : P.host = true) : ∀ (v : Via) (n x : Nat) (s : State), State.rest P (repConsWrite v n x s) = State.rest P s := by intros; simp [repConsWrite, hink, hhost]
@[simp] theorem serveBasic_rest (P : Parts) (hboot : P.boot = true) (hhost : P.host = true) : ∀ (s : State), State.rest P (serveBasic s) = State.rest P s := by intros; simp [serveBasic, hboot, hhost]
@[simp] theorem takeHushPorts_rest (P : Parts) (hbl : P.bl = true) (hink : P.ink = true) (hhost : P.host = true) (htwin : P.twin = true) (hserif : P.serif = true) : ∀ (old : HushCfg) (s : State), State.rest P (takeHushPorts old s) = State.rest P s := by intros; simp [takeHushPorts, hbl, hink, hhost, htwin, hserif]
@[simp] theorem loadHushRecord_rest (P : Parts) (hbl : P.bl = true) (hink : P.ink = true) (hhost : P.host = true) (htwin : P.twin = true) (hhush : P.hush = true) (hserif : P.serif = true) : ∀ (s : State), State.rest P (loadHushRecord s) = State.rest P s := by intros; (unfold loadHushRecord; repeat' (first | (simp [hbl, hink, hhost, htwin, hhush, hserif]; done) | split | (dsimp only; split) | (refine foldl_rest P _ _ _ ?_) | intro _))
@[simp] theorem modCueCount_rest (P : Parts) (hprog : P.prog = true) : ∀ (src : Nat) (f : CueCount → CueCount) (s : State), State.rest P (modCueCount src f s) = State.rest P s := by intros; simp [modCueCount, hprog]
@[simp] theorem cueFired_rest (P : Parts) (hink : P.ink = true) (hhost : P.host = true) (hprog : P.prog = true) : ∀ (n scene apply : Nat) (e : CueEntry) (s : State), State.rest P (cueFired n scene apply e s) = State.rest P s := by intros; simp [cueFired, hink, hhost, hprog]
@[simp] theorem shiftFifos_rest (P : Parts) (hlig : P.lig = true) : ∀ (old new : Nat) (s : State), State.rest P (shiftFifos old new s) = State.rest P s := by intros; simp [shiftFifos, hlig]
@[simp] theorem gatherStreams_rest (P : Parts) (hquill : P.quill = true) : ∀ (out : Nat → Sample) (s : State), State.rest P (gatherStreams out s) = State.rest P s := by intros; simp [gatherStreams, hquill]
@[simp] theorem twinChannels_rest (P : Parts) (hink : P.ink = true) (hhost : P.host = true) (htwin : P.twin = true) : ∀ (edge : Bool) (s : State), State.rest P (twinChannels edge s) = State.rest P s := by intros; simp [twinChannels, hink, hhost, htwin]
@[simp] theorem rebootDue_rest (P : Parts) (hboot : P.boot = true) (hvl : P.vl = true) : ∀ (s : State), State.rest P (rebootDue s) = State.rest P s := by intros; simp [rebootDue, hboot, hvl]
@[simp] theorem portNoClock_rest (P : Parts) (hbl : P.bl = true) (hink : P.ink = true) (hhost : P.host = true) (hserif : P.serif = true) : ∀ (n : Nat) (s : State), State.rest P (portNoClock n s) = State.rest P s := by intros; simp [portNoClock, hbl, hink, hhost, hserif]
@[simp] theorem ownerTurns_rest (P : Parts) (hprog : P.prog = true) : ∀ (a : Armed) (s : State), State.rest P (ownerTurns a s) = State.rest P s := by intros; simp [ownerTurns, hprog]
@[simp] theorem setPatch_rest (P : Parts) (hlig : P.lig = true) : ∀ (c : Nat) (s : State), State.rest P (setPatch c s) = State.rest P s := by intros; simp [setPatch, hlig]
@[simp] theorem mapAction_rest (P : Parts) (hink : P.ink = true) : ∀ (a : Armed) (f : Armed → Armed) (s : State), State.rest P (mapAction a f s) = State.rest P s := by intros; simp [mapAction, hink]
@[simp] theorem dropRecall_rest (P : Parts) (hink : P.ink = true) (hhost : P.host = true) : ∀ (st : Status) (a : Armed) (s : State), State.rest P (dropRecall st a s) = State.rest P s := by intros; simp [dropRecall, hink, hhost]
@[simp] theorem notComplete_rest (P : Parts) (hink : P.ink = true) (hhost : P.host = true) : ∀ (s : State) (id : Nat × Nat), State.rest P (notComplete s id) = State.rest P s := by intros; (unfold notComplete; split <;> simp [hink, hhost])
@[simp] theorem becomeShadow_rest (P : Parts) (hbl : P.bl = true) (hpower : P.power = true) (hink : P.ink = true) (hhost : P.host = true) (htwin : P.twin = true) (hvl : P.vl = true) (hentry : P.entry = true) : ∀ (new cause : Nat) (s : State), State.rest P (becomeShadow new cause s) = State.rest P s := by intros; simp [becomeShadow, hbl, hpower, hink, hhost, htwin, hvl, hentry]
@[simp] theorem handoverEnd_rest (P : Parts) (hbl : P.bl = true) (hpower : P.power = true) (hink : P.ink = true) (hhost : P.host = true) (htwin : P.twin = true) (hvl : P.vl = true) (hentry : P.entry = true) : ∀ (s : State), State.rest P (handoverEnd s) = State.rest P s := by intros; (unfold handoverEnd; split <;> simp [hbl, hpower, hink, hhost, htwin, hvl, hentry])
@[simp] theorem armFlourish_rest (P : Parts) (hink : P.ink = true) (hprog : P.prog = true) : ∀ (client seq origin number scene flags scope apply : Nat) (s : State), State.rest P (armFlourish client seq origin number scene flags scope apply s).2 = State.rest P s := by intros; (unfold armFlourish; repeat' (first | (simp [hink, hprog]; done) | split | (dsimp only; split) | (refine foldl_rest P _ _ _ ?_) | intro _))
@[simp] theorem takeFlourish_rest (P : Parts) (hink : P.ink = true) (hms : P.ms = true) (hprog : P.prog = true) : ∀ (f : Flourish) (s : State), State.rest P (takeFlourish f s) = State.rest P s := by intros; simp [takeFlourish, hink, hms, hprog]
@[simp] theorem originate_rest (P : Parts) (hink : P.ink = true) (hhost : P.host = true) (htwin : P.twin = true) (hms : P.ms = true) (hprog : P.prog = true) : ∀ (client seq scene flags scope apply : Nat) (s : State), State.rest P (originate client seq scene flags scope apply s) = State.rest P s := by intros; (unfold originate; repeat' (first | (simp [hink, hhost, htwin, hms, hprog]; done) | split | (dsimp only; split) | (refine foldl_rest P _ _ _ ?_) | intro _))
@[simp] theorem flourishBody_rest (P : Parts) (hink : P.ink = true) (hhost : P.host = true) (htwin : P.twin = true) (hms : P.ms = true) (hprog : P.prog = true) : ∀ (x : Ctx) (s : State), State.rest P (flourishBody x s).st = State.rest P s := by intros; (unfold flourishBody; repeat' (first | (simp [hink, hhost, htwin, hms, hprog]; done) | split))
@[simp] theorem regRead_rest (P : Parts) (hhost : P.host = true) : ∀ (v : Nat) (s : State), State.rest P (regRead v s) = State.rest P s := by intros; simp [regRead, hhost]
@[simp] theorem armedSsiRead_rest (P : Parts) (hhost : P.host = true) (hdx : P.dx = true) (hprog : P.prog = true) : ∀ (s : State), State.rest P (armedSsiRead s) = State.rest P s := by intros; simp [armedSsiRead, hhost, hdx, hprog]
@[simp] theorem sealBytesRead_rest (P : Parts) (hhost : P.host = true) (hsl : P.sl = true) : ∀ (c : Nat) (s : State), State.rest P (sealBytesRead c s) = State.rest P s := by intros; simp [sealBytesRead, hhost, hsl]
@[simp] theorem sealDigestRead_rest (P : Parts) (hhost : P.host = true) (hsl : P.sl = true) : ∀ (s : State), State.rest P (sealDigestRead s) = State.rest P s := by intros; simp [sealDigestRead, hhost, hsl]
@[simp] theorem cbFifoRead_rest (P : Parts) (hhost : P.host = true) (hcb : P.cb = true) : ∀ (s : State), State.rest P (cbFifoRead s) = State.rest P s := by intros; simp [cbFifoRead, hhost, hcb]
@[simp] theorem lastAddrRead_rest (P : Parts) (hhost : P.host = true) (hfeed : P.feed = true) : ∀ (s : State), State.rest P (lastAddrRead s) = State.rest P s := by intros; simp [lastAddrRead, hhost, hfeed]
@[simp] theorem hushSsiRead_rest (P : Parts) (hhost : P.host = true) (hhush : P.hush = true) : ∀ (s : State), State.rest P (hushSsiRead s) = State.rest P s := by intros; simp [hushSsiRead, hhost, hhush]
@[simp] theorem epochSsiRead_rest (P : Parts) (hhost : P.host = true) (hsheen : P.sheen = true) : ∀ (s : State), State.rest P (epochSsiRead s) = State.rest P s := by intros; simp [epochSsiRead, hhost, hsheen]
@[simp] theorem srcPeakRead_rest (P : Parts) (hhost : P.host = true) (hsheen : P.sheen = true) : ∀ (n : Nat) (s : State), State.rest P (srcPeakRead n s) = State.rest P s := by intros; simp [srcPeakRead, hhost, hsheen]
@[simp] theorem snkPeakRead_rest (P : Parts) (hhost : P.host = true) (hsheen : P.sheen = true) : ∀ (n : Nat) (s : State), State.rest P (snkPeakRead n s) = State.rest P s := by intros; simp [snkPeakRead, hhost, hsheen]
@[simp] theorem ssiLoRead_rest (P : Parts) (hstem : P.stem = true) (hhost : P.host = true) : ∀ (s : State), State.rest P (ssiLoRead s) = State.rest P s := by intros; simp [ssiLoRead, hstem, hhost]
@[simp] theorem regTouch_rest (P : Parts) (hstem : P.stem = true) (hhost : P.host = true) (hhush : P.hush = true) (hfeed : P.feed = true) (hdx : P.dx = true) (hprog : P.prog = true) (hsheen : P.sheen = true) (hvl : P.vl = true) (hsl : P.sl = true) (hcb : P.cb = true) : ∀ (i o : Nat) (s : State), State.rest P (regTouch i o s) = State.rest P s := by intros; (unfold regTouch; split <;> simp [hstem, hhost, hhush, hfeed, hdx, hprog, hsheen, hvl, hsl, hcb])
@[simp] theorem modeRefused_rest (P : Parts) (hink : P.ink = true) (hhost : P.host = true) : ∀ (n target : Nat) (st : Status) (s : State), State.rest P (modeRefused n target st s) = State.rest P s := by intros; simp [modeRefused, hink, hhost]
@[simp] theorem changeRole_rest (P : Parts) (hink : P.ink = true) : ∀ (n role : Nat) (s : State), State.rest P (changeRole n role s) = State.rest P s := by intros; simp [changeRole, hink]
@[simp] theorem lowerRoles_rest (P : Parts) (hink : P.ink = true) : ∀ (s : State), State.rest P (lowerRoles s) = State.rest P s := by intros; simp [lowerRoles, hink]
@[simp] theorem backupFallback_rest (P : Parts) (hlig : P.lig = true) : ∀ (n : Nat) (s : State), State.rest P (backupFallback n s) = State.rest P s := by intros; simp [backupFallback, hlig]
@[simp] theorem placeOn_rest (P : Parts) (hprog : P.prog = true) : ∀ (k n : Nat) (s : State), State.rest P (placeOn k n s) = State.rest P s := by intros; (unfold placeOn; split <;> simp [hprog])
@[simp] theorem replaceOne_rest (P : Parts) (hprog : P.prog = true) : ∀ (s : State) (e : Nat × Inst), State.rest P (replaceOne s e) = State.rest P s := by intros; (unfold replaceOne; repeat' (first | (simp [hprog]; done) | split))
@[simp] theorem replaceAndShed_rest (P : Parts) (hink : P.ink = true) (hhost : P.host = true) (hprog : P.prog = true) : ∀ (n : Nat) (l : List (Nat × Inst)) (s : State), State.rest P (replaceAndShed n l s) = State.rest P s := by intros; simp [replaceAndShed, hink, hhost, hprog]
@[simp] theorem swapOut_rest (P : Parts) (hink : P.ink = true) (hhost : P.host = true) (hrt : P.rt = true) (hdx : P.dx = true) (hprog : P.prog = true) (hvl : P.vl = true) : ∀ (m : Migration) (s : State), State.rest P (swapOut m s) = State.rest P s := by intros; simp [swapOut, hink, hhost, hrt, hdx, hprog, hvl]
@[simp] theorem countEcc_rest (P : Parts) (hfeed : P.feed = true) : ∀ (m a : Nat) (s : State), State.rest P (countEcc m a s) = State.rest P s := by intros; simp [countEcc, hfeed]
@[simp] theorem poolWrite_rest (P : Parts) (hink : P.ink = true) (hfeed : P.feed = true) (hsheets : P.sheets = true) : ∀ (m off : Nat) (b : Bytes) (s : State), State.rest P (poolWrite m off b s) = State.rest P s := by intros; simp [poolWrite, hink, hfeed, hsheets]
@[simp] theorem writeWindowSheet_rest (P : Parts) (hink : P.ink = true) (hfeed : P.feed = true) (hsheets : P.sheets = true) : ∀ (v : Via) (off : Nat) (b : Bytes) (s : State), State.rest P (writeWindowSheet v off b s) = State.rest P s := by intros; simp [writeWindowSheet, hink, hfeed, hsheets]
@[simp] theorem runBody_rest (P : Parts) (hink : P.ink = true) : ∀ (op at_ : Nat) (x : Ctx) (n count : Nat) (s : State), State.rest P (runBody op at_ x n count s).st = State.rest P s := by intros; (unfold runBody; repeat' (first | (simp [hink]; done) | split | (dsimp only; split) | (refine foldl_rest P _ _ _ ?_) | intro _))
@[simp] theorem startAutosave_rest (P : Parts) (hboot : P.boot = true) : ∀ (s : State), State.rest P (startAutosave s) = State.rest P s := by intros; simp [startAutosave, hboot]
@[simp] theorem repeatsExpire_rest (P : Parts) (hink : P.ink = true) (hhost : P.host = true) (hquill : P.quill = true) : ∀ (n : Nat) (s : State), State.rest P (repeatsExpire n s) = State.rest P s := by intros; simp [repeatsExpire, hink, hhost, hquill]
@[simp] theorem pushSources_rest (P : Parts) (hlig : P.lig = true) : ∀ (srcs : List (Nat × F32)) (s : State), State.rest P (pushSources srcs s) = State.rest P s := by intros; simp [pushSources, hlig]
@[simp] theorem armChange_rest (P : Parts) (hink : P.ink = true) (hprog : P.prog = true) : ∀ (op : Nat) (x : Ctx) (k : Nat) (i : Inst) (l : List (Nat × Int)) (coefs : List (Nat × List F32)) (expert : List Nat) (warns : List Warning) (s : State), State.rest P (armChange op x k i l coefs expert warns s).st = State.rest P s := by intros; (unfold armChange; repeat' (first | (simp [hink, hprog]; done) | split | (dsimp only; split) | (refine foldl_rest P _ _ _ ?_) | intro _))
@[simp] theorem advanceMs_rest (P : Parts) (hstem : P.stem = true) : ∀ (s : State), State.rest P (advanceMs s) = State.rest P s := by intros; simp [advanceMs, hstem]
@[simp] theorem loadDueRecord_rest (P : Parts) (hbl : P.bl = true) (hink : P.ink = true) (hhost : P.host = true) (htwin : P.twin = true) (hhush : P.hush = true) (hserif : P.serif = true) : ∀ (s : State), State.rest P (loadDueRecord s) = State.rest P s := by intros; (unfold loadDueRecord; split <;> simp [hbl, hink, hhost, htwin, hhush, hserif])
@[simp] theorem hushTick_rest (P : Parts) (hbl : P.bl = true) (hboot : P.boot = true) (hpower : P.power = true) (hink : P.ink = true) (hhost : P.host = true) (htwin : P.twin = true) (hhush : P.hush = true) (hserif : P.serif = true) (hvl : P.vl = true) : ∀ (pinA pinB : Bool) (s : State), State.rest P (hushTick pinA pinB s) = State.rest P s := by intros; simp [hushTick, hbl, hboot, hpower, hink, hhost, htwin, hhush, hserif, hvl]
@[simp] theorem takeFailPin_rest (P : Parts) (hbl : P.bl = true) (hboot : P.boot = true) (hhost : P.host = true) (hvl : P.vl = true) : ∀ (low : Bool) (s : State), State.rest P (takeFailPin low s) = State.rest P s := by intros; simp [takeFailPin, hbl, hboot, hhost, hvl]
@[simp] theorem filterFailPin_rest (P : Parts) (hbl : P.bl = true) (hboot : P.boot = true) (hhost : P.host = true) (hvl : P.vl = true) : ∀ (s : State), State.rest P (filterFailPin s) = State.rest P s := by intros; simp [filterFailPin, hbl, hboot, hhost, hvl]
@[simp] theorem sampleFailPin_rest (P : Parts) (hhost : P.host = true) : ∀ (s : State), State.rest P (sampleFailPin s) = State.rest P s := by intros; (unfold sampleFailPin; split <;> simp [hhost])
@[simp] theorem aonPart_rest (P : Parts) (hbl : P.bl = true) (hboot : P.boot = true) (hpower : P.power = true) (hink : P.ink = true) (hhost : P.host = true) (htwin : P.twin = true) (hhush : P.hush = true) (hserif : P.serif = true) (hvl : P.vl = true) : ∀ (hushA hushB : Bool) (s : State), State.rest P (aonPart hushA hushB s) = State.rest P s := by intros; simp [aonPart, hbl, hboot, hpower, hink, hhost, htwin, hhush, hserif, hvl]
@[simp] theorem announceGpio_rest (P : Parts) (hink : P.ink = true) (hhost : P.host = true) : ∀ (s : State), State.rest P (announceGpio s) = State.rest P s := by intros; simp [announceGpio, hink, hhost]
@[simp] theorem gpioEdge_rest (P : Parts) (hink : P.ink = true) (hhost : P.host = true) : ∀ (n : Nat) (level : Bool) (s : State), State.rest P (gpioEdge n level s) = State.rest P s := by intros; simp [gpioEdge, hink, hhost]
@[simp] theorem takePins_rest (P : Parts) (hink : P.ink = true) (hhost : P.host = true) : ∀ (pins : Nat) (s : State), State.rest P (takePins pins s) = State.rest P s := by intros; simp [takePins, hink, hhost]
@[simp] theorem blTick_rest (P : Parts) (hbl : P.bl = true) (hvl : P.vl = true) : ∀ (s : State), State.rest P (blTick s) = State.rest P s := by intros; simp [blTick, hbl, hvl]
@[simp] theorem countSecond_rest (P : Parts) (hhost : P.host = true) (hvl : P.vl = true) : ∀ (s : State), State.rest P (countSecond s) = State.rest P s := by intros; simp [countSecond, hhost, hvl]
@[simp] theorem countMinute_rest (P : Parts) (hvl : P.vl = true) : ∀ (s : State), State.rest P (countMinute s) = State.rest P s := by intros; simp [countMinute, hvl]
@[simp] theorem flushRx_rest (P : Parts) (hink : P.ink = true) (hhost : P.host = true) (hquill : P.quill = true) : ∀ (n : Nat) (s : State), State.rest P (flushRx n s) = State.rest P s := by intros; (unfold flushRx; repeat' (first | (simp [hink, hhost, hquill]; done) | split | (dsimp only; split) | (refine foldl_rest P _ _ _ ?_) | intro _))
@[simp] theorem flushTx_rest (P : Parts) (hink : P.ink = true) (hhost : P.host = true) (hquill : P.quill = true) : ∀ (n : Nat) (s : State), State.rest P (flushTx n s) = State.rest P s := by intros; (unfold flushTx; repeat' (first | (simp [hink, hhost, hquill]; done) | split | (dsimp only; split) | (refine foldl_rest P _ _ _ ?_) | intro _))
@[simp] theorem announceDrops_rest (P : Parts) (hink : P.ink = true) (hhost : P.host = true) (hquill : P.quill = true) : ∀ (n : Nat) (s : State), State.rest P (announceDrops n s) = State.rest P s := by intros; (unfold announceDrops; repeat' (first | (simp [hink, hhost, hquill]; done) | split | (dsimp only; split) | (refine foldl_rest P _ _ _ ?_) | intro _))
@[simp] theorem flushPort_rest (P : Parts) (hink : P.ink = true) (hhost : P.host = true) (hquill : P.quill = true) : ∀ (n : Nat) (s : State), State.rest P (flushPort n s) = State.rest P s := by intros; (unfold flushPort; repeat' (first | (simp [hink, hhost, hquill]; done) | split | (dsimp only; split) | (refine foldl_rest P _ _ _ ?_) | intro _))
@[simp] theorem flushQuill_rest (P : Parts) (hink : P.ink = true) (hhost : P.host = true) (hquill : P.quill = true) : ∀ (s : State), State.rest P (flushQuill s) = State.rest P s := by intros; simp [flushQuill, hink, hhost, hquill]
@[simp] theorem announceSet_rest (P : Parts) (hink : P.ink = true) (hhost : P.host = true) (hsheen : P.sheen = true) : ∀ (n : Nat) (s : State), State.rest P (announceSet n s) = State.rest P s := by intros; (unfold announceSet; repeat' (first | (simp [hink, hhost, hsheen]; done) | split))
@[simp] theorem announceSets_rest (P : Parts) (hink : P.ink = true) (hhost : P.host = true) (hsheen : P.sheen = true) : ∀ (s : State), State.rest P (announceSets s) = State.rest P s := by intros; simp [announceSets, hink, hhost, hsheen]
@[simp] theorem tickTimers_rest (P : Parts) (hdraws : P.draws = true) (hink : P.ink = true) (hhost : P.host = true) (htwin : P.twin = true) (hquill : P.quill = true) (hsheen : P.sheen = true) (hvl : P.vl = true) : ∀ (s : State), State.rest P (tickTimers s) = State.rest P s := by intros; simp [tickTimers, hdraws, hink, hhost, htwin, hquill, hsheen, hvl]
@[simp] theorem aonTick_rest (P : Parts) (hdraws : P.draws = true) (hstem : P.stem = true) (hbl : P.bl = true) (hboot : P.boot = true) (hpower : P.power = true) (hink : P.ink = true) (hhost : P.host = true) (htwin : P.twin = true) (hhush : P.hush = true) (hserif : P.serif = true) (hquill : P.quill = true) (hsheen : P.sheen = true) (hvl : P.vl = true) : ∀ (hushA hushB : Bool) (pins : Nat) (s : State), State.rest P (aonTick hushA hushB pins s) = State.rest P s := by intros; simp [aonTick, hdraws, hstem, hbl, hboot, hpower, hink, hhost, htwin, hhush, hserif, hquill, hsheen, hvl]
@[simp] theorem msRejoin_rest (P : Parts) (hms : P.ms = true) : ∀ (s : State), State.rest P (msRejoin s) = State.rest P s := by intros; simp [msRejoin, hms]
@[simp] theorem inkOpen_rest (P : Parts) (hink : P.ink = true) : ∀ (v : Via) (n : Nat) (s : State), State.rest P (inkOpen v n s) = State.rest P s := by intros; simp [inkOpen, hink]
@[simp] theorem freeAllSheets_rest (P : Parts) (hink : P.ink = true) : ∀ (n : Nat) (s : State), State.rest P (freeAllSheets n s) = State.rest P s := by intros; simp [freeAllSheets, hink]
@[simp] theorem makeFresh_rest (P : Parts) (hink : P.ink = true) : ∀ (n : Nat) (s : State), State.rest P (makeFresh n s) = State.rest P s := by intros; simp [makeFresh, hink]
@[simp] theorem dropRunning_rest (P : Parts) (hink : P.ink = true) (hhost : P.host = true) : ∀ (n : Nat) (s : State), State.rest P (dropRunning n s) = State.rest P s := by intros; (unfold dropRunning; refine (foldl_rest P _ _ _ (fun t e => foldl_rest P _ _ _ (fun u v => ?_))).trans ?_ <;> simp [hink, hhost])
@[simp] theorem closeInk_rest (P : Parts) (hink : P.ink = true) (hhost : P.host = true) : ∀ (n : Nat) (s : State), State.rest P (closeInk n s) = State.rest P s := by intros; simp [closeInk, hink, hhost]
@[simp] theorem inkCtrlClose_rest (P : Parts) (hink : P.ink = true) (hhost : P.host = true) : ∀ (v : Via) (n : Nat) (s : State), State.rest P (inkCtrlClose v n s) = State.rest P s := by intros; simp [inkCtrlClose, hink, hhost]
@[simp] theorem inkCtrlResync_rest (P : Parts) (hink : P.ink = true) : ∀ (v : Via) (n : Nat) (s : State), State.rest P (inkCtrlResync v n s) = State.rest P s := by intros; simp [inkCtrlResync, hink]
@[simp] theorem writeReply_rest (P : Parts) (hink : P.ink = true) (hhost : P.host = true) : ∀ (n : Nat) (r : Reply) (s : State), State.rest P (writeReply n r s) = State.rest P s := by intros; simp [writeReply, hink, hhost]
@[simp] theorem replyNotReady_rest (P : Parts) (hdraws : P.draws = true) (hboot : P.boot = true) (hink : P.ink = true) (hhost : P.host = true) : ∀ (n opcode seq : Nat) (s : State), State.rest P (replyNotReady n opcode seq s) = State.rest P s := by intros; simp [replyNotReady, hdraws, hboot, hink, hhost]
@[simp] theorem takeSlot_rest (P : Parts) (hink : P.ink = true) : ∀ (n : Nat) (s : State), State.rest P (takeSlot n s) = State.rest P s := by intros; simp [takeSlot, hink]
@[simp] theorem answerOne_rest (P : Parts) (hdraws : P.draws = true) (hboot : P.boot = true) (hink : P.ink = true) (hhost : P.host = true) : ∀ (n : Nat) (s : State), State.rest P (answerOne n s) = State.rest P s := by intros; (unfold answerOne; split <;> simp [hdraws, hboot, hink, hhost])
@[simp] theorem answerAll_rest (P : Parts) (hdraws : P.draws = true) (hboot : P.boot = true) (hink : P.ink = true) (hhost : P.host = true) : ∀ (n : Nat) (s : State), State.rest P (answerAll n s) = State.rest P s := by intros; exact foldl_rest P _ _ _ (by intros; simp [hdraws, hboot, hink, hhost])
@[simp] theorem acceptDoorbell_rest (P : Parts) (hdraws : P.draws = true) (hboot : P.boot = true) (hpower : P.power = true) (hink : P.ink = true) (hhost : P.host = true) : ∀ (n v : Nat) (heads : List Head) (s : State), State.rest P (acceptDoorbell n v heads s) = State.rest P s := by intros; simp [acceptDoorbell, hdraws, hboot, hpower, hink, hhost]
@[simp] theorem doorbell_rest (P : Parts) (hdraws : P.draws = true) (hboot : P.boot = true) (hpower : P.power = true) (hink : P.ink = true) (hhost : P.host = true) : ∀ (v : Via) (n x : Nat) (heads : List Head) (s : State), State.rest P (doorbell v n x heads s) = State.rest P s := by intros; simp [doorbell, hdraws, hboot, hpower, hink, hhost]
@[simp] theorem evtConsWrite_rest (P : Parts) (hink : P.ink = true) (hhost : P.host = true) : ∀ (v : Via) (n x : Nat) (s : State), State.rest P (evtConsWrite v n x s) = State.rest P s := by intros; simp [evtConsWrite, hink, hhost]
@[simp] theorem inkWordWrite_rest (P : Parts) (hdraws : P.draws = true) (hboot : P.boot = true) (hpower : P.power = true) (hink : P.ink = true) (hhost : P.host = true) : ∀ (v : Via) (n off w : Nat) (s : State), State.rest P (inkWordWrite v n off w s) = State.rest P s := by intros; (unfold inkWordWrite; split <;> simp [hdraws, hboot, hpower, hink, hhost])
@[simp] theorem msState_rest (P : Parts) (hink : P.ink = true) (hhost : P.host = true) (hms : P.ms = true) : ∀ (new : Nat) (s : State), State.rest P (msState new s) = State.rest P s := by intros; simp [msState, hink, hhost, hms]
@[simp] theorem leaveNow_rest (P : Parts) (hink : P.ink = true) (hhost : P.host = true) (hms : P.ms = true) : ∀ (s : State), State.rest P (leaveNow s) = State.rest P s := by intros; simp [leaveNow, hink, hhost, hms]
@[simp] theorem leaveBoundary_rest (P : Parts) (hink : P.ink = true) (hhost : P.host = true) (hms : P.ms = true) : ∀ (s : State), State.rest P (leaveBoundary s) = State.rest P s := by intros; (unfold leaveBoundary; split <;> simp [hink, hhost, hms])
@[simp] theorem frameReference_rest (P : Parts) (hbl : P.bl = true) (hink : P.ink = true) (hhost : P.host = true) (htwin : P.twin = true) (hserif : P.serif = true) : ∀ (n : Nat) (s : State), State.rest P (frameReference n s) = State.rest P s := by intros; (unfold frameReference; split <;> simp [hbl, hink, hhost, htwin, hserif])
@[simp] theorem driveGpio_rest (P : Parts) (hhost : P.host = true) : ∀ (mask level : Nat) (s : State), State.rest P (driveGpio mask level s) = State.rest P s := by intros; simp [driveGpio, hhost]
@[simp] theorem dueGpio_rest (P : Parts) (hhost : P.host = true) : ∀ (s : State), State.rest P (dueGpio s) = State.rest P s := by intros; simp [dueGpio, hhost]
@[simp] theorem endFades_rest (P : Parts) (hprog : P.prog = true) : ∀ (s : State), State.rest P (endFades s) = State.rest P s := by intros; exact foldl_rest P _ _ _ (by intro t e; split; rfl; exact putInst_rest P hprog _ _ _)
@[simp] theorem setGates_rest (P : Parts) (hserif : P.serif = true) : ∀ (open_ : Bool) (s : State), State.rest P (setGates open_ s) = State.rest P s := by intros; simp [setGates, hserif]
@[simp] theorem claimGate_rest (P : Parts) (hserif : P.serif = true) : ∀ (f : TwinStatus) (s : State), State.rest P (claimGate f s) = State.rest P s := by intros; simp [claimGate, hserif]
@[simp] theorem lifeChanged_rest (P : Parts) (hink : P.ink = true) (hhost : P.host = true) : ∀ (old : Nat) (s : State), State.rest P (lifeChanged old s) = State.rest P s := by intros; simp [lifeChanged, hink, hhost]
@[simp] theorem noteScrub_rest (P : Parts) (hrt : P.rt = true) : ∀ (q : FeedReq) (s : State), State.rest P (noteScrub q s) = State.rest P s := by intros; simp [noteScrub, hrt]
@[simp] theorem runSink_rest (P : Parts) (hlig : P.lig = true) : ∀ (on : Bool) (n : Nat) (s : State), State.rest P (runSink on n s) = State.rest P s := by intros; simp [runSink, hlig]
@[simp] theorem backupReturn_rest (P : Parts) (hlig : P.lig = true) : ∀ (n : Nat) (s : State), State.rest P (backupReturn n s) = State.rest P s := by intros; (unfold backupReturn; split <;> simp [hlig])
@[simp] theorem countSink_rest (P : Parts) (hlig : P.lig = true) : ∀ (n : Nat) (s : State), State.rest P (countSink n s) = State.rest P s := by intros; simp [countSink, hlig]
@[simp] theorem runSinks_rest (P : Parts) (hlig : P.lig = true) : ∀ (on : Bool) (s : State), State.rest P (runSinks on s) = State.rest P s := by intros; simp [runSinks, hlig]
@[simp] theorem learnArp_rest (P : Parts) (hquill : P.quill = true) : ∀ (n addr mac : Nat) (s : State), State.rest P (learnArp n addr mac s) = State.rest P s := by intros; simp [learnArp, hquill]
@[simp] theorem arpRetry_rest (P : Parts) (hink : P.ink = true) (hhost : P.host = true) (hquill : P.quill = true) : ∀ (n : Nat) (answer : Option Nat) (s : State), State.rest P (arpRetry n answer s) = State.rest P s := by intros; (unfold arpRetry; split <;> simp [hink, hhost, hquill])
@[simp] theorem degradedCheck_rest (P : Parts) (hbl : P.bl = true) (hpower : P.power = true) (hink : P.ink = true) (hhost : P.host = true) (hvl : P.vl = true) (hentry : P.entry = true) : ∀ (s : State), State.rest P (degradedCheck s) = State.rest P s := by intros; simp [degradedCheck, hbl, hpower, hink, hhost, hvl, hentry]
@[simp] theorem takeInputs_rest (P : Parts) (hlig : P.lig = true) : ∀ (s : State), State.rest P (takeInputs s) = State.rest P s := by intros; simp [takeInputs, hlig]
@[simp] theorem countWait_rest (P : Parts) (hfeed : P.feed = true) : ∀ (q : FeedReq) (s : State), State.rest P (countWait q s) = State.rest P s := by intros; (unfold countWait; split <;> simp [hfeed])
@[simp] theorem deliverReply_rest (P : Parts) (hink : P.ink = true) (hhost : P.host = true) : ∀ (n : Nat) (crc : Word) (warns : List Warning) (r : Reply) (s : State), State.rest P (deliverReply n crc warns r s) = State.rest P s := by intros; simp [deliverReply, hink, hhost]
@[simp] theorem replyRunning_rest (P : Parts) (hink : P.ink = true) (hhost : P.host = true) : ∀ (n : Nat) (warns : List Warning) (r : Reply) (s : State), State.rest P (replyRunning n warns r s) = State.rest P s := by intros; (unfold replyRunning; split <;> simp [hink, hhost])
@[simp] theorem announceSlip_rest (P : Parts) (hink : P.ink = true) (hhost : P.host = true) (hserif : P.serif = true) : ∀ (n dir : Nat) (s : State), State.rest P (announceSlip n dir s) = State.rest P s := by intros; simp [announceSlip, hink, hhost, hserif]
@[simp] theorem startBaseline_rest (P : Parts) (hbl : P.bl = true) (hpower : P.power = true) (hink : P.ink = true) (hhost : P.host = true) (hvl : P.vl = true) : ∀ (s : State), State.rest P (startBaseline s) = State.rest P s := by intros; simp [startBaseline, hbl, hpower, hink, hhost, hvl]
@[simp] theorem portRunning_rest (P : Parts) (hink : P.ink = true) (hhost : P.host = true) (hserif : P.serif = true) : ∀ (n : Nat) (s : State), State.rest P (portRunning n s) = State.rest P s := by intros; simp [portRunning, hink, hhost, hserif]
@[simp] theorem measureSample_rest (P : Parts) (hsheen : P.sheen = true) : ∀ (u : Nat) (s : State), State.rest P (measureSample u s) = State.rest P s := by intros; simp [measureSample, hsheen]
@[simp] theorem advanceFades_rest (P : Parts) (hpower : P.power = true) (hhush : P.hush = true) : ∀ (s : State), State.rest P (advanceFades s) = State.rest P s := by intros; simp [advanceFades, hpower, hhush]
@[simp] theorem putScene_rest (P : Parts) (hprog : P.prog = true) : ∀ (num : Nat) (sc : Scene) (s : State), State.rest P (putScene num sc s) = State.rest P s := by intros; simp [putScene, hprog]
@[simp] theorem modLife_rest (P : Parts) (hlife : P.life = true) : ∀ (f : Life → Life) (s : State), State.rest P (modLife f s) = State.rest P s := by intros; simp [modLife, hlife]
@[simp] theorem makeIdentity_rest (P : Parts) (hdraws : P.draws = true) (hlife : P.life = true) : ∀ (s : State), State.rest P (makeIdentity s) = State.rest P s := by intros; simp [makeIdentity, hdraws, hlife]
@[simp] theorem twinLinkDown_rest (P : Parts) (hink : P.ink = true) (hhost : P.host = true) (htwin : P.twin = true) : ∀ (s : State), State.rest P (twinLinkDown s) = State.rest P s := by intros; simp [twinLinkDown, hink, hhost, htwin]
@[simp] theorem dropFrame_rest (P : Parts) (hink : P.ink = true) (hhost : P.host = true) (hquill : P.quill = true) : ∀ (n c : Nat) (f : NetPort → NetPort) (s : State), State.rest P (dropFrame n c f s) = State.rest P s := by intros; simp [dropFrame, hink, hhost, hquill]
@[simp] theorem arpFrame_rest (P : Parts) (hink : P.ink = true) (hhost : P.host = true) (hquill : P.quill = true) : ∀ (f : Frame) (s : State), State.rest P (arpFrame f s) = State.rest P s := by intros; simp [arpFrame, hink, hhost, hquill]
@[simp] theorem igmpFrame_rest (P : Parts) (hquill : P.quill = true) : ∀ (f : Frame) (s : State), State.rest P (igmpFrame f s) = State.rest P s := by intros; simp [igmpFrame, hquill]
@[simp] theorem mediaFrame_rest (P : Parts) (hink : P.ink = true) (hhost : P.host = true) (hquill : P.quill = true) : ∀ (f : Frame) (s : State), State.rest P (mediaFrame f s) = State.rest P s := by intros; (unfold mediaFrame; split <;> simp [hink, hhost, hquill])
@[simp] theorem admitFrame_rest (P : Parts) (hink : P.ink = true) (hhost : P.host = true) (hquill : P.quill = true) : ∀ (f : Frame) (s : State), State.rest P (admitFrame f s) = State.rest P s := by intros; (unfold admitFrame; split <;> simp [hink, hhost, hquill])
@[simp] theorem frameRxNet_rest (P : Parts) (hboot : P.boot = true) (hpower : P.power = true) (hink : P.ink = true) (hhost : P.host = true) (hquill : P.quill = true) : ∀ (f : Frame) (s : State), State.rest P (frameRxNet f s) = State.rest P s := by intros; simp [frameRxNet, hboot, hpower, hink, hhost, hquill]
@[simp] theorem poolFell_rest (P : Parts) (hhost : P.host = true) : ∀ (s t : State), State.rest P (poolFell s t) = State.rest P t := by intros; simp [poolFell, hhost]
@[simp] theorem memFault_rest (P : Parts) (hink : P.ink = true) (hhost : P.host = true) (hfeed : P.feed = true) : ∀ (kind unit master offset n : Nat) (s : State), State.rest P (memFault kind unit master offset n s) = State.rest P s := by intros; simp [memFault, hink, hhost, hfeed]
@[simp] theorem retireRow_rest (P : Parts) (hink : P.ink = true) (hhost : P.host = true) (hrt : P.rt = true) (hvl : P.vl = true) : ∀ (g row cause : Nat) (s : State), State.rest P (retireRow g row cause s) = State.rest P s := by intros; simp [retireRow, hink, hhost, hrt, hvl]
@[simp] theorem memoryRow_rest (P : Parts) (hink : P.ink = true) (hhost : P.host = true) (hrt : P.rt = true) (hvl : P.vl = true) : ∀ (g row cause : Nat) (s : State), State.rest P (memoryRow g row cause s) = State.rest P s := by intros; simp [memoryRow, hink, hhost, hrt, hvl]
@[simp] theorem barrelUe_rest (P : Parts) (hdraws : P.draws = true) (hink : P.ink = true) (hhost : P.host = true) (htwin : P.twin = true) (hrt : P.rt = true) (hvl : P.vl = true) : ∀ (g w : Nat) (s : State), State.rest P (barrelUe g w s) = State.rest P s := by intros; simp [barrelUe, hdraws, hink, hhost, htwin, hrt, hvl]
@[simp] theorem foundUe_rest (P : Parts) (hdraws : P.draws = true) (hink : P.ink = true) (hhost : P.host = true) (htwin : P.twin = true) (hrt : P.rt = true) (hfeed : P.feed = true) (hdx : P.dx = true) (hvl : P.vl = true) : ∀ (m a : Nat) (s : State), State.rest P (foundUe m a s) = State.rest P s := by intros; (unfold foundUe; split <;> simp [hdraws, hink, hhost, htwin, hrt, hfeed, hdx, hvl])
@[simp] theorem wordEcc_rest (P : Parts) (hdraws : P.draws = true) (hink : P.ink = true) (hhost : P.host = true) (htwin : P.twin = true) (hrt : P.rt = true) (hfeed : P.feed = true) (hdx : P.dx = true) (hvl : P.vl = true) : ∀ (q : FeedReq) (a : Nat) (s : State), State.rest P (wordEcc q a s) = State.rest P s := by intros; simp [wordEcc, hdraws, hink, hhost, htwin, hrt, hfeed, hdx, hvl]
@[simp] theorem beginEntry_rest (P : Parts) (hpower : P.power = true) : ∀ (s : State), State.rest P (beginEntry s) = State.rest P s := by intros; simp [beginEntry, hpower]
@[simp] theorem deferredStandby_rest (P : Parts) (hpower : P.power = true) (hink : P.ink = true) (hhost : P.host = true) : ∀ (s : State), State.rest P (deferredStandby s) = State.rest P s := by intros; (unfold deferredStandby; repeat' (first | (simp [hpower, hink, hhost]; done) | split))
@[simp] theorem cmdInstDelete.deleteBody_rest (P : Parts) (hink : P.ink = true) (hprog : P.prog = true) : ∀ (x : Ctx) (s : State), State.rest P (cmdInstDelete.deleteBody x s).st = State.rest P s := by intros; (unfold cmdInstDelete.deleteBody; repeat' (first | (simp [hink, hprog]; done) | split | (dsimp only; split) | (refine foldl_rest P _ _ _ ?_) | intro _))
@[simp] theorem coefBody_rest (P : Parts) (hink : P.ink = true) (hprog : P.prog = true) : ∀ (x : Ctx) (s : State), State.rest P (coefBody x s).st = State.rest P s := by intros; (unfold coefBody; repeat' (first | (simp [hink, hprog]; done) | split | (dsimp only; split) | (refine foldl_rest P _ _ _ ?_) | intro _))
@[simp] theorem hspiDrive_rest (P : Parts) (hhost : P.host = true) : ∀ (b : Bytes) (s : State), State.rest P (hspiDrive b s) = State.rest P s := by intros; simp [hspiDrive, hhost]
@[simp] theorem hspiStatus_rest (P : Parts) (hhost : P.host = true) : ∀ (s : State), State.rest P (hspiStatus s) = State.rest P s := by intros; simp [hspiStatus, hhost]
@[simp] theorem goMode_rest (P : Parts) (hbl : P.bl = true) (hpower : P.power = true) (hink : P.ink = true) (hhost : P.host = true) (hprog : P.prog = true) (hvl : P.vl = true) (hentry : P.entry = true) : ∀ (target : Nat) (l : List Nat) (s : State), State.rest P (goMode target l s) = State.rest P s := by intros; simp [goMode, hbl, hpower, hink, hhost, hprog, hvl, hentry]
@[simp] theorem turnMode_rest (P : Parts) (hbl : P.bl = true) (hpower : P.power = true) (hink : P.ink = true) (hhost : P.host = true) (hprog : P.prog = true) (hvl : P.vl = true) (hentry : P.entry = true) : ∀ (target : Nat) (s : State), State.rest P (turnMode target s) = State.rest P s := by intros; simp [turnMode, hbl, hpower, hink, hhost, hprog, hvl, hentry]
@[simp] theorem applyMode_rest (P : Parts) (hbl : P.bl = true) (hpower : P.power = true) (hink : P.ink = true) (hhost : P.host = true) (hprog : P.prog = true) (hvl : P.vl = true) (hentry : P.entry = true) : ∀ (e : ModePending) (s : State), State.rest P (applyMode e s) = State.rest P s := by intros; (unfold applyMode; repeat' (first | (simp [hbl, hpower, hink, hhost, hprog, hvl, hentry]; done) | split))
@[simp] theorem applyModes_rest (P : Parts) (hbl : P.bl = true) (hpower : P.power = true) (hink : P.ink = true) (hhost : P.host = true) (hprog : P.prog = true) (hvl : P.vl = true) (hentry : P.entry = true) : ∀ (s : State), State.rest P (applyModes s) = State.rest P s := by intros; simp [applyModes, hbl, hpower, hink, hhost, hprog, hvl, hentry]
@[simp] theorem advanceSeq_rest (P : Parts) (hink : P.ink = true) : ∀ (n q : Nat) (s : State), State.rest P (advanceSeq n q s) = State.rest P s := by intros; simp [advanceSeq, hink]
@[simp] theorem sendSnap_rest (P : Parts) (htwin : P.twin = true) : ∀ (at_ : Nat) (b : Bytes) (s : State), State.rest P (sendSnap at_ b s) = State.rest P s := by intros; simp [sendSnap, htwin]
@[simp] theorem snapshotBoundary_rest (P : Parts) (htwin : P.twin = true) : ∀ (s : State), State.rest P (snapshotBoundary s) = State.rest P s := by intros; (unfold snapshotBoundary; repeat' (first | (simp [htwin]; done) | split | (dsimp only; split) | (refine foldl_rest P _ _ _ ?_) | intro _))
@[simp] theorem startPorts_rest (P : Parts) (hink : P.ink = true) (hhost : P.host = true) (hserif : P.serif = true) : ∀ (s : State), State.rest P (startPorts s) = State.rest P s := by intros; simp [startPorts, hink, hhost, hserif]
@[simp] theorem cbReload_rest (P : Parts) (hbl : P.bl = true) (hpower : P.power = true) (hink : P.ink = true) (hhost : P.host = true) (htwin : P.twin = true) (hserif : P.serif = true) (hquill : P.quill = true) (hms : P.ms = true) (hrt : P.rt = true) (hdx : P.dx = true) (hprog : P.prog = true) (hlig : P.lig = true) (hsheen : P.sheen = true) : ∀ (s : State), State.rest P (cbReload s) = State.rest P s := by intros; (unfold cbReload; split <;> simp [hbl, hpower, hink, hhost, htwin, hserif, hquill, hms, hrt, hdx, hprog, hlig, hsheen])
@[simp] theorem cbDone_rest (P : Parts) (hbl : P.bl = true) (hpower : P.power = true) (hink : P.ink = true) (hhost : P.host = true) (htwin : P.twin = true) (hserif : P.serif = true) (hquill : P.quill = true) (hms : P.ms = true) (hrt : P.rt = true) (hdx : P.dx = true) (hprog : P.prog = true) (hlig : P.lig = true) (hsheen : P.sheen = true) (hvl : P.vl = true) (hcb : P.cb = true) : ∀ (outs : List CbOutcome) (s : State), State.rest P (cbDone outs s) = State.rest P s := by intros; simp [cbDone, hbl, hpower, hink, hhost, htwin, hserif, hquill, hms, hrt, hdx, hprog, hlig, hsheen, hvl, hcb]
@[simp] theorem handoverPoint_rest (P : Parts) (hink : P.ink = true) (htwin : P.twin = true) : ∀ (s : State), State.rest P (handoverPoint s) = State.rest P s := by intros; (unfold handoverPoint; split <;> simp [hink, htwin])
@[simp] theorem twinAct_rest (P : Parts) (hbl : P.bl = true) (hpower : P.power = true) (hink : P.ink = true) (hhost : P.host = true) (htwin : P.twin = true) (hvl : P.vl = true) (hentry : P.entry = true) : ∀ (s : State), State.rest P (twinAct s) = State.rest P s := by intros; (unfold twinAct; split <;> simp [hbl, hpower, hink, hhost, htwin, hvl, hentry])
@[simp] theorem twinBoundary_rest (P : Parts) (hbl : P.bl = true) (hpower : P.power = true) (hink : P.ink = true) (hhost : P.host = true) (htwin : P.twin = true) (hserif : P.serif = true) (hvl : P.vl = true) (hentry : P.entry = true) : ∀ (edge : Bool) (s : State), State.rest P (twinBoundary edge s) = State.rest P s := by intros; simp [twinBoundary, hbl, hpower, hink, hhost, htwin, hserif, hvl, hentry]
@[simp] theorem sendAck_rest (P : Parts) (htwin : P.twin = true) : ∀ (jsn : Nat) (s : State), State.rest P (sendAck jsn s) = State.rest P s := by intros; simp [sendAck, htwin]
@[simp] theorem routeBody_rest (P : Parts) (hink : P.ink = true) : ∀ (x : Ctx) (s : State), State.rest P (routeBody x s).st = State.rest P s := by intros; (unfold routeBody; repeat' (first | (simp [hink]; done) | split | (dsimp only; split) | (refine foldl_rest P _ _ _ ?_) | intro _))
@[simp] theorem restartWindow_rest (P : Parts) (hsheen : P.sheen = true) : ∀ (k : Nat) (s : State), State.rest P (restartWindow k s) = State.rest P s := by intros; simp [restartWindow, hsheen]
@[simp] theorem createInst_rest (P : Parts) (hprog : P.prog = true) (hlig : P.lig = true) (hsheen : P.sheen = true) : ∀ (s : State) (k prog lane : Nat) (disabled : Bool) (name : Bytes) (pool : Option (Nat × Nat)), State.rest P (createInst s k prog lane disabled name pool) = State.rest P s := by intros; (unfold createInst; split <;> simp [hprog, hlig, hsheen])
@[simp] theorem setBody_rest (P : Parts) (hink : P.ink = true) (hprog : P.prog = true) : ∀ (x : Ctx) (s : State), State.rest P (setBody x s).st = State.rest P s := by intros; (unfold setBody; dsimp only; repeat' (first | split | simp only [fail_rest P, armChange_rest P hink hprog, hink, hprog]))
@[simp] theorem folioBody_rest (P : Parts) (hink : P.ink = true) (hprog : P.prog = true) : ∀ (x : Ctx) (s : State), State.rest P (folioBody x s).st = State.rest P s := by intros; (unfold folioBody; dsimp only; repeat' (first | split | simp only [fail_rest P, armChange_rest P hink hprog, hink, hprog]))
@[simp] theorem sheenChange_rest (P : Parts) (hink : P.ink = true) : ∀ (op : Nat) (x : Ctx) (s : State), State.rest P (sheenChange op x s).st = State.rest P s := by intros; simp [sheenChange, hink]
@[simp] theorem relane_rest (P : Parts) (hprog : P.prog = true) : ∀ (e : TwinEntry) (s : State), State.rest P (relane e s) = State.rest P s := by intros; (unfold relane; split <;> simp [hprog])
@[simp] theorem twinStatusSend_rest (P : Parts) (htwin : P.twin = true) : ∀ (s : State), State.rest P (twinStatusSend s) = State.rest P s := by intros; simp [twinStatusSend, htwin]
@[simp] theorem respond_rest (P : Parts) (hfeed : P.feed = true) : ∀ (code m a : Nat) (s : State), State.rest P (respond code m a s) = State.rest P s := by intros; (unfold respond; repeat' (first | (simp [hfeed]; done) | split))
@[simp] theorem setByte_rest (P : Parts) (hboot : P.boot = true) (hink : P.ink = true) (hfeed : P.feed = true) (hsheets : P.sheets = true) (hload : P.load = true) (hmem : P.mem = true) : ∀ (a : Nat) (b : Byte) (s : State), State.rest P (setByte a b s) = State.rest P s := by intros; (unfold setByte; split <;> simp [hboot, hink, hfeed, hsheets, hload, hmem])
@[simp] theorem portZero_rest (P : Parts) (hboot : P.boot = true) (hink : P.ink = true) (hfeed : P.feed = true) (hsheets : P.sheets = true) (hload : P.load = true) (hmem : P.mem = true) : ∀ (w v : Nat) (s : State), State.rest P (portZero w v s) = State.rest P s := by intros; simp [portZero, hboot, hink, hfeed, hsheets, hload, hmem]
@[simp] theorem inkWrite_rest (P : Parts) (hdraws : P.draws = true) (hboot : P.boot = true) (hpower : P.power = true) (hink : P.ink = true) (hhost : P.host = true) : ∀ (v : Via) (n a a_1 : Nat) (a_2 : Bytes) (a_3 : State), State.rest P (inkWrite v n a a_1 a_2 a_3) = State.rest P a_3 := by intros; (rename_i v n k o b s; induction k generalizing o b s with | zero => rfl | succ k ih => (unfold inkWrite; split; rfl; (dsimp only; rw [ih]; repeat' (first | rfl | (simp [hdraws, hboot, hpower, hink, hhost]; done) | split))))
@[simp] theorem setHostErr_rest (P : Parts) (hhost : P.host = true) : ∀ (i : Nat) (s : State), State.rest P (setHostErr i s) = State.rest P s := by intros; simp [setHostErr, hhost]
@[simp] theorem watchWord_rest (P : Parts) (hink : P.ink = true) (hhost : P.host = true) (htwin : P.twin = true) (hrt : P.rt = true) (hdx : P.dx = true) (hvl : P.vl = true) : ∀ (g word : Nat) (s : State), State.rest P (watchWord g word s) = State.rest P s := by intros; simp [watchWord, hink, hhost, htwin, hrt, hdx, hvl]
@[simp] theorem foundCe_rest (P : Parts) (hfeed : P.feed = true) (hvl : P.vl = true) : ∀ (a : Nat) (s : State), State.rest P (foundCe a s) = State.rest P s := by intros; (unfold foundCe; split <;> simp [hfeed, hvl])
@[simp] theorem corrected_rest (P : Parts) (hink : P.ink = true) (hhost : P.host = true) (htwin : P.twin = true) (hrt : P.rt = true) (hfeed : P.feed = true) (hdx : P.dx = true) (hvl : P.vl = true) : ∀ (m a : Nat) (s : State), State.rest P (corrected m a s) = State.rest P s := by intros; (unfold corrected; split <;> simp [hink, hhost, htwin, hrt, hfeed, hdx, hvl])
@[simp] theorem tellDeferred_rest (P : Parts) (hink : P.ink = true) (hhost : P.host = true) : ∀ (s : State), State.rest P (tellDeferred s) = State.rest P s := by intros; simp [tellDeferred, hink, hhost]
@[simp] theorem setLane_rest (P : Parts) (hdx : P.dx = true) : ∀ (l n : Nat) (s : State), State.rest P (setLane l n s) = State.rest P s := by intros; simp [setLane, hdx]
@[simp] theorem activateSpare_rest (P : Parts) (hink : P.ink = true) (hhost : P.host = true) (hdx : P.dx = true) : ∀ (s : State), State.rest P (activateSpare s) = State.rest P s := by intros; (unfold activateSpare; split <;> simp [hink, hhost, hdx])
@[simp] theorem restoreShed_rest (P : Parts) (hink : P.ink = true) (hhost : P.host = true) (hdx : P.dx = true) (hprog : P.prog = true) : ∀ (s : State), State.rest P (restoreShed s) = State.rest P s := by intros; (unfold restoreShed; split; rfl; (dsimp only; split; all_goals (try simp only [raise_rest P hink hhost, hink, hhost, hdx, hprog]); all_goals (rw [foldl_rest P _ _ _ (by intros; split <;> simp [hink, hhost, hdx, hprog])]; simp [hink, hhost, hdx, hprog])))
@[simp] theorem adoptView_rest (P : Parts) (hink : P.ink = true) (hhost : P.host = true) (hms : P.ms = true) : ∀ (via : Option Nat) (view : Nat) (l : List Nat) (s : State), State.rest P (adoptView via view l s) = State.rest P s := by intros; simp [adoptView, hink, hhost, hms]
@[simp] theorem joined__rest (P : Parts) (hink : P.ink = true) (hhost : P.host = true) (hms : P.ms = true) : ∀ (view : Nat) (members : List Nat) (s : State), State.rest P (joined_ view members s) = State.rest P s := by intros; simp [joined_, hink, hhost, hms]
@[simp] theorem jtagBoundary_rest (P : Parts) (hlife : P.life = true) : ∀ (i : JtagInstr) (cells : List (Pin × PinDrive)) (s : State), State.rest P (jtagBoundary i cells s) = State.rest P s := by intros; simp [jtagBoundary, hlife]
@[simp] theorem firstLock_rest (P : Parts) (hbl : P.bl = true) : ∀ (theta delta : Int) (s : State), State.rest P (firstLock theta delta s) = State.rest P s := by intros; simp [firstLock, hbl]
@[simp] theorem drivePulses_rest (P : Parts) (hbl : P.bl = true) : ∀ (s : State), State.rest P (drivePulses s) = State.rest P s := by intros; simp [drivePulses, hbl]
@[simp] theorem becomeWarm_rest (P : Parts) (hink : P.ink = true) (hhost : P.host = true) (htwin : P.twin = true) : ∀ (s : State), State.rest P (becomeWarm s) = State.rest P s := by intros; simp [becomeWarm, hink, hhost, htwin]
@[simp] theorem msHeartbeat_rest (P : Parts) (hms : P.ms = true) : ∀ (s : State), State.rest P (msHeartbeat s) = State.rest P s := by intros; simp [msHeartbeat, hms]
@[simp] theorem takeMeters_rest (P : Parts) (hsheen : P.sheen = true) : ∀ (on : Bool) (s : State), State.rest P (takeMeters on s) = State.rest P s := by intros; simp [takeMeters, hsheen]
@[simp] theorem portTransmit_rest (P : Parts) (hbl : P.bl = true) (hink : P.ink = true) (hhost : P.host = true) (htwin : P.twin = true) (hserif : P.serif = true) (hvl : P.vl = true) : ∀ (n : Nat) (out : Nat → Sample) (s : State), State.rest P (portTransmit n out s) = State.rest P s := by intros; simp [portTransmit, hbl, hink, hhost, htwin, hserif, hvl]
@[simp] theorem catchup_rest (P : Parts) (hink : P.ink = true) (hhost : P.host = true) (hdx : P.dx = true) : ∀ (cause carry : Nat) (s : State), State.rest P (catchup cause carry s) = State.rest P s := by intros; simp [catchup, hink, hhost, hdx]
@[simp] theorem classADone_rest (P : Parts) (hink : P.ink = true) (hhost : P.host = true) (hdx : P.dx = true) (hvl : P.vl = true) : ∀ (t : Nat) (s : State), State.rest P (classADone t s) = State.rest P s := by intros; (unfold classADone; split <;> simp [hink, hhost, hdx, hvl])
@[simp] theorem recordFail_rest (P : Parts) (hboot : P.boot = true) : ∀ (src code : Nat) (s : State), State.rest P (recordFail src code s) = State.rest P s := by intros; (unfold recordFail; refine modBoot_rest P hboot _ _ (Or.inr fun x => ?_) (Or.inr fun x => ?_) <;> (split; rfl; split <;> rfl))
@[simp] theorem packetNow_rest (P : Parts) (hink : P.ink = true) (hhost : P.host = true) (hquill : P.quill = true) : ∀ (p : MediaPacket) (s : State), State.rest P (packetNow p s) = State.rest P s := by intros; (unfold packetNow; repeat' (first | (simp [hink, hhost, hquill]; done) | split | (dsimp only; split) | (refine foldl_rest P _ _ _ ?_) | intro _))
@[simp] theorem sessionDrop_rest (P : Parts) (hink : P.ink = true) : ∀ (n : Nat) (closed : Bool) (s : State), State.rest P (sessionDrop n closed s) = State.rest P s := by intros; simp [sessionDrop, hink]
@[simp] theorem endSessions_rest (P : Parts) (hink : P.ink = true) (hhost : P.host = true) : ∀ (s : State), State.rest P (endSessions s) = State.rest P s := by intros; simp [endSessions, hink, hhost]
@[simp] theorem answerEvery_rest (P : Parts) (hdraws : P.draws = true) (hboot : P.boot = true) (hink : P.ink = true) (hhost : P.host = true) : ∀ (s : State), State.rest P (answerEvery s) = State.rest P s := by intros; simp [answerEvery, hdraws, hboot, hink, hhost]
@[simp] theorem timerFires_rest (P : Parts) (hboot : P.boot = true) (hpower : P.power = true) (hhost : P.host = true) : ∀ (s : State), State.rest P (timerFires s) = State.rest P s := by intros; simp [timerFires, hboot, hpower, hhost]
@[simp] theorem standbyReached_rest (P : Parts) (hdraws : P.draws = true) (hbl : P.bl = true) (hboot : P.boot = true) (hpower : P.power = true) (hink : P.ink = true) (hhost : P.host = true) (hserif : P.serif = true) (hquill : P.quill = true) (hfeed : P.feed = true) (hdx : P.dx = true) (hvl : P.vl = true) (hsl : P.sl = true) (hresume : P.resume = true) (hentry : P.entry = true) (hmem : P.mem = true) : ∀ (s : State), State.rest P (standbyReached s) = State.rest P s := by intros; (unfold standbyReached; repeat' (first | (simp [hdraws, hbl, hboot, hpower, hink, hhost, hserif, hquill, hfeed, hdx, hvl, hsl, hresume, hentry, hmem]; done) | split))
@[simp] theorem replySent_rest (P : Parts) (hink : P.ink = true) : ∀ (n : Nat) (s : State), State.rest P (replySent n s) = State.rest P s := by intros; (unfold replySent; repeat' (first | (simp [hink]; done) | split))
@[simp] theorem persistBaseline_rest (P : Parts) (hbl : P.bl = true) : ∀ (s : State), State.rest P (persistBaseline s) = State.rest P s := by intros; simp [persistBaseline, hbl]
@[simp] theorem moveLane_rest (P : Parts) (hdx : P.dx = true) : ∀ (src dst : Nat) (s : State), State.rest P (moveLane src dst s) = State.rest P s := by intros; (unfold moveLane; split <;> simp [hdx])
@[simp] theorem wakeCheckFails_rest (P : Parts) (hink : P.ink = true) (hhost : P.host = true) (hrt : P.rt = true) (hdx : P.dx = true) (hprog : P.prog = true) (hvl : P.vl = true) : ∀ (s : State) (n : Nat), State.rest P (wakeCheckFails s n) = State.rest P s := by intros; (unfold wakeCheckFails; repeat' (first | (simp [hink, hhost, hrt, hdx, hprog, hvl]; done) | split))
@[simp] theorem showHidden_rest (P : Parts) (hink : P.ink = true) (hhost : P.host = true) (hhush : P.hush = true) : ∀ (s : State), State.rest P (showHidden s) = State.rest P s := by intros; simp [showHidden, hink, hhost, hhush]
@[simp] theorem scribeDone_rest (P : Parts) (hboot : P.boot = true) (hink : P.ink = true) (hhost : P.host = true) (hhush : P.hush = true) : ∀ (s : State), State.rest P (scribeDone s) = State.rest P s := by intros; simp [scribeDone, hboot, hink, hhost, hhush]
@[simp] theorem journalResend_rest (P : Parts) (htwin : P.twin = true) : ∀ (s : State), State.rest P (journalResend s) = State.rest P s := by intros; simp [journalResend, htwin]
@[simp] theorem releaseSheet_rest (P : Parts) (hink : P.ink = true) : ∀ (n : Nat) (h : Option Nat) (s : State), State.rest P (releaseSheet n h s) = State.rest P s := by intros; (unfold releaseSheet; split <;> simp [hink])
@[simp] theorem completeRunning_rest (P : Parts) (hink : P.ink = true) (hhost : P.host = true) : ∀ (n q : Nat) (s : State), State.rest P (completeRunning n q s) = State.rest P s := by intros; (unfold completeRunning; repeat' (first | (simp [hink, hhost]; done) | split))
@[simp] theorem sourceFails_rest (P : Parts) (hboot : P.boot = true) (hhost : P.host = true) : ∀ (src code : Nat) (s : State), State.rest P (sourceFails src code s) = State.rest P s := by intros; simp [sourceFails, hboot, hhost]
@[simp] theorem startImage_rest (P : Parts) (hboot : P.boot = true) (hhost : P.host = true) : ∀ (src : Nat) (c : ImageCheck) (s : State), State.rest P (startImage src c s) = State.rest P s := by intros; simp [startImage, hboot, hhost]
@[simp] theorem trySource_rest (P : Parts) (hboot : P.boot = true) (hhost : P.host = true) (hsl : P.sl = true) : ∀ (src : Nat) (readOk : Bool) (s : State), State.rest P (trySource src readOk s) = State.rest P s := by intros; simp [trySource, hboot, hhost, hsl]
@[simp] theorem bootGo_rest (P : Parts) (hboot : P.boot = true) (hhost : P.host = true) (hsl : P.sl = true) : ∀ (s : State), State.rest P (bootGo s) = State.rest P s := by intros; simp [bootGo, hboot, hhost, hsl]
@[simp] theorem resetCauseWrite_rest (P : Parts) (hboot : P.boot = true) : ∀ (v : Via) (w : Nat) (s : State), State.rest P (resetCauseWrite v w s) = State.rest P s := by intros; simp [resetCauseWrite, hboot]
@[simp] theorem sheetFree_rest (P : Parts) (hink : P.ink = true) (hhost : P.host = true) : ∀ (v : Via) (n h : Nat) (s : State), State.rest P (sheetFree v n h s) = State.rest P s := by intros; simp [sheetFree, hink, hhost]
@[simp] theorem modPcie_rest (P : Parts) (hhost : P.host = true) : ∀ (f : Pcie → Pcie) (s : State), State.rest P (modPcie f s) = State.rest P s := by intros; simp [modPcie, hhost]
@[simp] theorem vecWrite_rest (P : Parts) (hhost : P.host = true) : ∀ (k w : Nat) (s : State), State.rest P (vecWrite k w s) = State.rest P s := by intros; simp [vecWrite, hhost]
@[simp] theorem pageWrite_rest (P : Parts) (hboot : P.boot = true) (hink : P.ink = true) (hhost : P.host = true) (hsl : P.sl = true) : ∀ (v : Via) (off w : Nat) (s : State), State.rest P (pageWrite v off w s) = State.rest P s := by intros; (unfold pageWrite; split <;> simp [hboot, hink, hhost, hsl])
@[simp] theorem releaseSources_rest (P : Parts) (hlig : P.lig = true) : ∀ (s : State), State.rest P (releaseSources s) = State.rest P s := by intros; simp [releaseSources, hlig]
@[simp] theorem rateMeasured_rest (P : Parts) (hbl : P.bl = true) (hink : P.ink = true) (hhost : P.host = true) (hserif : P.serif = true) (hvl : P.vl = true) : ∀ (n : Nat) (rate : Int) (s : State), State.rest P (rateMeasured n rate s) = State.rest P s := by intros; simp [rateMeasured, hbl, hink, hhost, hserif, hvl]
@[simp] theorem countWords_rest (P : Parts) (hquill : P.quill = true) (hvl : P.vl = true) : ∀ (n : Nat) (l : List (Nat × Sample × Int × Bool)) (s : State), State.rest P (countWords n l s) = State.rest P s := by intros; simp [countWords, hquill, hvl]
@[simp] theorem sendPacket_rest (P : Parts) (hquill : P.quill = true) (hvl : P.vl = true) : ∀ (n u : Nat) (l : List (List Sample)) (s : State), State.rest P (sendPacket n u l s) = State.rest P s := by intros; simp [sendPacket, hquill, hvl]
@[simp] theorem access_rest (P : Parts) (hhost : P.host = true) : ∀ (v : Via) (s : State), State.rest P (access v s) = State.rest P s := by intros; (unfold access; split <;> simp [hhost])
@[simp] theorem wakeDone_rest (P : Parts) (hbl : P.bl = true) (hboot : P.boot = true) (hpower : P.power = true) (hink : P.ink = true) (hhost : P.host = true) (hserif : P.serif = true) (hquill : P.quill = true) (hrt : P.rt = true) (hdx : P.dx = true) (hprog : P.prog = true) (hlig : P.lig = true) (hvl : P.vl = true) (hentry : P.entry = true) : ∀ (bad : List Nat) (s : State), State.rest P (wakeDone bad s) = State.rest P s := by intros; simp [wakeDone, hbl, hboot, hpower, hink, hhost, hserif, hquill, hrt, hdx, hprog, hlig, hvl, hentry]
@[simp] theorem takeAnnounce_rest (P : Parts) (hbl : P.bl = true) (hink : P.ink = true) (hhost : P.host = true) (hquill : P.quill = true) : ∀ (n : Nat) (d : PtpData) (s0 : State), State.rest P (takeAnnounce n d s0) = State.rest P s0 := by intros; simp [takeAnnounce, hbl, hink, hhost, hquill]
@[simp] theorem refEdge_rest (P : Parts) (hdraws : P.draws = true) (hbl : P.bl = true) (hink : P.ink = true) (hhost : P.host = true) : ∀ (n : Nat) (dev fofs build : Int) (s : State), State.rest P (refEdge n dev fofs build s) = State.rest P s := by intros; simp [refEdge, hdraws, hbl, hink, hhost]
@[simp] theorem takeSync_rest (P : Parts) (hdraws : P.draws = true) (hbl : P.bl = true) (hink : P.ink = true) (hhost : P.host = true) (hquill : P.quill = true) : ∀ (m : PtpMsg) (s : State), State.rest P (takeSync m s) = State.rest P s := by intros; simp [takeSync, hdraws, hbl, hink, hhost, hquill]
@[simp] theorem ptpMessage_rest (P : Parts) (hdraws : P.draws = true) (hbl : P.bl = true) (hink : P.ink = true) (hhost : P.host = true) (hquill : P.quill = true) : ∀ (m : PtpMsg) (s : State), State.rest P (ptpMessage m s) = State.rest P s := by intros; simp [ptpMessage, hdraws, hbl, hink, hhost, hquill]
@[simp] theorem barRead_rest (P : Parts) (hdraws : P.draws = true) (hpower : P.power = true) (hink : P.ink = true) (hhost : P.host = true) : ∀ (v : Via) (off n : Nat) (s : State), State.rest P (barRead v off n s).2 = State.rest P s := by intros; (unfold barRead; repeat' (first | (simp [hdraws, hpower, hink, hhost]; done) | split))
@[simp] theorem setSinkGain_rest (P : Parts) (hlig : P.lig = true) : ∀ (g : Int) (n : Nat) (s : State), State.rest P (setSinkGain g n s) = State.rest P s := by intros; simp [setSinkGain, hlig]
@[simp] theorem applyDueCfg_rest (P : Parts) (hlig : P.lig = true) : ∀ (s : State), State.rest P (applyDueCfg s) = State.rest P s := by intros; (unfold applyDueCfg; repeat' (first | (simp [hlig]; done) | split | (dsimp only; split) | (refine foldl_rest P _ _ _ ?_) | intro _))
@[simp] theorem presentStream_rest (P : Parts) (hink : P.ink = true) (hhost : P.host = true) (hquill : P.quill = true) (hvl : P.vl = true) : ∀ (n : Nat) (s : State), State.rest P (presentStream n s) = State.rest P s := by intros; (unfold presentStream; repeat' (first | (simp [hink, hhost, hquill, hvl]; done) | split | (dsimp only; split) | (refine foldl_rest P _ _ _ ?_) | intro _))
@[simp] theorem presentStreams_rest (P : Parts) (hink : P.ink = true) (hhost : P.host = true) (hquill : P.quill = true) (hvl : P.vl = true) : ∀ (s : State), State.rest P (presentStreams s) = State.rest P s := by intros; simp [presentStreams, hink, hhost, hquill, hvl]
@[simp] theorem dropSessions_rest (P : Parts) (hink : P.ink = true) : ∀ (s : State), State.rest P (dropSessions s) = State.rest P s := by intros; simp [dropSessions, hink]
@[simp] theorem scribeRestart_rest (P : Parts) (hdraws : P.draws = true) (hboot : P.boot = true) (hink : P.ink = true) (hhost : P.host = true) (hfeed : P.feed = true) (hvl : P.vl = true) (hmem : P.mem = true) : ∀ (cause counter : Nat) (s : State), State.rest P (scribeRestart cause counter s) = State.rest P s := by intros; simp [scribeRestart, hdraws, hboot, hink, hhost, hfeed, hvl, hmem]
@[simp] theorem nibUe_rest (P : Parts) (hink : P.ink = true) (hhost : P.host = true) (htwin : P.twin = true) (hrt : P.rt = true) (hdx : P.dx = true) (hprog : P.prog = true) (hvl : P.vl = true) : ∀ (n kind word key : Nat) (s : State), State.rest P (nibUe n kind word key s) = State.rest P s := by intros; (unfold nibUe; repeat' (first | (simp [hink, hhost, htwin, hrt, hdx, hprog, hvl]; done) | split))
@[simp] theorem coldState_rest (P : Parts) (hstem : P.stem = true) (hbl : P.bl = true) (hboot : P.boot = true) (hpower : P.power = true) (hink : P.ink = true) (hhost : P.host = true) (htwin : P.twin = true) (hhush : P.hush = true) (hserif : P.serif = true) (hquill : P.quill = true) (hms : P.ms = true) (hrt : P.rt = true) (hlife : P.life = true) (hfeed : P.feed = true) (hdx : P.dx = true) (hprog : P.prog = true) (hlig : P.lig = true) (hsheen : P.sheen = true) (hsl : P.sl = true) (hcb : P.cb = true) (hentry : P.entry = true) (hsheets : P.sheets = true) (hload : P.load = true) (hmem : P.mem = true) : ∀ (s : State), State.rest P (coldState s) = State.rest P s := by intros; simp [coldState, coldBoot, hstem, hbl, hboot, hpower, hink, hhost, htwin, hhush, hserif, hquill, hms, hrt, hlife, hfeed, hdx, hprog, hlig, hsheen, hsl, hcb, hentry, hsheets, hload, hmem]
@[simp] theorem internalReset_rest (P : Parts) (hstem : P.stem = true) (hbl : P.bl = true) (hboot : P.boot = true) (hpower : P.power = true) (hink : P.ink = true) (hhost : P.host = true) (htwin : P.twin = true) (hhush : P.hush = true) (hserif : P.serif = true) (hquill : P.quill = true) (hms : P.ms = true) (hrt : P.rt = true) (hlife : P.life = true) (hfeed : P.feed = true) (hdx : P.dx = true) (hprog : P.prog = true) (hlig : P.lig = true) (hsheen : P.sheen = true) (hsl : P.sl = true) (hcb : P.cb = true) (hentry : P.entry = true) (hsheets : P.sheets = true) (hload : P.load = true) (hmem : P.mem = true) : ∀ (bit : Nat) (s : State), State.rest P (internalReset bit s) = State.rest P s := by intros; simp [internalReset, hstem, hbl, hboot, hpower, hink, hhost, htwin, hhush, hserif, hquill, hms, hrt, hlife, hfeed, hdx, hprog, hlig, hsheen, hsl, hcb, hentry, hsheets, hload, hmem]
@[simp] theorem bootWatchdog_rest (P : Parts) (hboot : P.boot = true) (hhost : P.host = true) : ∀ (s : State), State.rest P (bootWatchdog s) = State.rest P s := by intros; simp [bootWatchdog, hboot, hhost]
@[simp] theorem tellFlourishes_rest (P : Parts) (hink : P.ink = true) (hhost : P.host = true) (hms : P.ms = true) : ∀ (s : State), State.rest P (tellFlourishes s) = State.rest P s := by intros; simp [tellFlourishes, hink, hhost, hms]
@[simp] theorem executeTurn_rest (P : Parts) (hink : P.ink = true) (hhost : P.host = true) (hdx : P.dx = true) (hprog : P.prog = true) (hsheen : P.sheen = true) : ∀ (a : Armed) (s : State), State.rest P (executeTurn a s) = State.rest P s := by intros; (unfold executeTurn; repeat' (first | (simp [hink, hhost, hdx, hprog, hsheen]; done) | split | (dsimp only; split) | (refine foldl_rest P _ _ _ ?_) | intro _))
@[simp] theorem flourishTurns_rest (P : Parts) (hboot : P.boot = true) (hink : P.ink = true) (hhost : P.host = true) (hdx : P.dx = true) (hprog : P.prog = true) (hlig : P.lig = true) (hsheen : P.sheen = true) (hsl : P.sl = true) (hresume : P.resume = true) : ∀ (a : Armed) (s : State), State.rest P (flourishTurns a s) = State.rest P s := by intros; simp [flourishTurns, hboot, hink, hhost, hdx, hprog, hlig, hsheen, hsl, hresume]
@[simp] theorem executeRoutes_rest (P : Parts) (hink : P.ink = true) (hhost : P.host = true) (hlig : P.lig = true) : ∀ (a : Armed) (s : State), State.rest P (executeRoutes a s) = State.rest P s := by intros; simp [executeRoutes, hink, hhost, hlig]
@[simp] theorem setSinkCfg_rest (P : Parts) (hlig : P.lig = true) : ∀ (p : Bytes) (n : Nat) (s : State), State.rest P (setSinkCfg p n s) = State.rest P s := by intros; simp [setSinkCfg, hlig]
@[simp] theorem executeSheenConfig_rest (P : Parts) (hsheen : P.sheen = true) : ∀ (a : Armed) (s : State), State.rest P (executeSheenConfig a s) = State.rest P s := by intros; simp [executeSheenConfig, hsheen]
@[simp] theorem executeLoudReset_rest (P : Parts) (hsheen : P.sheen = true) : ∀ (a : Armed) (s : State), State.rest P (executeLoudReset a s) = State.rest P s := by intros; simp [executeLoudReset, hsheen]
@[simp] theorem executeMode_rest (P : Parts) (hbl : P.bl = true) (hpower : P.power = true) (hink : P.ink = true) (hhost : P.host = true) (hprog : P.prog = true) (hvl : P.vl = true) (hentry : P.entry = true) : ∀ (a : Armed) (s : State), State.rest P (executeMode a s) = State.rest P s := by intros; (unfold executeMode; split <;> simp [hbl, hpower, hink, hhost, hprog, hvl, hentry])
@[simp] theorem executeStream_rest (P : Parts) (hink : P.ink = true) (hhost : P.host = true) (htwin : P.twin = true) (hquill : P.quill = true) (hlig : P.lig = true) : ∀ (a : Armed) (s : State), State.rest P (executeStream a s) = State.rest P s := by intros; simp [executeStream, hink, hhost, htwin, hquill, hlig]
@[simp] theorem executeAction_rest (P : Parts) (hbl : P.bl = true) (hboot : P.boot = true) (hpower : P.power = true) (hink : P.ink = true) (hhost : P.host = true) (htwin : P.twin = true) (hquill : P.quill = true) (hms : P.ms = true) (hdx : P.dx = true) (hprog : P.prog = true) (hlig : P.lig = true) (hsheen : P.sheen = true) (hvl : P.vl = true) (hsl : P.sl = true) (hresume : P.resume = true) (hentry : P.entry = true) : ∀ (a : Armed) (s : State), State.rest P (executeAction a s) = State.rest P s := by intros; (unfold executeAction; repeat' (first | (simp [hbl, hboot, hpower, hink, hhost, htwin, hquill, hms, hdx, hprog, hlig, hsheen, hvl, hsl, hresume, hentry]; done) | split))
@[simp] theorem dropDue_rest (P : Parts) (hbl : P.bl = true) (hboot : P.boot = true) (hpower : P.power = true) (hink : P.ink = true) (hhost : P.host = true) (htwin : P.twin = true) (hquill : P.quill = true) (hms : P.ms = true) (hdx : P.dx = true) (hprog : P.prog = true) (hlig : P.lig = true) (hsheen : P.sheen = true) (hvl : P.vl = true) (hsl : P.sl = true) (hresume : P.resume = true) (hentry : P.entry = true) : ∀ (a : Armed) (s : State), State.rest P (dropDue a s) = State.rest P s := by intros; simp [dropDue, hbl, hboot, hpower, hink, hhost, htwin, hquill, hms, hdx, hprog, hlig, hsheen, hvl, hsl, hresume, hentry]
@[simp] theorem applyOne_rest (P : Parts) (hbl : P.bl = true) (hboot : P.boot = true) (hpower : P.power = true) (hink : P.ink = true) (hhost : P.host = true) (htwin : P.twin = true) (hquill : P.quill = true) (hms : P.ms = true) (hdx : P.dx = true) (hprog : P.prog = true) (hlig : P.lig = true) (hsheen : P.sheen = true) (hvl : P.vl = true) (hsl : P.sl = true) (hresume : P.resume = true) (hentry : P.entry = true) : ∀ (s : State) (a : Armed), State.rest P (applyOne s a) = State.rest P s := by intros; simp [applyOne, hbl, hboot, hpower, hink, hhost, htwin, hquill, hms, hdx, hprog, hlig, hsheen, hvl, hsl, hresume, hentry]
@[simp] theorem applyTimed_rest (P : Parts) (hbl : P.bl = true) (hboot : P.boot = true) (hpower : P.power = true) (hink : P.ink = true) (hhost : P.host = true) (htwin : P.twin = true) (hquill : P.quill = true) (hms : P.ms = true) (hdx : P.dx = true) (hprog : P.prog = true) (hlig : P.lig = true) (hsheen : P.sheen = true) (hvl : P.vl = true) (hsl : P.sl = true) (hresume : P.resume = true) (hentry : P.entry = true) : ∀ (s : State), State.rest P (applyTimed s) = State.rest P s := by intros; simp [applyTimed, hbl, hboot, hpower, hink, hhost, htwin, hquill, hms, hdx, hprog, hlig, hsheen, hvl, hsl, hresume, hentry]
@[simp] theorem wakeServes_rest (P : Parts) (hboot : P.boot = true) (hink : P.ink = true) (hhost : P.host = true) : ∀ (s : State), State.rest P (wakeServes s) = State.rest P s := by intros; simp [wakeServes, hboot, hink, hhost]
@[simp] theorem resumeFails_rest (P : Parts) (hink : P.ink = true) (hhost : P.host = true) : ∀ (cause count : Nat) (s : State), State.rest P (resumeFails cause count s) = State.rest P s := by intros; simp [resumeFails, hink, hhost]
@[simp] theorem startJoin_rest (P : Parts) (hink : P.ink = true) (hhost : P.host = true) (hms : P.ms = true) : ∀ (s : State), State.rest P (startJoin s) = State.rest P s := by intros; simp [startJoin, hink, hhost, hms]
@[simp] theorem becomeReady_rest (P : Parts) (hdraws : P.draws = true) (hbl : P.bl = true) (hboot : P.boot = true) (hpower : P.power = true) (hink : P.ink = true) (hhost : P.host = true) (htwin : P.twin = true) (hserif : P.serif = true) (hquill : P.quill = true) (hms : P.ms = true) (hrt : P.rt = true) (hprog : P.prog = true) (hlig : P.lig = true) (hsheen : P.sheen = true) (hvl : P.vl = true) (hsl : P.sl = true) (hentry : P.entry = true) : ∀ (s : State), State.rest P (becomeReady s) = State.rest P s := by intros; (unfold becomeReady; repeat' (first | (simp [hdraws, hbl, hboot, hpower, hink, hhost, htwin, hserif, hquill, hms, hrt, hprog, hlig, hsheen, hvl, hsl, hentry]; done) | split))
@[simp] theorem runStep_rest (P : Parts) (hdraws : P.draws = true) (hbl : P.bl = true) (hboot : P.boot = true) (hpower : P.power = true) (hink : P.ink = true) (hhost : P.host = true) (htwin : P.twin = true) (hserif : P.serif = true) (hquill : P.quill = true) (hms : P.ms = true) (hrt : P.rt = true) (hfeed : P.feed = true) (hdx : P.dx = true) (hprog : P.prog = true) (hlig : P.lig = true) (hsheen : P.sheen = true) (hvl : P.vl = true) (hsl : P.sl = true) (hresume : P.resume = true) (hentry : P.entry = true) (hmem : P.mem = true) : ∀ (s : State) (a : ModeStep), State.rest P (runStep s a) = State.rest P s := by intros; (unfold runStep; split <;> simp [hdraws, hbl, hboot, hpower, hink, hhost, htwin, hserif, hquill, hms, hrt, hfeed, hdx, hprog, hlig, hsheen, hvl, hsl, hresume, hentry, hmem])
@[simp] theorem stepOrWait_rest (P : Parts) (hdraws : P.draws = true) (hbl : P.bl = true) (hboot : P.boot = true) (hpower : P.power = true) (hink : P.ink = true) (hhost : P.host = true) (htwin : P.twin = true) (hserif : P.serif = true) (hquill : P.quill = true) (hms : P.ms = true) (hrt : P.rt = true) (hfeed : P.feed = true) (hdx : P.dx = true) (hprog : P.prog = true) (hlig : P.lig = true) (hsheen : P.sheen = true) (hvl : P.vl = true) (hsl : P.sl = true) (hresume : P.resume = true) (hentry : P.entry = true) (hmem : P.mem = true) : ∀ (p : ModeStep) (s : State), State.rest P (stepOrWait p s) = State.rest P s := by intros; simp [stepOrWait, hdraws, hbl, hboot, hpower, hink, hhost, htwin, hserif, hquill, hms, hrt, hfeed, hdx, hprog, hlig, hsheen, hvl, hsl, hresume, hentry, hmem]
@[simp] theorem flushEnds_rest (P : Parts) (hboot : P.boot = true) (hhost : P.host = true) : ∀ (flags : Nat) (s : State), State.rest P (flushEnds flags s) = State.rest P s := by intros; simp [flushEnds, hboot, hhost]
@[simp] theorem saveReplies_rest (P : Parts) (hink : P.ink = true) (hvl : P.vl = true) : ∀ (l : List (Nat × Nat)) (s : State), State.rest P (saveReplies l s) = State.rest P s := by intros; simp [saveReplies, hink, hvl]
@[simp] theorem slotStored_rest (P : Parts) (hboot : P.boot = true) (hink : P.ink = true) (hhost : P.host = true) (hvl : P.vl = true) : ∀ (w : VlWrite) (s : State), State.rest P (slotStored w s) = State.rest P s := by intros; (unfold slotStored; split <;> simp [hboot, hink, hhost, hvl])
@[simp] theorem slotRetired_rest (P : Parts) (hink : P.ink = true) (hhost : P.host = true) (hvl : P.vl = true) : ∀ (w : VlWrite) (s : State), State.rest P (slotRetired w s) = State.rest P s := by intros; simp [slotRetired, hink, hhost, hvl]
@[simp] theorem writeDone_rest (P : Parts) (hboot : P.boot = true) (hink : P.ink = true) (hhost : P.host = true) (hvl : P.vl = true) : ∀ (good : Bool) (s : State), State.rest P (writeDone good s) = State.rest P s := by intros; (unfold writeDone; split <;> simp [hboot, hink, hhost, hvl])
@[simp] theorem legTimeout_rest (P : Parts) (hink : P.ink = true) (hhost : P.host = true) (hquill : P.quill = true) : ∀ (n leg : Nat) (s : State), State.rest P (legTimeout n leg s) = State.rest P s := by intros; simp [legTimeout, hink, hhost, hquill]
@[simp] theorem commitRx_rest (P : Parts) (hink : P.ink = true) (htwin : P.twin = true) (hms : P.ms = true) : ∀ (via origin number : Nat) (s0 : State), State.rest P (commitRx via origin number s0) = State.rest P s0 := by intros; (unfold commitRx; repeat' (first | (simp [hink, htwin, hms]; done) | split | (dsimp only; split) | (refine foldl_rest P _ _ _ ?_) | intro _))
@[simp] theorem readReg_rest (P : Parts) (hstem : P.stem = true) (hhost : P.host = true) (hhush : P.hush = true) (hfeed : P.feed = true) (hdx : P.dx = true) (hprog : P.prog = true) (hsheen : P.sheen = true) (hvl : P.vl = true) (hsl : P.sl = true) (hcb : P.cb = true) : ∀ (i o : Nat) (s : State), State.rest P (readReg i o s).2 = State.rest P s := by intros; simp [readReg, hstem, hhost, hhush, hfeed, hdx, hprog, hsheen, hvl, hsl, hcb]
@[simp] theorem candidateQualified_rest (P : Parts) (hbl : P.bl = true) (hink : P.ink = true) (hhost : P.host = true) : ∀ (n : Nat) (build fofs : Int) (s : State), State.rest P (candidateQualified n build fofs s) = State.rest P s := by intros; simp [candidateQualified, hbl, hink, hhost]
@[simp] theorem cueRefused_rest (P : Parts) (hink : P.ink = true) (hhost : P.host = true) (hprog : P.prog = true) : ∀ (n scene : Nat) (e : CueEntry) (st : Status) (s : State), State.rest P (cueRefused n scene e st s) = State.rest P s := by intros; simp [cueRefused, hink, hhost, hprog]
@[simp] theorem refuseJoin_rest (P : Parts) (hink : P.ink = true) (hhost : P.host = true) (hms : P.ms = true) : ∀ (cause root : Nat) (s : State), State.rest P (refuseJoin cause root s) = State.rest P s := by intros; simp [refuseJoin, hink, hhost, hms]
@[simp] theorem joinBoundary_rest (P : Parts) (hbl : P.bl = true) (hpower : P.power = true) (hink : P.ink = true) (hhost : P.host = true) (hms : P.ms = true) (hprog : P.prog = true) (hvl : P.vl = true) (hentry : P.entry = true) : ∀ (s : State), State.rest P (joinBoundary s) = State.rest P s := by intros; (unfold joinBoundary; repeat' (first | (simp [hbl, hpower, hink, hhost, hms, hprog, hvl, hentry]; done) | split))
@[simp] theorem holdoverExpired_rest (P : Parts) (hbl : P.bl = true) (hpower : P.power = true) (hink : P.ink = true) (hhost : P.host = true) (htwin : P.twin = true) (hvl : P.vl = true) : ∀ (s : State), State.rest P (holdoverExpired s) = State.rest P s := by intros; simp [holdoverExpired, hbl, hpower, hink, hhost, htwin, hvl]
@[simp] theorem giveUpCleared_rest (P : Parts) (hink : P.ink = true) (hhost : P.host = true) (htwin : P.twin = true) : ∀ (s : State), State.rest P (giveUpCleared s) = State.rest P s := by intros; simp [giveUpCleared, hink, hhost, htwin]
@[simp] theorem removeArmed_rest (P : Parts) (hink : P.ink = true) : ∀ (n q : Nat) (s : State), State.rest P (removeArmed n q s) = State.rest P s := by intros; simp [removeArmed, hink]
@[simp] theorem fwRunning_rest (P : Parts) (hboot : P.boot = true) (hvl : P.vl = true) : ∀ (s : State), State.rest P (fwRunning s) = State.rest P s := by intros; simp [fwRunning, hboot, hvl]
@[simp] theorem ringNow_rest (P : Parts) (hink : P.ink = true) : ∀ (op : Nat) (r : Request) (s : State), State.rest P (ringNow op r s) = State.rest P s := by intros; simp [ringNow, hink]
@[simp] theorem takeTurn_rest (P : Parts) (hink : P.ink = true) : ∀ (n : Nat) (s : State), State.rest P (takeTurn n s) = State.rest P s := by intros; simp [takeTurn, hink]
@[simp] theorem takenState_rest (P : Parts) (hink : P.ink = true) : ∀ (op : Nat) (r : Request) (s : State), State.rest P (takenState op r s) = State.rest P s := by intros; simp [takenState, hink]
@[simp] theorem bootSourceRead_rest (P : Parts) (hboot : P.boot = true) (hhost : P.host = true) (hsl : P.sl = true) : ∀ (readOk : Bool) (s : State), State.rest P (bootSourceRead readOk s) = State.rest P s := by intros; (unfold bootSourceRead; repeat' (first | (simp [hboot, hhost, hsl]; done) | split))
@[simp] theorem heard_rest (P : Parts) (hink : P.ink = true) : ∀ (n : Nat) (s : State), State.rest P (heard n s) = State.rest P s := by intros; simp [heard, hink]
@[simp] theorem sessionFrame_rest (P : Parts) (hdraws : P.draws = true) (hboot : P.boot = true) (hink : P.ink = true) (hhost : P.host = true) : ∀ (n size length : Nat) (h : Head) (s : State), State.rest P (sessionFrame n size length h s) = State.rest P s := by intros; simp [sessionFrame, hdraws, hboot, hink, hhost]
@[simp] theorem autosaveEnds_rest (P : Parts) (hboot : P.boot = true) (hink : P.ink = true) (hsl : P.sl = true) (hresume : P.resume = true) : ∀ (s : State), State.rest P (autosaveEnds s) = State.rest P s := by intros; simp [autosaveEnds, hboot, hink, hsl, hresume]
@[simp] theorem countTransition_rest (P : Parts) (hvl : P.vl = true) : ∀ (old new : Nat) (s : State), State.rest P (countTransition old new s) = State.rest P s := by intros; simp [countTransition, hvl]
@[simp] theorem modCart_rest (P : Parts) (hfeed : P.feed = true) : ∀ (n : Nat) (f : Cart → Cart) (s : State), State.rest P (modCart n f s) = State.rest P s := by intros; simp [modCart, hfeed]
@[simp] theorem tellMismatch_rest (P : Parts) (hink : P.ink = true) (hhost : P.host = true) : ∀ (result period : Nat) (s : State), State.rest P (tellMismatch result period s) = State.rest P s := by intros; simp [tellMismatch, hink, hhost]
@[simp] theorem judgeCheck_rest (P : Parts) (hink : P.ink = true) (hhost : P.host = true) (htwin : P.twin = true) (hvl : P.vl = true) : ∀ (s : State), State.rest P (judgeCheck s) = State.rest P s := by intros; (unfold judgeCheck; repeat' (first | (simp [hink, hhost, htwin, hvl]; done) | split))
@[simp] theorem checkDone_rest (P : Parts) (hink : P.ink = true) (hhost : P.host = true) (htwin : P.twin = true) (hvl : P.vl = true) : ∀ (passed : Bool) (s : State), State.rest P (checkDone passed s) = State.rest P s := by intros; (unfold checkDone; split <;> simp [hink, hhost, htwin, hvl])
@[simp] theorem haltForRate_rest (P : Parts) (hstem : P.stem = true) : ∀ (s : State), State.rest P (haltForRate s) = State.rest P s := by intros; (unfold haltForRate; split <;> simp [hstem])
@[simp] theorem prepareRx_rest (P : Parts) (hink : P.ink = true) (hhost : P.host = true) (htwin : P.twin = true) (hms : P.ms = true) (hprog : P.prog = true) : ∀ (via : Nat) (p : MsPrepare) (s0 : State), State.rest P (prepareRx via p s0) = State.rest P s0 := by intros; (unfold prepareRx; repeat' (first | (simp [hink, hhost, htwin, hms, hprog]; done) | split | (dsimp only; split) | (refine foldl_rest P _ _ _ ?_) | intro _))
@[simp] theorem ptpJam_rest (P : Parts) (hstem : P.stem = true) (hbl : P.bl = true) (hpower : P.power = true) (hink : P.ink = true) (hhost : P.host = true) (hdx : P.dx = true) (hprog : P.prog = true) (hlig : P.lig = true) (hsheen : P.sheen = true) (hvl : P.vl = true) : ∀ (s : State), State.rest P (ptpJam s) = State.rest P s := by intros; simp [ptpJam, hstem, hbl, hpower, hink, hhost, hdx, hprog, hlig, hsheen, hvl]
@[simp] theorem sessionBadFrame_rest (P : Parts) (hink : P.ink = true) : ∀ (n : Nat) (s : State), State.rest P (sessionBadFrame n s) = State.rest P s := by intros; simp [sessionBadFrame, hink]
@[simp] theorem beginBoot_rest (P : Parts) (hbl : P.bl = true) (hboot : P.boot = true) (hpower : P.power = true) (hink : P.ink = true) (hhost : P.host = true) (hvl : P.vl = true) : ∀ (s : State), State.rest P (beginBoot s) = State.rest P s := by intros; simp [beginBoot, hbl, hboot, hpower, hink, hhost, hvl]
@[simp] theorem xoReturns_rest (P : Parts) (hstem : P.stem = true) (hbl : P.bl = true) (hboot : P.boot = true) (hpower : P.power = true) (hink : P.ink = true) (hhost : P.host = true) (hvl : P.vl = true) : ∀ (s : State), State.rest P (xoReturns s) = State.rest P s := by intros; simp [xoReturns, hstem, hbl, hboot, hpower, hink, hhost, hvl]
@[simp] theorem reboot_rest (P : Parts) (hstem : P.stem = true) (hbl : P.bl = true) (hboot : P.boot = true) (hpower : P.power = true) (hink : P.ink = true) (hhost : P.host = true) (htwin : P.twin = true) (hhush : P.hush = true) (hserif : P.serif = true) (hquill : P.quill = true) (hms : P.ms = true) (hrt : P.rt = true) (hlife : P.life = true) (hfeed : P.feed = true) (hdx : P.dx = true) (hprog : P.prog = true) (hlig : P.lig = true) (hsheen : P.sheen = true) (hvl : P.vl = true) (hsl : P.sl = true) (hcb : P.cb = true) (hentry : P.entry = true) (hsheets : P.sheets = true) (hload : P.load = true) (hmem : P.mem = true) : ∀ (s : State), State.rest P (reboot s) = State.rest P s := by intros; simp [reboot, hstem, hbl, hboot, hpower, hink, hhost, htwin, hhush, hserif, hquill, hms, hrt, hlife, hfeed, hdx, hprog, hlig, hsheen, hvl, hsl, hcb, hentry, hsheets, hload, hmem]
@[simp] theorem boundaryLast_rest (P : Parts) (hstem : P.stem = true) (hbl : P.bl = true) (hboot : P.boot = true) (hpower : P.power = true) (hink : P.ink = true) (hhost : P.host = true) (htwin : P.twin = true) (hhush : P.hush = true) (hserif : P.serif = true) (hquill : P.quill = true) (hms : P.ms = true) (hrt : P.rt = true) (hlife : P.life = true) (hfeed : P.feed = true) (hdx : P.dx = true) (hprog : P.prog = true) (hlig : P.lig = true) (hsheen : P.sheen = true) (hvl : P.vl = true) (hsl : P.sl = true) (hcb : P.cb = true) (hentry : P.entry = true) (hsheets : P.sheets = true) (hload : P.load = true) (hmem : P.mem = true) : ∀ (edge : Bool) (s : State), State.rest P (boundaryLast edge s) = State.rest P s := by intros; simp [boundaryLast, hstem, hbl, hboot, hpower, hink, hhost, htwin, hhush, hserif, hquill, hms, hrt, hlife, hfeed, hdx, hprog, hlig, hsheen, hvl, hsl, hcb, hentry, hsheets, hload, hmem]
@[simp] theorem settleReceivers_rest (P : Parts) (hink : P.ink = true) (hhost : P.host = true) (hquill : P.quill = true) : ∀ (s : State), State.rest P (settleReceivers s) = State.rest P s := by intros; simp [settleReceivers, hink, hhost, hquill]
@[simp] theorem startMasters_rest (P : Parts) (hink : P.ink = true) (hhost : P.host = true) (hserif : P.serif = true) : ∀ (s : State), State.rest P (startMasters s) = State.rest P s := by intros; simp [startMasters, hink, hhost, hserif]
@[simp] theorem storeOne_rest (P : Parts) (hink : P.ink = true) (hhost : P.host = true) (hprog : P.prog = true) (hsl : P.sl = true) : ∀ (j : StoreJob) (s : State), State.rest P (storeOne j s) = State.rest P s := by intros; simp [storeOne, hink, hhost, hprog, hsl]
@[simp] theorem storeScenes_rest (P : Parts) (hink : P.ink = true) (hhost : P.host = true) (hprog : P.prog = true) (hsl : P.sl = true) : ∀ (s : State), State.rest P (storeScenes s) = State.rest P s := by intros; simp [storeScenes, hink, hhost, hprog, hsl]
@[simp] theorem boundaryReports_rest (P : Parts) (hink : P.ink = true) (hhost : P.host = true) (hserif : P.serif = true) (hquill : P.quill = true) (hprog : P.prog = true) (hlig : P.lig = true) (hsheen : P.sheen = true) (hsl : P.sl = true) : ∀ (s : State), State.rest P (boundaryReports s) = State.rest P s := by intros; simp [boundaryReports, hink, hhost, hserif, hquill, hprog, hlig, hsheen, hsl]
@[simp] theorem applySw_rest (P : Parts) (hdx : P.dx = true) (hlig : P.lig = true) : ∀ (s : State), State.rest P (applySw s) = State.rest P s := by intros; (unfold applySw; split <;> simp [hdx, hlig])
@[simp] theorem missPeriod_rest (P : Parts) (hink : P.ink = true) (hhost : P.host = true) (hdx : P.dx = true) (hvl : P.vl = true) : ∀ (s : State), State.rest P (missPeriod s) = State.rest P s := by intros; simp [missPeriod, hink, hhost, hdx, hvl]
@[simp] theorem classBPeriod_rest (P : Parts) (hsheen : P.sheen = true) : ∀ (k : Nat) (s : State), State.rest P (classBPeriod k s) = State.rest P s := by intros; simp [classBPeriod, hsheen]
@[simp] theorem skipClassB_rest (P : Parts) (hsheen : P.sheen = true) : ∀ (p : Nat) (s : State), State.rest P (skipClassB p s) = State.rest P s := by intros; simp [skipClassB, hsheen]
@[simp] theorem startWindow_rest (P : Parts) (hink : P.ink = true) (hhost : P.host = true) (hrt : P.rt = true) (hdx : P.dx = true) (hsheen : P.sheen = true) (hvl : P.vl = true) : ∀ (k : Nat) (s : State), State.rest P (startWindow k s) = State.rest P s := by intros; simp [startWindow, hink, hhost, hrt, hdx, hsheen, hvl]
@[simp] theorem ductusBoundary_rest (P : Parts) (hink : P.ink = true) (hhost : P.host = true) (hrt : P.rt = true) (hdx : P.dx = true) (hprog : P.prog = true) (hlig : P.lig = true) (hsheen : P.sheen = true) (hvl : P.vl = true) : ∀ (s : State), State.rest P (ductusBoundary s) = State.rest P s := by intros; simp [ductusBoundary, hink, hhost, hrt, hdx, hprog, hlig, hsheen, hvl]
@[simp] theorem clearUnfinite_rest (P : Parts) (hprog : P.prog = true) : ∀ (s : State), State.rest P (clearUnfinite s) = State.rest P s := by intros; simp [clearUnfinite, hprog]
@[simp] theorem boundaryCompute_rest (P : Parts) (hstem : P.stem = true) (hbl : P.bl = true) (hpower : P.power = true) (hink : P.ink = true) (hhost : P.host = true) (hrt : P.rt = true) (hdx : P.dx = true) (hprog : P.prog = true) (hlig : P.lig = true) (hsheen : P.sheen = true) (hvl : P.vl = true) (hentry : P.entry = true) : ∀ (s : State), State.rest P (boundaryCompute s) = State.rest P s := by intros; simp [boundaryCompute, hstem, hbl, hpower, hink, hhost, hrt, hdx, hprog, hlig, hsheen, hvl, hentry]
@[simp] theorem duePatch_rest (P : Parts) (hlig : P.lig = true) : ∀ (s : State), State.rest P (duePatch s) = State.rest P s := by intros; (unfold duePatch; split <;> simp [hlig])
@[simp] theorem runSteps_rest (P : Parts) (hdraws : P.draws = true) (hbl : P.bl = true) (hboot : P.boot = true) (hpower : P.power = true) (hink : P.ink = true) (hhost : P.host = true) (htwin : P.twin = true) (hserif : P.serif = true) (hquill : P.quill = true) (hms : P.ms = true) (hrt : P.rt = true) (hfeed : P.feed = true) (hdx : P.dx = true) (hprog : P.prog = true) (hlig : P.lig = true) (hsheen : P.sheen = true) (hvl : P.vl = true) (hsl : P.sl = true) (hresume : P.resume = true) (hentry : P.entry = true) (hmem : P.mem = true) : ∀ (s : State), State.rest P (runSteps s) = State.rest P s := by intros; simp [runSteps, hdraws, hbl, hboot, hpower, hink, hhost, htwin, hserif, hquill, hms, hrt, hfeed, hdx, hprog, hlig, hsheen, hvl, hsl, hresume, hentry, hmem]
@[simp] theorem boundaryFirst_rest (P : Parts) (hdraws : P.draws = true) (hstem : P.stem = true) (hbl : P.bl = true) (hboot : P.boot = true) (hpower : P.power = true) (hink : P.ink = true) (hhost : P.host = true) (htwin : P.twin = true) (hserif : P.serif = true) (hquill : P.quill = true) (hms : P.ms = true) (hrt : P.rt = true) (hfeed : P.feed = true) (hdx : P.dx = true) (hprog : P.prog = true) (hlig : P.lig = true) (hsheen : P.sheen = true) (hvl : P.vl = true) (hsl : P.sl = true) (hresume : P.resume = true) (hentry : P.entry = true) (hmem : P.mem = true) : ∀ (s : State), State.rest P (boundaryFirst s) = State.rest P s := by intros; simp [boundaryFirst, hdraws, hstem, hbl, hboot, hpower, hink, hhost, htwin, hserif, hquill, hms, hrt, hfeed, hdx, hprog, hlig, hsheen, hvl, hsl, hresume, hentry, hmem]
@[simp] theorem periodBoundary_rest (P : Parts) (hdraws : P.draws = true) (hstem : P.stem = true) (hbl : P.bl = true) (hboot : P.boot = true) (hpower : P.power = true) (hink : P.ink = true) (hhost : P.host = true) (htwin : P.twin = true) (hhush : P.hush = true) (hserif : P.serif = true) (hquill : P.quill = true) (hms : P.ms = true) (hrt : P.rt = true) (hlife : P.life = true) (hfeed : P.feed = true) (hdx : P.dx = true) (hprog : P.prog = true) (hlig : P.lig = true) (hsheen : P.sheen = true) (hvl : P.vl = true) (hsl : P.sl = true) (hcb : P.cb = true) (hresume : P.resume = true) (hentry : P.entry = true) (hsheets : P.sheets = true) (hload : P.load = true) (hmem : P.mem = true) : ∀ (edge : Bool) (s : State), State.rest P (periodBoundary edge s) = State.rest P s := by intros; simp [periodBoundary, hdraws, hstem, hbl, hboot, hpower, hink, hhost, htwin, hhush, hserif, hquill, hms, hrt, hlife, hfeed, hdx, hprog, hlig, hsheen, hvl, hsl, hcb, hresume, hentry, hsheets, hload, hmem]
@[simp] theorem enterLocked_rest (P : Parts) (hbl : P.bl = true) (hboot : P.boot = true) (hpower : P.power = true) (hink : P.ink = true) (hhost : P.host = true) : ∀ (err : Int) (s : State), State.rest P (enterLocked err s) = State.rest P s := by intros; simp [enterLocked, hbl, hboot, hpower, hink, hhost]
@[simp] theorem causeEvent_rest (P : Parts) (hink : P.ink = true) (hhost : P.host = true) : ∀ (n q type : Nat) (payload : Bytes) (s : State), State.rest P (causeEvent n q type payload s) = State.rest P s := by intros; simp [causeEvent, hink, hhost]
@[simp] theorem sealFails_rest (P : Parts) (hink : P.ink = true) (hfeed : P.feed = true) (hsl : P.sl = true) : ∀ (c : Nat) (j : SealJob) (e : Nat × Nat) (s : State), State.rest P (sealFails c j e s) = State.rest P s := by intros; simp [sealFails, hink, hfeed, hsl]
@[simp] theorem sealJobEnds_rest (P : Parts) (hdraws : P.draws = true) (hink : P.ink = true) (hhost : P.host = true) (htwin : P.twin = true) (hrt : P.rt = true) (hfeed : P.feed = true) (hdx : P.dx = true) (hvl : P.vl = true) (hsl : P.sl = true) : ∀ (c : Nat) (j : SealJob) (bad : Option (Nat × Nat)) (s0 : State), State.rest P (sealJobEnds c j bad s0) = State.rest P s0 := by intros; (unfold sealJobEnds; repeat' (first | (simp [hdraws, hink, hhost, htwin, hrt, hfeed, hdx, hvl, hsl]; done) | split | (dsimp only; split) | (refine foldl_rest P _ _ _ ?_) | intro _))
@[simp] theorem listEnds_rest (P : Parts) (hfeed : P.feed = true) (hsl : P.sl = true) : ∀ (c : Nat) (o : Option SealRun) (s : State), State.rest P (listEnds c o s) = State.rest P s := by intros; (unfold listEnds; repeat' (first | (simp [hfeed, hsl]; done) | split))
@[simp] theorem sealListEnds_rest (P : Parts) (hfeed : P.feed = true) (hsl : P.sl = true) : ∀ (c : Nat) (bad : Option (Nat × Nat)) (s : State), State.rest P (sealListEnds c bad s) = State.rest P s := by intros; (unfold sealListEnds; repeat' (first | (simp [hfeed, hsl]; done) | split))
@[simp] theorem sealJobDone_rest (P : Parts) (hdraws : P.draws = true) (hink : P.ink = true) (hhost : P.host = true) (htwin : P.twin = true) (hrt : P.rt = true) (hfeed : P.feed = true) (hdx : P.dx = true) (hvl : P.vl = true) (hsl : P.sl = true) : ∀ (c : Nat) (bad : Option (Nat × Nat)) (s : State), State.rest P (sealJobDone c bad s) = State.rest P s := by intros; (unfold sealJobDone; repeat' (first | (simp [hdraws, hink, hhost, htwin, hrt, hfeed, hdx, hvl, hsl]; done) | split))
@[simp] theorem perstReset_rest (P : Parts) (hboot : P.boot = true) (hhost : P.host = true) : ∀ (pin : Bool) (s : State), State.rest P (perstReset pin s) = State.rest P s := by intros; simp [perstReset, hboot, hhost]
@[simp] theorem linkDropped_rest (P : Parts) (hboot : P.boot = true) (hhost : P.host = true) (hvl : P.vl = true) : ∀ (s : State), State.rest P (linkDropped s) = State.rest P s := by intros; simp [linkDropped, hboot, hhost, hvl]
@[simp] theorem i2cRead_rest (P : Parts) (hhost : P.host = true) : ∀ (ptr n : Nat) (s : State), State.rest P (i2cRead ptr n s) = State.rest P s := by intros; simp [i2cRead, hhost]
@[simp] theorem sealRunBody_rest (P : Parts) (hdraws : P.draws = true) (hsl : P.sl = true) : ∀ (x : Ctx) (s : State), State.rest P (sealRunBody x s).st = State.rest P s := by intros; (unfold sealRunBody; repeat' (first | (simp [hdraws, hsl]; done) | split | (dsimp only; split) | (refine foldl_rest P _ _ _ ?_) | intro _))
@[simp] theorem placeOne_rest (P : Parts) (hprog : P.prog = true) : ∀ (k old : Nat) (s : State), State.rest P (placeOne k old s) = State.rest P s := by intros; simp [placeOne, hprog]
@[simp] theorem swapTo_rest (P : Parts) (hink : P.ink = true) (hhost : P.host = true) (hrt : P.rt = true) (hdx : P.dx = true) (hvl : P.vl = true) : ∀ (m : Migration) (same : Bool) (s : State), State.rest P (swapTo m same s) = State.rest P s := by intros; simp [swapTo, hink, hhost, hrt, hdx, hvl]
@[simp] theorem imageFails_rest (P : Parts) (hink : P.ink = true) (hhost : P.host = true) (hprog : P.prog = true) : ∀ (s : State) (id : Nat × Nat), State.rest P (imageFails s id) = State.rest P s := by intros; (unfold imageFails; repeat' (first | (simp [hink, hhost, hprog]; done) | split | (dsimp only; split) | (refine foldl_rest P _ _ _ ?_) | intro _))
@[simp] theorem pageFetch_rest (P : Parts) (hdraws : P.draws = true) (hpower : P.power = true) (hink : P.ink = true) (hhost : P.host = true) : ∀ (fuel off : Nat) (s : State), State.rest P (pageFetch fuel off s).2 = State.rest P s := by intros; (rename_i k o s; induction k generalizing o s with | zero => rfl | succ k ih => (unfold pageFetch; dsimp only; rw [ih]; simp [hdraws, hpower, hink, hhost]))
@[simp] theorem hostWaitExpires_rest (P : Parts) (hboot : P.boot = true) (hhost : P.host = true) : ∀ (s : State), State.rest P (hostWaitExpires s) = State.rest P s := by intros; simp [hostWaitExpires, hboot, hhost]
@[simp] theorem peerConnect_rest (P : Parts) (hms : P.ms = true) : ∀ (member key msId ip : Nat) (s : State), State.rest P (peerConnect member key msId ip s) = State.rest P s := by intros; simp [peerConnect, hms]
@[simp] theorem releaseHolds_rest (P : Parts) (hboot : P.boot = true) (hpower : P.power = true) (hink : P.ink = true) (hhost : P.host = true) (hhush : P.hush = true) (hvl : P.vl = true) : ∀ (s : State), State.rest P (releaseHolds s) = State.rest P s := by intros; simp [releaseHolds, hboot, hpower, hink, hhost, hhush, hvl]
@[simp] theorem ackRx_rest (P : Parts) (hms : P.ms = true) : ∀ (via member origin number st : Nat) (s0 : State), State.rest P (ackRx via member origin number st s0) = State.rest P s0 := by intros; (unfold ackRx; repeat' (first | (simp [hms]; done) | split | (dsimp only; split) | (refine foldl_rest P _ _ _ ?_) | intro _))
@[simp] theorem toggleHushOut_rest (P : Parts) (hhush : P.hush = true) : ∀ (s : State), State.rest P (toggleHushOut s) = State.rest P s := by intros; simp [toggleHushOut, hhush]
@[simp] theorem barWrite_rest (P : Parts) (hdraws : P.draws = true) (hboot : P.boot = true) (hpower : P.power = true) (hink : P.ink = true) (hhost : P.host = true) (hsl : P.sl = true) : ∀ (v : Via) (off : Nat) (b : Bytes) (s : State), State.rest P (barWrite v off b s) = State.rest P s := by intros; simp [barWrite, hdraws, hboot, hpower, hink, hhost, hsl]
@[simp] theorem pageWords_rest (P : Parts) (hdraws : P.draws = true) (hboot : P.boot = true) (hpower : P.power = true) (hink : P.ink = true) (hhost : P.host = true) (hsl : P.sl = true) : ∀ (fuel off : Nat) (b : Bytes) (s : State), State.rest P (pageWords fuel off b s) = State.rest P s := by intros; (rename_i k o b s; induction k generalizing o b s with | zero => rfl | succ k ih => (unfold pageWords; split; rfl; (rw [ih]; simp [hdraws, hboot, hpower, hink, hhost, hsl])))
@[simp] theorem windowWrite_rest (P : Parts) (hboot : P.boot = true) (hink : P.ink = true) (hfeed : P.feed = true) (hsheets : P.sheets = true) (hload : P.load = true) : ∀ (v : Via) (off : Nat) (b : Bytes) (s : State), State.rest P (windowWrite v off b s) = State.rest P s := by intros; simp [windowWrite, hboot, hink, hfeed, hsheets, hload]
@[simp] theorem hspiStore_rest (P : Parts) (hdraws : P.draws = true) (hboot : P.boot = true) (hpower : P.power = true) (hink : P.ink = true) (hhost : P.host = true) (hfeed : P.feed = true) (hsl : P.sl = true) (hsheets : P.sheets = true) (hload : P.load = true) : ∀ (a : Nat) (b : Bytes) (s : State), State.rest P (hspiStore a b s) = State.rest P s := by intros; simp [hspiStore, hdraws, hboot, hpower, hink, hhost, hfeed, hsl, hsheets, hload]
@[simp] theorem hspiCommit_rest (P : Parts) (hdraws : P.draws = true) (hboot : P.boot = true) (hpower : P.power = true) (hink : P.ink = true) (hhost : P.host = true) (hfeed : P.feed = true) (hsl : P.sl = true) (hsheets : P.sheets = true) (hload : P.load = true) : ∀ (s : State), State.rest P (hspiCommit s) = State.rest P s := by intros; (unfold hspiCommit; split <;> simp [hdraws, hboot, hpower, hink, hhost, hfeed, hsl, hsheets, hload])
@[simp] theorem hspiFetch_rest (P : Parts) (hdraws : P.draws = true) (hpower : P.power = true) (hink : P.ink = true) (hhost : P.host = true) : ∀ (a n : Nat) (s : State), State.rest P (hspiFetch a n s).2 = State.rest P s := by intros; (unfold hspiFetch; repeat' (first | (simp [hdraws, hpower, hink, hhost]; done) | split))
@[simp] theorem hspiUnits_rest (P : Parts) (hdraws : P.draws = true) (hpower : P.power = true) (hink : P.ink = true) (hhost : P.host = true) : ∀ (fuel a n : Nat) (s : State), State.rest P (hspiUnits fuel a n s).2 = State.rest P s := by intros; (rename_i k a n s; induction k generalizing a n s with | zero => rfl | succ k ih => (unfold hspiUnits; split; rfl; (dsimp only; split; (dsimp only; split <;> simp [hdraws, hpower, hink, hhost]); (dsimp only; rw [ih]; simp [hdraws, hpower, hink, hhost]))))
@[simp] theorem hspiRead_rest (P : Parts) (hdraws : P.draws = true) (hboot : P.boot = true) (hpower : P.power = true) (hink : P.ink = true) (hhost : P.host = true) (hfeed : P.feed = true) (hsl : P.sl = true) (hsheets : P.sheets = true) (hload : P.load = true) : ∀ (a n : Nat) (onTime : Bool) (s0 : State), State.rest P (hspiRead a n onTime s0) = State.rest P s0 := by intros; simp [hspiRead, hdraws, hboot, hpower, hink, hhost, hfeed, hsl, hsheets, hload]
@[simp] theorem boundPhase_rest (P : Parts) (hbl : P.bl = true) : ∀ (s : State), State.rest P (boundPhase s) = State.rest P s := by intros; simp [boundPhase, hbl]
@[simp] theorem placeAfresh_rest (P : Parts) (hprog : P.prog = true) : ∀ (s : State), State.rest P (placeAfresh s) = State.rest P s := by intros; simp [placeAfresh, hprog]
@[simp] theorem restartMeters_rest (P : Parts) (hsheen : P.sheen = true) : ∀ (s : State), State.rest P (restartMeters s) = State.rest P s := by intros; simp [restartMeters, hsheen]
@[simp] theorem stemRelock_rest (P : Parts) (hstem : P.stem = true) (hbl : P.bl = true) (hpower : P.power = true) (hink : P.ink = true) (hhost : P.host = true) (hserif : P.serif = true) (hdx : P.dx = true) (hprog : P.prog = true) (hlig : P.lig = true) (hsheen : P.sheen = true) (hvl : P.vl = true) : ∀ (s : State), State.rest P (stemRelock s) = State.rest P s := by intros; (unfold stemRelock; repeat' (first | (simp [hstem, hbl, hpower, hink, hhost, hserif, hdx, hprog, hlig, hsheen, hvl]; done) | split))
@[simp] theorem answerTests_rest (P : Parts) (hink : P.ink = true) (hrt : P.rt = true) : ∀ (n : Nat) (failed : Option Nat) (s : State), State.rest P (answerTests n failed s) = State.rest P s := by intros; simp [answerTests, hink, hrt]
@[simp] theorem passEnds_rest (P : Parts) (hink : P.ink = true) (hhost : P.host = true) (hrt : P.rt = true) (hdx : P.dx = true) (hvl : P.vl = true) : ∀ (n : Nat) (s : State), State.rest P (passEnds n s) = State.rest P s := by intros; (unfold passEnds; repeat' (first | (simp [hink, hhost, hrt, hdx, hvl]; done) | split | (dsimp only; split) | (refine foldl_rest P _ _ _ ?_) | intro _))
@[simp] theorem classACompletes_rest (P : Parts) (hink : P.ink = true) (hhost : P.host = true) (hdx : P.dx = true) (hvl : P.vl = true) : ∀ (whole : Bool) (t : Nat) (s : State), State.rest P (classACompletes whole t s) = State.rest P s := by intros; simp [classACompletes, hink, hhost, hdx, hvl]
@[simp] theorem sampleOutputs_rest (P : Parts) (hbl : P.bl = true) (hink : P.ink = true) (hhost : P.host = true) (htwin : P.twin = true) (hserif : P.serif = true) (hquill : P.quill = true) (hvl : P.vl = true) : ∀ (on : Bool) (s : State), State.rest P (sampleOutputs on s) = State.rest P s := by intros; simp [sampleOutputs, hbl, hink, hhost, htwin, hserif, hquill, hvl]
@[simp] theorem readinessDeadline_rest (P : Parts) (hink : P.ink = true) (hhost : P.host = true) (hms : P.ms = true) (hprog : P.prog = true) : ∀ (unready corrupt : List (Nat × Nat)) (s : State), State.rest P (readinessDeadline unready corrupt s) = State.rest P s := by intros; simp [readinessDeadline, hink, hhost, hms, hprog]
@[simp] theorem startCheck_rest (P : Parts) (htwin : P.twin = true) : ∀ (period : Nat) (s : State), State.rest P (startCheck period s) = State.rest P s := by intros; simp [startCheck, htwin]
@[simp] theorem perstAssert_rest (P : Parts) (hboot : P.boot = true) (hhost : P.host = true) (hvl : P.vl = true) : ∀ (s : State), State.rest P (perstAssert s) = State.rest P s := by intros; simp [perstAssert, hboot, hhost, hvl]
@[simp] theorem goodFrame_rest (P : Parts) (hink : P.ink = true) (hhost : P.host = true) (hserif : P.serif = true) (hvl : P.vl = true) : ∀ (n bits : Nat) (s : State), State.rest P (goodFrame n bits s) = State.rest P s := by intros; simp [goodFrame, hink, hhost, hserif, hvl]
@[simp] theorem frameRx_rest (P : Parts) (hbl : P.bl = true) (hink : P.ink = true) (hhost : P.host = true) (htwin : P.twin = true) (hserif : P.serif = true) (hvl : P.vl = true) : ∀ (n len bits : Nat) (s : State), State.rest P (frameRx n len bits s) = State.rest P s := by intros; simp [frameRx, hbl, hink, hhost, htwin, hserif, hvl]
@[simp] theorem stemLocks_rest (P : Parts) (hstem : P.stem = true) (hbl : P.bl = true) (hink : P.ink = true) (hhost : P.host = true) (hserif : P.serif = true) : ∀ (s : State), State.rest P (stemLocks s) = State.rest P s := by intros; simp [stemLocks, hstem, hbl, hink, hhost, hserif]
@[simp] theorem modeSetArm_rest (P : Parts) (hpower : P.power = true) (hink : P.ink = true) (hprog : P.prog = true) : ∀ (x : Ctx) (s : State), State.rest P (modeSetArm x s).st = State.rest P s := by intros; (unfold modeSetArm; split <;> simp [hpower, hink, hprog])
@[simp] theorem tlsDone_rest (P : Parts) (hink : P.ink = true) : ∀ (s : State), State.rest P (tlsDone s) = State.rest P s := by intros; simp [tlsDone, hink]
@[simp] theorem compareDigest_rest (P : Parts) (hink : P.ink = true) (hhost : P.host = true) (htwin : P.twin = true) : ∀ (period digest : Nat) (miss : Bool) (s : State), State.rest P (compareDigest period digest miss s) = State.rest P s := by intros; (unfold compareDigest; repeat' (first | (simp [hink, hhost, htwin]; done) | split | (dsimp only; split) | (refine foldl_rest P _ _ _ ?_) | intro _))
@[simp] theorem announceTimeout_rest (P : Parts) (hbl : P.bl = true) (hink : P.ink = true) (hhost : P.host = true) (hquill : P.quill = true) : ∀ (n : Nat) (s : State), State.rest P (announceTimeout n s) = State.rest P s := by intros; simp [announceTimeout, hbl, hink, hhost, hquill]
@[simp] theorem ptpSyncTx_rest (P : Parts) (hquill : P.quill = true) : ∀ (n : Nat) (s : State), State.rest P (ptpSyncTx n s) = State.rest P s := by intros; simp [ptpSyncTx, hquill]
@[simp] theorem commitResend_rest (P : Parts) (hms : P.ms = true) : ∀ (number : Nat) (s : State), State.rest P (commitResend number s) = State.rest P s := by intros; (unfold commitResend; split <;> simp [hms])
@[simp] theorem portReceive_rest (P : Parts) (hbl : P.bl = true) (hink : P.ink = true) (hhost : P.host = true) (htwin : P.twin = true) (hserif : P.serif = true) (hvl : P.vl = true) : ∀ (n : Nat) (s : State), State.rest P (portReceive n s) = State.rest P s := by intros; (unfold portReceive; repeat' (first | (simp [hbl, hink, hhost, htwin, hserif, hvl]; done) | split | (dsimp only; split) | (refine foldl_rest P _ _ _ ?_) | intro _))
@[simp] theorem porReset_rest (P : Parts) (hdraws : P.draws = true) (hstem : P.stem = true) (hbl : P.bl = true) (hboot : P.boot = true) (hpower : P.power = true) (hink : P.ink = true) (hhost : P.host = true) (htwin : P.twin = true) (hhush : P.hush = true) (hserif : P.serif = true) (hquill : P.quill = true) (hms : P.ms = true) (hrt : P.rt = true) (hlife : P.life = true) (hfeed : P.feed = true) (hdx : P.dx = true) (hprog : P.prog = true) (hlig : P.lig = true) (hsheen : P.sheen = true) (hsl : P.sl = true) (hcb : P.cb = true) (hentry : P.entry = true) (hsheets : P.sheets = true) (hload : P.load = true) (hmem : P.mem = true) : ∀ (s : State), State.rest P (porReset s) = State.rest P s := by intros; simp [porReset, hdraws, hstem, hbl, hboot, hpower, hink, hhost, htwin, hhush, hserif, hquill, hms, hrt, hlife, hfeed, hdx, hprog, hlig, hsheen, hsl, hcb, hentry, hsheets, hload, hmem]
@[simp] theorem migrationSwap_rest (P : Parts) (hink : P.ink = true) (hhost : P.host = true) (hrt : P.rt = true) (hdx : P.dx = true) (hprog : P.prog = true) (hvl : P.vl = true) : ∀ (n : Nat) (same : Bool) (s : State), State.rest P (migrationSwap n same s) = State.rest P s := by intros; (unfold migrationSwap; split <;> simp [hink, hhost, hrt, hdx, hprog, hvl])
@[simp] theorem porRelease_rest (P : Parts) (hstem : P.stem = true) (hbl : P.bl = true) (hboot : P.boot = true) (hpower : P.power = true) (hink : P.ink = true) (hhost : P.host = true) (htwin : P.twin = true) (hhush : P.hush = true) (hserif : P.serif = true) (hvl : P.vl = true) : ∀ (xo : Bool) (s : State), State.rest P (porRelease xo s) = State.rest P s := by intros; simp [porRelease, hstem, hbl, hboot, hpower, hink, hhost, htwin, hhush, hserif, hvl]
@[simp] theorem noteTest_rest (P : Parts) (hrt : P.rt = true) : ∀ (n : Nat) (s : State), State.rest P (noteTest n s) = State.rest P s := by intros; simp [noteTest, hrt]
@[simp] theorem dispatchDone_rest (P : Parts) (hink : P.ink = true) (hhost : P.host = true) (htwin : P.twin = true) (hrt : P.rt = true) (hdx : P.dx = true) (hvl : P.vl = true) : ∀ (n : Nat) (good : Bool) (s' : State), State.rest P (dispatchDone n good s') = State.rest P s' := by intros; simp [dispatchDone, hink, hhost, htwin, hrt, hdx, hvl]
@[simp] theorem sessionOpen_rest (P : Parts) (hdraws : P.draws = true) (hink : P.ink = true) : ∀ (key : Nat) (s : State), State.rest P (sessionOpen key s) = State.rest P s := by intros; (unfold sessionOpen; repeat' (first | (simp [hdraws, hink]; done) | split | (dsimp only; split) | (refine foldl_rest P _ _ _ ?_) | intro _))
@[simp] theorem unitsMeet_rest (P : Parts) (htwin : P.twin = true) : ∀ (f : TwinStatus) (s : State), State.rest P (unitsMeet f s) = State.rest P s := by intros; simp [unitsMeet, htwin]
@[simp] theorem issueView_rest (P : Parts) (hink : P.ink = true) (hhost : P.host = true) (hms : P.ms = true) : ∀ (l : List Nat) (s : State), State.rest P (issueView l s) = State.rest P s := by intros; simp [issueView, hink, hhost, hms]
@[simp] theorem memberGone_rest (P : Parts) (hink : P.ink = true) (hhost : P.host = true) (hms : P.ms = true) : ∀ (m : Nat) (s : State), State.rest P (memberGone m s) = State.rest P s := by intros; (unfold memberGone; split <;> simp [hink, hhost, hms])
@[simp] theorem ductusWdt_rest (P : Parts) (hboot : P.boot = true) (hpower : P.power = true) (hink : P.ink = true) (hhost : P.host = true) (htwin : P.twin = true) (hdx : P.dx = true) (hvl : P.vl = true) : ∀ (s : State), State.rest P (ductusWdt s) = State.rest P s := by intros; simp [ductusWdt, hboot, hpower, hink, hhost, htwin, hdx, hvl]
@[simp] theorem present_rest (P : Parts) (hlife : P.life = true) : ∀ (ok : Bool) (p : Bytes) (s : State), State.rest P (present ok p s) = State.rest P s := by intros; simp [present, hlife]
@[simp] theorem cartGood_rest (P : Parts) (hhush : P.hush = true) (hfeed : P.feed = true) : ∀ (n : Nat) (s : State), State.rest P (cartGood n s) = State.rest P s := by intros; (unfold cartGood; split <;> simp [hhush, hfeed])
@[simp] theorem takeTemp_rest (P : Parts) (hhost : P.host = true) : ∀ (t : Int) (s : State), State.rest P (takeTemp t s) = State.rest P s := by intros; simp [takeTemp, hhost]
@[simp] theorem ltcOutFrame_rest (P : Parts) (hhost : P.host = true) : ∀ (k : Nat) (s : State), State.rest P (ltcOutFrame k s) = State.rest P s := by intros; simp [ltcOutFrame, hhost]
@[simp] theorem txPacket_rest (P : Parts) (hink : P.ink = true) (hhost : P.host = true) (hquill : P.quill = true) (hvl : P.vl = true) : ∀ (n : Nat) (s : State), State.rest P (txPacket n s) = State.rest P s := by intros; (unfold txPacket; split <;> simp [hink, hhost, hquill, hvl])
@[simp] theorem migrationCopy_rest (P : Parts) (hink : P.ink = true) (hhost : P.host = true) (hrt : P.rt = true) (hdx : P.dx = true) : ∀ (n : Nat) (s : State), State.rest P (migrationCopy n s) = State.rest P s := by intros; (unfold migrationCopy; split <;> simp [hink, hhost, hrt, hdx])
@[simp] theorem formWaitExpiry_rest (P : Parts) (htwin : P.twin = true) : ∀ (s : State), State.rest P (formWaitExpiry s) = State.rest P s := by intros; (unfold formWaitExpiry; repeat' (first | (simp [htwin]; done) | split | (dsimp only; split) | (refine foldl_rest P _ _ _ ?_) | intro _))
@[simp] theorem helloRx_rest (P : Parts) (hink : P.ink = true) (hhost : P.host = true) (hms : P.ms = true) : ∀ (h : MsHello) (s : State), State.rest P (helloRx h s) = State.rest P s := by intros; simp [helloRx, hink, hhost, hms]
@[simp] theorem twinGates_rest (P : Parts) (htwin : P.twin = true) (hserif : P.serif = true) : ∀ (s : State), State.rest P (twinGates s) = State.rest P s := by intros; (unfold twinGates; repeat' (first | (simp [htwin, hserif]; done) | split | (dsimp only; split) | (refine foldl_rest P _ _ _ ?_) | intro _))
@[simp] theorem sampleInputs_rest (P : Parts) (hbl : P.bl = true) (hboot : P.boot = true) (hpower : P.power = true) (hink : P.ink = true) (hhost : P.host = true) (htwin : P.twin = true) (hhush : P.hush = true) (hserif : P.serif = true) (hquill : P.quill = true) (hms : P.ms = true) (hdx : P.dx = true) (hprog : P.prog = true) (hlig : P.lig = true) (hsheen : P.sheen = true) (hvl : P.vl = true) (hsl : P.sl = true) (hresume : P.resume = true) (hentry : P.entry = true) : ∀ (s : State), State.rest P (sampleInputs s) = State.rest P s := by intros; (unfold sampleInputs; simp only [applyTimed_rest P hbl hboot hpower hink hhost htwin hquill hms hdx hprog hlig hsheen hvl hsl hresume hentry, endRouteFades_rest P hlig, endFades_rest P hprog, removeFaded_rest P hink hhost hms hprog hlig, advanceFades_rest P hpower hhush, hbl, hboot, hpower, hink, hhost, htwin, hhush, hserif, hquill, hms, hdx, hprog, hlig, hsheen, hvl, hsl, hresume, hentry]; rw [foldl_rest P _ _ _ (by intros; simp [hbl, hboot, hpower, hink, hhost, htwin, hhush, hserif, hquill, hms, hdx, hprog, hlig, hsheen, hvl, hsl, hresume, hentry])]; simp [hbl, hboot, hpower, hink, hhost, htwin, hhush, hserif, hquill, hms, hdx, hprog, hlig, hsheen, hvl, hsl, hresume, hentry])
@[simp] theorem ltcState_rest (P : Parts) (hink : P.ink = true) (hhost : P.host = true) : ∀ (new : Nat) (s : State), State.rest P (ltcState new s) = State.rest P s := by intros; simp [ltcState, hink, hhost]
@[simp] theorem packetNext_rest (P : Parts) (hquill : P.quill = true) : ∀ (p : MediaPacket) (s : State), State.rest P (packetNext p s) = State.rest P s := by intros; (unfold packetNext; repeat' (first | (simp [hquill]; done) | split))
@[simp] theorem writeRecord_rest (P : Parts) (hink : P.ink = true) (hhost : P.host = true) (hsheen : P.sheen = true) : ∀ (s : State), State.rest P (writeRecord s) = State.rest P s := by intros; (unfold writeRecord; repeat' (first | (simp [hink, hhost, hsheen]; done) | split | (dsimp only; split) | (refine foldl_rest P _ _ _ ?_) | intro _))
@[simp] theorem nonfinite_rest (P : Parts) (hink : P.ink = true) (hhost : P.host = true) (hprog : P.prog = true) (hvl : P.vl = true) : ∀ (s : State) (k : Nat), State.rest P (nonfinite s k) = State.rest P s := by intros; (unfold nonfinite; split <;> simp [hink, hhost, hprog, hvl])
@[simp] theorem computeSample_rest (P : Parts) (hink : P.ink = true) (hhost : P.host = true) (hms : P.ms = true) (hdx : P.dx = true) (hprog : P.prog = true) (hlig : P.lig = true) (hvl : P.vl = true) : ∀ (on : Bool) (s : State), State.rest P (computeSample on s) = State.rest P s := by intros; simp [computeSample, hink, hhost, hms, hdx, hprog, hlig, hvl]
@[simp] theorem sessionResume_rest (P : Parts) (hdraws : P.draws = true) (hink : P.ink = true) : ∀ (key tok lastEvt : Nat) (s : State), State.rest P (sessionResume key tok lastEvt s) = State.rest P s := by intros; (unfold sessionResume; repeat' (first | (simp [hdraws, hink]; done) | split | (dsimp only; split) | (refine foldl_rest P _ _ _ ?_) | intro _))
@[simp] theorem cbRunBody_rest (P : Parts) (hbl : P.bl = true) (hboot : P.boot = true) (hink : P.ink = true) (hhost : P.host = true) (hserif : P.serif = true) (hquill : P.quill = true) (hfeed : P.feed = true) (hprog : P.prog = true) (hvl : P.vl = true) (hcb : P.cb = true) (hmem : P.mem = true) : ∀ (x : Ctx) (s : State), State.rest P (cbRunBody x s).st = State.rest P s := by intros; (unfold cbRunBody; repeat' (first | (simp [hbl, hboot, hink, hhost, hserif, hquill, hfeed, hprog, hvl, hcb, hmem]; done) | split | (dsimp only; split) | (refine foldl_rest P _ _ _ ?_) | intro _))
@[simp] theorem linkTrained_rest (P : Parts) (hpower : P.power = true) (hhost : P.host = true) : ∀ (gen lanes : Nat) (s : State), State.rest P (linkTrained gen lanes s) = State.rest P s := by intros; simp [linkTrained, hpower, hhost]
@[simp] theorem captureSinks_rest (P : Parts) (hsl : P.sl = true) : ∀ (s : State), State.rest P (captureSinks s) = State.rest P s := by intros; simp [captureSinks, hsl]
@[simp] theorem mediaPacket_rest (P : Parts) (hink : P.ink = true) (hhost : P.host = true) (hquill : P.quill = true) : ∀ (p : MediaPacket) (s : State), State.rest P (mediaPacket p s) = State.rest P s := by intros; simp [mediaPacket, hink, hhost, hquill]
@[simp] theorem voteDeadline_rest (P : Parts) (hink : P.ink = true) (hhost : P.host = true) (htwin : P.twin = true) (hms : P.ms = true) : ∀ (number : Nat) (s : State), State.rest P (voteDeadline number s) = State.rest P s := by intros; (unfold voteDeadline; split <;> simp [hink, hhost, htwin, hms])
@[simp] theorem coverage_rest (P : Parts) (hink : P.ink = true) (hhost : P.host = true) (hrt : P.rt = true) (hvl : P.vl = true) : ∀ (n : Nat) (s : State), State.rest P (coverage n s) = State.rest P s := by intros; simp [coverage, hink, hhost, hrt, hvl]
@[simp] theorem writeSheet_rest (P : Parts) (hink : P.ink = true) (hfeed : P.feed = true) (hsheets : P.sheets = true) : ∀ (h : Nat) (b : Bytes) (s : State), State.rest P (writeSheet h b s) = State.rest P s := by intros; simp [writeSheet, hink, hfeed, hsheets]
@[simp] theorem promoteBody_rest (P : Parts) (hink : P.ink = true) (htwin : P.twin = true) : ∀ (x : Ctx) (s : State), State.rest P (promoteBody x s).st = State.rest P s := by intros; (unfold promoteBody; repeat' (first | (simp [hink, htwin]; done) | split))
@[simp] theorem digestReady_rest (P : Parts) (htwin : P.twin = true) (hsl : P.sl = true) : ∀ (s : State), State.rest P (digestReady s) = State.rest P s := by intros; (unfold digestReady; split <;> simp [htwin, hsl])
@[simp] theorem jtagScan_rest (P : Parts) (hpower : P.power = true) (hhush : P.hush = true) (hlife : P.life = true) : ∀ (s : State), State.rest P (jtagScan s) = State.rest P s := by intros; simp [jtagScan, hpower, hhush, hlife]
@[simp] theorem jtagReset_rest (P : Parts) (hlife : P.life = true) : ∀ (s : State), State.rest P (jtagReset s) = State.rest P s := by intros; simp [jtagReset, hlife]
@[simp] theorem xbusBody_rest (P : Parts) (hms : P.ms = true) (hprog : P.prog = true) (hlig : P.lig = true) : ∀ (x : Ctx) (s : State), State.rest P (xbusBody x s).st = State.rest P s := by intros; (unfold xbusBody; repeat' (first | (simp [hms, hprog, hlig]; done) | split | (dsimp only; split) | (refine foldl_rest P _ _ _ ?_) | intro _))
@[simp] theorem cartPoisoned_rest (P : Parts) (htwin : P.twin = true) (hhush : P.hush = true) (hfeed : P.feed = true) : ∀ (n : Nat) (s : State), State.rest P (cartPoisoned n s) = State.rest P s := by intros; (unfold cartPoisoned; split <;> simp [htwin, hhush, hfeed])
@[simp] theorem xoStops_rest (P : Parts) (hstem : P.stem = true) (hbl : P.bl = true) (hboot : P.boot = true) (hpower : P.power = true) (hink : P.ink = true) (hhost : P.host = true) (htwin : P.twin = true) (hhush : P.hush = true) (hserif : P.serif = true) (hquill : P.quill = true) (hms : P.ms = true) (hrt : P.rt = true) (hlife : P.life = true) (hfeed : P.feed = true) (hdx : P.dx = true) (hprog : P.prog = true) (hlig : P.lig = true) (hsheen : P.sheen = true) (hvl : P.vl = true) (hsl : P.sl = true) (hcb : P.cb = true) (hentry : P.entry = true) (hsheets : P.sheets = true) (hload : P.load = true) (hmem : P.mem = true) : ∀ (s : State), State.rest P (xoStops s) = State.rest P s := by intros; simp [xoStops, hstem, hbl, hboot, hpower, hink, hhost, htwin, hhush, hserif, hquill, hms, hrt, hlife, hfeed, hdx, hprog, hlig, hsheen, hvl, hsl, hcb, hentry, hsheets, hload, hmem]
@[simp] theorem readRegs_rest (P : Parts) (hstem : P.stem = true) (hhost : P.host = true) (hhush : P.hush = true) (hfeed : P.feed = true) (hdx : P.dx = true) (hprog : P.prog = true) (hsheen : P.sheen = true) (hvl : P.vl = true) (hsl : P.sl = true) (hcb : P.cb = true) : ∀ (i : Nat) (a : List Nat) (a_1 : State), State.rest P (readRegs i a a_1).2 = State.rest P a_1 := by intros; (rename_i i l s; induction l generalizing s with | nil => rfl | cons o l ih => (unfold readRegs; dsimp only; rw [ih]; simp [hstem, hhost, hhush, hfeed, hdx, hprog, hsheen, hvl, hsl, hcb]))
@[simp] theorem cartRead_rest (P : Parts) (hink : P.ink = true) (hhost : P.host = true) (htwin : P.twin = true) (hhush : P.hush = true) (hfeed : P.feed = true) (hvl : P.vl = true) : ∀ (n : Nat) (single bad : Bool) (s : State), State.rest P (cartRead n single bad s) = State.rest P s := by intros; (unfold cartRead; repeat' (first | (simp [hink, hhost, htwin, hhush, hfeed, hvl]; done) | split))
@[simp] theorem cartWrite_rest (P : Parts) (hink : P.ink = true) (hhost : P.host = true) (hfeed : P.feed = true) (hvl : P.vl = true) : ∀ (n : Nat) (l : List (Bytes × Bool)) (s : State), State.rest P (cartWrite n l s) = State.rest P s := by intros; simp [cartWrite, hink, hhost, hfeed, hvl]
@[simp] theorem hspiWrite_rest (P : Parts) (hhost : P.host = true) : ∀ (a : Nat) (b : Bytes) (s : State), State.rest P (hspiWrite a b s) = State.rest P s := by intros; simp [hspiWrite, hhost]
@[simp] theorem withdraw_rest (P : Parts) (htwin : P.twin = true) (hms : P.ms = true) : ∀ (a : Armed) (s : State), State.rest P (withdraw a s) = State.rest P s := by intros; (unfold withdraw; split <;> simp [htwin, hms])
@[simp] theorem sampleTick_rest (P : Parts) (hstem : P.stem = true) (hbl : P.bl = true) (hboot : P.boot = true) (hpower : P.power = true) (hink : P.ink = true) (hhost : P.host = true) (htwin : P.twin = true) (hhush : P.hush = true) (hserif : P.serif = true) (hquill : P.quill = true) (hms : P.ms = true) (hdx : P.dx = true) (hprog : P.prog = true) (hlig : P.lig = true) (hsheen : P.sheen = true) (hvl : P.vl = true) (hsl : P.sl = true) (hresume : P.resume = true) (hentry : P.entry = true) : ∀ (s : State), State.rest P (sampleTick s) = State.rest P s := by intros; simp [sampleTick, hstem, hbl, hboot, hpower, hink, hhost, htwin, hhush, hserif, hquill, hms, hdx, hprog, hlig, hsheen, hvl, hsl, hresume, hentry]
@[simp] theorem setSelect_rest (P : Parts) (hbl : P.bl = true) : ∀ (mode ref : Nat) (s : State), State.rest P (setSelect mode ref s) = State.rest P s := by intros; simp [setSelect, hbl]
@[simp] theorem ltcLost_rest (P : Parts) (hink : P.ink = true) (hhost : P.host = true) : ∀ (s : State), State.rest P (ltcLost s) = State.rest P s := by intros; simp [ltcLost, hink, hhost]
@[simp] theorem msBegin_rest (P : Parts) (hms : P.ms = true) : ∀ (s : State), State.rest P (msBegin s) = State.rest P s := by intros; simp [msBegin, hms]
@[simp] theorem offsetError_rest (P : Parts) (hink : P.ink = true) (hhost : P.host = true) (hquill : P.quill = true) : ∀ (n : Nat) (s : State), State.rest P (offsetError n s) = State.rest P s := by intros; (unfold offsetError; split <;> simp [hink, hhost, hquill])
@[simp] theorem orderResend_rest (P : Parts) (hfeed : P.feed = true) : ∀ (s : State), State.rest P (orderResend s) = State.rest P s := by intros; (unfold orderResend; split <;> simp [hfeed])
@[simp] theorem nibReadmit_rest (P : Parts) (hink : P.ink = true) (hhost : P.host = true) (hdx : P.dx = true) : ∀ (n : Nat) (s : State), State.rest P (nibReadmit n s) = State.rest P s := by intros; simp [nibReadmit, hink, hhost, hdx]

end Machine
end Sys2Proof
end

