-- ==== Sys2Proof/Laws/Rest2.lean ====
section
/-! SUPPORT. What each Sprinile command keeps. -/

set_option linter.unusedTactic false
set_option linter.unreachableTactic false
set_option linter.unusedSimpArgs false
set_option linter.unusedVariables false
set_option linter.style.longLine false
set_option linter.style.nameCheck false

namespace Sys2Proof
namespace Machine

/-- What a command answers keeps the queue and the variant, and so do the events after its reply. -/
def Res.Keeps (P : Parts) (q : Res) (s : State) : Prop := q.st.rest P = s.rest P ∧ ∀ t, (q.after t).rest P = t.rest P

/-- A command keeps them, whether it is executed at once or armed. -/
def Cmd.Keeps (P : Parts) (c : Cmd) : Prop :=
  (∀ x s, (c.body x s).Keeps P s) ∧ ∀ x s, match c.arm with | some f => (f x s).Keeps P s | none => True

@[simp] theorem withFrame_rest (P : Parts) (htwin : P.twin = true) (h : TwinHead) (f : State → State) (s : State) (hf : ∀ t, (f t).rest P = t.rest P) :
    (withFrame h f s).rest P = s.rest P := by
  unfold withFrame; split; rfl; split; exact modTwin_rest P htwin _ _; rw [hf]; exact modTwin_rest P htwin _ _

@[simp] theorem withLink_rest (P : Parts) (htwin : P.twin = true) (h : TwinHead) (f : State → State) (s : State) (hf : ∀ t, (f t).rest P = t.rest P) :
    (withLink h f s).rest P = s.rest P := by
  unfold withLink; exact withFrame_rest P htwin _ _ _ (by intro t; split; exact hf t; rfl)

@[simp] theorem authorised_rest (P : Parts) (hlife : P.life = true) (action : Nat) (x : Ctx) (s : State) (f : State → State) (hf : ∀ t, (f t).rest P = t.rest P) :
    (authorised action x s f).st.rest P = s.rest P := by
  unfold authorised; repeat' (first | (simp [hf, hlife]; done) | split | (dsimp only; split))

@[simp] theorem authorised_after (P : Parts) (hlife : P.life = true) (action : Nat) (x : Ctx) (s : State) (f : State → State) (t : State) :
    ((authorised action x s f).after t).rest P = t.rest P := by
  unfold authorised; repeat' (first | rfl | split | (dsimp only; split))

@[simp] theorem streamRead_rest (P : Parts) (x : Ctx) (n : Nat) (r : Res) (s : State) (hr : r.st.rest P = s.rest P) :
    (streamRead x n r s).st.rest P = s.rest P := by
  unfold streamRead; split; exact hr; split <;> rfl

@[simp] theorem streamRead_after (P : Parts) (x : Ctx) (n : Nat) (r : Res) (s t : State) (hr : (r.after t).rest P = t.rest P) :
    ((streamRead x n r s).after t).rest P = t.rest P := by
  unfold streamRead; split; exact hr; split <;> rfl

theorem armCurrent_rest (P : Parts) (hink : P.ink = true) (hprog : P.prog = true) (c : Nat × Nat × Nat) (s t : State) (h : armCurrent c s = some t) : t.rest P = s.rest P := by
  unfold armCurrent at h
  split at h
  · cases h
  · rw [Option.ite_none_right_eq_some] at h
    have h := Option.some.inj h.2
    rw [← h]
    exact armRecall_rest P hink hprog _ _ _ _ _ _ _ _

@[simp] theorem askJoin_rest (P : Parts) (hink : P.ink = true) (hhost : P.host = true) (hms : P.ms = true) (hprog : P.prog = true) (via : Nat) (members : List Nat) (scene : Option (Nat × Nat × Nat)) (s : State) :
    (askJoin via members scene s).rest P = s.rest P := by
  unfold askJoin; dsimp only
  repeat' (first | (simp [hink, hhost, hms, hprog]; done) | split)
  all_goals (rename_i h; simp [armCurrent_rest P hink hprog _ _ _ h, hink, hhost, hms, hprog])

@[simp] theorem armAction_rest (P : Parts) (hink : P.ink = true) (op : Nat) (x : Ctx) (q : Res) (s : State) (h : q.st.rest P = s.rest P) :
    (armAction op x q s).st.rest P = s.rest P := by
  unfold armAction; split; simp [hink]; exact h

@[simp] theorem armAction_after (P : Parts) (hink : P.ink = true) (op : Nat) (x : Ctx) (q : Res) (s t : State) (h : (q.after t).rest P = t.rest P) :
    ((armAction op x q s).after t).rest P = t.rest P := by
  unfold armAction; split; rfl; exact h

@[simp] theorem perform_keeps (P : Parts) (hink : P.ink = true) (op : Nat) (c : Cmd) (x : Ctx) (s : State) (h : c.Keeps P) : (perform op c x s).Keeps P s := by
  unfold perform
  split
  · have ha := h.2 x s
    split
    · rename_i f hf; rw [hf] at ha; exact ha
    · have hb := h.1 { x with timed := false } s
      exact ⟨armAction_rest P hink _ _ _ _ hb.1, fun t => armAction_after P hink _ _ _ _ t (hb.2 t)⟩
  · exact h.1 x s

@[simp] theorem issueInternal_rest (P : Parts) (hink : P.ink = true) (htwin : P.twin = true) (op : Nat) (c : Cmd) (x : Ctx) (s : State) (h : c.Keeps P) : (issueInternal op c x s).2.rest P = s.rest P := by
  unfold issueInternal
  split
  · rfl
  · have hp := perform_keeps P hink op c x s h
    dsimp only
    split
    · simp only [journal_rest P htwin, hink, htwin]; rw [hp.2, hp.1]
    · rfl

@[simp] theorem cmdRestart_keeps (P : Parts) (hdraws : P.draws = true) (hboot : P.boot = true) (hink : P.ink = true) (hhost : P.host = true) (hfeed : P.feed = true) (hvl : P.vl = true) (hmem : P.mem = true) : cmdRestart.Keeps P := by
  refine ⟨fun x s => ?_, fun x s => by simp [cmdRestart]⟩
  rcases Decidable.em (u8 x.p 0 = 1) with h | h
  · have e : cmdRestart.body x s = { st := s, after := fun t => rebootDue (vellumCount 9 t) } := if_pos h
    rw [e]
    exact ⟨rfl, fun t => by simp [hboot, hvl]⟩
  · have e : cmdRestart.body x s = { st := s, after := scribeRestart 4 9 } := if_neg h
    rw [e]
    refine ⟨rfl, fun t => ?_⟩
    dsimp only
    generalize 4 = c, 9 = d
    simp [hdraws, hboot, hink, hhost, hfeed, hvl, hmem]

@[simp] theorem fail_after (P : Parts) : ∀ (st : Status) (s : State) (data : Bytes) (t : State), State.rest P ((fail st s data).after t) = State.rest P t := by intros; rfl
@[simp] theorem answer_after (P : Parts) : ∀ (data : Bytes) (s t : State), State.rest P ((answer data s).after t) = State.rest P t := by intros; rfl
@[simp] theorem modeSetBody_after (P : Parts) (hpower : P.power = true) (hprog : P.prog = true) : ∀ (x : Ctx) (s t : State), State.rest P ((modeSetBody x s).after t) = State.rest P t := by intros; (unfold modeSetBody; repeat' (first | rfl | (simp [hpower, hprog]; done) | split | (dsimp only; split) | (refine foldl_rest P _ _ _ ?_) | intro _))
@[simp] theorem cmdCbAbort_keeps (P : Parts) (hcb : P.cb = true) : Cmd.Keeps P cmdCbAbort := by intros; (refine ⟨fun x s => ⟨?_, fun t => ?_⟩, fun x s => ?_⟩ <;> simp [cmdCbAbort, Res.Keeps, hcb])
@[simp] theorem cmdBtStatusGet_keeps (P : Parts) : Cmd.Keeps P cmdBtStatusGet := by intros; (refine ⟨fun x s => ⟨?_, fun t => ?_⟩, fun x s => ?_⟩ <;> simp [cmdBtStatusGet, Res.Keeps])
@[simp] theorem rateSetBody_after (P : Parts) (hstem : P.stem = true) (hink : P.ink = true) (hhost : P.host = true) (hserif : P.serif = true) (hprog : P.prog = true) : ∀ (x : Ctx) (s t : State), State.rest P ((rateSetBody x s).after t) = State.rest P t := by intros; (unfold rateSetBody; repeat' (first | rfl | (simp [hstem, hink, hhost, hserif, hprog]; done) | split | (dsimp only; split) | (refine foldl_rest P _ _ _ ?_) | intro _))
@[simp] theorem cmdInstList_keeps (P : Parts) : Cmd.Keeps P cmdInstList := by intros; (refine ⟨fun x s => ⟨?_, fun t => ?_⟩, fun x s => ?_⟩ <;> simp [cmdInstList, Res.Keeps])
@[simp] theorem cmdCartStatusGet_keeps (P : Parts) : Cmd.Keeps P cmdCartStatusGet := by intros; (refine ⟨fun x s => ⟨?_, fun t => ?_⟩, fun x s => ?_⟩ <;> simp [cmdCartStatusGet, Res.Keeps])
@[simp] theorem cmdNetTxGet_keeps (P : Parts) : Cmd.Keeps P cmdNetTxGet := by intros; (refine ⟨fun x s => ⟨?_, fun t => ?_⟩, fun x s => ?_⟩ <;> simp [cmdNetTxGet, Res.Keeps])
@[simp] theorem sealQueue_after (P : Parts) (hsl : P.sl = true) : ∀ (j : SealJob) (s t : State), State.rest P ((sealQueue j s).after t) = State.rest P t := by intros; (unfold sealQueue; repeat' (first | rfl | (simp [hsl]; done) | split | (dsimp only; split) | (refine foldl_rest P _ _ _ ?_) | intro _))
@[simp] theorem armRecall_after (P : Parts) (hink : P.ink = true) (hprog : P.prog = true) : ∀ (op : Nat) (x : Ctx) (num : Nat) (sc : Scene) (scope flags at_ : Nat) (s t : State), State.rest P ((armRecall op x num sc scope flags at_ s).after t) = State.rest P t := by intros; (unfold armRecall; repeat' (first | rfl | (simp [hink, hprog]; done) | split | (dsimp only; split) | (refine foldl_rest P _ _ _ ?_) | intro _))
@[simp] theorem recallBody_after (P : Parts) (hink : P.ink = true) (hprog : P.prog = true) : ∀ (x : Ctx) (s t : State), State.rest P ((recallBody x s).after t) = State.rest P t := by intros; (unfold recallBody; repeat' (first | rfl | (simp [hink, hprog]; done) | split | (dsimp only; split) | (refine foldl_rest P _ _ _ ?_) | intro _))
@[simp] theorem cmdFolioRead_keeps (P : Parts) : Cmd.Keeps P cmdFolioRead := by intros; (refine ⟨fun x s => ⟨?_, fun t => ?_⟩, fun x s => ?_⟩ <;> simp only [cmdFolioRead, Res.Keeps] <;> repeat' (first | rfl | trivial | (simp ; done) | split | (dsimp only; split) | (refine ⟨?_, ?_⟩) | (refine foldl_rest P _ _ _ ?_) | intro _))
@[simp] theorem cmdLcReturn_keeps (P : Parts) (hlife : P.life = true) : Cmd.Keeps P cmdLcReturn := by intros; (refine ⟨fun x s => ⟨?_, fun t => ?_⟩, fun x s => ?_⟩ <;> simp only [cmdLcReturn, Res.Keeps, hlife] <;> repeat' (first | rfl | trivial | (simp [hlife]; done) | split | (dsimp only; split) | (refine ⟨?_, ?_⟩) | (refine foldl_rest P _ _ _ ?_) | intro _))
@[simp] theorem cmdIdentityGet_keeps (P : Parts) : Cmd.Keeps P cmdIdentityGet := by intros; (refine ⟨fun x s => ⟨?_, fun t => ?_⟩, fun x s => ?_⟩ <;> simp [cmdIdentityGet, Res.Keeps])
@[simp] theorem cmdRtRepairGet_keeps (P : Parts) : Cmd.Keeps P cmdRtRepairGet := by intros; (refine ⟨fun x s => ⟨?_, fun t => ?_⟩, fun x s => ?_⟩ <;> simp [cmdRtRepairGet, Res.Keeps])
@[simp] theorem cmdLcNonceGet_keeps (P : Parts) (hdraws : P.draws = true) (hlife : P.life = true) : Cmd.Keeps P cmdLcNonceGet := by intros; (refine ⟨fun x s => ⟨?_, fun t => ?_⟩, fun x s => ?_⟩ <;> simp [cmdLcNonceGet, Res.Keeps, hdraws, hlife])
@[simp] theorem cmdWarnGet_keeps (P : Parts) : Cmd.Keeps P cmdWarnGet := by intros; (refine ⟨fun x s => ⟨?_, fun t => ?_⟩, fun x s => ?_⟩ <;> simp only [cmdWarnGet, Res.Keeps] <;> repeat' (first | rfl | trivial | (simp; done) | split | (dsimp only; split) | (refine ⟨?_, ?_⟩) | (refine foldl_rest P _ _ _ ?_) | intro _))
@[simp] theorem cmdCueMapGet_keeps (P : Parts) : Cmd.Keeps P cmdCueMapGet := by intros; (refine ⟨fun x s => ⟨?_, fun t => ?_⟩, fun x s => ?_⟩ <;> simp [cmdCueMapGet, Res.Keeps])
@[simp] theorem cmdSealRegionRun_keeps (P : Parts) (hsl : P.sl = true) : Cmd.Keeps P cmdSealRegionRun := by intros; (refine ⟨fun x s => ⟨?_, fun t => ?_⟩, fun x s => ?_⟩ <;> simp only [cmdSealRegionRun, Res.Keeps, hsl] <;> repeat' (first | rfl | trivial | (simp [hsl]; done) | split | (dsimp only; split) | (refine ⟨?_, ?_⟩) | (refine foldl_rest P _ _ _ ?_) | intro _))
@[simp] theorem cmdRateSet_keeps (P : Parts) (hstem : P.stem = true) (hink : P.ink = true) (hhost : P.host = true) (hserif : P.serif = true) (hprog : P.prog = true) : Cmd.Keeps P cmdRateSet := by intros; (refine ⟨fun x s => ⟨?_, fun t => ?_⟩, fun x s => ?_⟩ <;> simp [cmdRateSet, Res.Keeps, hstem, hink, hhost, hserif, hprog])
@[simp] theorem flourishBody_after (P : Parts) (hink : P.ink = true) (hhost : P.host = true) (htwin : P.twin = true) (hms : P.ms = true) (hprog : P.prog = true) : ∀ (x : Ctx) (s t : State), State.rest P ((flourishBody x s).after t) = State.rest P t := by intros; (unfold flourishBody; repeat' (first | rfl | (simp [hink, hhost, htwin, hms, hprog]; done) | split | (dsimp only; split) | (refine foldl_rest P _ _ _ ?_) | intro _))
@[simp] theorem runBody_after (P : Parts) (hink : P.ink = true) : ∀ (op at_ : Nat) (x : Ctx) (n count : Nat) (s t : State), State.rest P ((runBody op at_ x n count s).after t) = State.rest P t := by intros; (unfold runBody; repeat' (first | rfl | (simp [hink]; done) | split | (dsimp only; split) | (refine foldl_rest P _ _ _ ?_) | intro _))
@[simp] theorem cmdSerCountersGet_keeps (P : Parts) : Cmd.Keeps P cmdSerCountersGet := by intros; (refine ⟨fun x s => ⟨?_, fun t => ?_⟩, fun x s => ?_⟩ <;> simp [cmdSerCountersGet, Res.Keeps])
@[simp] theorem armChange_after (P : Parts) (hink : P.ink = true) (hprog : P.prog = true) : ∀ (op : Nat) (x : Ctx) (k : Nat) (i : Inst) (l : List (Nat × Int)) (coefs : List (Nat × List F32)) (expert : List Nat) (warns : List Warning) (s t : State), State.rest P ((armChange op x k i l coefs expert warns s).after t) = State.rest P t := by intros; (unfold armChange; repeat' (first | rfl | (simp [hink, hprog]; done) | split | (dsimp only; split) | (refine foldl_rest P _ _ _ ?_) | intro _))
@[simp] theorem cmdBoardSet_keeps (P : Parts) (hboot : P.boot = true) (hflash : P.flash = true) : Cmd.Keeps P cmdBoardSet := by intros; (refine ⟨fun x s => ⟨?_, fun t => ?_⟩, fun x s => ?_⟩ <;> simp [cmdBoardSet, Res.Keeps, hboot, hflash])
@[simp] theorem cmdSheenConfigGet_keeps (P : Parts) : Cmd.Keeps P cmdSheenConfigGet := by intros; (refine ⟨fun x s => ⟨?_, fun t => ?_⟩, fun x s => ?_⟩ <;> simp [cmdSheenConfigGet, Res.Keeps])
@[simp] theorem cmdCueConfig_keeps (P : Parts) (hquill : P.quill = true) (hprog : P.prog = true) : Cmd.Keeps P cmdCueConfig := by intros; (refine ⟨fun x s => ⟨?_, fun t => ?_⟩, fun x s => ?_⟩ <;> simp [cmdCueConfig, Res.Keeps, hquill, hprog])
@[simp] theorem cmdBlOutConfig_keeps (P : Parts) (hbl : P.bl = true) : Cmd.Keeps P cmdBlOutConfig := by intros; (refine ⟨fun x s => ⟨?_, fun t => ?_⟩, fun x s => ?_⟩ <;> simp [cmdBlOutConfig, Res.Keeps, hbl])
@[simp] theorem cmdInstCoefGet_keeps (P : Parts) : Cmd.Keeps P cmdInstCoefGet := by intros; (refine ⟨fun x s => ⟨?_, fun t => ?_⟩, fun x s => ?_⟩ <;> simp only [cmdInstCoefGet, Res.Keeps] <;> repeat' (first | rfl | trivial | (simp ; done) | split | (dsimp only; split) | (refine ⟨?_, ?_⟩) | (refine foldl_rest P _ _ _ ?_) | intro _))
@[simp] theorem cmdMsJoin_keeps (P : Parts) (hink : P.ink = true) (hhost : P.host = true) (hms : P.ms = true) : Cmd.Keeps P cmdMsJoin := by intros; (refine ⟨fun x s => ⟨?_, fun t => ?_⟩, fun x s => ?_⟩ <;> simp only [cmdMsJoin, Res.Keeps, hink, hhost, hms] <;> repeat' (first | rfl | trivial | (simp [hink, hhost, hms]; done) | split | (dsimp only; split) | (refine ⟨?_, ?_⟩) | (refine foldl_rest P _ _ _ ?_) | intro _))
@[simp] theorem rxSetBody_after (P : Parts) (hink : P.ink = true) (hquill : P.quill = true) : ∀ (x : Ctx) (s t : State), State.rest P ((rxSetBody x s).after t) = State.rest P t := by intros; (unfold rxSetBody; repeat' (first | rfl | (simp [hink, hquill]; done) | split | (dsimp only; split) | (refine foldl_rest P _ _ _ ?_) | intro _))
@[simp] theorem cmdNetRxSet_keeps (P : Parts) (hink : P.ink = true) (hquill : P.quill = true) : Cmd.Keeps P cmdNetRxSet := by intros; (refine ⟨fun x s => ⟨?_, fun t => ?_⟩, fun x s => ?_⟩ <;> simp [cmdNetRxSet, Res.Keeps, hink, hquill])
@[simp] theorem cmdLcDeploy_keeps (P : Parts) (hink : P.ink = true) (hhost : P.host = true) (hlife : P.life = true) (hvl : P.vl = true) : Cmd.Keeps P cmdLcDeploy := by intros; (refine ⟨fun x s => ⟨?_, fun t => ?_⟩, fun x s => ?_⟩ <;> simp [cmdLcDeploy, Res.Keeps, hink, hhost, hlife, hvl])
@[simp] theorem cmdInstDelete.deleteBody_after (P : Parts) (hink : P.ink = true) (hprog : P.prog = true) : ∀ (x : Ctx) (s t : State), State.rest P ((cmdInstDelete.deleteBody x s).after t) = State.rest P t := by intros; (unfold cmdInstDelete.deleteBody; repeat' (first | rfl | (simp [hink, hprog]; done) | split | (dsimp only; split) | (refine foldl_rest P _ _ _ ?_) | intro _))
@[simp] theorem coefBody_after (P : Parts) (hink : P.ink = true) (hprog : P.prog = true) : ∀ (x : Ctx) (s t : State), State.rest P ((coefBody x s).after t) = State.rest P t := by intros; (unfold coefBody; repeat' (first | rfl | (simp [hink, hprog]; done) | split | (dsimp only; split) | (refine foldl_rest P _ _ _ ?_) | intro _))
@[simp] theorem cmdResumeSave_keeps (P : Parts) (hboot : P.boot = true) (hink : P.ink = true) (hsl : P.sl = true) (hresume : P.resume = true) : Cmd.Keeps P cmdResumeSave := by intros; (refine ⟨fun x s => ⟨?_, fun t => ?_⟩, fun x s => ?_⟩ <;> simp [cmdResumeSave, Res.Keeps, hboot, hink, hsl, hresume])
@[simp] theorem cmdArmedCancel_keeps (P : Parts) (hink : P.ink = true) (htwin : P.twin = true) (hms : P.ms = true) : Cmd.Keeps P cmdArmedCancel := by intros; (refine ⟨fun x s => ⟨?_, fun t => ?_⟩, fun x s => ?_⟩ <;> simp only [cmdArmedCancel, Res.Keeps, hink, htwin, hms] <;> repeat' (first | rfl | trivial | (simp [hink, htwin, hms]; done) | split | (dsimp only; split) | (refine ⟨?_, ?_⟩) | (refine foldl_rest P _ _ _ ?_) | intro _))
@[simp] theorem cmdSceneSafeSet_keeps (P : Parts) (hprog : P.prog = true) : Cmd.Keeps P cmdSceneSafeSet := by intros; (refine ⟨fun x s => ⟨?_, fun t => ?_⟩, fun x s => ?_⟩ <;> simp only [cmdSceneSafeSet, Res.Keeps, hprog] <;> repeat' (first | rfl | trivial | (simp [hprog]; done) | split | (dsimp only; split) | (refine ⟨?_, ?_⟩) | (refine foldl_rest P _ _ _ ?_) | intro _))
@[simp] theorem cmdInstRename_keeps (P : Parts) (hprog : P.prog = true) : Cmd.Keeps P cmdInstRename := by intros; (refine ⟨fun x s => ⟨?_, fun t => ?_⟩, fun x s => ?_⟩ <;> simp only [cmdInstRename, Res.Keeps, hprog] <;> repeat' (first | rfl | trivial | (simp [hprog]; done) | split | (dsimp only; split) | (refine ⟨?_, ?_⟩) | (refine foldl_rest P _ _ _ ?_) | intro _))
@[simp] theorem cmdClockGet_keeps (P : Parts) : Cmd.Keeps P cmdClockGet := by intros; (refine ⟨fun x s => ⟨?_, fun t => ?_⟩, fun x s => ?_⟩ <;> simp [cmdClockGet, Res.Keeps])
@[simp] theorem cmdHushConfigGet_keeps (P : Parts) : Cmd.Keeps P cmdHushConfigGet := by intros; (refine ⟨fun x s => ⟨?_, fun t => ?_⟩, fun x s => ?_⟩ <;> simp [cmdHushConfigGet, Res.Keeps])
@[simp] theorem cmdBoardGet_keeps (P : Parts) : Cmd.Keeps P cmdBoardGet := by intros; (refine ⟨fun x s => ⟨?_, fun t => ?_⟩, fun x s => ?_⟩ <;> simp [cmdBoardGet, Res.Keeps])
@[simp] theorem cmdSceneRecall_keeps (P : Parts) (hink : P.ink = true) (hprog : P.prog = true) : Cmd.Keeps P cmdSceneRecall := by intros; (refine ⟨fun x s => ⟨?_, fun t => ?_⟩, fun x s => ?_⟩ <;> simp [cmdSceneRecall, Res.Keeps, hink, hprog])
@[simp] theorem cmdGpioSet_keeps (P : Parts) (hhost : P.host = true) : Cmd.Keeps P cmdGpioSet := by intros; (refine ⟨fun x s => ⟨?_, fun t => ?_⟩, fun x s => ?_⟩ <;> simp [cmdGpioSet, Res.Keeps, hhost])
@[simp] theorem cmdCapsGet_keeps (P : Parts) : Cmd.Keeps P cmdCapsGet := by intros; (refine ⟨fun x s => ⟨?_, fun t => ?_⟩, fun x s => ?_⟩ <;> simp [cmdCapsGet, Res.Keeps])
@[simp] theorem setBody_after (P : Parts) (hink : P.ink = true) (hprog : P.prog = true) : ∀ (x : Ctx) (s t : State), State.rest P ((setBody x s).after t) = State.rest P t := by intros; (unfold setBody; repeat' (first | rfl | (simp [hink, hprog]; done) | split | (dsimp only; split) | (refine foldl_rest P _ _ _ ?_) | intro _))
@[simp] theorem cmdBtInject_keeps (P : Parts) (hrt : P.rt = true) (hvl : P.vl = true) : Cmd.Keeps P cmdBtInject := by intros; (refine ⟨fun x s => ⟨?_, fun t => ?_⟩, fun x s => ?_⟩ <;> simp [cmdBtInject, Res.Keeps, hrt, hvl])
@[simp] theorem cmdLigFallback_keeps (P : Parts) (hink : P.ink = true) : Cmd.Keeps P cmdLigFallback := by intros; (refine ⟨fun x s => ⟨?_, fun t => ?_⟩, fun x s => ?_⟩ <;> simp only [cmdLigFallback, Res.Keeps, hink] <;> repeat' (first | rfl | trivial | (simp [hink]; done) | split | (dsimp only; split) | (refine ⟨?_, ?_⟩) | (refine foldl_rest P _ _ _ ?_) | intro _))
@[simp] theorem cmdLtcConfig_keeps (P : Parts) (hhost : P.host = true) : Cmd.Keeps P cmdLtcConfig := by intros; (refine ⟨fun x s => ⟨?_, fun t => ?_⟩, fun x s => ?_⟩ <;> simp [cmdLtcConfig, Res.Keeps, hhost])
@[simp] theorem cmdHushStatusGet_keeps (P : Parts) : Cmd.Keeps P cmdHushStatusGet := by intros; (refine ⟨fun x s => ⟨?_, fun t => ?_⟩, fun x s => ?_⟩ <;> simp [cmdHushStatusGet, Res.Keeps])
@[simp] theorem cmdLigSinkConfig_keeps (P : Parts) (hink : P.ink = true) : Cmd.Keeps P cmdLigSinkConfig := by intros; (refine ⟨fun x s => ⟨?_, fun t => ?_⟩, fun x s => ?_⟩ <;> simp [cmdLigSinkConfig, Res.Keeps, hink])
@[simp] theorem cmdBlSteer_keeps (P : Parts) (hbl : P.bl = true) (hpower : P.power = true) (hink : P.ink = true) (hhost : P.host = true) : Cmd.Keeps P cmdBlSteer := by intros; (refine ⟨fun x s => ⟨?_, fun t => ?_⟩, fun x s => ?_⟩ <;> simp only [cmdBlSteer, Res.Keeps, hbl, hpower, hink, hhost] <;> repeat' (first | rfl | trivial | (simp [hbl, hpower, hink, hhost]; done) | split | (dsimp only; split) | (refine ⟨?_, ?_⟩) | (refine foldl_rest P _ _ _ ?_) | intro _))
@[simp] theorem cmdRegRead_keeps (P : Parts) (hstem : P.stem = true) (hhost : P.host = true) (hhush : P.hush = true) (hfeed : P.feed = true) (hdx : P.dx = true) (hprog : P.prog = true) (hsheen : P.sheen = true) (hvl : P.vl = true) (hsl : P.sl = true) (hcb : P.cb = true) : Cmd.Keeps P cmdRegRead := by intros; (refine ⟨fun x s => ⟨?_, fun t => ?_⟩, fun x s => ?_⟩ <;> simp [cmdRegRead, Res.Keeps, hstem, hhost, hhush, hfeed, hdx, hprog, hsheen, hvl, hsl, hcb])
@[simp] theorem cmdFwSelect_keeps (P : Parts) (hboot : P.boot = true) : Cmd.Keeps P cmdFwSelect := by intros; (refine ⟨fun x s => ⟨?_, fun t => ?_⟩, fun x s => ?_⟩ <;> simp [cmdFwSelect, Res.Keeps, hboot])
@[simp] theorem cmdBlPolicySet_keeps (P : Parts) (hbl : P.bl = true) : Cmd.Keeps P cmdBlPolicySet := by intros; (refine ⟨fun x s => ⟨?_, fun t => ?_⟩, fun x s => ?_⟩ <;> simp [cmdBlPolicySet, Res.Keeps, hbl])
@[simp] theorem cmdInstDelete_keeps (P : Parts) (hink : P.ink = true) (hprog : P.prog = true) : Cmd.Keeps P cmdInstDelete := by intros; (refine ⟨fun x s => ⟨?_, fun t => ?_⟩, fun x s => ?_⟩ <;> simp [cmdInstDelete, Res.Keeps, hink, hprog])
@[simp] theorem cmdMemStatusGet_keeps (P : Parts) : Cmd.Keeps P cmdMemStatusGet := by intros; (refine ⟨fun x s => ⟨?_, fun t => ?_⟩, fun x s => ?_⟩ <;> simp [cmdMemStatusGet, Res.Keeps])
@[simp] theorem cmdSheenSetRead_keeps (P : Parts) : Cmd.Keeps P cmdSheenSetRead := by intros; (refine ⟨fun x s => ⟨?_, fun t => ?_⟩, fun x s => ?_⟩ <;> simp only [cmdSheenSetRead, Res.Keeps] <;> repeat' (first | rfl | trivial | (simp; done) | split | (dsimp only; split) | (refine ⟨?_, ?_⟩) | (refine foldl_rest P _ _ _ ?_) | intro _))
@[simp] theorem cmdSceneList_keeps (P : Parts) : Cmd.Keeps P cmdSceneList := by intros; (refine ⟨fun x s => ⟨?_, fun t => ?_⟩, fun x s => ?_⟩ <;> simp [cmdSceneList, Res.Keeps])
@[simp] theorem routeBody_after (P : Parts) (hink : P.ink = true) : ∀ (x : Ctx) (s t : State), State.rest P ((routeBody x s).after t) = State.rest P t := by intros; (unfold routeBody; repeat' (first | rfl | (simp [hink]; done) | split | (dsimp only; split) | (refine foldl_rest P _ _ _ ?_) | intro _))
@[simp] theorem cmdLigRouteSet_keeps (P : Parts) (hink : P.ink = true) : Cmd.Keeps P cmdLigRouteSet := by intros; (refine ⟨fun x s => ⟨?_, fun t => ?_⟩, fun x s => ?_⟩ <;> simp [cmdLigRouteSet, Res.Keeps, hink])
@[simp] theorem modeSetArm_after (P : Parts) (hpower : P.power = true) (hink : P.ink = true) (hprog : P.prog = true) : ∀ (x : Ctx) (s t : State), State.rest P ((modeSetArm x s).after t) = State.rest P t := by intros; (unfold modeSetArm; repeat' (first | rfl | (simp [hpower, hink, hprog]; done) | split | (dsimp only; split) | (refine foldl_rest P _ _ _ ?_) | intro _))
@[simp] theorem cmdModeSet_keeps (P : Parts) (hpower : P.power = true) (hink : P.ink = true) (hprog : P.prog = true) : Cmd.Keeps P cmdModeSet := by intros; (refine ⟨fun x s => ⟨?_, fun t => ?_⟩, fun x s => ?_⟩ <;> simp [cmdModeSet, Res.Keeps, hpower, hink, hprog])
@[simp] theorem cmdVlSave_keeps (P : Parts) (hvl : P.vl = true) : Cmd.Keeps P cmdVlSave := by intros; (refine ⟨fun x s => ⟨?_, fun t => ?_⟩, fun x s => ?_⟩ <;> simp only [cmdVlSave, Res.Keeps, hvl] <;> repeat' (first | rfl | trivial | (simp [hvl]; done) | split | (dsimp only; split) | (refine ⟨?_, ?_⟩) | (refine foldl_rest P _ _ _ ?_) | intro _))
@[simp] theorem cmdBlSelect_keeps (P : Parts) (hbl : P.bl = true) : Cmd.Keeps P cmdBlSelect := by intros; (refine ⟨fun x s => ⟨?_, fun t => ?_⟩, fun x s => ?_⟩ <;> simp only [cmdBlSelect, Res.Keeps, hbl] <;> repeat' (first | rfl | trivial | (simp [hbl]; done) | split | (dsimp only; split) | (refine ⟨?_, ?_⟩) | (refine foldl_rest P _ _ _ ?_) | intro _))
@[simp] theorem xbusBody_after (P : Parts) (hms : P.ms = true) (hprog : P.prog = true) (hlig : P.lig = true) : ∀ (x : Ctx) (s t : State), State.rest P ((xbusBody x s).after t) = State.rest P t := by intros; (unfold xbusBody; repeat' (first | rfl | (simp [hms, hprog, hlig]; done) | split | (dsimp only; split) | (refine foldl_rest P _ _ _ ?_) | intro _))
@[simp] theorem cmdMsXbusSet_keeps (P : Parts) (hms : P.ms = true) (hprog : P.prog = true) (hlig : P.lig = true) : Cmd.Keeps P cmdMsXbusSet := by intros; (refine ⟨fun x s => ⟨?_, fun t => ?_⟩, fun x s => ?_⟩ <;> simp [cmdMsXbusSet, Res.Keeps, hms, hprog, hlig])
@[simp] theorem cmdNetQuillConfig_keeps (P : Parts) (hink : P.ink = true) (hhost : P.host = true) (hquill : P.quill = true) : Cmd.Keeps P cmdNetQuillConfig := by intros; (refine ⟨fun x s => ⟨?_, fun t => ?_⟩, fun x s => ?_⟩ <;> simp [cmdNetQuillConfig, Res.Keeps, hink, hhost, hquill])
@[simp] theorem cmdArmedGet_keeps (P : Parts) : Cmd.Keeps P cmdArmedGet := by intros; (refine ⟨fun x s => ⟨?_, fun t => ?_⟩, fun x s => ?_⟩ <;> simp only [cmdArmedGet, Res.Keeps] <;> repeat' (first | rfl | trivial | (simp; done) | split | (dsimp only; split) | (refine ⟨?_, ?_⟩) | (refine foldl_rest P _ _ _ ?_) | intro _))
@[simp] theorem cmdRoleSet_keeps (P : Parts) (hink : P.ink = true) (hhost : P.host = true) : Cmd.Keeps P cmdRoleSet := by intros; (refine ⟨fun x s => ⟨?_, fun t => ?_⟩, fun x s => ?_⟩ <;> simp only [cmdRoleSet, Res.Keeps, hink, hhost] <;> repeat' (first | rfl | trivial | (simp [hink, hhost]; done) | split | (dsimp only; split) | (refine ⟨?_, ?_⟩) | (refine foldl_rest P _ _ _ ?_) | intro _))
@[simp] theorem cmdSealDigestGet_keeps (P : Parts) : Cmd.Keeps P cmdSealDigestGet := by intros; (refine ⟨fun x s => ⟨?_, fun t => ?_⟩, fun x s => ?_⟩ <;> simp [cmdSealDigestGet, Res.Keeps])
@[simp] theorem cmdNetPtpStatusGet_keeps (P : Parts) : Cmd.Keeps P cmdNetPtpStatusGet := by intros; (refine ⟨fun x s => ⟨?_, fun t => ?_⟩, fun x s => ?_⟩ <;> simp [cmdNetPtpStatusGet, Res.Keeps])
@[simp] theorem cmdInkGet_keeps (P : Parts) : Cmd.Keeps P cmdInkGet := by intros; (refine ⟨fun x s => ⟨?_, fun t => ?_⟩, fun x s => ?_⟩ <;> simp [cmdInkGet, Res.Keeps])
@[simp] theorem promoteBody_after (P : Parts) (hink : P.ink = true) (htwin : P.twin = true) : ∀ (x : Ctx) (s t : State), State.rest P ((promoteBody x s).after t) = State.rest P t := by intros; (unfold promoteBody; repeat' (first | rfl | (simp [hink, htwin]; done) | split | (dsimp only; split) | (refine foldl_rest P _ _ _ ?_) | intro _))
@[simp] theorem cmdTwinPromote_keeps (P : Parts) (hink : P.ink = true) (htwin : P.twin = true) : Cmd.Keeps P cmdTwinPromote := by intros; (refine ⟨fun x s => ⟨?_, fun t => ?_⟩, fun x s => ?_⟩ <;> simp [cmdTwinPromote, Res.Keeps, hink, htwin])
@[simp] theorem sheenChange_after (P : Parts) (hink : P.ink = true) : ∀ (op : Nat) (x : Ctx) (s t : State), State.rest P ((sheenChange op x s).after t) = State.rest P t := by intros; rfl
@[simp] theorem cmdSheenLoudReset_keeps (P : Parts) (hink : P.ink = true) : Cmd.Keeps P cmdSheenLoudReset := by intros; (refine ⟨fun x s => ⟨?_, fun t => ?_⟩, fun x s => ?_⟩ <;> simp [cmdSheenLoudReset, Res.Keeps, hink])
@[simp] theorem cmdInstCoefSet_keeps (P : Parts) (hink : P.ink = true) (hprog : P.prog = true) : Cmd.Keeps P cmdInstCoefSet := by intros; (refine ⟨fun x s => ⟨?_, fun t => ?_⟩, fun x s => ?_⟩ <;> simp [cmdInstCoefSet, Res.Keeps, hink, hprog])
@[simp] theorem sealRunBody_after (P : Parts) (hdraws : P.draws = true) (hsl : P.sl = true) : ∀ (x : Ctx) (s t : State), State.rest P ((sealRunBody x s).after t) = State.rest P t := by intros; (unfold sealRunBody; repeat' (first | rfl | (simp [hdraws, hsl]; done) | split | (dsimp only; split) | (refine foldl_rest P _ _ _ ?_) | intro _))
@[simp] theorem cmdSealRun_keeps (P : Parts) (hdraws : P.draws = true) (hsl : P.sl = true) : Cmd.Keeps P cmdSealRun := by intros; (refine ⟨fun x s => ⟨?_, fun t => ?_⟩, fun x s => ?_⟩ <;> simp [cmdSealRun, Res.Keeps, hdraws, hsl])
@[simp] theorem cmdRtShedSet_keeps (P : Parts) (hrt : P.rt = true) : Cmd.Keeps P cmdRtShedSet := by intros; (refine ⟨fun x s => ⟨?_, fun t => ?_⟩, fun x s => ?_⟩ <;> simp only [cmdRtShedSet, Res.Keeps, hrt] <;> repeat' (first | rfl | trivial | (simp [hrt]; done) | split | (dsimp only; split) | (refine ⟨?_, ?_⟩) | (refine foldl_rest P _ _ _ ?_) | intro _))
@[simp] theorem cmdBlStatusGet_keeps (P : Parts) : Cmd.Keeps P cmdBlStatusGet := by intros; (refine ⟨fun x s => ⟨?_, fun t => ?_⟩, fun x s => ?_⟩ <;> simp [cmdBlStatusGet, Res.Keeps])
@[simp] theorem cmdSceneDelete_keeps (P : Parts) (hprog : P.prog = true) : Cmd.Keeps P cmdSceneDelete := by intros; (refine ⟨fun x s => ⟨?_, fun t => ?_⟩, fun x s => ?_⟩ <;> simp only [cmdSceneDelete, Res.Keeps, hprog] <;> repeat' (first | rfl | trivial | (simp [hprog]; done) | split | (dsimp only; split) | (refine ⟨?_, ?_⟩) | (refine foldl_rest P _ _ _ ?_) | intro _))
@[simp] theorem cmdFlourishTurn_keeps (P : Parts) (hink : P.ink = true) (hprog : P.prog = true) : Cmd.Keeps P cmdFlourishTurn := by intros; (refine ⟨fun x s => ⟨?_, fun t => ?_⟩, fun x s => ?_⟩ <;> simp only [cmdFlourishTurn, Res.Keeps, hink, hprog] <;> repeat' (first | rfl | trivial | (simp [hink, hprog]; done) | split | (dsimp only; split) | (refine ⟨?_, ?_⟩) | (refine foldl_rest P _ _ _ ?_) | intro _))
@[simp] theorem cmdInkClose_keeps (P : Parts) (hink : P.ink = true) (hhost : P.host = true) : Cmd.Keeps P cmdInkClose := by intros; (refine ⟨fun x s => ⟨?_, fun t => ?_⟩, fun x s => ?_⟩ <;> simp only [cmdInkClose, Res.Keeps, hink, hhost] <;> repeat' (first | rfl | trivial | (simp [hink, hhost]; done) | split | (dsimp only; split) | (refine ⟨?_, ?_⟩) | (refine foldl_rest P _ _ _ ?_) | intro _))
@[simp] theorem cmdDxLoadGet_keeps (P : Parts) (hprog : P.prog = true) : Cmd.Keeps P cmdDxLoadGet := by intros; (refine ⟨fun x s => ⟨?_, fun t => ?_⟩, fun x s => ?_⟩ <;> simp [cmdDxLoadGet, Res.Keeps, hprog])
@[simp] theorem cmdTwinResync_keeps (P : Parts) (hink : P.ink = true) (hhost : P.host = true) (htwin : P.twin = true) : Cmd.Keeps P cmdTwinResync := by intros; (refine ⟨fun x s => ⟨?_, fun t => ?_⟩, fun x s => ?_⟩ <;> simp only [cmdTwinResync, Res.Keeps, hink, hhost, htwin] <;> repeat' (first | rfl | trivial | (simp [hink, hhost, htwin]; done) | split | (dsimp only; split) | (refine ⟨?_, ?_⟩) | (refine foldl_rest P _ _ _ ?_) | intro _))
@[simp] theorem cmdRtShedGet_keeps (P : Parts) : Cmd.Keeps P cmdRtShedGet := by intros; (refine ⟨fun x s => ⟨?_, fun t => ?_⟩, fun x s => ?_⟩ <;> simp [cmdRtShedGet, Res.Keeps])
@[simp] theorem cmdGpioConfig_keeps (P : Parts) (hboot : P.boot = true) (hhost : P.host = true) (hflash : P.flash = true) : Cmd.Keeps P cmdGpioConfig := by intros; (refine ⟨fun x s => ⟨?_, fun t => ?_⟩, fun x s => ?_⟩ <;> simp only [cmdGpioConfig, Res.Keeps, hboot, hhost, hflash] <;> repeat' (first | rfl | trivial | (simp [hboot, hhost, hflash]; done) | split | (dsimp only; split) | (refine ⟨?_, ?_⟩) | (refine foldl_rest P _ _ _ ?_) | intro _))
@[simp] theorem cmdLcDebugUnlock_keeps (P : Parts) (hlife : P.life = true) : Cmd.Keeps P cmdLcDebugUnlock := by intros; (refine ⟨fun x s => ⟨?_, fun t => ?_⟩, fun x s => ?_⟩ <;> simp [cmdLcDebugUnlock, Res.Keeps, hlife])
@[simp] theorem cmdMsLeave_keeps (P : Parts) (hink : P.ink = true) (hms : P.ms = true) : Cmd.Keeps P cmdMsLeave := by intros; (refine ⟨fun x s => ⟨?_, fun t => ?_⟩, fun x s => ?_⟩ <;> simp only [cmdMsLeave, Res.Keeps, hink, hms] <;> repeat' (first | rfl | trivial | (simp [hink, hms]; done) | split | (dsimp only; split) | (refine ⟨?_, ?_⟩) | (refine foldl_rest P _ _ _ ?_) | intro _))
@[simp] theorem cmdTwinDissolve_keeps (P : Parts) (htwin : P.twin = true) : Cmd.Keeps P cmdTwinDissolve := by intros; (refine ⟨fun x s => ⟨?_, fun t => ?_⟩, fun x s => ?_⟩ <;> simp only [cmdTwinDissolve, Res.Keeps, htwin] <;> repeat' (first | rfl | trivial | (simp [htwin]; done) | split | (dsimp only; split) | (refine ⟨?_, ?_⟩) | (refine foldl_rest P _ _ _ ?_) | intro _))
@[simp] theorem cmdSheenSetDefine_keeps (P : Parts) (hsheen : P.sheen = true) : Cmd.Keeps P cmdSheenSetDefine := by intros; (refine ⟨fun x s => ⟨?_, fun t => ?_⟩, fun x s => ?_⟩ <;> simp only [cmdSheenSetDefine, Res.Keeps, hsheen] <;> repeat' (first | rfl | trivial | (simp [hsheen]; done) | split | (dsimp only; split) | (refine ⟨?_, ?_⟩) | (refine foldl_rest P _ _ _ ?_) | intro _))
@[simp] theorem cmdVlStatusGet_keeps (P : Parts) : Cmd.Keeps P cmdVlStatusGet := by intros; (refine ⟨fun x s => ⟨?_, fun t => ?_⟩, fun x s => ?_⟩ <;> simp [cmdVlStatusGet, Res.Keeps])
@[simp] theorem cmdRtRowRetire_keeps (P : Parts) (hink : P.ink = true) (hhost : P.host = true) (hrt : P.rt = true) (hvl : P.vl = true) : Cmd.Keeps P cmdRtRowRetire := by intros; (refine ⟨fun x s => ⟨?_, fun t => ?_⟩, fun x s => ?_⟩ <;> simp [cmdRtRowRetire, Res.Keeps, hink, hhost, hrt, hvl])
@[simp] theorem cmdLigRouteGet_keeps (P : Parts) : Cmd.Keeps P cmdLigRouteGet := by intros; (refine ⟨fun x s => ⟨?_, fun t => ?_⟩, fun x s => ?_⟩ <;> simp [cmdLigRouteGet, Res.Keeps])
@[simp] theorem cmdDxNibGet_keeps (P : Parts) : Cmd.Keeps P cmdDxNibGet := by intros; (refine ⟨fun x s => ⟨?_, fun t => ?_⟩, fun x s => ?_⟩ <;> simp [cmdDxNibGet, Res.Keeps])
@[simp] theorem cmdRtMigrate_keeps (P : Parts) (hink : P.ink = true) (hhost : P.host = true) (hrt : P.rt = true) (hdx : P.dx = true) : Cmd.Keeps P cmdRtMigrate := by intros; (refine ⟨fun x s => ⟨?_, fun t => ?_⟩, fun x s => ?_⟩ <;> simp only [cmdRtMigrate, Res.Keeps, hink, hhost, hrt, hdx] <;> repeat' (first | rfl | trivial | (simp [hink, hhost, hrt, hdx]; done) | split | (dsimp only; split) | (refine ⟨?_, ?_⟩) | (refine foldl_rest P _ _ _ ?_) | intro _))
@[simp] theorem cmdLinkGet_keeps (P : Parts) : Cmd.Keeps P cmdLinkGet := by intros; (refine ⟨fun x s => ⟨?_, fun t => ?_⟩, fun x s => ?_⟩ <;> simp [cmdLinkGet, Res.Keeps])
@[simp] theorem cmdRtNibTest_keeps (P : Parts) (hrt : P.rt = true) : Cmd.Keeps P cmdRtNibTest := by intros; (refine ⟨fun x s => ⟨?_, fun t => ?_⟩, fun x s => ?_⟩ <;> simp only [cmdRtNibTest, Res.Keeps, hrt] <;> repeat' (first | rfl | trivial | (simp [hrt]; done) | split | (dsimp only; split) | (refine ⟨?_, ?_⟩) | (refine foldl_rest P _ _ _ ?_) | intro _))
@[simp] theorem folioBody_after (P : Parts) (hink : P.ink = true) (hprog : P.prog = true) : ∀ (x : Ctx) (s t : State), State.rest P ((folioBody x s).after t) = State.rest P t := by intros; (unfold folioBody; repeat' (first | rfl | (simp [hink, hprog]; done) | split | (dsimp only; split) | (refine foldl_rest P _ _ _ ?_) | intro _))
@[simp] theorem cmdBlPhaseStep_keeps (P : Parts) (hbl : P.bl = true) (hink : P.ink = true) : Cmd.Keeps P cmdBlPhaseStep := by intros; (refine ⟨fun x s => ⟨?_, fun t => ?_⟩, fun x s => ?_⟩ <;> simp only [cmdBlPhaseStep, Res.Keeps, hbl, hink] <;> repeat' (first | rfl | trivial | (simp [hbl, hink]; done) | split | (dsimp only; split) | (refine ⟨?_, ?_⟩) | (refine foldl_rest P _ _ _ ?_) | intro _))
@[simp] theorem cmdBlRefClear_keeps (P : Parts) (hbl : P.bl = true) : Cmd.Keeps P cmdBlRefClear := by intros; (refine ⟨fun x s => ⟨?_, fun t => ?_⟩, fun x s => ?_⟩ <;> simp [cmdBlRefClear, Res.Keeps, hbl])
@[simp] theorem cmdSerConfigGet_keeps (P : Parts) : Cmd.Keeps P cmdSerConfigGet := by intros; (refine ⟨fun x s => ⟨?_, fun t => ?_⟩, fun x s => ?_⟩ <;> simp [cmdSerConfigGet, Res.Keeps])
@[simp] theorem cmdSceneStore_keeps (P : Parts) (hprog : P.prog = true) : Cmd.Keeps P cmdSceneStore := by intros; (refine ⟨fun x s => ⟨?_, fun t => ?_⟩, fun x s => ?_⟩ <;> simp only [cmdSceneStore, Res.Keeps, hprog] <;> repeat' (first | rfl | trivial | (simp [hprog]; done) | split | (dsimp only; split) | (refine ⟨?_, ?_⟩) | (refine foldl_rest P _ _ _ ?_) | intro _))
@[simp] theorem cmdSceneExport_keeps (P : Parts) : Cmd.Keeps P cmdSceneExport := by intros; (refine ⟨fun x s => ⟨?_, fun t => ?_⟩, fun x s => ?_⟩ <;> simp only [cmdSceneExport, Res.Keeps] <;> repeat' (first | rfl | trivial | (simp; done) | split | (dsimp only; split) | (refine ⟨?_, ?_⟩) | (refine foldl_rest P _ _ _ ?_) | intro _))
@[simp] theorem cmdSerStatusGet_keeps (P : Parts) : Cmd.Keeps P cmdSerStatusGet := by intros; (refine ⟨fun x s => ⟨?_, fun t => ?_⟩, fun x s => ?_⟩ <;> simp [cmdSerStatusGet, Res.Keeps])
@[simp] theorem cmdMsStatusGet_keeps (P : Parts) : Cmd.Keeps P cmdMsStatusGet := by intros; (refine ⟨fun x s => ⟨?_, fun t => ?_⟩, fun x s => ?_⟩ <;> simp [cmdMsStatusGet, Res.Keeps])
@[simp] theorem cmdSubscribe_keeps (P : Parts) (hink : P.ink = true) : Cmd.Keeps P cmdSubscribe := by intros; (refine ⟨fun x s => ⟨?_, fun t => ?_⟩, fun x s => ?_⟩ <;> simp [cmdSubscribe, Res.Keeps, hink])
@[simp] theorem cmdNetStatusGet_keeps (P : Parts) : Cmd.Keeps P cmdNetStatusGet := by intros; (refine ⟨fun x s => ⟨?_, fun t => ?_⟩, fun x s => ?_⟩ <;> simp only [cmdNetStatusGet, Res.Keeps] <;> repeat' (first | rfl | trivial | (simp; done) | split | (dsimp only; split) | (refine ⟨?_, ?_⟩) | (refine foldl_rest P _ _ _ ?_) | intro _))
@[simp] theorem cmdFwCommit_keeps (P : Parts) (hboot : P.boot = true) (hvl : P.vl = true) : Cmd.Keeps P cmdFwCommit := by intros; (refine ⟨fun x s => ⟨?_, fun t => ?_⟩, fun x s => ?_⟩ <;> simp only [cmdFwCommit, Res.Keeps, hboot, hvl] <;> repeat' (first | rfl | trivial | (simp [hboot, hvl]; done) | split | (dsimp only; split) | (refine ⟨?_, ?_⟩) | (refine foldl_rest P _ _ _ ?_) | intro _))
@[simp] theorem cmdTwinStatusGet_keeps (P : Parts) : Cmd.Keeps P cmdTwinStatusGet := by intros; (refine ⟨fun x s => ⟨?_, fun t => ?_⟩, fun x s => ?_⟩ <;> simp [cmdTwinStatusGet, Res.Keeps])
@[simp] theorem cmdInstSet_keeps (P : Parts) (hink : P.ink = true) (hprog : P.prog = true) : Cmd.Keeps P cmdInstSet := by intros; (refine ⟨fun x s => ⟨?_, fun t => ?_⟩, fun x s => ?_⟩ <;> simp [cmdInstSet, Res.Keeps, hink, hprog])
@[simp] theorem cmdLcAttest_keeps (P : Parts) (hdraws : P.draws = true) : Cmd.Keeps P cmdLcAttest := by intros; (refine ⟨fun x s => ⟨?_, fun t => ?_⟩, fun x s => ?_⟩ <;> simp [cmdLcAttest, Res.Keeps, hdraws])
@[simp] theorem cmdInstCreate_keeps (P : Parts) (hprog : P.prog = true) (hlig : P.lig = true) (hsheen : P.sheen = true) : Cmd.Keeps P cmdInstCreate := by intros; (refine ⟨fun x s => ⟨?_, fun t => ?_⟩, fun x s => ?_⟩ <;> simp only [cmdInstCreate, Res.Keeps, hprog, hlig, hsheen] <;> repeat' (first | rfl | trivial | (simp [hprog, hlig, hsheen]; done) | split | (dsimp only; split) | (refine ⟨?_, ?_⟩) | (refine foldl_rest P _ _ _ ?_) | intro _))
@[simp] theorem cmdHushConfig_keeps (P : Parts) (hhush : P.hush = true) (hsl : P.sl = true) : Cmd.Keeps P cmdHushConfig := by intros; (refine ⟨fun x s => ⟨?_, fun t => ?_⟩, fun x s => ?_⟩ <;> simp only [cmdHushConfig, Res.Keeps, hhush, hsl] <;> repeat' (first | rfl | trivial | (simp [hhush, hsl]; done) | split | (dsimp only; split) | (refine ⟨?_, ?_⟩) | (refine foldl_rest P _ _ _ ?_) | intro _))
@[simp] theorem cmdVlRead_keeps (P : Parts) : Cmd.Keeps P cmdVlRead := by intros; (refine ⟨fun x s => ⟨?_, fun t => ?_⟩, fun x s => ?_⟩ <;> simp [cmdVlRead, Res.Keeps])
@[simp] theorem cmdInstGet_keeps (P : Parts) : Cmd.Keeps P cmdInstGet := by intros; (refine ⟨fun x s => ⟨?_, fun t => ?_⟩, fun x s => ?_⟩ <;> simp only [cmdInstGet, Res.Keeps] <;> repeat' (first | rfl | trivial | (simp; done) | split | (dsimp only; split) | (refine ⟨?_, ?_⟩) | (refine foldl_rest P _ _ _ ?_) | intro _))
@[simp] theorem cmdSheenStatusGet_keeps (P : Parts) : Cmd.Keeps P cmdSheenStatusGet := by intros; (refine ⟨fun x s => ⟨?_, fun t => ?_⟩, fun x s => ?_⟩ <;> simp [cmdSheenStatusGet, Res.Keeps])
@[simp] theorem cmdCbResultGet_keeps (P : Parts) : Cmd.Keeps P cmdCbResultGet := by intros; (refine ⟨fun x s => ⟨?_, fun t => ?_⟩, fun x s => ?_⟩ <;> simp [cmdCbResultGet, Res.Keeps])
@[simp] theorem cmdMsConfig_keeps (P : Parts) (hms : P.ms = true) : Cmd.Keeps P cmdMsConfig := by intros; (refine ⟨fun x s => ⟨?_, fun t => ?_⟩, fun x s => ?_⟩ <;> simp only [cmdMsConfig, Res.Keeps, hms] <;> repeat' (first | rfl | trivial | (simp [hms]; done) | split | (dsimp only; split) | (refine ⟨?_, ?_⟩) | (refine foldl_rest P _ _ _ ?_) | intro _))
@[simp] theorem cmdFolioWrite_keeps (P : Parts) (hink : P.ink = true) (hprog : P.prog = true) : Cmd.Keeps P cmdFolioWrite := by intros; (refine ⟨fun x s => ⟨?_, fun t => ?_⟩, fun x s => ?_⟩ <;> simp [cmdFolioWrite, Res.Keeps, hink, hprog])
@[simp] theorem cmdBlRefConfig_keeps (P : Parts) (hbl : P.bl = true) (hink : P.ink = true) (hhost : P.host = true) : Cmd.Keeps P cmdBlRefConfig := by intros; (refine ⟨fun x s => ⟨?_, fun t => ?_⟩, fun x s => ?_⟩ <;> simp [cmdBlRefConfig, Res.Keeps, hbl, hink, hhost])
@[simp] theorem cmdNetNmosConfig_keeps (P : Parts) (hquill : P.quill = true) : Cmd.Keeps P cmdNetNmosConfig := by intros; (refine ⟨fun x s => ⟨?_, fun t => ?_⟩, fun x s => ?_⟩ <;> simp [cmdNetNmosConfig, Res.Keeps, hquill])
@[simp] theorem cmdSceneSafeGet_keeps (P : Parts) : Cmd.Keeps P cmdSceneSafeGet := by intros; (refine ⟨fun x s => ⟨?_, fun t => ?_⟩, fun x s => ?_⟩ <;> simp [cmdSceneSafeGet, Res.Keeps])
@[simp] theorem cmdTwinConfig_keeps (P : Parts) (htwin : P.twin = true) : Cmd.Keeps P cmdTwinConfig := by intros; (refine ⟨fun x s => ⟨?_, fun t => ?_⟩, fun x s => ?_⟩ <;> simp [cmdTwinConfig, Res.Keeps, htwin])
@[simp] theorem cmdCbList_keeps (P : Parts) : Cmd.Keeps P cmdCbList := by intros; (refine ⟨fun x s => ⟨?_, fun t => ?_⟩, fun x s => ?_⟩ <;> simp [cmdCbList, Res.Keeps])
@[simp] theorem cbRunBody_after (P : Parts) (hbl : P.bl = true) (hboot : P.boot = true) (hink : P.ink = true) (hhost : P.host = true) (hserif : P.serif = true) (hquill : P.quill = true) (hfeed : P.feed = true) (hprog : P.prog = true) (hvl : P.vl = true) (hcb : P.cb = true) (hmem : P.mem = true) : ∀ (x : Ctx) (s t : State), State.rest P ((cbRunBody x s).after t) = State.rest P t := by intros; (unfold cbRunBody; repeat' (first | rfl | (simp [hbl, hboot, hink, hhost, hserif, hquill, hfeed, hprog, hvl, hcb, hmem]; done) | split | (dsimp only; split) | (refine foldl_rest P _ _ _ ?_) | intro _))
@[simp] theorem cmdCbRun_keeps (P : Parts) (hbl : P.bl = true) (hboot : P.boot = true) (hink : P.ink = true) (hhost : P.host = true) (hserif : P.serif = true) (hquill : P.quill = true) (hfeed : P.feed = true) (hprog : P.prog = true) (hvl : P.vl = true) (hcb : P.cb = true) (hmem : P.mem = true) : Cmd.Keeps P cmdCbRun := by intros; (refine ⟨fun x s => ⟨?_, fun t => ?_⟩, fun x s => ?_⟩ <;> simp [cmdCbRun, Res.Keeps, hbl, hboot, hink, hhost, hserif, hquill, hfeed, hprog, hvl, hcb, hmem])
@[simp] theorem cmdNetPortConfig_keeps (P : Parts) (hbl : P.bl = true) (hboot : P.boot = true) (hink : P.ink = true) (hhost : P.host = true) (hquill : P.quill = true) (hvl : P.vl = true) : Cmd.Keeps P cmdNetPortConfig := by intros; (refine ⟨fun x s => ⟨?_, fun t => ?_⟩, fun x s => ?_⟩ <;> simp only [cmdNetPortConfig, Res.Keeps, hbl, hboot, hink, hhost, hquill, hvl] <;> repeat' (first | rfl | trivial | (simp [hbl, hboot, hink, hhost, hquill, hvl]; done) | split | (dsimp only; split) | (refine ⟨?_, ?_⟩) | (refine foldl_rest P _ _ _ ?_) | intro _))
@[simp] theorem cmdVlExport_keeps (P : Parts) (hdraws : P.draws = true) (hvl : P.vl = true) : Cmd.Keeps P cmdVlExport := by intros; (refine ⟨fun x s => ⟨?_, fun t => ?_⟩, fun x s => ?_⟩ <;> simp only [cmdVlExport, Res.Keeps, hdraws, hvl] <;> repeat' (first | rfl | trivial | (simp [hdraws, hvl]; done) | split | (dsimp only; split) | (refine ⟨?_, ?_⟩) | (refine foldl_rest P _ _ _ ?_) | intro _))
@[simp] theorem cmdSealStatusGet_keeps (P : Parts) : Cmd.Keeps P cmdSealStatusGet := by intros; (refine ⟨fun x s => ⟨?_, fun t => ?_⟩, fun x s => ?_⟩ <;> simp [cmdSealStatusGet, Res.Keeps])
@[simp] theorem cmdMsMembersGet_keeps (P : Parts) : Cmd.Keeps P cmdMsMembersGet := by intros; (refine ⟨fun x s => ⟨?_, fun t => ?_⟩, fun x s => ?_⟩ <;> simp [cmdMsMembersGet, Res.Keeps])
@[simp] theorem cmdSheenConfig_keeps (P : Parts) (hink : P.ink = true) : Cmd.Keeps P cmdSheenConfig := by intros; (refine ⟨fun x s => ⟨?_, fun t => ?_⟩, fun x s => ?_⟩ <;> simp [cmdSheenConfig, Res.Keeps, hink])
@[simp] theorem cmdNetPtpConfig_keeps (P : Parts) (hbl : P.bl = true) (hink : P.ink = true) (hhost : P.host = true) (hquill : P.quill = true) : Cmd.Keeps P cmdNetPtpConfig := by intros; (refine ⟨fun x s => ⟨?_, fun t => ?_⟩, fun x s => ?_⟩ <;> simp [cmdNetPtpConfig, Res.Keeps, hbl, hink, hhost, hquill])
@[simp] theorem cmdDxConfig_keeps (P : Parts) (hdx : P.dx = true) : Cmd.Keeps P cmdDxConfig := by intros; (refine ⟨fun x s => ⟨?_, fun t => ?_⟩, fun x s => ?_⟩ <;> simp only [cmdDxConfig, Res.Keeps, hdx] <;> repeat' (first | rfl | trivial | (simp [hdx]; done) | split | (dsimp only; split) | (refine ⟨?_, ?_⟩) | (refine foldl_rest P _ _ _ ?_) | intro _))
@[simp] theorem cmdBootInfo_keeps (P : Parts) : Cmd.Keeps P cmdBootInfo := by intros; (refine ⟨fun x s => ⟨?_, fun t => ?_⟩, fun x s => ?_⟩ <;> simp [cmdBootInfo, Res.Keeps])
@[simp] theorem cmdLigStatusGet_keeps (P : Parts) : Cmd.Keeps P cmdLigStatusGet := by intros; (refine ⟨fun x s => ⟨?_, fun t => ?_⟩, fun x s => ?_⟩ <;> simp [cmdLigStatusGet, Res.Keeps])
@[simp] theorem cmdSceneImport_keeps (P : Parts) (hprog : P.prog = true) (hsl : P.sl = true) : Cmd.Keeps P cmdSceneImport := by intros; (refine ⟨fun x s => ⟨?_, fun t => ?_⟩, fun x s => ?_⟩ <;> simp only [cmdSceneImport, Res.Keeps, hprog, hsl] <;> repeat' (first | rfl | trivial | (simp [hprog, hsl]; done) | split | (dsimp only; split) | (refine ⟨?_, ?_⟩) | (refine foldl_rest P _ _ _ ?_) | intro _))
@[simp] theorem cmdCueStatusGet_keeps (P : Parts) : Cmd.Keeps P cmdCueStatusGet := by intros; (refine ⟨fun x s => ⟨?_, fun t => ?_⟩, fun x s => ?_⟩ <;> simp [cmdCueStatusGet, Res.Keeps])
@[simp] theorem cmdModeWakeConfig_keeps (P : Parts) (hpower : P.power = true) : Cmd.Keeps P cmdModeWakeConfig := by intros; (refine ⟨fun x s => ⟨?_, fun t => ?_⟩, fun x s => ?_⟩ <;> simp [cmdModeWakeConfig, Res.Keeps, hpower])
@[simp] theorem cmdRtStatusGet_keeps (P : Parts) : Cmd.Keeps P cmdRtStatusGet := by intros; (refine ⟨fun x s => ⟨?_, fun t => ?_⟩, fun x s => ?_⟩ <;> simp [cmdRtStatusGet, Res.Keeps])
@[simp] theorem cmdGpioGet_keeps (P : Parts) : Cmd.Keeps P cmdGpioGet := by intros; (refine ⟨fun x s => ⟨?_, fun t => ?_⟩, fun x s => ?_⟩ <;> simp [cmdGpioGet, Res.Keeps])
@[simp] theorem cmdFolioMap_keeps (P : Parts) : Cmd.Keeps P cmdFolioMap := by intros; (refine ⟨fun x s => ⟨?_, fun t => ?_⟩, fun x s => ?_⟩ <;> simp [cmdFolioMap, Res.Keeps])
@[simp] theorem cmdProgList_keeps (P : Parts) : Cmd.Keeps P cmdProgList := by intros; (refine ⟨fun x s => ⟨?_, fun t => ?_⟩, fun x s => ?_⟩ <;> simp [cmdProgList, Res.Keeps])
@[simp] theorem cmdModeGet_keeps (P : Parts) : Cmd.Keeps P cmdModeGet := by intros; (refine ⟨fun x s => ⟨?_, fun t => ?_⟩, fun x s => ?_⟩ <;> simp [cmdModeGet, Res.Keeps])
@[simp] theorem cmdGrantGet_keeps (P : Parts) : Cmd.Keeps P cmdGrantGet := by intros; (refine ⟨fun x s => ⟨?_, fun t => ?_⟩, fun x s => ?_⟩ <;> simp [cmdGrantGet, Res.Keeps])
@[simp] theorem cmdLcProvision_keeps (P : Parts) (hdraws : P.draws = true) (hink : P.ink = true) (hhost : P.host = true) (hlife : P.life = true) (hvl : P.vl = true) : Cmd.Keeps P cmdLcProvision := by intros; (refine ⟨fun x s => ⟨?_, fun t => ?_⟩, fun x s => ?_⟩ <;> simp [cmdLcProvision, Res.Keeps, hdraws, hink, hhost, hlife, hvl])
@[simp] theorem cmdSerConfig_keeps (P : Parts) (hbl : P.bl = true) (hink : P.ink = true) (hhost : P.host = true) (htwin : P.twin = true) (hserif : P.serif = true) : Cmd.Keeps P cmdSerConfig := by intros; (refine ⟨fun x s => ⟨?_, fun t => ?_⟩, fun x s => ?_⟩ <;> simp only [cmdSerConfig, Res.Keeps, hbl, hink, hhost, htwin, hserif] <;> repeat' (first | rfl | trivial | (simp [hbl, hink, hhost, htwin, hserif]; done) | split | (dsimp only; split) | (refine ⟨?_, ?_⟩) | (refine foldl_rest P _ _ _ ?_) | intro _))
@[simp] theorem txSetBody_after (P : Parts) (hdraws : P.draws = true) (hink : P.ink = true) : ∀ (x : Ctx) (s t : State), State.rest P ((txSetBody x s).after t) = State.rest P t := by intros; (unfold txSetBody; repeat' (first | rfl | (simp [hdraws, hink]; done) | split | (dsimp only; split) | (refine foldl_rest P _ _ _ ?_) | intro _))
@[simp] theorem cmdFwWrite_keeps (P : Parts) (hboot : P.boot = true) (hsl : P.sl = true) (hflash : P.flash = true) : Cmd.Keeps P cmdFwWrite := by intros; (refine ⟨fun x s => ⟨?_, fun t => ?_⟩, fun x s => ?_⟩ <;> simp only [cmdFwWrite, Res.Keeps, hboot, hsl, hflash] <;> repeat' (first | rfl | trivial | (simp [hboot, hsl, hflash]; done) | split | (dsimp only; split) | (refine ⟨?_, ?_⟩) | (refine foldl_rest P _ _ _ ?_) | intro _))
@[simp] theorem cmdMsRosterSet_keeps (P : Parts) (hms : P.ms = true) : Cmd.Keeps P cmdMsRosterSet := by intros; (refine ⟨fun x s => ⟨?_, fun t => ?_⟩, fun x s => ?_⟩ <;> simp [cmdMsRosterSet, Res.Keeps, hms])
@[simp] theorem cmdLigPatchSet_keeps (P : Parts) (hlig : P.lig = true) : Cmd.Keeps P cmdLigPatchSet := by intros; (refine ⟨fun x s => ⟨?_, fun t => ?_⟩, fun x s => ?_⟩ <;> simp only [cmdLigPatchSet, Res.Keeps, hlig] <;> repeat' (first | rfl | trivial | (simp [hlig]; done) | split | (dsimp only; split) | (refine ⟨?_, ?_⟩) | (refine foldl_rest P _ _ _ ?_) | intro _))
@[simp] theorem cmdLtcStatusGet_keeps (P : Parts) : Cmd.Keeps P cmdLtcStatusGet := by intros; (refine ⟨fun x s => ⟨?_, fun t => ?_⟩, fun x s => ?_⟩ <;> simp [cmdLtcStatusGet, Res.Keeps])
@[simp] theorem cmdLcStatusGet_keeps (P : Parts) : Cmd.Keeps P cmdLcStatusGet := by intros; (refine ⟨fun x s => ⟨?_, fun t => ?_⟩, fun x s => ?_⟩ <;> simp [cmdLcStatusGet, Res.Keeps])
@[simp] theorem cmdNetPortStatusGet_keeps (P : Parts) : Cmd.Keeps P cmdNetPortStatusGet := by intros; (refine ⟨fun x s => ⟨?_, fun t => ?_⟩, fun x s => ?_⟩ <;> simp [cmdNetPortStatusGet, Res.Keeps])
@[simp] theorem cmdRtConfig_keeps (P : Parts) (hrt : P.rt = true) : Cmd.Keeps P cmdRtConfig := by intros; (refine ⟨fun x s => ⟨?_, fun t => ?_⟩, fun x s => ?_⟩ <;> simp [cmdRtConfig, Res.Keeps, hrt])
@[simp] theorem cmdMsFlourish_keeps (P : Parts) (hink : P.ink = true) (hhost : P.host = true) (htwin : P.twin = true) (hms : P.ms = true) (hprog : P.prog = true) : Cmd.Keeps P cmdMsFlourish := by intros; (refine ⟨fun x s => ⟨?_, fun t => ?_⟩, fun x s => ?_⟩ <;> simp [cmdMsFlourish, Res.Keeps, hink, hhost, htwin, hms, hprog])
@[simp] theorem cmdSheenSetDelete_keeps (P : Parts) (hsheen : P.sheen = true) : Cmd.Keeps P cmdSheenSetDelete := by intros; (refine ⟨fun x s => ⟨?_, fun t => ?_⟩, fun x s => ?_⟩ <;> simp [cmdSheenSetDelete, Res.Keeps, hsheen])
@[simp] theorem cmdHushClear_keeps (P : Parts) (hhush : P.hush = true) : Cmd.Keeps P cmdHushClear := by intros; (refine ⟨fun x s => ⟨?_, fun t => ?_⟩, fun x s => ?_⟩ <;> simp only [cmdHushClear, Res.Keeps, hhush] <;> repeat' (first | rfl | trivial | (simp [hhush]; done) | split | (dsimp only; split) | (refine ⟨?_, ?_⟩) | (refine foldl_rest P _ _ _ ?_) | intro _))
@[simp] theorem cmdNetTxSet_keeps (P : Parts) (hdraws : P.draws = true) (hink : P.ink = true) : Cmd.Keeps P cmdNetTxSet := by intros; (refine ⟨fun x s => ⟨?_, fun t => ?_⟩, fun x s => ?_⟩ <;> simp [cmdNetTxSet, Res.Keeps, hdraws, hink])
@[simp] theorem cmdResumeSet_keeps (P : Parts) (hboot : P.boot = true) : Cmd.Keeps P cmdResumeSet := by intros; (refine ⟨fun x s => ⟨?_, fun t => ?_⟩, fun x s => ?_⟩ <;> simp [cmdResumeSet, Res.Keeps, hboot])
@[simp] theorem cmdNetRxGet_keeps (P : Parts) : Cmd.Keeps P cmdNetRxGet := by intros; (refine ⟨fun x s => ⟨?_, fun t => ?_⟩, fun x s => ?_⟩ <;> simp [cmdNetRxGet, Res.Keeps])
@[simp] theorem cmdSsiRealign_keeps (P : Parts) (hstem : P.stem = true) (hbl : P.bl = true) : Cmd.Keeps P cmdSsiRealign := by intros; (refine ⟨fun x s => ⟨?_, fun t => ?_⟩, fun x s => ?_⟩ <;> simp [cmdSsiRealign, Res.Keeps, hstem, hbl])
@[simp] theorem cmdLigGainSet_keeps (P : Parts) (hink : P.ink = true) : Cmd.Keeps P cmdLigGainSet := by intros; (refine ⟨fun x s => ⟨?_, fun t => ?_⟩, fun x s => ?_⟩ <;> simp [cmdLigGainSet, Res.Keeps, hink])

end Machine
end Sys2Proof
end

