-- ==== Sys2Proof/Laws/Rest3.lean ====
section
/-! SUPPORT. What the operations that issue or serve a command keep. -/

set_option linter.unusedTactic false
set_option linter.unreachableTactic false
set_option linter.unusedSimpArgs false
set_option linter.unusedVariables false
set_option linter.style.longLine false
set_option linter.style.nameCheck false

namespace Sys2Proof
namespace Machine

@[simp] theorem cmdCueMapSet_keeps (P : Parts) (hquill : P.quill = true) (hprog : P.prog = true) : cmdCueMapSet.Keeps P := by
  refine ⟨fun x s => ?_, fun x s => trivial⟩
  simp only [cmdCueMapSet, hquill, hprog]
  generalize (if (cueEntryOf (x.p.drop 4)).source = 0 then ({} : CueEntry) else cueEntryOf (x.p.drop 4)) = e
  split <;> first | exact ⟨rfl, fun _ => rfl⟩ | exact ⟨by simp [hquill, hprog], fun _ => rfl⟩

theorem grantWrite_rest (P : Parts) (hink : P.ink = true) (kind role key : Nat) (s t : State) (h : grantWrite kind role key s = some t) : t.rest P = s.rest P := by
  unfold grantWrite at h
  repeat' (first | contradiction | (have h := Option.some.inj h; rw [← h]; simp [hink]) | split at h | dsimp only at h)

@[simp] theorem cmdGrantSet_keeps (P : Parts) (hink : P.ink = true) (hhost : P.host = true) : cmdGrantSet.Keeps P := by
  refine ⟨fun x s => ?_, fun x s => trivial⟩
  simp only [cmdGrantSet, hink, hhost]
  split
  · exact ⟨rfl, fun _ => rfl⟩
  · rename_i h
    split
    · exact ⟨rfl, fun _ => rfl⟩
    · exact ⟨by simp [grantWrite_rest P hink _ _ _ _ _ h, hink, hhost], fun u => foldl_rest P _ _ _ (by intros; simp [hink, hhost])⟩

theorem streamCmd_keeps (P : Parts) (hdraws : P.draws = true) (hink : P.ink = true) (hquill : P.quill = true) (tx : Bool) : (if tx then cmdNetTxSet else cmdNetRxSet).Keeps P := by
  split <;> simp [hdraws, hink, hquill]

@[simp] theorem qlApply_rest (P : Parts) (hdraws : P.draws = true) (hink : P.ink = true) (htwin : P.twin = true) (hquill : P.quill = true) (w : Nat) (s : State) : (qlApply w s).rest P = s.rest P := by
  unfold qlApply
  dsimp only
  split
  · rfl
  · have h := issueInternal_rest P hink htwin (if bit w 16 = true then 0x0412 else 0x0410) (if bit w 16 = true then cmdNetTxSet else cmdNetRxSet)
      { client := 0xFC, seq := 0, role := 3, p := le 2 (fld w 0 13) ++ (padTo 64 (if bit w 16 = true then ((txStream s (fld w 0 13)).window.getD (txStream s (fld w 0 13)).entry) else ((rxStream s (fld w 0 13)).window.getD (rxStream s (fld w 0 13)).entry))).drop 2 } s (streamCmd_keeps P hdraws hink hquill (bit w 16))
    split <;> (split <;> simp [h, hdraws, hink, htwin, hquill])

@[simp] theorem is05_rest (P : Parts) (hdraws : P.draws = true) (hink : P.ink = true) (htwin : P.twin = true) (hquill : P.quill = true) (tx : Bool) (entry : Bytes) (sdp : Option Sdp) (mode ns : Nat) (s : State) : (is05 tx entry sdp mode ns s).rest P = s.rest P := by
  unfold is05
  dsimp only
  repeat' (first | rfl | exact modQuill_rest P hquill _ _ | exact (modQuill_rest P hquill _ _).trans (issueInternal_rest P hink htwin _ _ _ s (streamCmd_keeps P hdraws hink hquill tx)) | split)

theorem cmdOf_keeps (P : Parts) (hdraws : P.draws = true) (hbl : P.bl = true) (hboot : P.boot = true) (hink : P.ink = true) (hhost : P.host = true) (htwin : P.twin = true) (hserif : P.serif = true) (hquill : P.quill = true) (hms : P.ms = true) (hprog : P.prog = true) (hlig : P.lig = true) (hsheen : P.sheen = true) (hvl : P.vl = true) (hsl : P.sl = true) (op : Nat) (c : Cmd) (h : cmdOf op = some c) : c.Keeps P := by
  unfold cmdOf at h
  split at h <;> first | contradiction | (have h := Option.some.inj h; rw [← h]; simp [hdraws, hbl, hboot, hink, hhost, htwin, hserif, hquill, hms, hprog, hlig, hsheen, hvl, hsl])

@[simp] theorem replay_rest (P : Parts) (hdraws : P.draws = true) (hbl : P.bl = true) (hboot : P.boot = true) (hink : P.ink = true) (hhost : P.host = true) (htwin : P.twin = true) (hserif : P.serif = true) (hquill : P.quill = true) (hms : P.ms = true) (hprog : P.prog = true) (hlig : P.lig = true) (hsheen : P.sheen = true) (hvl : P.vl = true) (hsl : P.sl = true) (e : TwinEntry) (s : State) : (replay e s).rest P = s.rest P := by
  unfold replay
  dsimp only
  split
  · simp [hdraws, hbl, hboot, hink, hhost, htwin, hserif, hquill, hms, hprog, hlig, hsheen, hvl, hsl]
  · rename_i c hc
    have hp := fun x => perform_keeps P hink e.opcode c x s (cmdOf_keeps P hdraws hbl hboot hink hhost htwin hserif hquill hms hprog hlig hsheen hvl hsl _ _ hc)
    generalize (if e.opcode = 0x0C06 then _ else _ : Ctx) = x
    split
    · simp only [relane_rest P hprog, retime_rest P hink, hdraws, hbl, hboot, hink, hhost, htwin, hserif, hquill, hms, hprog, hlig, hsheen, hvl, hsl]
      rw [(hp x).2, (hp x).1]
    · simp [hdraws, hbl, hboot, hink, hhost, htwin, hserif, hquill, hms, hprog, hlig, hsheen, hvl, hsl]

@[simp] theorem fireCue_rest (P : Parts) (hink : P.ink = true) (hhost : P.host = true) (htwin : P.twin = true) (hms : P.ms = true) (hprog : P.prog = true) (n : Nat) (e : CueEntry) (value : Option Int) (apply : Nat) (s0 : State) :
    (fireCue n e value apply s0).rest P = s0.rest P := by
  unfold fireCue
  dsimp only
  repeat' (first | rfl | (simp [hink, hhost, htwin, hms, hprog]; done) | split)

theorem placeSheet_rest (P : Parts) (hdraws : P.draws = true) (hink : P.ink = true) (hhost : P.host = true) (hfeed : P.feed = true) (hsheets : P.sheets = true) (n : Nat) (b : Option Bytes) (s : State) (sh : Option (Nat × Nat)) (t : State)
    (h : placeSheet n b s = some (sh, t)) : t.rest P = s.rest P := by
  unfold placeSheet at h
  split at h
  · have h := Option.some.inj h
    rw [← (Prod.mk.inj h).2]
  · split at h
    · rename_i ha
      have h := Option.some.inj h
      rw [← (Prod.mk.inj h).2]
      have h2 := congrArg (fun p => p.2.rest P) ha
      simp only [allocSheet_rest P hdraws hink hhost, hdraws, hink, hhost, hfeed, hsheets] at h2
      simp [h2, hdraws, hink, hhost, hfeed, hsheets]
    · cases h

theorem claimSheet_rest (P : Parts) (hdraws : P.draws = true) (hink : P.ink = true) (hhost : P.host = true) (hfeed : P.feed = true) (hsheets : P.sheets = true) (r : Request) (s : State) : (claimSheet r s).2.2.2.rest P = s.rest P := by
  unfold claimSheet
  repeat' (first | rfl | (simp [hdraws, hink, hhost, hfeed, hsheets]; done) | split | (dsimp only; split))
  all_goals (rename_i ha; have h2 := congrArg (fun p => p.2.rest P) ha; simp only [allocSheet_rest P hdraws hink hhost, hdraws, hink, hhost, hfeed, hsheets] at h2; simp [h2, hdraws, hink, hhost, hfeed, hsheets])

theorem execute_rest (P : Parts) (hdraws : P.draws = true) (hink : P.ink = true) (hhost : P.host = true) (htwin : P.twin = true) (hfeed : P.feed = true) (hsheets : P.sheets = true) (op : Nat) (c : Cmd) (r : Request) (x : Ctx) (crc : Word) (sheetOk poolOk : Bool) (h : Option Nat) (s1 : State)
    (hc : c.Keeps P) : (execute op c r x crc sheetOk poolOk h s1).rest P = s1.rest P := by
  have hp := fun u => perform_keeps P hink op c x u hc
  unfold execute
  dsimp only
  split
  · simp [hdraws, hink, hhost, htwin, hfeed, hsheets]
  · split
    · simp [hdraws, hink, hhost, htwin, hfeed, hsheets]
    · split
      · split <;> simp [(hp _).1, hdraws, hink, hhost, htwin, hfeed, hsheets]
      · split
        · simp [(hp _).1, hdraws, hink, hhost, htwin, hfeed, hsheets]
        · split
          · simp [hdraws, hink, hhost, htwin, hfeed, hsheets]
          · rename_i sh s3 hs
            have h3 := placeSheet_rest P hdraws hink hhost hfeed hsheets _ _ _ _ _ hs
            rw [(hp _).1] at h3
            simp [(hp _).2, h3, hdraws, hink, hhost, htwin, hfeed, hsheets]

/-- A frame that does not fit gives its command no lengths, and changes nothing else of it. -/
theorem fitted_keeps (P : Parts) (m : Bool) (c : Cmd) (h : c.Keeps P) : (fitted m c).Keeps P := by
  unfold fitted; split <;> exact h

theorem serveState_rest (P : Parts) (hdraws : P.draws = true) (hboot : P.boot = true) (hink : P.ink = true) (hhost : P.host = true) (htwin : P.twin = true) (hfeed : P.feed = true) (hsheets : P.sheets = true) (op : Nat) (c : Cmd) (r : Request) (s : State) (hc : c.Keeps P) : (serveState op c r s).rest P = s.rest P := by
  have h1 : (claimSheet r (takenState op r s)).2.2.2.rest P = s.rest P := by rw [claimSheet_rest P hdraws hink hhost hfeed hsheets, takenState_rest P hink]
  unfold serveState
  dsimp only
  split
  · rfl
  · split
    · simp [hdraws, hboot, hink, hhost, htwin, hfeed, hsheets]
    · split
      · simp [hdraws, hboot, hink, hhost, htwin, hfeed, hsheets]
      · split
        · simp [hdraws, hboot, hink, hhost, htwin, hfeed, hsheets]
        · split
          · rw [execute_rest P hdraws hink hhost htwin hfeed hsheets _ _ _ _ _ _ _ _ _ (fitted_keeps P _ c hc), h1]
          all_goals simp [h1, hdraws, hboot, hink, hhost, htwin, hfeed, hsheets]

@[simp] theorem meets_st (code a : Nat) (r : FeedRun) : (meets code a r).st = r.st := by unfold meets; split <;> rfl

@[simp] theorem deliver_st (b : Bytes) (r : FeedRun) : (deliver b r).st = r.st := by unfold deliver; split <;> rfl

@[simp] theorem readWord_rest (P : Parts) (hdraws : P.draws = true) (hboot : P.boot = true) (hink : P.ink = true) (hhost : P.host = true) (htwin : P.twin = true) (hrt : P.rt = true) (hfeed : P.feed = true) (hdx : P.dx = true) (hvl : P.vl = true) (hsheets : P.sheets = true) (hload : P.load = true) (hmem : P.mem = true) (q : FeedReq) (a n : Nat) (r : FeedRun) : (readWord q a n r).st.rest P = r.st.rest P := by
  unfold readWord
  repeat' (first | rfl | (simp [hdraws, hboot, hink, hhost, htwin, hrt, hfeed, hdx, hvl, hsheets, hload, hmem]; done) | split | (dsimp only; split))

@[simp] theorem writeWord_rest (P : Parts) (hdraws : P.draws = true) (hboot : P.boot = true) (hink : P.ink = true) (hhost : P.host = true) (htwin : P.twin = true) (hrt : P.rt = true) (hfeed : P.feed = true) (hdx : P.dx = true) (hvl : P.vl = true) (hsheets : P.sheets = true) (hload : P.load = true) (hmem : P.mem = true) (q : FeedReq) (a : Nat) (b : Bytes) (en : List Bool) (r : FeedRun) : (writeWord q a b en r).st.rest P = r.st.rest P := by
  unfold writeWord
  dsimp only
  have hf : ∀ t : State, (List.foldl (fun t (e : (Byte × Bool) × Nat) => if e.1.2 = true then setByte (a + e.2) e.1.1 t else t) t (b.zip en).zipIdx).rest P = t.rest P :=
    fun t => foldl_rest P _ _ _ (by intros; split <;> simp [hdraws, hboot, hink, hhost, htwin, hrt, hfeed, hdx, hvl, hsheets, hload, hmem])
  split
  · simp [hdraws, hboot, hink, hhost, htwin, hrt, hfeed, hdx, hvl, hsheets, hload, hmem]
  · split
    · simp [hdraws, hboot, hink, hhost, htwin, hrt, hfeed, hdx, hvl, hsheets, hload, hmem]
    · dsimp only
      split
      · rw [modFeed_rest P hfeed _ _ (by exact Or.inr fun _ => rfl), hf]; split <;> simp [hdraws, hboot, hink, hhost, htwin, hrt, hfeed, hdx, hvl, hsheets, hload, hmem]
      · rw [hf]; split <;> simp [hdraws, hboot, hink, hhost, htwin, hrt, hfeed, hdx, hvl, hsheets, hload, hmem]

@[simp] theorem memWords_rest (P : Parts) (hdraws : P.draws = true) (hboot : P.boot = true) (hink : P.ink = true) (hhost : P.host = true) (htwin : P.twin = true) (hrt : P.rt = true) (hfeed : P.feed = true) (hdx : P.dx = true) (hvl : P.vl = true) (hsheets : P.sheets = true) (hload : P.load = true) (hmem : P.mem = true) (q : FeedReq) (k a n : Nat) (r : FeedRun) : (memWords q k a n r).st.rest P = r.st.rest P := by
  induction k generalizing a n r with
  | zero => rfl
  | succ k ih =>
    unfold memWords
    split
    · rfl
    · dsimp only
      rw [ih]
      split <;> simp [hdraws, hboot, hink, hhost, htwin, hrt, hfeed, hdx, hvl, hsheets, hload, hmem]

@[simp] theorem inkPart_rest (P : Parts) (hdraws : P.draws = true) (hboot : P.boot = true) (hpower : P.power = true) (hink : P.ink = true) (hhost : P.host = true) (q : FeedReq) (a n : Nat) (r : FeedRun) : (inkPart q a n r).st.rest P = r.st.rest P := by
  unfold inkPart
  extract_lets s o b
  split
  · split
    · rw [deliver_st]
    · split
      · exact inkWrite_rest P hdraws hboot hpower hink hhost _ _ _ _ _ _
      · exact setHostErr_rest P hhost _ _
  · split
    · rw [deliver_st]
    · split
      · exact modWell_rest P hink _ _ _
      · rfl

@[simp] theorem checkRx_rest (P : Parts) (hink : P.ink = true) (hhost : P.host = true) (htwin : P.twin = true) (hvl : P.vl = true) (h : TwinHead) (period result : Nat) (s : State) : (checkRx h period result s).rest P = s.rest P := by
  unfold checkRx
  refine withLink_rest P htwin _ _ _ (fun t => ?_)
  split
  · rfl
  · dsimp only
    split
    · split <;> simp [hink, hhost, htwin, hvl]
    · simp [hink, hhost, htwin, hvl]

@[simp] theorem twinHelloRx_rest (P : Parts) (hdraws : P.draws = true) (hink : P.ink = true) (hhost : P.host = true) (htwin : P.twin = true) : ∀ (h : TwinHead) (nonce : Nat) (p : TwinPeer) (s : State), State.rest P (twinHelloRx h nonce p s) = State.rest P s := by intros; simp [twinHelloRx, hdraws, hink, hhost, htwin]
@[simp] theorem handoverRx_rest (P : Parts) (htwin : P.twin = true) : ∀ (h : TwinHead) (point claim : Nat) (s : State), State.rest P (handoverRx h point claim s) = State.rest P s := by intros; simp [handoverRx, htwin]
@[simp] theorem snapRx_rest (P : Parts) (hbl : P.bl = true) (hink : P.ink = true) (hhost : P.host = true) (htwin : P.twin = true) (hserif : P.serif = true) (hquill : P.quill = true) (hms : P.ms = true) (hrt : P.rt = true) (hprog : P.prog = true) (hlig : P.lig = true) (hsheen : P.sheen = true) (hvl : P.vl = true) : ∀ (h : TwinHead) (at_ offset total : Nat) (data : Bytes) (moved : Bool) (s : State), State.rest P (snapRx h at_ offset total data moved s) = State.rest P s := by intros; simp [snapRx, hbl, hink, hhost, htwin, hserif, hquill, hms, hrt, hprog, hlig, hsheen, hvl]
@[simp] theorem ackRxTwin_rest (P : Parts) (htwin : P.twin = true) : ∀ (h : TwinHead) (jsn : Nat) (s : State), State.rest P (ackRxTwin h jsn s) = State.rest P s := by intros; simp [ackRxTwin, htwin]
@[simp] theorem qlWrite_rest (P : Parts) (hdraws : P.draws = true) (hink : P.ink = true) (hhost : P.host = true) (htwin : P.twin = true) (hquill : P.quill = true) : ∀ (o w : Nat) (s : State), State.rest P (qlWrite o w s) = State.rest P s := by intros; simp [qlWrite, hdraws, hink, hhost, htwin, hquill]
@[simp] theorem writeReg_rest (P : Parts) (hdraws : P.draws = true) (hstem : P.stem = true) (hbl : P.bl = true) (hboot : P.boot = true) (hpower : P.power = true) (hink : P.ink = true) (hhost : P.host = true) (htwin : P.twin = true) (hserif : P.serif = true) (hquill : P.quill = true) (hrt : P.rt = true) (hfeed : P.feed = true) (hdx : P.dx = true) (hprog : P.prog = true) (hlig : P.lig = true) (hvl : P.vl = true) (hsl : P.sl = true) (hcb : P.cb = true) (hmem : P.mem = true) : ∀ (i o w : Nat) (s : State), State.rest P (writeReg i o w s) = State.rest P s := by intros; (unfold writeReg; split <;> simp [hdraws, hstem, hbl, hboot, hpower, hink, hhost, htwin, hserif, hquill, hrt, hfeed, hdx, hprog, hlig, hvl, hsl, hcb, hmem])
@[simp] theorem journalRx_rest (P : Parts) (hdraws : P.draws = true) (hbl : P.bl = true) (hboot : P.boot = true) (hink : P.ink = true) (hhost : P.host = true) (htwin : P.twin = true) (hserif : P.serif = true) (hquill : P.quill = true) (hms : P.ms = true) (hprog : P.prog = true) (hlig : P.lig = true) (hsheen : P.sheen = true) (hvl : P.vl = true) (hsl : P.sl = true) : ∀ (e : TwinEntry) (s : State), State.rest P (journalRx e s) = State.rest P s := by intros; simp [journalRx, hdraws, hbl, hboot, hink, hhost, htwin, hserif, hquill, hms, hprog, hlig, hsheen, hvl, hsl]
@[simp] theorem atomicWord_rest (P : Parts) (hdraws : P.draws = true) (hboot : P.boot = true) (hpower : P.power = true) (hink : P.ink = true) (hhost : P.host = true) (htwin : P.twin = true) (hrt : P.rt = true) (hfeed : P.feed = true) (hdx : P.dx = true) (hvl : P.vl = true) (hsheets : P.sheets = true) (hload : P.load = true) (hmem : P.mem = true) : ∀ (q : FeedAtomic) (g : Region) (s : State), State.rest P (atomicWord q g s) = State.rest P s := by intros; (unfold atomicWord; repeat' (first | (simp [hdraws, hboot, hpower, hink, hhost, htwin, hrt, hfeed, hdx, hvl, hsheets, hload, hmem]; done) | split | (dsimp only; split) | (refine foldl_rest P _ _ _ ?_) | intro _))
@[simp] theorem writeRegs_rest (P : Parts) (hdraws : P.draws = true) (hstem : P.stem = true) (hbl : P.bl = true) (hboot : P.boot = true) (hpower : P.power = true) (hink : P.ink = true) (hhost : P.host = true) (htwin : P.twin = true) (hserif : P.serif = true) (hquill : P.quill = true) (hrt : P.rt = true) (hfeed : P.feed = true) (hdx : P.dx = true) (hprog : P.prog = true) (hlig : P.lig = true) (hvl : P.vl = true) (hsl : P.sl = true) (hcb : P.cb = true) (hmem : P.mem = true) : ∀ (i : Nat) (l : List (Nat × Nat)) (s : State), State.rest P (writeRegs i l s) = State.rest P s := by intros; simp [writeRegs, hdraws, hstem, hbl, hboot, hpower, hink, hhost, htwin, hserif, hquill, hrt, hfeed, hdx, hprog, hlig, hvl, hsl, hcb, hmem]
@[simp] theorem oscAct_rest (P : Parts) (hink : P.ink = true) (hhost : P.host = true) (htwin : P.twin = true) (hms : P.ms = true) (hprog : P.prog = true) : ∀ (m : Bytes × Option Int) (s : State), State.rest P (oscAct m s) = State.rest P s := by intros; simp [oscAct, hink, hhost, htwin, hms, hprog]
@[simp] theorem oscMessage_rest (P : Parts) (hink : P.ink = true) (hhost : P.host = true) (htwin : P.twin = true) (hms : P.ms = true) (hprog : P.prog = true) : ∀ (net port : Nat) (data : Bytes) (s : State), State.rest P (oscMessage net port data s) = State.rest P s := by intros; simp [oscMessage, hink, hhost, htwin, hms, hprog]
@[simp] theorem feedAtomic_rest (P : Parts) (hdraws : P.draws = true) (hboot : P.boot = true) (hpower : P.power = true) (hink : P.ink = true) (hhost : P.host = true) (htwin : P.twin = true) (hrt : P.rt = true) (hfeed : P.feed = true) (hdx : P.dx = true) (hvl : P.vl = true) (hsheets : P.sheets = true) (hload : P.load = true) (hmem : P.mem = true) : ∀ (q : FeedAtomic) (s : State), State.rest P (feedAtomic q s) = State.rest P s := by intros; (unfold feedAtomic; repeat' (first | (simp [hdraws, hboot, hpower, hink, hhost, htwin, hrt, hfeed, hdx, hvl, hsheets, hload, hmem]; done) | split))
@[simp] theorem fireSlots_rest (P : Parts) (hink : P.ink = true) (hhost : P.host = true) (htwin : P.twin = true) (hms : P.ms = true) (hprog : P.prog = true) : ∀ (univ : Nat) (old : Tab Nat) (b : Bytes) (s : State), State.rest P (fireSlots univ old b s) = State.rest P s := by intros; (unfold fireSlots; repeat' (first | (simp [hink, hhost, htwin, hms, hprog]; done) | split | (dsimp only; split) | (refine foldl_rest P _ _ _ ?_) | intro _))
@[simp] theorem sacnPacket.go_rest (P : Parts) (hink : P.ink = true) (hhost : P.host = true) (htwin : P.twin = true) (hms : P.ms = true) (hprog : P.prog = true) : ∀ (p : SacnPacket) (s : State) (u : Universe) (l : List SacnSource), State.rest P (sacnPacket.go p s u l) = State.rest P s := by intros; simp [sacnPacket.go, hink, hhost, htwin, hms, hprog]
@[simp] theorem giveUpRx_rest (P : Parts) (hink : P.ink = true) (hhost : P.host = true) (htwin : P.twin = true) : ∀ (h : TwinHead) (stop : Nat) (s : State), State.rest P (giveUpRx h stop s) = State.rest P s := by intros; simp [giveUpRx, hink, hhost, htwin]
@[simp] theorem timecodeTrigger_rest (P : Parts) (hink : P.ink = true) (hhost : P.host = true) (htwin : P.twin = true) (hms : P.ms = true) (hprog : P.prog = true) : ∀ (n k : Nat) (s : State), State.rest P (timecodeTrigger n k s) = State.rest P s := by intros; (unfold timecodeTrigger; split <;> simp [hink, hhost, htwin, hms, hprog])
@[simp] theorem statusRx_rest (P : Parts) (hink : P.ink = true) (hhost : P.host = true) (htwin : P.twin = true) (hserif : P.serif = true) : ∀ (f : TwinStatus) (s : State), State.rest P (statusRx f s) = State.rest P s := by intros; simp [statusRx, hink, hhost, htwin, hserif]
@[simp] theorem sacnPacket_rest (P : Parts) (hink : P.ink = true) (hhost : P.host = true) (htwin : P.twin = true) (hms : P.ms = true) (hprog : P.prog = true) : ∀ (p : SacnPacket) (s : State), State.rest P (sacnPacket p s) = State.rest P s := by intros; (unfold sacnPacket; repeat' (first | (simp [hink, hhost, htwin, hms, hprog]; done) | split | (dsimp only; split) | (refine foldl_rest P _ _ _ ?_) | intro _))
@[simp] theorem ltcFrame_rest (P : Parts) (hink : P.ink = true) (hhost : P.host = true) (htwin : P.twin = true) (hms : P.ms = true) (hprog : P.prog = true) : ∀ (f : LtcFrame) (start : Nat) (s : State), State.rest P (ltcFrame f start s) = State.rest P s := by intros; simp [ltcFrame, hink, hhost, htwin, hms, hprog]
@[simp] theorem viewRx_rest (P : Parts) (hink : P.ink = true) (hhost : P.host = true) (hms : P.ms = true) (hprog : P.prog = true) : ∀ (via view : Nat) (members : List Nat) (scene : Option (Nat × Nat × Nat)) (s : State), State.rest P (viewRx via view members scene s) = State.rest P s := by intros; simp [viewRx, hink, hhost, hms, hprog]

@[simp] theorem regPart_rest (P : Parts) (hdraws : P.draws = true) (hstem : P.stem = true) (hbl : P.bl = true) (hboot : P.boot = true) (hpower : P.power = true) (hink : P.ink = true) (hhost : P.host = true) (htwin : P.twin = true) (hhush : P.hush = true) (hserif : P.serif = true) (hquill : P.quill = true) (hrt : P.rt = true) (hfeed : P.feed = true) (hdx : P.dx = true) (hprog : P.prog = true) (hlig : P.lig = true) (hsheen : P.sheen = true) (hvl : P.vl = true) (hsl : P.sl = true) (hcb : P.cb = true) (hmem : P.mem = true) (q : FeedReq) (a n : Nat) (r : FeedRun) : (regPart q a n r).st.rest P = r.st.rest P := by
  unfold regPart
  extract_lets i o
  split
  · rw [meets_st]
  · split
    · exact writeReg_rest P hdraws hstem hbl hboot hpower hink hhost htwin hserif hquill hrt hfeed hdx hprog hlig hvl hsl hcb hmem _ _ _ _
    · rw [deliver_st]
      exact readReg_rest P hstem hhost hhush hfeed hdx hprog hsheen hvl hsl hcb _ _ _

@[simp] theorem feedPart_rest (P : Parts) (hdraws : P.draws = true) (hstem : P.stem = true) (hbl : P.bl = true) (hboot : P.boot = true) (hpower : P.power = true) (hink : P.ink = true) (hhost : P.host = true) (htwin : P.twin = true) (hhush : P.hush = true) (hserif : P.serif = true) (hquill : P.quill = true) (hrt : P.rt = true) (hfeed : P.feed = true) (hdx : P.dx = true) (hprog : P.prog = true) (hlig : P.lig = true) (hsheen : P.sheen = true) (hvl : P.vl = true) (hsl : P.sl = true) (hcb : P.cb = true) (hsheets : P.sheets = true) (hload : P.load = true) (hmem : P.mem = true) (q : FeedReq) (a n : Nat) (r : FeedRun) : (feedPart q a n r).st.rest P = r.st.rest P := by
  unfold feedPart
  split
  · rw [meets_st]
  · split
    · rw [meets_st]
    · split <;> simp [hdraws, hstem, hbl, hboot, hpower, hink, hhost, htwin, hhush, hserif, hquill, hrt, hfeed, hdx, hprog, hlig, hsheen, hvl, hsl, hcb, hsheets, hload, hmem]

@[simp] theorem feedParts_rest (P : Parts) (hdraws : P.draws = true) (hstem : P.stem = true) (hbl : P.bl = true) (hboot : P.boot = true) (hpower : P.power = true) (hink : P.ink = true) (hhost : P.host = true) (htwin : P.twin = true) (hhush : P.hush = true) (hserif : P.serif = true) (hquill : P.quill = true) (hrt : P.rt = true) (hfeed : P.feed = true) (hdx : P.dx = true) (hprog : P.prog = true) (hlig : P.lig = true) (hsheen : P.sheen = true) (hvl : P.vl = true) (hsl : P.sl = true) (hcb : P.cb = true) (hsheets : P.sheets = true) (hload : P.load = true) (hmem : P.mem = true) (q : FeedReq) (k a n : Nat) (r : FeedRun) : (feedParts q k a n r).st.rest P = r.st.rest P := by
  induction k generalizing a n r with
  | zero => rfl
  | succ k ih =>
    unfold feedParts
    split
    · rfl
    · dsimp only
      rw [ih, feedPart_rest P hdraws hstem hbl hboot hpower hink hhost htwin hhush hserif hquill hrt hfeed hdx hprog hlig hsheen hvl hsl hcb hsheets hload hmem]

@[simp] theorem feedAccess_rest (P : Parts) (hdraws : P.draws = true) (hstem : P.stem = true) (hbl : P.bl = true) (hboot : P.boot = true) (hpower : P.power = true) (hink : P.ink = true) (hhost : P.host = true) (htwin : P.twin = true) (hhush : P.hush = true) (hserif : P.serif = true) (hquill : P.quill = true) (hrt : P.rt = true) (hfeed : P.feed = true) (hdx : P.dx = true) (hprog : P.prog = true) (hlig : P.lig = true) (hsheen : P.sheen = true) (hvl : P.vl = true) (hsl : P.sl = true) (hcb : P.cb = true) (hsheets : P.sheets = true) (hload : P.load = true) (hmem : P.mem = true) (q : FeedReq) (s : State) : (feedAccess q s).rest P = s.rest P := by
  unfold feedAccess
  split
  · rfl
  · extract_lets r s1 s2
    have hr : r.st.rest P = s.rest P := by simp [r, hdraws, hstem, hbl, hboot, hpower, hink, hhost, htwin, hhush, hserif, hquill, hrt, hfeed, hdx, hprog, hlig, hsheen, hvl, hsl, hcb, hsheets, hload, hmem]
    have h1 : s1.rest P = s.rest P := by simp only [s1, hdraws, hstem, hbl, hboot, hpower, hink, hhost, htwin, hhush, hserif, hquill, hrt, hfeed, hdx, hprog, hlig, hsheen, hvl, hsl, hcb, hsheets, hload, hmem]; split <;> simp [hr, hdraws, hstem, hbl, hboot, hpower, hink, hhost, htwin, hhush, hserif, hquill, hrt, hfeed, hdx, hprog, hlig, hsheen, hvl, hsl, hcb, hsheets, hload, hmem]
    have h2 : s2.rest P = s.rest P := by simp only [s2, hdraws, hstem, hbl, hboot, hpower, hink, hhost, htwin, hhush, hserif, hquill, hrt, hfeed, hdx, hprog, hlig, hsheen, hvl, hsl, hcb, hsheets, hload, hmem]; split <;> simp [h1, hdraws, hstem, hbl, hboot, hpower, hink, hhost, htwin, hhush, hserif, hquill, hrt, hfeed, hdx, hprog, hlig, hsheen, hvl, hsl, hcb, hsheets, hload, hmem]
    rw [modFeed_rest P hfeed _ _ (by exact Or.inr fun _ => rfl), noteScrub_rest P hrt, h2]

theorem cmdRegWrite_keeps (P : Parts) (hdraws : P.draws = true) (hstem : P.stem = true) (hbl : P.bl = true) (hboot : P.boot = true) (hpower : P.power = true) (hink : P.ink = true) (hhost : P.host = true) (htwin : P.twin = true) (hserif : P.serif = true) (hquill : P.quill = true) (hrt : P.rt = true) (hfeed : P.feed = true) (hdx : P.dx = true) (hprog : P.prog = true) (hlig : P.lig = true) (hvl : P.vl = true) (hsl : P.sl = true) (hcb : P.cb = true) (hmem : P.mem = true) : cmdRegWrite.Keeps P := by
  refine ⟨fun x s => ⟨?_, fun t => rfl⟩, fun x s => trivial⟩
  simp [cmdRegWrite, hdraws, hstem, hbl, hboot, hpower, hink, hhost, htwin, hserif, hquill, hrt, hfeed, hdx, hprog, hlig, hvl, hsl, hcb, hmem]

theorem serve_rest (P : Parts) (hdraws : P.draws = true) (hboot : P.boot = true) (hink : P.ink = true) (hhost : P.host = true) (htwin : P.twin = true) (hfeed : P.feed = true) (hsheets : P.sheets = true) (op : Nat) (c : Cmd) (r : Request) (s t : State) (hc : c.Keeps P) (h : serve op c r s = .next t) :
    t.rest P = s.rest P := by
  unfold serve at h
  split at h
  · have h := Host.Outcome.next.inj h
    rw [← h]
    exact serveState_rest P hdraws hboot hink hhost htwin hfeed hsheets op c r s hc
  · cases h

end Machine
end Sys2Proof
end

