-- ==== Sys2Proof/Laws/Serve.lean ====
section
/-! SUPPORT. What serving a request can do: the one case analysis of `serve`, in the terms of Safety. -/

namespace Sys2Proof.Machine

/-- A request that Scribe takes while its command is not served is answered NOT_READY. -/
theorem serveState_early (op : Nat) (c : Cmd) (r : Request) (s : State) (h : Taken r s) (ha : admitted op s = false) :
    serveState op c r s = replyNotReady r.client op r.seq (takenState op r s) := by
  obtain ⟨-, h2, h3, h4, h5⟩ := h
  unfold serveState
  rw [if_neg (by simp [h2, h3]), if_neg (by simp [h4]), if_neg (by simpa using h5), if_pos (by simp [ha])]

/-- A request that reaches the sequence rule is served as the rule's verdict says. -/
theorem serveState_reaches (op : Nat) (c : Cmd) (r : Request) (s : State) (h : Reaches op r s) :
    serveState op c r s =
      match verdict op r s with
      | .execute => execute op (taken c r s) r (context op r s) (requestCheck op r s) (sheetUsable op r s) (sheetFound op r s) (sheetHandle op r s) (claimed op r s)
      | .resend q => releaseSheet r.client (sheetHandle op r s) (writeReply r.client (resent (sheetHandle op r s) q) (claimed op r s))
      | .running => releaseSheet r.client (sheetHandle op r s)
          (writeReply r.client { opcode := op, seq := r.seq, status := .duplicate, dup := true } (claimed op r s))
      | .conflict => releaseSheet r.client (sheetHandle op r s)
          (writeReply r.client { opcode := op, seq := r.seq, status := .seqConflict } (claimed op r s)) := by
  obtain ⟨⟨-, h2, h3, h4, h5⟩, h6⟩ := h
  unfold serveState
  rw [if_neg (by simp [h2, h3]), if_neg (by simp [h4]), if_neg (by simpa using h5), if_neg (by simp [h6])]
  rfl

/-- A request that some check refuses changes what the refusal says, and nothing else. -/
theorem execute_refused (op : Nat) (c : Cmd) (r : Request) (s : State) (st : Status) (d : Bytes) (hp : sheetFound op r s = true)
    (h : checks op c r s = some (st, d)) :
    execute op (taken c r s) r (context op r s) (requestCheck op r s) (sheetUsable op r s) (sheetFound op r s) (sheetHandle op r s) (claimed op r s) =
      refused op r st d s := by
  unfold checks checked at h
  simp only [execute, hp, not_true, if_false, h]
  rfl

/-- An accepted request has its command's effect and its reply. -/
theorem execute_accepted (op : Nat) (c : Cmd) (r : Request) (s : State) (hp : sheetFound op r s = true) (hc : checks op c r s = none)
    (hs : succeeded (effect op c r s).status = true)
    (hw : (effect op c r s).wait = true ∨ (placeSheet r.client (effect op c r s).sheet (effect op c r s).st).isSome = true) :
    execute op (taken c r s) r (context op r s) (requestCheck op r s) (sheetUsable op r s) (sheetFound op r s) (sheetHandle op r s) (claimed op r s) =
      served op c r s := by
  have he : effect op c r s = perform op (taken c r s) (context op r s)
      (modWell r.client (fun w => { w with lastSeq := (r.seq + 65535) % 65536, fresh := false }) (claimed op r s)) := rfl
  unfold checks checked at hc
  simp only [execute, hp, not_true, if_false, hc, ← he, hs]
  unfold served
  split
  · rfl
  · rename_i hn
    obtain hw | hw := hw
    · exact absurd hw hn
    · obtain ⟨q, hq⟩ := Option.isSome_iff_exists.1 hw
      simp only [replied, hq]

/-- An accepted request completes: the outcome is the next state that its command gives. -/
theorem serve_accepted (op : Nat) (c : Cmd) (r : Request) (s : State) (h : Accepted op c r s) :
    serve op c r s = .next (served op c r s) := by
  obtain ⟨hr, hv, hp, hc, hs, hw⟩ := h
  unfold serve
  rw [if_pos hr.1.1, serveState_reaches op c r s hr, hv]
  exact congrArg _ (execute_accepted op c r s hp hc hs hw)

/-- The meaning of a Sprinile command is serving its request. -/
theorem sprinile_serve : ∀ e ∈ sprinileRows, ∀ (r : Request) (s : State), exec (e.row r) s = serve e.op e.cmd r s := by
  simp only [sprinileRows, sysRows, blRows, modeRows, netRows, serRows, ligRows, instRows, sceneRows, sheenRows, hushRows, twinRows, msRows, sealRows, rtRows, vlRows, expRows,
    List.forall_mem_append, List.forall_mem_cons]
  repeat' apply And.intro
  all_goals first | (intro r s; rfl) | exact fun x hx => absurd hx (List.not_mem_nil)

/-- A request of one of the 64 clients is served. -/
theorem serve_client (op : Nat) (c : Cmd) (r : Request) (s : State) (h : r.client < 64) : serve op c r s = .next (serveState op c r s) := by
  rw [serve, if_pos h]

end Sys2Proof.Machine
end

