-- ==== Sys2Proof/Laws/State.lean ====
section
/-! SUPPORT. What each update of one unit does to each field of the state: the unit's field takes the new value, every other
stays. -/

set_option linter.style.longLine false

namespace Sys2Proof
namespace Machine

/-! ### modBoot -/

@[simp] theorem modBoot_pending (f : Boot → Boot) (s : State) : (modBoot f s).pending = s.pending := rfl
@[simp] theorem modBoot_draws (f : Boot → Boot) (s : State) : (modBoot f s).draws = s.draws := rfl
@[simp] theorem modBoot_variant (f : Boot → Boot) (s : State) : (modBoot f s).variant = s.variant := rfl
@[simp] theorem modBoot_stem (f : Boot → Boot) (s : State) : (modBoot f s).stem = s.stem := rfl
@[simp] theorem modBoot_bl (f : Boot → Boot) (s : State) : (modBoot f s).bl = s.bl := rfl
@[simp] theorem modBoot_boot (f : Boot → Boot) (s : State) : (modBoot f s).boot = f s.boot := rfl
@[simp] theorem modBoot_power (f : Boot → Boot) (s : State) : (modBoot f s).power = s.power := rfl
@[simp] theorem modBoot_ink (f : Boot → Boot) (s : State) : (modBoot f s).ink = s.ink := rfl
@[simp] theorem modBoot_host (f : Boot → Boot) (s : State) : (modBoot f s).host = s.host := rfl
@[simp] theorem modBoot_twin (f : Boot → Boot) (s : State) : (modBoot f s).twin = s.twin := rfl
@[simp] theorem modBoot_hush (f : Boot → Boot) (s : State) : (modBoot f s).hush = s.hush := rfl
@[simp] theorem modBoot_serif (f : Boot → Boot) (s : State) : (modBoot f s).serif = s.serif := rfl
@[simp] theorem modBoot_quill (f : Boot → Boot) (s : State) : (modBoot f s).quill = s.quill := rfl
@[simp] theorem modBoot_ms (f : Boot → Boot) (s : State) : (modBoot f s).ms = s.ms := rfl
@[simp] theorem modBoot_rt (f : Boot → Boot) (s : State) : (modBoot f s).rt = s.rt := rfl
@[simp] theorem modBoot_life (f : Boot → Boot) (s : State) : (modBoot f s).life = s.life := rfl
@[simp] theorem modBoot_feed (f : Boot → Boot) (s : State) : (modBoot f s).feed = s.feed := rfl
@[simp] theorem modBoot_dx (f : Boot → Boot) (s : State) : (modBoot f s).dx = s.dx := rfl
@[simp] theorem modBoot_prog (f : Boot → Boot) (s : State) : (modBoot f s).prog = s.prog := rfl
@[simp] theorem modBoot_lig (f : Boot → Boot) (s : State) : (modBoot f s).lig = s.lig := rfl
@[simp] theorem modBoot_sheen (f : Boot → Boot) (s : State) : (modBoot f s).sheen = s.sheen := rfl
@[simp] theorem modBoot_vl (f : Boot → Boot) (s : State) : (modBoot f s).vl = s.vl := rfl
@[simp] theorem modBoot_sl (f : Boot → Boot) (s : State) : (modBoot f s).sl = s.sl := rfl
@[simp] theorem modBoot_cb (f : Boot → Boot) (s : State) : (modBoot f s).cb = s.cb := rfl
@[simp] theorem modBoot_resume (f : Boot → Boot) (s : State) : (modBoot f s).resume = s.resume := rfl
@[simp] theorem modBoot_entry (f : Boot → Boot) (s : State) : (modBoot f s).entry = s.entry := rfl

/-! ### modHost -/

@[simp] theorem modHost_pending (f : HostIf → HostIf) (s : State) : (modHost f s).pending = s.pending := rfl
@[simp] theorem modHost_draws (f : HostIf → HostIf) (s : State) : (modHost f s).draws = s.draws := rfl
@[simp] theorem modHost_variant (f : HostIf → HostIf) (s : State) : (modHost f s).variant = s.variant := rfl
@[simp] theorem modHost_stem (f : HostIf → HostIf) (s : State) : (modHost f s).stem = s.stem := rfl
@[simp] theorem modHost_bl (f : HostIf → HostIf) (s : State) : (modHost f s).bl = s.bl := rfl
@[simp] theorem modHost_boot (f : HostIf → HostIf) (s : State) : (modHost f s).boot = s.boot := rfl
@[simp] theorem modHost_power (f : HostIf → HostIf) (s : State) : (modHost f s).power = s.power := rfl
@[simp] theorem modHost_ink (f : HostIf → HostIf) (s : State) : (modHost f s).ink = s.ink := rfl
@[simp] theorem modHost_host (f : HostIf → HostIf) (s : State) : (modHost f s).host = f s.host := rfl
@[simp] theorem modHost_twin (f : HostIf → HostIf) (s : State) : (modHost f s).twin = s.twin := rfl
@[simp] theorem modHost_hush (f : HostIf → HostIf) (s : State) : (modHost f s).hush = s.hush := rfl
@[simp] theorem modHost_serif (f : HostIf → HostIf) (s : State) : (modHost f s).serif = s.serif := rfl
@[simp] theorem modHost_quill (f : HostIf → HostIf) (s : State) : (modHost f s).quill = s.quill := rfl
@[simp] theorem modHost_ms (f : HostIf → HostIf) (s : State) : (modHost f s).ms = s.ms := rfl
@[simp] theorem modHost_rt (f : HostIf → HostIf) (s : State) : (modHost f s).rt = s.rt := rfl
@[simp] theorem modHost_life (f : HostIf → HostIf) (s : State) : (modHost f s).life = s.life := rfl
@[simp] theorem modHost_feed (f : HostIf → HostIf) (s : State) : (modHost f s).feed = s.feed := rfl
@[simp] theorem modHost_dx (f : HostIf → HostIf) (s : State) : (modHost f s).dx = s.dx := rfl
@[simp] theorem modHost_prog (f : HostIf → HostIf) (s : State) : (modHost f s).prog = s.prog := rfl
@[simp] theorem modHost_lig (f : HostIf → HostIf) (s : State) : (modHost f s).lig = s.lig := rfl
@[simp] theorem modHost_sheen (f : HostIf → HostIf) (s : State) : (modHost f s).sheen = s.sheen := rfl
@[simp] theorem modHost_vl (f : HostIf → HostIf) (s : State) : (modHost f s).vl = s.vl := rfl
@[simp] theorem modHost_sl (f : HostIf → HostIf) (s : State) : (modHost f s).sl = s.sl := rfl
@[simp] theorem modHost_cb (f : HostIf → HostIf) (s : State) : (modHost f s).cb = s.cb := rfl
@[simp] theorem modHost_resume (f : HostIf → HostIf) (s : State) : (modHost f s).resume = s.resume := rfl
@[simp] theorem modHost_entry (f : HostIf → HostIf) (s : State) : (modHost f s).entry = s.entry := rfl

/-! ### modPcie -/

@[simp] theorem modPcie_pending (f : Pcie → Pcie) (s : State) : (modPcie f s).pending = s.pending := rfl
@[simp] theorem modPcie_draws (f : Pcie → Pcie) (s : State) : (modPcie f s).draws = s.draws := rfl
@[simp] theorem modPcie_variant (f : Pcie → Pcie) (s : State) : (modPcie f s).variant = s.variant := rfl
@[simp] theorem modPcie_stem (f : Pcie → Pcie) (s : State) : (modPcie f s).stem = s.stem := rfl
@[simp] theorem modPcie_bl (f : Pcie → Pcie) (s : State) : (modPcie f s).bl = s.bl := rfl
@[simp] theorem modPcie_boot (f : Pcie → Pcie) (s : State) : (modPcie f s).boot = s.boot := rfl
@[simp] theorem modPcie_power (f : Pcie → Pcie) (s : State) : (modPcie f s).power = s.power := rfl
@[simp] theorem modPcie_ink (f : Pcie → Pcie) (s : State) : (modPcie f s).ink = s.ink := rfl
@[simp] theorem modPcie_twin (f : Pcie → Pcie) (s : State) : (modPcie f s).twin = s.twin := rfl
@[simp] theorem modPcie_hush (f : Pcie → Pcie) (s : State) : (modPcie f s).hush = s.hush := rfl
@[simp] theorem modPcie_serif (f : Pcie → Pcie) (s : State) : (modPcie f s).serif = s.serif := rfl
@[simp] theorem modPcie_quill (f : Pcie → Pcie) (s : State) : (modPcie f s).quill = s.quill := rfl
@[simp] theorem modPcie_ms (f : Pcie → Pcie) (s : State) : (modPcie f s).ms = s.ms := rfl
@[simp] theorem modPcie_rt (f : Pcie → Pcie) (s : State) : (modPcie f s).rt = s.rt := rfl
@[simp] theorem modPcie_life (f : Pcie → Pcie) (s : State) : (modPcie f s).life = s.life := rfl
@[simp] theorem modPcie_feed (f : Pcie → Pcie) (s : State) : (modPcie f s).feed = s.feed := rfl
@[simp] theorem modPcie_dx (f : Pcie → Pcie) (s : State) : (modPcie f s).dx = s.dx := rfl
@[simp] theorem modPcie_prog (f : Pcie → Pcie) (s : State) : (modPcie f s).prog = s.prog := rfl
@[simp] theorem modPcie_lig (f : Pcie → Pcie) (s : State) : (modPcie f s).lig = s.lig := rfl
@[simp] theorem modPcie_sheen (f : Pcie → Pcie) (s : State) : (modPcie f s).sheen = s.sheen := rfl
@[simp] theorem modPcie_vl (f : Pcie → Pcie) (s : State) : (modPcie f s).vl = s.vl := rfl
@[simp] theorem modPcie_sl (f : Pcie → Pcie) (s : State) : (modPcie f s).sl = s.sl := rfl
@[simp] theorem modPcie_cb (f : Pcie → Pcie) (s : State) : (modPcie f s).cb = s.cb := rfl
@[simp] theorem modPcie_resume (f : Pcie → Pcie) (s : State) : (modPcie f s).resume = s.resume := rfl
@[simp] theorem modPcie_entry (f : Pcie → Pcie) (s : State) : (modPcie f s).entry = s.entry := rfl

/-! ### modHush -/

@[simp] theorem modHush_pending (f : Hush → Hush) (s : State) : (modHush f s).pending = s.pending := rfl
@[simp] theorem modHush_draws (f : Hush → Hush) (s : State) : (modHush f s).draws = s.draws := rfl
@[simp] theorem modHush_variant (f : Hush → Hush) (s : State) : (modHush f s).variant = s.variant := rfl
@[simp] theorem modHush_stem (f : Hush → Hush) (s : State) : (modHush f s).stem = s.stem := rfl
@[simp] theorem modHush_bl (f : Hush → Hush) (s : State) : (modHush f s).bl = s.bl := rfl
@[simp] theorem modHush_boot (f : Hush → Hush) (s : State) : (modHush f s).boot = s.boot := rfl
@[simp] theorem modHush_power (f : Hush → Hush) (s : State) : (modHush f s).power = s.power := rfl
@[simp] theorem modHush_ink (f : Hush → Hush) (s : State) : (modHush f s).ink = s.ink := rfl
@[simp] theorem modHush_host (f : Hush → Hush) (s : State) : (modHush f s).host = s.host := rfl
@[simp] theorem modHush_twin (f : Hush → Hush) (s : State) : (modHush f s).twin = s.twin := rfl
@[simp] theorem modHush_hush (f : Hush → Hush) (s : State) : (modHush f s).hush = f s.hush := rfl
@[simp] theorem modHush_serif (f : Hush → Hush) (s : State) : (modHush f s).serif = s.serif := rfl
@[simp] theorem modHush_quill (f : Hush → Hush) (s : State) : (modHush f s).quill = s.quill := rfl
@[simp] theorem modHush_ms (f : Hush → Hush) (s : State) : (modHush f s).ms = s.ms := rfl
@[simp] theorem modHush_rt (f : Hush → Hush) (s : State) : (modHush f s).rt = s.rt := rfl
@[simp] theorem modHush_life (f : Hush → Hush) (s : State) : (modHush f s).life = s.life := rfl
@[simp] theorem modHush_feed (f : Hush → Hush) (s : State) : (modHush f s).feed = s.feed := rfl
@[simp] theorem modHush_dx (f : Hush → Hush) (s : State) : (modHush f s).dx = s.dx := rfl
@[simp] theorem modHush_prog (f : Hush → Hush) (s : State) : (modHush f s).prog = s.prog := rfl
@[simp] theorem modHush_lig (f : Hush → Hush) (s : State) : (modHush f s).lig = s.lig := rfl
@[simp] theorem modHush_sheen (f : Hush → Hush) (s : State) : (modHush f s).sheen = s.sheen := rfl
@[simp] theorem modHush_vl (f : Hush → Hush) (s : State) : (modHush f s).vl = s.vl := rfl
@[simp] theorem modHush_sl (f : Hush → Hush) (s : State) : (modHush f s).sl = s.sl := rfl
@[simp] theorem modHush_cb (f : Hush → Hush) (s : State) : (modHush f s).cb = s.cb := rfl
@[simp] theorem modHush_resume (f : Hush → Hush) (s : State) : (modHush f s).resume = s.resume := rfl
@[simp] theorem modHush_entry (f : Hush → Hush) (s : State) : (modHush f s).entry = s.entry := rfl

/-! ### modLife -/

@[simp] theorem modLife_pending (f : Life → Life) (s : State) : (modLife f s).pending = s.pending := rfl
@[simp] theorem modLife_draws (f : Life → Life) (s : State) : (modLife f s).draws = s.draws := rfl
@[simp] theorem modLife_variant (f : Life → Life) (s : State) : (modLife f s).variant = s.variant := rfl
@[simp] theorem modLife_stem (f : Life → Life) (s : State) : (modLife f s).stem = s.stem := rfl
@[simp] theorem modLife_bl (f : Life → Life) (s : State) : (modLife f s).bl = s.bl := rfl
@[simp] theorem modLife_boot (f : Life → Life) (s : State) : (modLife f s).boot = s.boot := rfl
@[simp] theorem modLife_power (f : Life → Life) (s : State) : (modLife f s).power = s.power := rfl
@[simp] theorem modLife_ink (f : Life → Life) (s : State) : (modLife f s).ink = s.ink := rfl
@[simp] theorem modLife_host (f : Life → Life) (s : State) : (modLife f s).host = s.host := rfl
@[simp] theorem modLife_twin (f : Life → Life) (s : State) : (modLife f s).twin = s.twin := rfl
@[simp] theorem modLife_hush (f : Life → Life) (s : State) : (modLife f s).hush = s.hush := rfl
@[simp] theorem modLife_serif (f : Life → Life) (s : State) : (modLife f s).serif = s.serif := rfl
@[simp] theorem modLife_quill (f : Life → Life) (s : State) : (modLife f s).quill = s.quill := rfl
@[simp] theorem modLife_ms (f : Life → Life) (s : State) : (modLife f s).ms = s.ms := rfl
@[simp] theorem modLife_rt (f : Life → Life) (s : State) : (modLife f s).rt = s.rt := rfl
@[simp] theorem modLife_life (f : Life → Life) (s : State) : (modLife f s).life = f s.life := rfl
@[simp] theorem modLife_feed (f : Life → Life) (s : State) : (modLife f s).feed = s.feed := rfl
@[simp] theorem modLife_dx (f : Life → Life) (s : State) : (modLife f s).dx = s.dx := rfl
@[simp] theorem modLife_prog (f : Life → Life) (s : State) : (modLife f s).prog = s.prog := rfl
@[simp] theorem modLife_lig (f : Life → Life) (s : State) : (modLife f s).lig = s.lig := rfl
@[simp] theorem modLife_sheen (f : Life → Life) (s : State) : (modLife f s).sheen = s.sheen := rfl
@[simp] theorem modLife_vl (f : Life → Life) (s : State) : (modLife f s).vl = s.vl := rfl
@[simp] theorem modLife_sl (f : Life → Life) (s : State) : (modLife f s).sl = s.sl := rfl
@[simp] theorem modLife_cb (f : Life → Life) (s : State) : (modLife f s).cb = s.cb := rfl
@[simp] theorem modLife_resume (f : Life → Life) (s : State) : (modLife f s).resume = s.resume := rfl
@[simp] theorem modLife_entry (f : Life → Life) (s : State) : (modLife f s).entry = s.entry := rfl

/-! ### modMs -/

@[simp] theorem modMs_pending (f : Ms → Ms) (s : State) : (modMs f s).pending = s.pending := rfl
@[simp] theorem modMs_draws (f : Ms → Ms) (s : State) : (modMs f s).draws = s.draws := rfl
@[simp] theorem modMs_variant (f : Ms → Ms) (s : State) : (modMs f s).variant = s.variant := rfl
@[simp] theorem modMs_stem (f : Ms → Ms) (s : State) : (modMs f s).stem = s.stem := rfl
@[simp] theorem modMs_bl (f : Ms → Ms) (s : State) : (modMs f s).bl = s.bl := rfl
@[simp] theorem modMs_boot (f : Ms → Ms) (s : State) : (modMs f s).boot = s.boot := rfl
@[simp] theorem modMs_power (f : Ms → Ms) (s : State) : (modMs f s).power = s.power := rfl
@[simp] theorem modMs_ink (f : Ms → Ms) (s : State) : (modMs f s).ink = s.ink := rfl
@[simp] theorem modMs_host (f : Ms → Ms) (s : State) : (modMs f s).host = s.host := rfl
@[simp] theorem modMs_twin (f : Ms → Ms) (s : State) : (modMs f s).twin = s.twin := rfl
@[simp] theorem modMs_hush (f : Ms → Ms) (s : State) : (modMs f s).hush = s.hush := rfl
@[simp] theorem modMs_serif (f : Ms → Ms) (s : State) : (modMs f s).serif = s.serif := rfl
@[simp] theorem modMs_quill (f : Ms → Ms) (s : State) : (modMs f s).quill = s.quill := rfl
@[simp] theorem modMs_ms (f : Ms → Ms) (s : State) : (modMs f s).ms = f s.ms := rfl
@[simp] theorem modMs_rt (f : Ms → Ms) (s : State) : (modMs f s).rt = s.rt := rfl
@[simp] theorem modMs_life (f : Ms → Ms) (s : State) : (modMs f s).life = s.life := rfl
@[simp] theorem modMs_feed (f : Ms → Ms) (s : State) : (modMs f s).feed = s.feed := rfl
@[simp] theorem modMs_dx (f : Ms → Ms) (s : State) : (modMs f s).dx = s.dx := rfl
@[simp] theorem modMs_prog (f : Ms → Ms) (s : State) : (modMs f s).prog = s.prog := rfl
@[simp] theorem modMs_lig (f : Ms → Ms) (s : State) : (modMs f s).lig = s.lig := rfl
@[simp] theorem modMs_sheen (f : Ms → Ms) (s : State) : (modMs f s).sheen = s.sheen := rfl
@[simp] theorem modMs_vl (f : Ms → Ms) (s : State) : (modMs f s).vl = s.vl := rfl
@[simp] theorem modMs_sl (f : Ms → Ms) (s : State) : (modMs f s).sl = s.sl := rfl
@[simp] theorem modMs_cb (f : Ms → Ms) (s : State) : (modMs f s).cb = s.cb := rfl
@[simp] theorem modMs_resume (f : Ms → Ms) (s : State) : (modMs f s).resume = s.resume := rfl
@[simp] theorem modMs_entry (f : Ms → Ms) (s : State) : (modMs f s).entry = s.entry := rfl

/-! ### modFeed -/

@[simp] theorem modFeed_pending (f : Feed → Feed) (s : State) : (modFeed f s).pending = s.pending := rfl
@[simp] theorem modFeed_draws (f : Feed → Feed) (s : State) : (modFeed f s).draws = s.draws := rfl
@[simp] theorem modFeed_variant (f : Feed → Feed) (s : State) : (modFeed f s).variant = s.variant := rfl
@[simp] theorem modFeed_stem (f : Feed → Feed) (s : State) : (modFeed f s).stem = s.stem := rfl
@[simp] theorem modFeed_bl (f : Feed → Feed) (s : State) : (modFeed f s).bl = s.bl := rfl
@[simp] theorem modFeed_boot (f : Feed → Feed) (s : State) : (modFeed f s).boot = s.boot := rfl
@[simp] theorem modFeed_power (f : Feed → Feed) (s : State) : (modFeed f s).power = s.power := rfl
@[simp] theorem modFeed_ink (f : Feed → Feed) (s : State) : (modFeed f s).ink = s.ink := rfl
@[simp] theorem modFeed_host (f : Feed → Feed) (s : State) : (modFeed f s).host = s.host := rfl
@[simp] theorem modFeed_twin (f : Feed → Feed) (s : State) : (modFeed f s).twin = s.twin := rfl
@[simp] theorem modFeed_hush (f : Feed → Feed) (s : State) : (modFeed f s).hush = s.hush := rfl
@[simp] theorem modFeed_serif (f : Feed → Feed) (s : State) : (modFeed f s).serif = s.serif := rfl
@[simp] theorem modFeed_quill (f : Feed → Feed) (s : State) : (modFeed f s).quill = s.quill := rfl
@[simp] theorem modFeed_ms (f : Feed → Feed) (s : State) : (modFeed f s).ms = s.ms := rfl
@[simp] theorem modFeed_rt (f : Feed → Feed) (s : State) : (modFeed f s).rt = s.rt := rfl
@[simp] theorem modFeed_life (f : Feed → Feed) (s : State) : (modFeed f s).life = s.life := rfl
@[simp] theorem modFeed_feed (f : Feed → Feed) (s : State) : (modFeed f s).feed = f s.feed := rfl
@[simp] theorem modFeed_dx (f : Feed → Feed) (s : State) : (modFeed f s).dx = s.dx := rfl
@[simp] theorem modFeed_prog (f : Feed → Feed) (s : State) : (modFeed f s).prog = s.prog := rfl
@[simp] theorem modFeed_lig (f : Feed → Feed) (s : State) : (modFeed f s).lig = s.lig := rfl
@[simp] theorem modFeed_sheen (f : Feed → Feed) (s : State) : (modFeed f s).sheen = s.sheen := rfl
@[simp] theorem modFeed_vl (f : Feed → Feed) (s : State) : (modFeed f s).vl = s.vl := rfl
@[simp] theorem modFeed_sl (f : Feed → Feed) (s : State) : (modFeed f s).sl = s.sl := rfl
@[simp] theorem modFeed_cb (f : Feed → Feed) (s : State) : (modFeed f s).cb = s.cb := rfl
@[simp] theorem modFeed_resume (f : Feed → Feed) (s : State) : (modFeed f s).resume = s.resume := rfl
@[simp] theorem modFeed_entry (f : Feed → Feed) (s : State) : (modFeed f s).entry = s.entry := rfl

/-! ### modPower -/

@[simp] theorem modPower_pending (f : Power → Power) (s : State) : (modPower f s).pending = s.pending := rfl
@[simp] theorem modPower_draws (f : Power → Power) (s : State) : (modPower f s).draws = s.draws := rfl
@[simp] theorem modPower_variant (f : Power → Power) (s : State) : (modPower f s).variant = s.variant := rfl
@[simp] theorem modPower_stem (f : Power → Power) (s : State) : (modPower f s).stem = s.stem := rfl
@[simp] theorem modPower_bl (f : Power → Power) (s : State) : (modPower f s).bl = s.bl := rfl
@[simp] theorem modPower_boot (f : Power → Power) (s : State) : (modPower f s).boot = s.boot := rfl
@[simp] theorem modPower_power (f : Power → Power) (s : State) : (modPower f s).power = f s.power := rfl
@[simp] theorem modPower_ink (f : Power → Power) (s : State) : (modPower f s).ink = s.ink := rfl
@[simp] theorem modPower_host (f : Power → Power) (s : State) : (modPower f s).host = s.host := rfl
@[simp] theorem modPower_twin (f : Power → Power) (s : State) : (modPower f s).twin = s.twin := rfl
@[simp] theorem modPower_hush (f : Power → Power) (s : State) : (modPower f s).hush = s.hush := rfl
@[simp] theorem modPower_serif (f : Power → Power) (s : State) : (modPower f s).serif = s.serif := rfl
@[simp] theorem modPower_quill (f : Power → Power) (s : State) : (modPower f s).quill = s.quill := rfl
@[simp] theorem modPower_ms (f : Power → Power) (s : State) : (modPower f s).ms = s.ms := rfl
@[simp] theorem modPower_rt (f : Power → Power) (s : State) : (modPower f s).rt = s.rt := rfl
@[simp] theorem modPower_life (f : Power → Power) (s : State) : (modPower f s).life = s.life := rfl
@[simp] theorem modPower_feed (f : Power → Power) (s : State) : (modPower f s).feed = s.feed := rfl
@[simp] theorem modPower_dx (f : Power → Power) (s : State) : (modPower f s).dx = s.dx := rfl
@[simp] theorem modPower_prog (f : Power → Power) (s : State) : (modPower f s).prog = s.prog := rfl
@[simp] theorem modPower_lig (f : Power → Power) (s : State) : (modPower f s).lig = s.lig := rfl
@[simp] theorem modPower_sheen (f : Power → Power) (s : State) : (modPower f s).sheen = s.sheen := rfl
@[simp] theorem modPower_vl (f : Power → Power) (s : State) : (modPower f s).vl = s.vl := rfl
@[simp] theorem modPower_sl (f : Power → Power) (s : State) : (modPower f s).sl = s.sl := rfl
@[simp] theorem modPower_cb (f : Power → Power) (s : State) : (modPower f s).cb = s.cb := rfl
@[simp] theorem modPower_resume (f : Power → Power) (s : State) : (modPower f s).resume = s.resume := rfl
@[simp] theorem modPower_entry (f : Power → Power) (s : State) : (modPower f s).entry = s.entry := rfl

/-! ### modPtp -/

@[simp] theorem modPtp_pending (n : Nat) (f : PtpPort → PtpPort) (s : State) : (modPtp n f s).pending = s.pending := rfl
@[simp] theorem modPtp_draws (n : Nat) (f : PtpPort → PtpPort) (s : State) : (modPtp n f s).draws = s.draws := rfl
@[simp] theorem modPtp_variant (n : Nat) (f : PtpPort → PtpPort) (s : State) : (modPtp n f s).variant = s.variant := rfl
@[simp] theorem modPtp_stem (n : Nat) (f : PtpPort → PtpPort) (s : State) : (modPtp n f s).stem = s.stem := rfl
@[simp] theorem modPtp_bl (n : Nat) (f : PtpPort → PtpPort) (s : State) : (modPtp n f s).bl = s.bl := rfl
@[simp] theorem modPtp_boot (n : Nat) (f : PtpPort → PtpPort) (s : State) : (modPtp n f s).boot = s.boot := rfl
@[simp] theorem modPtp_power (n : Nat) (f : PtpPort → PtpPort) (s : State) : (modPtp n f s).power = s.power := rfl
@[simp] theorem modPtp_ink (n : Nat) (f : PtpPort → PtpPort) (s : State) : (modPtp n f s).ink = s.ink := rfl
@[simp] theorem modPtp_host (n : Nat) (f : PtpPort → PtpPort) (s : State) : (modPtp n f s).host = s.host := rfl
@[simp] theorem modPtp_twin (n : Nat) (f : PtpPort → PtpPort) (s : State) : (modPtp n f s).twin = s.twin := rfl
@[simp] theorem modPtp_hush (n : Nat) (f : PtpPort → PtpPort) (s : State) : (modPtp n f s).hush = s.hush := rfl
@[simp] theorem modPtp_serif (n : Nat) (f : PtpPort → PtpPort) (s : State) : (modPtp n f s).serif = s.serif := rfl
@[simp] theorem modPtp_ms (n : Nat) (f : PtpPort → PtpPort) (s : State) : (modPtp n f s).ms = s.ms := rfl
@[simp] theorem modPtp_rt (n : Nat) (f : PtpPort → PtpPort) (s : State) : (modPtp n f s).rt = s.rt := rfl
@[simp] theorem modPtp_life (n : Nat) (f : PtpPort → PtpPort) (s : State) : (modPtp n f s).life = s.life := rfl
@[simp] theorem modPtp_feed (n : Nat) (f : PtpPort → PtpPort) (s : State) : (modPtp n f s).feed = s.feed := rfl
@[simp] theorem modPtp_dx (n : Nat) (f : PtpPort → PtpPort) (s : State) : (modPtp n f s).dx = s.dx := rfl
@[simp] theorem modPtp_prog (n : Nat) (f : PtpPort → PtpPort) (s : State) : (modPtp n f s).prog = s.prog := rfl
@[simp] theorem modPtp_lig (n : Nat) (f : PtpPort → PtpPort) (s : State) : (modPtp n f s).lig = s.lig := rfl
@[simp] theorem modPtp_sheen (n : Nat) (f : PtpPort → PtpPort) (s : State) : (modPtp n f s).sheen = s.sheen := rfl
@[simp] theorem modPtp_vl (n : Nat) (f : PtpPort → PtpPort) (s : State) : (modPtp n f s).vl = s.vl := rfl
@[simp] theorem modPtp_sl (n : Nat) (f : PtpPort → PtpPort) (s : State) : (modPtp n f s).sl = s.sl := rfl
@[simp] theorem modPtp_cb (n : Nat) (f : PtpPort → PtpPort) (s : State) : (modPtp n f s).cb = s.cb := rfl
@[simp] theorem modPtp_resume (n : Nat) (f : PtpPort → PtpPort) (s : State) : (modPtp n f s).resume = s.resume := rfl
@[simp] theorem modPtp_entry (n : Nat) (f : PtpPort → PtpPort) (s : State) : (modPtp n f s).entry = s.entry := rfl

/-! ### modRec -/

@[simp] theorem modRec_pending (f : VlRecord → VlRecord) (s : State) : (modRec f s).pending = s.pending := rfl
@[simp] theorem modRec_draws (f : VlRecord → VlRecord) (s : State) : (modRec f s).draws = s.draws := rfl
@[simp] theorem modRec_variant (f : VlRecord → VlRecord) (s : State) : (modRec f s).variant = s.variant := rfl
@[simp] theorem modRec_stem (f : VlRecord → VlRecord) (s : State) : (modRec f s).stem = s.stem := rfl
@[simp] theorem modRec_bl (f : VlRecord → VlRecord) (s : State) : (modRec f s).bl = s.bl := rfl
@[simp] theorem modRec_boot (f : VlRecord → VlRecord) (s : State) : (modRec f s).boot = s.boot := rfl
@[simp] theorem modRec_power (f : VlRecord → VlRecord) (s : State) : (modRec f s).power = s.power := rfl
@[simp] theorem modRec_ink (f : VlRecord → VlRecord) (s : State) : (modRec f s).ink = s.ink := rfl
@[simp] theorem modRec_host (f : VlRecord → VlRecord) (s : State) : (modRec f s).host = s.host := rfl
@[simp] theorem modRec_twin (f : VlRecord → VlRecord) (s : State) : (modRec f s).twin = s.twin := rfl
@[simp] theorem modRec_hush (f : VlRecord → VlRecord) (s : State) : (modRec f s).hush = s.hush := rfl
@[simp] theorem modRec_serif (f : VlRecord → VlRecord) (s : State) : (modRec f s).serif = s.serif := rfl
@[simp] theorem modRec_quill (f : VlRecord → VlRecord) (s : State) : (modRec f s).quill = s.quill := rfl
@[simp] theorem modRec_ms (f : VlRecord → VlRecord) (s : State) : (modRec f s).ms = s.ms := rfl
@[simp] theorem modRec_rt (f : VlRecord → VlRecord) (s : State) : (modRec f s).rt = s.rt := rfl
@[simp] theorem modRec_life (f : VlRecord → VlRecord) (s : State) : (modRec f s).life = s.life := rfl
@[simp] theorem modRec_feed (f : VlRecord → VlRecord) (s : State) : (modRec f s).feed = s.feed := rfl
@[simp] theorem modRec_dx (f : VlRecord → VlRecord) (s : State) : (modRec f s).dx = s.dx := rfl
@[simp] theorem modRec_prog (f : VlRecord → VlRecord) (s : State) : (modRec f s).prog = s.prog := rfl
@[simp] theorem modRec_lig (f : VlRecord → VlRecord) (s : State) : (modRec f s).lig = s.lig := rfl
@[simp] theorem modRec_sheen (f : VlRecord → VlRecord) (s : State) : (modRec f s).sheen = s.sheen := rfl
@[simp] theorem modRec_sl (f : VlRecord → VlRecord) (s : State) : (modRec f s).sl = s.sl := rfl
@[simp] theorem modRec_cb (f : VlRecord → VlRecord) (s : State) : (modRec f s).cb = s.cb := rfl
@[simp] theorem modRec_resume (f : VlRecord → VlRecord) (s : State) : (modRec f s).resume = s.resume := rfl
@[simp] theorem modRec_entry (f : VlRecord → VlRecord) (s : State) : (modRec f s).entry = s.entry := rfl

/-! ### modTwin -/

@[simp] theorem modTwin_pending (f : Twin → Twin) (s : State) : (modTwin f s).pending = s.pending := rfl
@[simp] theorem modTwin_draws (f : Twin → Twin) (s : State) : (modTwin f s).draws = s.draws := rfl
@[simp] theorem modTwin_variant (f : Twin → Twin) (s : State) : (modTwin f s).variant = s.variant := rfl
@[simp] theorem modTwin_stem (f : Twin → Twin) (s : State) : (modTwin f s).stem = s.stem := rfl
@[simp] theorem modTwin_bl (f : Twin → Twin) (s : State) : (modTwin f s).bl = s.bl := rfl
@[simp] theorem modTwin_boot (f : Twin → Twin) (s : State) : (modTwin f s).boot = s.boot := rfl
@[simp] theorem modTwin_power (f : Twin → Twin) (s : State) : (modTwin f s).power = s.power := rfl
@[simp] theorem modTwin_ink (f : Twin → Twin) (s : State) : (modTwin f s).ink = s.ink := rfl
@[simp] theorem modTwin_host (f : Twin → Twin) (s : State) : (modTwin f s).host = s.host := rfl
@[simp] theorem modTwin_twin (f : Twin → Twin) (s : State) : (modTwin f s).twin = f s.twin := rfl
@[simp] theorem modTwin_hush (f : Twin → Twin) (s : State) : (modTwin f s).hush = s.hush := rfl
@[simp] theorem modTwin_serif (f : Twin → Twin) (s : State) : (modTwin f s).serif = s.serif := rfl
@[simp] theorem modTwin_quill (f : Twin → Twin) (s : State) : (modTwin f s).quill = s.quill := rfl
@[simp] theorem modTwin_ms (f : Twin → Twin) (s : State) : (modTwin f s).ms = s.ms := rfl
@[simp] theorem modTwin_rt (f : Twin → Twin) (s : State) : (modTwin f s).rt = s.rt := rfl
@[simp] theorem modTwin_life (f : Twin → Twin) (s : State) : (modTwin f s).life = s.life := rfl
@[simp] theorem modTwin_feed (f : Twin → Twin) (s : State) : (modTwin f s).feed = s.feed := rfl
@[simp] theorem modTwin_dx (f : Twin → Twin) (s : State) : (modTwin f s).dx = s.dx := rfl
@[simp] theorem modTwin_prog (f : Twin → Twin) (s : State) : (modTwin f s).prog = s.prog := rfl
@[simp] theorem modTwin_lig (f : Twin → Twin) (s : State) : (modTwin f s).lig = s.lig := rfl
@[simp] theorem modTwin_sheen (f : Twin → Twin) (s : State) : (modTwin f s).sheen = s.sheen := rfl
@[simp] theorem modTwin_vl (f : Twin → Twin) (s : State) : (modTwin f s).vl = s.vl := rfl
@[simp] theorem modTwin_sl (f : Twin → Twin) (s : State) : (modTwin f s).sl = s.sl := rfl
@[simp] theorem modTwin_cb (f : Twin → Twin) (s : State) : (modTwin f s).cb = s.cb := rfl
@[simp] theorem modTwin_resume (f : Twin → Twin) (s : State) : (modTwin f s).resume = s.resume := rfl
@[simp] theorem modTwin_entry (f : Twin → Twin) (s : State) : (modTwin f s).entry = s.entry := rfl

/-! ### modRt -/

@[simp] theorem modRt_pending (f : Retouch → Retouch) (s : State) : (modRt f s).pending = s.pending := rfl
@[simp] theorem modRt_draws (f : Retouch → Retouch) (s : State) : (modRt f s).draws = s.draws := rfl
@[simp] theorem modRt_variant (f : Retouch → Retouch) (s : State) : (modRt f s).variant = s.variant := rfl
@[simp] theorem modRt_stem (f : Retouch → Retouch) (s : State) : (modRt f s).stem = s.stem := rfl
@[simp] theorem modRt_bl (f : Retouch → Retouch) (s : State) : (modRt f s).bl = s.bl := rfl
@[simp] theorem modRt_boot (f : Retouch → Retouch) (s : State) : (modRt f s).boot = s.boot := rfl
@[simp] theorem modRt_power (f : Retouch → Retouch) (s : State) : (modRt f s).power = s.power := rfl
@[simp] theorem modRt_ink (f : Retouch → Retouch) (s : State) : (modRt f s).ink = s.ink := rfl
@[simp] theorem modRt_host (f : Retouch → Retouch) (s : State) : (modRt f s).host = s.host := rfl
@[simp] theorem modRt_twin (f : Retouch → Retouch) (s : State) : (modRt f s).twin = s.twin := rfl
@[simp] theorem modRt_hush (f : Retouch → Retouch) (s : State) : (modRt f s).hush = s.hush := rfl
@[simp] theorem modRt_serif (f : Retouch → Retouch) (s : State) : (modRt f s).serif = s.serif := rfl
@[simp] theorem modRt_quill (f : Retouch → Retouch) (s : State) : (modRt f s).quill = s.quill := rfl
@[simp] theorem modRt_ms (f : Retouch → Retouch) (s : State) : (modRt f s).ms = s.ms := rfl
@[simp] theorem modRt_rt (f : Retouch → Retouch) (s : State) : (modRt f s).rt = f s.rt := rfl
@[simp] theorem modRt_life (f : Retouch → Retouch) (s : State) : (modRt f s).life = s.life := rfl
@[simp] theorem modRt_feed (f : Retouch → Retouch) (s : State) : (modRt f s).feed = s.feed := rfl
@[simp] theorem modRt_dx (f : Retouch → Retouch) (s : State) : (modRt f s).dx = s.dx := rfl
@[simp] theorem modRt_prog (f : Retouch → Retouch) (s : State) : (modRt f s).prog = s.prog := rfl
@[simp] theorem modRt_lig (f : Retouch → Retouch) (s : State) : (modRt f s).lig = s.lig := rfl
@[simp] theorem modRt_sheen (f : Retouch → Retouch) (s : State) : (modRt f s).sheen = s.sheen := rfl
@[simp] theorem modRt_vl (f : Retouch → Retouch) (s : State) : (modRt f s).vl = s.vl := rfl
@[simp] theorem modRt_sl (f : Retouch → Retouch) (s : State) : (modRt f s).sl = s.sl := rfl
@[simp] theorem modRt_cb (f : Retouch → Retouch) (s : State) : (modRt f s).cb = s.cb := rfl
@[simp] theorem modRt_resume (f : Retouch → Retouch) (s : State) : (modRt f s).resume = s.resume := rfl
@[simp] theorem modRt_entry (f : Retouch → Retouch) (s : State) : (modRt f s).entry = s.entry := rfl

/-! ### modNib -/

@[simp] theorem modNib_pending (n : Nat) (f : NibRec → NibRec) (s : State) : (modNib n f s).pending = s.pending := rfl
@[simp] theorem modNib_draws (n : Nat) (f : NibRec → NibRec) (s : State) : (modNib n f s).draws = s.draws := rfl
@[simp] theorem modNib_variant (n : Nat) (f : NibRec → NibRec) (s : State) : (modNib n f s).variant = s.variant := rfl
@[simp] theorem modNib_stem (n : Nat) (f : NibRec → NibRec) (s : State) : (modNib n f s).stem = s.stem := rfl
@[simp] theorem modNib_bl (n : Nat) (f : NibRec → NibRec) (s : State) : (modNib n f s).bl = s.bl := rfl
@[simp] theorem modNib_boot (n : Nat) (f : NibRec → NibRec) (s : State) : (modNib n f s).boot = s.boot := rfl
@[simp] theorem modNib_power (n : Nat) (f : NibRec → NibRec) (s : State) : (modNib n f s).power = s.power := rfl
@[simp] theorem modNib_ink (n : Nat) (f : NibRec → NibRec) (s : State) : (modNib n f s).ink = s.ink := rfl
@[simp] theorem modNib_host (n : Nat) (f : NibRec → NibRec) (s : State) : (modNib n f s).host = s.host := rfl
@[simp] theorem modNib_twin (n : Nat) (f : NibRec → NibRec) (s : State) : (modNib n f s).twin = s.twin := rfl
@[simp] theorem modNib_hush (n : Nat) (f : NibRec → NibRec) (s : State) : (modNib n f s).hush = s.hush := rfl
@[simp] theorem modNib_serif (n : Nat) (f : NibRec → NibRec) (s : State) : (modNib n f s).serif = s.serif := rfl
@[simp] theorem modNib_quill (n : Nat) (f : NibRec → NibRec) (s : State) : (modNib n f s).quill = s.quill := rfl
@[simp] theorem modNib_ms (n : Nat) (f : NibRec → NibRec) (s : State) : (modNib n f s).ms = s.ms := rfl
@[simp] theorem modNib_life (n : Nat) (f : NibRec → NibRec) (s : State) : (modNib n f s).life = s.life := rfl
@[simp] theorem modNib_feed (n : Nat) (f : NibRec → NibRec) (s : State) : (modNib n f s).feed = s.feed := rfl
@[simp] theorem modNib_dx (n : Nat) (f : NibRec → NibRec) (s : State) : (modNib n f s).dx = s.dx := rfl
@[simp] theorem modNib_prog (n : Nat) (f : NibRec → NibRec) (s : State) : (modNib n f s).prog = s.prog := rfl
@[simp] theorem modNib_lig (n : Nat) (f : NibRec → NibRec) (s : State) : (modNib n f s).lig = s.lig := rfl
@[simp] theorem modNib_sheen (n : Nat) (f : NibRec → NibRec) (s : State) : (modNib n f s).sheen = s.sheen := rfl
@[simp] theorem modNib_vl (n : Nat) (f : NibRec → NibRec) (s : State) : (modNib n f s).vl = s.vl := rfl
@[simp] theorem modNib_sl (n : Nat) (f : NibRec → NibRec) (s : State) : (modNib n f s).sl = s.sl := rfl
@[simp] theorem modNib_cb (n : Nat) (f : NibRec → NibRec) (s : State) : (modNib n f s).cb = s.cb := rfl
@[simp] theorem modNib_resume (n : Nat) (f : NibRec → NibRec) (s : State) : (modNib n f s).resume = s.resume := rfl
@[simp] theorem modNib_entry (n : Nat) (f : NibRec → NibRec) (s : State) : (modNib n f s).entry = s.entry := rfl

/-! ### modSl -/

@[simp] theorem modSl_pending (f : Seal → Seal) (s : State) : (modSl f s).pending = s.pending := rfl
@[simp] theorem modSl_draws (f : Seal → Seal) (s : State) : (modSl f s).draws = s.draws := rfl
@[simp] theorem modSl_variant (f : Seal → Seal) (s : State) : (modSl f s).variant = s.variant := rfl
@[simp] theorem modSl_stem (f : Seal → Seal) (s : State) : (modSl f s).stem = s.stem := rfl
@[simp] theorem modSl_bl (f : Seal → Seal) (s : State) : (modSl f s).bl = s.bl := rfl
@[simp] theorem modSl_boot (f : Seal → Seal) (s : State) : (modSl f s).boot = s.boot := rfl
@[simp] theorem modSl_power (f : Seal → Seal) (s : State) : (modSl f s).power = s.power := rfl
@[simp] theorem modSl_ink (f : Seal → Seal) (s : State) : (modSl f s).ink = s.ink := rfl
@[simp] theorem modSl_host (f : Seal → Seal) (s : State) : (modSl f s).host = s.host := rfl
@[simp] theorem modSl_twin (f : Seal → Seal) (s : State) : (modSl f s).twin = s.twin := rfl
@[simp] theorem modSl_hush (f : Seal → Seal) (s : State) : (modSl f s).hush = s.hush := rfl
@[simp] theorem modSl_serif (f : Seal → Seal) (s : State) : (modSl f s).serif = s.serif := rfl
@[simp] theorem modSl_quill (f : Seal → Seal) (s : State) : (modSl f s).quill = s.quill := rfl
@[simp] theorem modSl_ms (f : Seal → Seal) (s : State) : (modSl f s).ms = s.ms := rfl
@[simp] theorem modSl_rt (f : Seal → Seal) (s : State) : (modSl f s).rt = s.rt := rfl
@[simp] theorem modSl_life (f : Seal → Seal) (s : State) : (modSl f s).life = s.life := rfl
@[simp] theorem modSl_feed (f : Seal → Seal) (s : State) : (modSl f s).feed = s.feed := rfl
@[simp] theorem modSl_dx (f : Seal → Seal) (s : State) : (modSl f s).dx = s.dx := rfl
@[simp] theorem modSl_prog (f : Seal → Seal) (s : State) : (modSl f s).prog = s.prog := rfl
@[simp] theorem modSl_lig (f : Seal → Seal) (s : State) : (modSl f s).lig = s.lig := rfl
@[simp] theorem modSl_sheen (f : Seal → Seal) (s : State) : (modSl f s).sheen = s.sheen := rfl
@[simp] theorem modSl_vl (f : Seal → Seal) (s : State) : (modSl f s).vl = s.vl := rfl
@[simp] theorem modSl_sl (f : Seal → Seal) (s : State) : (modSl f s).sl = f s.sl := rfl
@[simp] theorem modSl_cb (f : Seal → Seal) (s : State) : (modSl f s).cb = s.cb := rfl
@[simp] theorem modSl_resume (f : Seal → Seal) (s : State) : (modSl f s).resume = s.resume := rfl
@[simp] theorem modSl_entry (f : Seal → Seal) (s : State) : (modSl f s).entry = s.entry := rfl

/-! ### modCh -/

@[simp] theorem modCh_pending (n : Nat) (f : SealCh → SealCh) (s : State) : (modCh n f s).pending = s.pending := rfl
@[simp] theorem modCh_draws (n : Nat) (f : SealCh → SealCh) (s : State) : (modCh n f s).draws = s.draws := rfl
@[simp] theorem modCh_variant (n : Nat) (f : SealCh → SealCh) (s : State) : (modCh n f s).variant = s.variant := rfl
@[simp] theorem modCh_stem (n : Nat) (f : SealCh → SealCh) (s : State) : (modCh n f s).stem = s.stem := rfl
@[simp] theorem modCh_bl (n : Nat) (f : SealCh → SealCh) (s : State) : (modCh n f s).bl = s.bl := rfl
@[simp] theorem modCh_boot (n : Nat) (f : SealCh → SealCh) (s : State) : (modCh n f s).boot = s.boot := rfl
@[simp] theorem modCh_power (n : Nat) (f : SealCh → SealCh) (s : State) : (modCh n f s).power = s.power := rfl
@[simp] theorem modCh_ink (n : Nat) (f : SealCh → SealCh) (s : State) : (modCh n f s).ink = s.ink := rfl
@[simp] theorem modCh_host (n : Nat) (f : SealCh → SealCh) (s : State) : (modCh n f s).host = s.host := rfl
@[simp] theorem modCh_twin (n : Nat) (f : SealCh → SealCh) (s : State) : (modCh n f s).twin = s.twin := rfl
@[simp] theorem modCh_hush (n : Nat) (f : SealCh → SealCh) (s : State) : (modCh n f s).hush = s.hush := rfl
@[simp] theorem modCh_serif (n : Nat) (f : SealCh → SealCh) (s : State) : (modCh n f s).serif = s.serif := rfl
@[simp] theorem modCh_quill (n : Nat) (f : SealCh → SealCh) (s : State) : (modCh n f s).quill = s.quill := rfl
@[simp] theorem modCh_ms (n : Nat) (f : SealCh → SealCh) (s : State) : (modCh n f s).ms = s.ms := rfl
@[simp] theorem modCh_rt (n : Nat) (f : SealCh → SealCh) (s : State) : (modCh n f s).rt = s.rt := rfl
@[simp] theorem modCh_life (n : Nat) (f : SealCh → SealCh) (s : State) : (modCh n f s).life = s.life := rfl
@[simp] theorem modCh_feed (n : Nat) (f : SealCh → SealCh) (s : State) : (modCh n f s).feed = s.feed := rfl
@[simp] theorem modCh_dx (n : Nat) (f : SealCh → SealCh) (s : State) : (modCh n f s).dx = s.dx := rfl
@[simp] theorem modCh_prog (n : Nat) (f : SealCh → SealCh) (s : State) : (modCh n f s).prog = s.prog := rfl
@[simp] theorem modCh_lig (n : Nat) (f : SealCh → SealCh) (s : State) : (modCh n f s).lig = s.lig := rfl
@[simp] theorem modCh_sheen (n : Nat) (f : SealCh → SealCh) (s : State) : (modCh n f s).sheen = s.sheen := rfl
@[simp] theorem modCh_vl (n : Nat) (f : SealCh → SealCh) (s : State) : (modCh n f s).vl = s.vl := rfl
@[simp] theorem modCh_cb (n : Nat) (f : SealCh → SealCh) (s : State) : (modCh n f s).cb = s.cb := rfl
@[simp] theorem modCh_resume (n : Nat) (f : SealCh → SealCh) (s : State) : (modCh n f s).resume = s.resume := rfl
@[simp] theorem modCh_entry (n : Nat) (f : SealCh → SealCh) (s : State) : (modCh n f s).entry = s.entry := rfl

/-! ### modQuill -/

@[simp] theorem modQuill_pending (f : Quill → Quill) (s : State) : (modQuill f s).pending = s.pending := rfl
@[simp] theorem modQuill_draws (f : Quill → Quill) (s : State) : (modQuill f s).draws = s.draws := rfl
@[simp] theorem modQuill_variant (f : Quill → Quill) (s : State) : (modQuill f s).variant = s.variant := rfl
@[simp] theorem modQuill_stem (f : Quill → Quill) (s : State) : (modQuill f s).stem = s.stem := rfl
@[simp] theorem modQuill_bl (f : Quill → Quill) (s : State) : (modQuill f s).bl = s.bl := rfl
@[simp] theorem modQuill_boot (f : Quill → Quill) (s : State) : (modQuill f s).boot = s.boot := rfl
@[simp] theorem modQuill_power (f : Quill → Quill) (s : State) : (modQuill f s).power = s.power := rfl
@[simp] theorem modQuill_ink (f : Quill → Quill) (s : State) : (modQuill f s).ink = s.ink := rfl
@[simp] theorem modQuill_host (f : Quill → Quill) (s : State) : (modQuill f s).host = s.host := rfl
@[simp] theorem modQuill_twin (f : Quill → Quill) (s : State) : (modQuill f s).twin = s.twin := rfl
@[simp] theorem modQuill_hush (f : Quill → Quill) (s : State) : (modQuill f s).hush = s.hush := rfl
@[simp] theorem modQuill_serif (f : Quill → Quill) (s : State) : (modQuill f s).serif = s.serif := rfl
@[simp] theorem modQuill_quill (f : Quill → Quill) (s : State) : (modQuill f s).quill = f s.quill := rfl
@[simp] theorem modQuill_ms (f : Quill → Quill) (s : State) : (modQuill f s).ms = s.ms := rfl
@[simp] theorem modQuill_rt (f : Quill → Quill) (s : State) : (modQuill f s).rt = s.rt := rfl
@[simp] theorem modQuill_life (f : Quill → Quill) (s : State) : (modQuill f s).life = s.life := rfl
@[simp] theorem modQuill_feed (f : Quill → Quill) (s : State) : (modQuill f s).feed = s.feed := rfl
@[simp] theorem modQuill_dx (f : Quill → Quill) (s : State) : (modQuill f s).dx = s.dx := rfl
@[simp] theorem modQuill_prog (f : Quill → Quill) (s : State) : (modQuill f s).prog = s.prog := rfl
@[simp] theorem modQuill_lig (f : Quill → Quill) (s : State) : (modQuill f s).lig = s.lig := rfl
@[simp] theorem modQuill_sheen (f : Quill → Quill) (s : State) : (modQuill f s).sheen = s.sheen := rfl
@[simp] theorem modQuill_vl (f : Quill → Quill) (s : State) : (modQuill f s).vl = s.vl := rfl
@[simp] theorem modQuill_sl (f : Quill → Quill) (s : State) : (modQuill f s).sl = s.sl := rfl
@[simp] theorem modQuill_cb (f : Quill → Quill) (s : State) : (modQuill f s).cb = s.cb := rfl
@[simp] theorem modQuill_resume (f : Quill → Quill) (s : State) : (modQuill f s).resume = s.resume := rfl
@[simp] theorem modQuill_entry (f : Quill → Quill) (s : State) : (modQuill f s).entry = s.entry := rfl

/-! ### modRx -/

@[simp] theorem modRx_pending (n : Nat) (f : RxStream → RxStream) (s : State) : (modRx n f s).pending = s.pending := rfl
@[simp] theorem modRx_draws (n : Nat) (f : RxStream → RxStream) (s : State) : (modRx n f s).draws = s.draws := rfl
@[simp] theorem modRx_variant (n : Nat) (f : RxStream → RxStream) (s : State) : (modRx n f s).variant = s.variant := rfl
@[simp] theorem modRx_stem (n : Nat) (f : RxStream → RxStream) (s : State) : (modRx n f s).stem = s.stem := rfl
@[simp] theorem modRx_bl (n : Nat) (f : RxStream → RxStream) (s : State) : (modRx n f s).bl = s.bl := rfl
@[simp] theorem modRx_boot (n : Nat) (f : RxStream → RxStream) (s : State) : (modRx n f s).boot = s.boot := rfl
@[simp] theorem modRx_power (n : Nat) (f : RxStream → RxStream) (s : State) : (modRx n f s).power = s.power := rfl
@[simp] theorem modRx_ink (n : Nat) (f : RxStream → RxStream) (s : State) : (modRx n f s).ink = s.ink := rfl
@[simp] theorem modRx_host (n : Nat) (f : RxStream → RxStream) (s : State) : (modRx n f s).host = s.host := rfl
@[simp] theorem modRx_twin (n : Nat) (f : RxStream → RxStream) (s : State) : (modRx n f s).twin = s.twin := rfl
@[simp] theorem modRx_hush (n : Nat) (f : RxStream → RxStream) (s : State) : (modRx n f s).hush = s.hush := rfl
@[simp] theorem modRx_serif (n : Nat) (f : RxStream → RxStream) (s : State) : (modRx n f s).serif = s.serif := rfl
@[simp] theorem modRx_ms (n : Nat) (f : RxStream → RxStream) (s : State) : (modRx n f s).ms = s.ms := rfl
@[simp] theorem modRx_rt (n : Nat) (f : RxStream → RxStream) (s : State) : (modRx n f s).rt = s.rt := rfl
@[simp] theorem modRx_life (n : Nat) (f : RxStream → RxStream) (s : State) : (modRx n f s).life = s.life := rfl
@[simp] theorem modRx_feed (n : Nat) (f : RxStream → RxStream) (s : State) : (modRx n f s).feed = s.feed := rfl
@[simp] theorem modRx_dx (n : Nat) (f : RxStream → RxStream) (s : State) : (modRx n f s).dx = s.dx := rfl
@[simp] theorem modRx_prog (n : Nat) (f : RxStream → RxStream) (s : State) : (modRx n f s).prog = s.prog := rfl
@[simp] theorem modRx_lig (n : Nat) (f : RxStream → RxStream) (s : State) : (modRx n f s).lig = s.lig := rfl
@[simp] theorem modRx_sheen (n : Nat) (f : RxStream → RxStream) (s : State) : (modRx n f s).sheen = s.sheen := rfl
@[simp] theorem modRx_vl (n : Nat) (f : RxStream → RxStream) (s : State) : (modRx n f s).vl = s.vl := rfl
@[simp] theorem modRx_sl (n : Nat) (f : RxStream → RxStream) (s : State) : (modRx n f s).sl = s.sl := rfl
@[simp] theorem modRx_cb (n : Nat) (f : RxStream → RxStream) (s : State) : (modRx n f s).cb = s.cb := rfl
@[simp] theorem modRx_resume (n : Nat) (f : RxStream → RxStream) (s : State) : (modRx n f s).resume = s.resume := rfl
@[simp] theorem modRx_entry (n : Nat) (f : RxStream → RxStream) (s : State) : (modRx n f s).entry = s.entry := rfl

/-! ### modTx -/

@[simp] theorem modTx_pending (n : Nat) (f : TxStream → TxStream) (s : State) : (modTx n f s).pending = s.pending := rfl
@[simp] theorem modTx_draws (n : Nat) (f : TxStream → TxStream) (s : State) : (modTx n f s).draws = s.draws := rfl
@[simp] theorem modTx_variant (n : Nat) (f : TxStream → TxStream) (s : State) : (modTx n f s).variant = s.variant := rfl
@[simp] theorem modTx_stem (n : Nat) (f : TxStream → TxStream) (s : State) : (modTx n f s).stem = s.stem := rfl
@[simp] theorem modTx_bl (n : Nat) (f : TxStream → TxStream) (s : State) : (modTx n f s).bl = s.bl := rfl
@[simp] theorem modTx_boot (n : Nat) (f : TxStream → TxStream) (s : State) : (modTx n f s).boot = s.boot := rfl
@[simp] theorem modTx_power (n : Nat) (f : TxStream → TxStream) (s : State) : (modTx n f s).power = s.power := rfl
@[simp] theorem modTx_ink (n : Nat) (f : TxStream → TxStream) (s : State) : (modTx n f s).ink = s.ink := rfl
@[simp] theorem modTx_host (n : Nat) (f : TxStream → TxStream) (s : State) : (modTx n f s).host = s.host := rfl
@[simp] theorem modTx_twin (n : Nat) (f : TxStream → TxStream) (s : State) : (modTx n f s).twin = s.twin := rfl
@[simp] theorem modTx_hush (n : Nat) (f : TxStream → TxStream) (s : State) : (modTx n f s).hush = s.hush := rfl
@[simp] theorem modTx_serif (n : Nat) (f : TxStream → TxStream) (s : State) : (modTx n f s).serif = s.serif := rfl
@[simp] theorem modTx_ms (n : Nat) (f : TxStream → TxStream) (s : State) : (modTx n f s).ms = s.ms := rfl
@[simp] theorem modTx_rt (n : Nat) (f : TxStream → TxStream) (s : State) : (modTx n f s).rt = s.rt := rfl
@[simp] theorem modTx_life (n : Nat) (f : TxStream → TxStream) (s : State) : (modTx n f s).life = s.life := rfl
@[simp] theorem modTx_feed (n : Nat) (f : TxStream → TxStream) (s : State) : (modTx n f s).feed = s.feed := rfl
@[simp] theorem modTx_dx (n : Nat) (f : TxStream → TxStream) (s : State) : (modTx n f s).dx = s.dx := rfl
@[simp] theorem modTx_prog (n : Nat) (f : TxStream → TxStream) (s : State) : (modTx n f s).prog = s.prog := rfl
@[simp] theorem modTx_lig (n : Nat) (f : TxStream → TxStream) (s : State) : (modTx n f s).lig = s.lig := rfl
@[simp] theorem modTx_sheen (n : Nat) (f : TxStream → TxStream) (s : State) : (modTx n f s).sheen = s.sheen := rfl
@[simp] theorem modTx_vl (n : Nat) (f : TxStream → TxStream) (s : State) : (modTx n f s).vl = s.vl := rfl
@[simp] theorem modTx_sl (n : Nat) (f : TxStream → TxStream) (s : State) : (modTx n f s).sl = s.sl := rfl
@[simp] theorem modTx_cb (n : Nat) (f : TxStream → TxStream) (s : State) : (modTx n f s).cb = s.cb := rfl
@[simp] theorem modTx_resume (n : Nat) (f : TxStream → TxStream) (s : State) : (modTx n f s).resume = s.resume := rfl
@[simp] theorem modTx_entry (n : Nat) (f : TxStream → TxStream) (s : State) : (modTx n f s).entry = s.entry := rfl

/-! ### modNet -/

@[simp] theorem modNet_pending (n : Nat) (f : NetPort → NetPort) (s : State) : (modNet n f s).pending = s.pending := rfl
@[simp] theorem modNet_draws (n : Nat) (f : NetPort → NetPort) (s : State) : (modNet n f s).draws = s.draws := rfl
@[simp] theorem modNet_variant (n : Nat) (f : NetPort → NetPort) (s : State) : (modNet n f s).variant = s.variant := rfl
@[simp] theorem modNet_stem (n : Nat) (f : NetPort → NetPort) (s : State) : (modNet n f s).stem = s.stem := rfl
@[simp] theorem modNet_bl (n : Nat) (f : NetPort → NetPort) (s : State) : (modNet n f s).bl = s.bl := rfl
@[simp] theorem modNet_boot (n : Nat) (f : NetPort → NetPort) (s : State) : (modNet n f s).boot = s.boot := rfl
@[simp] theorem modNet_power (n : Nat) (f : NetPort → NetPort) (s : State) : (modNet n f s).power = s.power := rfl
@[simp] theorem modNet_ink (n : Nat) (f : NetPort → NetPort) (s : State) : (modNet n f s).ink = s.ink := rfl
@[simp] theorem modNet_host (n : Nat) (f : NetPort → NetPort) (s : State) : (modNet n f s).host = s.host := rfl
@[simp] theorem modNet_twin (n : Nat) (f : NetPort → NetPort) (s : State) : (modNet n f s).twin = s.twin := rfl
@[simp] theorem modNet_hush (n : Nat) (f : NetPort → NetPort) (s : State) : (modNet n f s).hush = s.hush := rfl
@[simp] theorem modNet_serif (n : Nat) (f : NetPort → NetPort) (s : State) : (modNet n f s).serif = s.serif := rfl
@[simp] theorem modNet_ms (n : Nat) (f : NetPort → NetPort) (s : State) : (modNet n f s).ms = s.ms := rfl
@[simp] theorem modNet_rt (n : Nat) (f : NetPort → NetPort) (s : State) : (modNet n f s).rt = s.rt := rfl
@[simp] theorem modNet_life (n : Nat) (f : NetPort → NetPort) (s : State) : (modNet n f s).life = s.life := rfl
@[simp] theorem modNet_feed (n : Nat) (f : NetPort → NetPort) (s : State) : (modNet n f s).feed = s.feed := rfl
@[simp] theorem modNet_dx (n : Nat) (f : NetPort → NetPort) (s : State) : (modNet n f s).dx = s.dx := rfl
@[simp] theorem modNet_prog (n : Nat) (f : NetPort → NetPort) (s : State) : (modNet n f s).prog = s.prog := rfl
@[simp] theorem modNet_lig (n : Nat) (f : NetPort → NetPort) (s : State) : (modNet n f s).lig = s.lig := rfl
@[simp] theorem modNet_sheen (n : Nat) (f : NetPort → NetPort) (s : State) : (modNet n f s).sheen = s.sheen := rfl
@[simp] theorem modNet_vl (n : Nat) (f : NetPort → NetPort) (s : State) : (modNet n f s).vl = s.vl := rfl
@[simp] theorem modNet_sl (n : Nat) (f : NetPort → NetPort) (s : State) : (modNet n f s).sl = s.sl := rfl
@[simp] theorem modNet_cb (n : Nat) (f : NetPort → NetPort) (s : State) : (modNet n f s).cb = s.cb := rfl
@[simp] theorem modNet_resume (n : Nat) (f : NetPort → NetPort) (s : State) : (modNet n f s).resume = s.resume := rfl
@[simp] theorem modNet_entry (n : Nat) (f : NetPort → NetPort) (s : State) : (modNet n f s).entry = s.entry := rfl

/-! ### modVl -/

@[simp] theorem modVl_pending (f : Vellum → Vellum) (s : State) : (modVl f s).pending = s.pending := rfl
@[simp] theorem modVl_draws (f : Vellum → Vellum) (s : State) : (modVl f s).draws = s.draws := rfl
@[simp] theorem modVl_variant (f : Vellum → Vellum) (s : State) : (modVl f s).variant = s.variant := rfl
@[simp] theorem modVl_stem (f : Vellum → Vellum) (s : State) : (modVl f s).stem = s.stem := rfl
@[simp] theorem modVl_bl (f : Vellum → Vellum) (s : State) : (modVl f s).bl = s.bl := rfl
@[simp] theorem modVl_boot (f : Vellum → Vellum) (s : State) : (modVl f s).boot = s.boot := rfl
@[simp] theorem modVl_power (f : Vellum → Vellum) (s : State) : (modVl f s).power = s.power := rfl
@[simp] theorem modVl_ink (f : Vellum → Vellum) (s : State) : (modVl f s).ink = s.ink := rfl
@[simp] theorem modVl_host (f : Vellum → Vellum) (s : State) : (modVl f s).host = s.host := rfl
@[simp] theorem modVl_twin (f : Vellum → Vellum) (s : State) : (modVl f s).twin = s.twin := rfl
@[simp] theorem modVl_hush (f : Vellum → Vellum) (s : State) : (modVl f s).hush = s.hush := rfl
@[simp] theorem modVl_serif (f : Vellum → Vellum) (s : State) : (modVl f s).serif = s.serif := rfl
@[simp] theorem modVl_quill (f : Vellum → Vellum) (s : State) : (modVl f s).quill = s.quill := rfl
@[simp] theorem modVl_ms (f : Vellum → Vellum) (s : State) : (modVl f s).ms = s.ms := rfl
@[simp] theorem modVl_rt (f : Vellum → Vellum) (s : State) : (modVl f s).rt = s.rt := rfl
@[simp] theorem modVl_life (f : Vellum → Vellum) (s : State) : (modVl f s).life = s.life := rfl
@[simp] theorem modVl_feed (f : Vellum → Vellum) (s : State) : (modVl f s).feed = s.feed := rfl
@[simp] theorem modVl_dx (f : Vellum → Vellum) (s : State) : (modVl f s).dx = s.dx := rfl
@[simp] theorem modVl_prog (f : Vellum → Vellum) (s : State) : (modVl f s).prog = s.prog := rfl
@[simp] theorem modVl_lig (f : Vellum → Vellum) (s : State) : (modVl f s).lig = s.lig := rfl
@[simp] theorem modVl_sheen (f : Vellum → Vellum) (s : State) : (modVl f s).sheen = s.sheen := rfl
@[simp] theorem modVl_vl (f : Vellum → Vellum) (s : State) : (modVl f s).vl = f s.vl := rfl
@[simp] theorem modVl_sl (f : Vellum → Vellum) (s : State) : (modVl f s).sl = s.sl := rfl
@[simp] theorem modVl_cb (f : Vellum → Vellum) (s : State) : (modVl f s).cb = s.cb := rfl
@[simp] theorem modVl_resume (f : Vellum → Vellum) (s : State) : (modVl f s).resume = s.resume := rfl
@[simp] theorem modVl_entry (f : Vellum → Vellum) (s : State) : (modVl f s).entry = s.entry := rfl

/-! ### modCb -/

@[simp] theorem modCb_pending (f : Copybook → Copybook) (s : State) : (modCb f s).pending = s.pending := rfl
@[simp] theorem modCb_draws (f : Copybook → Copybook) (s : State) : (modCb f s).draws = s.draws := rfl
@[simp] theorem modCb_variant (f : Copybook → Copybook) (s : State) : (modCb f s).variant = s.variant := rfl
@[simp] theorem modCb_stem (f : Copybook → Copybook) (s : State) : (modCb f s).stem = s.stem := rfl
@[simp] theorem modCb_bl (f : Copybook → Copybook) (s : State) : (modCb f s).bl = s.bl := rfl
@[simp] theorem modCb_boot (f : Copybook → Copybook) (s : State) : (modCb f s).boot = s.boot := rfl
@[simp] theorem modCb_power (f : Copybook → Copybook) (s : State) : (modCb f s).power = s.power := rfl
@[simp] theorem modCb_ink (f : Copybook → Copybook) (s : State) : (modCb f s).ink = s.ink := rfl
@[simp] theorem modCb_host (f : Copybook → Copybook) (s : State) : (modCb f s).host = s.host := rfl
@[simp] theorem modCb_twin (f : Copybook → Copybook) (s : State) : (modCb f s).twin = s.twin := rfl
@[simp] theorem modCb_hush (f : Copybook → Copybook) (s : State) : (modCb f s).hush = s.hush := rfl
@[simp] theorem modCb_serif (f : Copybook → Copybook) (s : State) : (modCb f s).serif = s.serif := rfl
@[simp] theorem modCb_quill (f : Copybook → Copybook) (s : State) : (modCb f s).quill = s.quill := rfl
@[simp] theorem modCb_ms (f : Copybook → Copybook) (s : State) : (modCb f s).ms = s.ms := rfl
@[simp] theorem modCb_rt (f : Copybook → Copybook) (s : State) : (modCb f s).rt = s.rt := rfl
@[simp] theorem modCb_life (f : Copybook → Copybook) (s : State) : (modCb f s).life = s.life := rfl
@[simp] theorem modCb_feed (f : Copybook → Copybook) (s : State) : (modCb f s).feed = s.feed := rfl
@[simp] theorem modCb_dx (f : Copybook → Copybook) (s : State) : (modCb f s).dx = s.dx := rfl
@[simp] theorem modCb_prog (f : Copybook → Copybook) (s : State) : (modCb f s).prog = s.prog := rfl
@[simp] theorem modCb_lig (f : Copybook → Copybook) (s : State) : (modCb f s).lig = s.lig := rfl
@[simp] theorem modCb_sheen (f : Copybook → Copybook) (s : State) : (modCb f s).sheen = s.sheen := rfl
@[simp] theorem modCb_vl (f : Copybook → Copybook) (s : State) : (modCb f s).vl = s.vl := rfl
@[simp] theorem modCb_sl (f : Copybook → Copybook) (s : State) : (modCb f s).sl = s.sl := rfl
@[simp] theorem modCb_cb (f : Copybook → Copybook) (s : State) : (modCb f s).cb = f s.cb := rfl
@[simp] theorem modCb_resume (f : Copybook → Copybook) (s : State) : (modCb f s).resume = s.resume := rfl
@[simp] theorem modCb_entry (f : Copybook → Copybook) (s : State) : (modCb f s).entry = s.entry := rfl

/-! ### modCue -/

@[simp] theorem modCue_pending (f : Cue → Cue) (s : State) : (modCue f s).pending = s.pending := rfl
@[simp] theorem modCue_draws (f : Cue → Cue) (s : State) : (modCue f s).draws = s.draws := rfl
@[simp] theorem modCue_variant (f : Cue → Cue) (s : State) : (modCue f s).variant = s.variant := rfl
@[simp] theorem modCue_stem (f : Cue → Cue) (s : State) : (modCue f s).stem = s.stem := rfl
@[simp] theorem modCue_bl (f : Cue → Cue) (s : State) : (modCue f s).bl = s.bl := rfl
@[simp] theorem modCue_boot (f : Cue → Cue) (s : State) : (modCue f s).boot = s.boot := rfl
@[simp] theorem modCue_power (f : Cue → Cue) (s : State) : (modCue f s).power = s.power := rfl
@[simp] theorem modCue_ink (f : Cue → Cue) (s : State) : (modCue f s).ink = s.ink := rfl
@[simp] theorem modCue_host (f : Cue → Cue) (s : State) : (modCue f s).host = s.host := rfl
@[simp] theorem modCue_twin (f : Cue → Cue) (s : State) : (modCue f s).twin = s.twin := rfl
@[simp] theorem modCue_hush (f : Cue → Cue) (s : State) : (modCue f s).hush = s.hush := rfl
@[simp] theorem modCue_serif (f : Cue → Cue) (s : State) : (modCue f s).serif = s.serif := rfl
@[simp] theorem modCue_quill (f : Cue → Cue) (s : State) : (modCue f s).quill = s.quill := rfl
@[simp] theorem modCue_ms (f : Cue → Cue) (s : State) : (modCue f s).ms = s.ms := rfl
@[simp] theorem modCue_rt (f : Cue → Cue) (s : State) : (modCue f s).rt = s.rt := rfl
@[simp] theorem modCue_life (f : Cue → Cue) (s : State) : (modCue f s).life = s.life := rfl
@[simp] theorem modCue_feed (f : Cue → Cue) (s : State) : (modCue f s).feed = s.feed := rfl
@[simp] theorem modCue_dx (f : Cue → Cue) (s : State) : (modCue f s).dx = s.dx := rfl
@[simp] theorem modCue_lig (f : Cue → Cue) (s : State) : (modCue f s).lig = s.lig := rfl
@[simp] theorem modCue_sheen (f : Cue → Cue) (s : State) : (modCue f s).sheen = s.sheen := rfl
@[simp] theorem modCue_vl (f : Cue → Cue) (s : State) : (modCue f s).vl = s.vl := rfl
@[simp] theorem modCue_sl (f : Cue → Cue) (s : State) : (modCue f s).sl = s.sl := rfl
@[simp] theorem modCue_cb (f : Cue → Cue) (s : State) : (modCue f s).cb = s.cb := rfl
@[simp] theorem modCue_resume (f : Cue → Cue) (s : State) : (modCue f s).resume = s.resume := rfl
@[simp] theorem modCue_entry (f : Cue → Cue) (s : State) : (modCue f s).entry = s.entry := rfl

/-! ### modSink -/

@[simp] theorem modSink_pending (n : Nat) (f : Sink → Sink) (s : State) : (modSink n f s).pending = s.pending := rfl
@[simp] theorem modSink_draws (n : Nat) (f : Sink → Sink) (s : State) : (modSink n f s).draws = s.draws := rfl
@[simp] theorem modSink_variant (n : Nat) (f : Sink → Sink) (s : State) : (modSink n f s).variant = s.variant := rfl
@[simp] theorem modSink_stem (n : Nat) (f : Sink → Sink) (s : State) : (modSink n f s).stem = s.stem := rfl
@[simp] theorem modSink_bl (n : Nat) (f : Sink → Sink) (s : State) : (modSink n f s).bl = s.bl := rfl
@[simp] theorem modSink_boot (n : Nat) (f : Sink → Sink) (s : State) : (modSink n f s).boot = s.boot := rfl
@[simp] theorem modSink_power (n : Nat) (f : Sink → Sink) (s : State) : (modSink n f s).power = s.power := rfl
@[simp] theorem modSink_ink (n : Nat) (f : Sink → Sink) (s : State) : (modSink n f s).ink = s.ink := rfl
@[simp] theorem modSink_host (n : Nat) (f : Sink → Sink) (s : State) : (modSink n f s).host = s.host := rfl
@[simp] theorem modSink_twin (n : Nat) (f : Sink → Sink) (s : State) : (modSink n f s).twin = s.twin := rfl
@[simp] theorem modSink_hush (n : Nat) (f : Sink → Sink) (s : State) : (modSink n f s).hush = s.hush := rfl
@[simp] theorem modSink_serif (n : Nat) (f : Sink → Sink) (s : State) : (modSink n f s).serif = s.serif := rfl
@[simp] theorem modSink_quill (n : Nat) (f : Sink → Sink) (s : State) : (modSink n f s).quill = s.quill := rfl
@[simp] theorem modSink_ms (n : Nat) (f : Sink → Sink) (s : State) : (modSink n f s).ms = s.ms := rfl
@[simp] theorem modSink_rt (n : Nat) (f : Sink → Sink) (s : State) : (modSink n f s).rt = s.rt := rfl
@[simp] theorem modSink_life (n : Nat) (f : Sink → Sink) (s : State) : (modSink n f s).life = s.life := rfl
@[simp] theorem modSink_feed (n : Nat) (f : Sink → Sink) (s : State) : (modSink n f s).feed = s.feed := rfl
@[simp] theorem modSink_dx (n : Nat) (f : Sink → Sink) (s : State) : (modSink n f s).dx = s.dx := rfl
@[simp] theorem modSink_prog (n : Nat) (f : Sink → Sink) (s : State) : (modSink n f s).prog = s.prog := rfl
@[simp] theorem modSink_sheen (n : Nat) (f : Sink → Sink) (s : State) : (modSink n f s).sheen = s.sheen := rfl
@[simp] theorem modSink_vl (n : Nat) (f : Sink → Sink) (s : State) : (modSink n f s).vl = s.vl := rfl
@[simp] theorem modSink_sl (n : Nat) (f : Sink → Sink) (s : State) : (modSink n f s).sl = s.sl := rfl
@[simp] theorem modSink_cb (n : Nat) (f : Sink → Sink) (s : State) : (modSink n f s).cb = s.cb := rfl
@[simp] theorem modSink_resume (n : Nat) (f : Sink → Sink) (s : State) : (modSink n f s).resume = s.resume := rfl
@[simp] theorem modSink_entry (n : Nat) (f : Sink → Sink) (s : State) : (modSink n f s).entry = s.entry := rfl

/-! ### modPort -/

@[simp] theorem modPort_pending (n : Nat) (f : SerPort → SerPort) (s : State) : (modPort n f s).pending = s.pending := rfl
@[simp] theorem modPort_draws (n : Nat) (f : SerPort → SerPort) (s : State) : (modPort n f s).draws = s.draws := rfl
@[simp] theorem modPort_variant (n : Nat) (f : SerPort → SerPort) (s : State) : (modPort n f s).variant = s.variant := rfl
@[simp] theorem modPort_stem (n : Nat) (f : SerPort → SerPort) (s : State) : (modPort n f s).stem = s.stem := rfl
@[simp] theorem modPort_bl (n : Nat) (f : SerPort → SerPort) (s : State) : (modPort n f s).bl = s.bl := rfl
@[simp] theorem modPort_boot (n : Nat) (f : SerPort → SerPort) (s : State) : (modPort n f s).boot = s.boot := rfl
@[simp] theorem modPort_power (n : Nat) (f : SerPort → SerPort) (s : State) : (modPort n f s).power = s.power := rfl
@[simp] theorem modPort_ink (n : Nat) (f : SerPort → SerPort) (s : State) : (modPort n f s).ink = s.ink := rfl
@[simp] theorem modPort_host (n : Nat) (f : SerPort → SerPort) (s : State) : (modPort n f s).host = s.host := rfl
@[simp] theorem modPort_twin (n : Nat) (f : SerPort → SerPort) (s : State) : (modPort n f s).twin = s.twin := rfl
@[simp] theorem modPort_hush (n : Nat) (f : SerPort → SerPort) (s : State) : (modPort n f s).hush = s.hush := rfl
@[simp] theorem modPort_quill (n : Nat) (f : SerPort → SerPort) (s : State) : (modPort n f s).quill = s.quill := rfl
@[simp] theorem modPort_ms (n : Nat) (f : SerPort → SerPort) (s : State) : (modPort n f s).ms = s.ms := rfl
@[simp] theorem modPort_rt (n : Nat) (f : SerPort → SerPort) (s : State) : (modPort n f s).rt = s.rt := rfl
@[simp] theorem modPort_life (n : Nat) (f : SerPort → SerPort) (s : State) : (modPort n f s).life = s.life := rfl
@[simp] theorem modPort_feed (n : Nat) (f : SerPort → SerPort) (s : State) : (modPort n f s).feed = s.feed := rfl
@[simp] theorem modPort_dx (n : Nat) (f : SerPort → SerPort) (s : State) : (modPort n f s).dx = s.dx := rfl
@[simp] theorem modPort_prog (n : Nat) (f : SerPort → SerPort) (s : State) : (modPort n f s).prog = s.prog := rfl
@[simp] theorem modPort_lig (n : Nat) (f : SerPort → SerPort) (s : State) : (modPort n f s).lig = s.lig := rfl
@[simp] theorem modPort_sheen (n : Nat) (f : SerPort → SerPort) (s : State) : (modPort n f s).sheen = s.sheen := rfl
@[simp] theorem modPort_vl (n : Nat) (f : SerPort → SerPort) (s : State) : (modPort n f s).vl = s.vl := rfl
@[simp] theorem modPort_sl (n : Nat) (f : SerPort → SerPort) (s : State) : (modPort n f s).sl = s.sl := rfl
@[simp] theorem modPort_cb (n : Nat) (f : SerPort → SerPort) (s : State) : (modPort n f s).cb = s.cb := rfl
@[simp] theorem modPort_resume (n : Nat) (f : SerPort → SerPort) (s : State) : (modPort n f s).resume = s.resume := rfl
@[simp] theorem modPort_entry (n : Nat) (f : SerPort → SerPort) (s : State) : (modPort n f s).entry = s.entry := rfl

/-! ### setWell -/

@[simp] theorem setWell_pending (n : Nat) (w : Inkwell) (s : State) : (setWell n w s).pending = s.pending := rfl
@[simp] theorem setWell_draws (n : Nat) (w : Inkwell) (s : State) : (setWell n w s).draws = s.draws := rfl
@[simp] theorem setWell_variant (n : Nat) (w : Inkwell) (s : State) : (setWell n w s).variant = s.variant := rfl
@[simp] theorem setWell_stem (n : Nat) (w : Inkwell) (s : State) : (setWell n w s).stem = s.stem := rfl
@[simp] theorem setWell_bl (n : Nat) (w : Inkwell) (s : State) : (setWell n w s).bl = s.bl := rfl
@[simp] theorem setWell_boot (n : Nat) (w : Inkwell) (s : State) : (setWell n w s).boot = s.boot := rfl
@[simp] theorem setWell_power (n : Nat) (w : Inkwell) (s : State) : (setWell n w s).power = s.power := rfl
@[simp] theorem setWell_host (n : Nat) (w : Inkwell) (s : State) : (setWell n w s).host = s.host := rfl
@[simp] theorem setWell_twin (n : Nat) (w : Inkwell) (s : State) : (setWell n w s).twin = s.twin := rfl
@[simp] theorem setWell_hush (n : Nat) (w : Inkwell) (s : State) : (setWell n w s).hush = s.hush := rfl
@[simp] theorem setWell_serif (n : Nat) (w : Inkwell) (s : State) : (setWell n w s).serif = s.serif := rfl
@[simp] theorem setWell_quill (n : Nat) (w : Inkwell) (s : State) : (setWell n w s).quill = s.quill := rfl
@[simp] theorem setWell_ms (n : Nat) (w : Inkwell) (s : State) : (setWell n w s).ms = s.ms := rfl
@[simp] theorem setWell_rt (n : Nat) (w : Inkwell) (s : State) : (setWell n w s).rt = s.rt := rfl
@[simp] theorem setWell_life (n : Nat) (w : Inkwell) (s : State) : (setWell n w s).life = s.life := rfl
@[simp] theorem setWell_feed (n : Nat) (w : Inkwell) (s : State) : (setWell n w s).feed = s.feed := rfl
@[simp] theorem setWell_dx (n : Nat) (w : Inkwell) (s : State) : (setWell n w s).dx = s.dx := rfl
@[simp] theorem setWell_prog (n : Nat) (w : Inkwell) (s : State) : (setWell n w s).prog = s.prog := rfl
@[simp] theorem setWell_lig (n : Nat) (w : Inkwell) (s : State) : (setWell n w s).lig = s.lig := rfl
@[simp] theorem setWell_sheen (n : Nat) (w : Inkwell) (s : State) : (setWell n w s).sheen = s.sheen := rfl
@[simp] theorem setWell_vl (n : Nat) (w : Inkwell) (s : State) : (setWell n w s).vl = s.vl := rfl
@[simp] theorem setWell_sl (n : Nat) (w : Inkwell) (s : State) : (setWell n w s).sl = s.sl := rfl
@[simp] theorem setWell_cb (n : Nat) (w : Inkwell) (s : State) : (setWell n w s).cb = s.cb := rfl
@[simp] theorem setWell_resume (n : Nat) (w : Inkwell) (s : State) : (setWell n w s).resume = s.resume := rfl
@[simp] theorem setWell_entry (n : Nat) (w : Inkwell) (s : State) : (setWell n w s).entry = s.entry := rfl

/-! ### modWell -/

@[simp] theorem modWell_pending (n : Nat) (f : Inkwell → Inkwell) (s : State) : (modWell n f s).pending = s.pending := rfl
@[simp] theorem modWell_draws (n : Nat) (f : Inkwell → Inkwell) (s : State) : (modWell n f s).draws = s.draws := rfl
@[simp] theorem modWell_variant (n : Nat) (f : Inkwell → Inkwell) (s : State) : (modWell n f s).variant = s.variant := rfl
@[simp] theorem modWell_stem (n : Nat) (f : Inkwell → Inkwell) (s : State) : (modWell n f s).stem = s.stem := rfl
@[simp] theorem modWell_bl (n : Nat) (f : Inkwell → Inkwell) (s : State) : (modWell n f s).bl = s.bl := rfl
@[simp] theorem modWell_boot (n : Nat) (f : Inkwell → Inkwell) (s : State) : (modWell n f s).boot = s.boot := rfl
@[simp] theorem modWell_power (n : Nat) (f : Inkwell → Inkwell) (s : State) : (modWell n f s).power = s.power := rfl
@[simp] theorem modWell_host (n : Nat) (f : Inkwell → Inkwell) (s : State) : (modWell n f s).host = s.host := rfl
@[simp] theorem modWell_twin (n : Nat) (f : Inkwell → Inkwell) (s : State) : (modWell n f s).twin = s.twin := rfl
@[simp] theorem modWell_hush (n : Nat) (f : Inkwell → Inkwell) (s : State) : (modWell n f s).hush = s.hush := rfl
@[simp] theorem modWell_serif (n : Nat) (f : Inkwell → Inkwell) (s : State) : (modWell n f s).serif = s.serif := rfl
@[simp] theorem modWell_quill (n : Nat) (f : Inkwell → Inkwell) (s : State) : (modWell n f s).quill = s.quill := rfl
@[simp] theorem modWell_ms (n : Nat) (f : Inkwell → Inkwell) (s : State) : (modWell n f s).ms = s.ms := rfl
@[simp] theorem modWell_rt (n : Nat) (f : Inkwell → Inkwell) (s : State) : (modWell n f s).rt = s.rt := rfl
@[simp] theorem modWell_life (n : Nat) (f : Inkwell → Inkwell) (s : State) : (modWell n f s).life = s.life := rfl
@[simp] theorem modWell_feed (n : Nat) (f : Inkwell → Inkwell) (s : State) : (modWell n f s).feed = s.feed := rfl
@[simp] theorem modWell_dx (n : Nat) (f : Inkwell → Inkwell) (s : State) : (modWell n f s).dx = s.dx := rfl
@[simp] theorem modWell_prog (n : Nat) (f : Inkwell → Inkwell) (s : State) : (modWell n f s).prog = s.prog := rfl
@[simp] theorem modWell_lig (n : Nat) (f : Inkwell → Inkwell) (s : State) : (modWell n f s).lig = s.lig := rfl
@[simp] theorem modWell_sheen (n : Nat) (f : Inkwell → Inkwell) (s : State) : (modWell n f s).sheen = s.sheen := rfl
@[simp] theorem modWell_vl (n : Nat) (f : Inkwell → Inkwell) (s : State) : (modWell n f s).vl = s.vl := rfl
@[simp] theorem modWell_sl (n : Nat) (f : Inkwell → Inkwell) (s : State) : (modWell n f s).sl = s.sl := rfl
@[simp] theorem modWell_cb (n : Nat) (f : Inkwell → Inkwell) (s : State) : (modWell n f s).cb = s.cb := rfl
@[simp] theorem modWell_resume (n : Nat) (f : Inkwell → Inkwell) (s : State) : (modWell n f s).resume = s.resume := rfl
@[simp] theorem modWell_entry (n : Nat) (f : Inkwell → Inkwell) (s : State) : (modWell n f s).entry = s.entry := rfl

/-! ### setHolder -/

@[simp] theorem setHolder_pending (n : Nat) (p : Holder) (s : State) : (setHolder n p s).pending = s.pending := rfl
@[simp] theorem setHolder_draws (n : Nat) (p : Holder) (s : State) : (setHolder n p s).draws = s.draws := rfl
@[simp] theorem setHolder_variant (n : Nat) (p : Holder) (s : State) : (setHolder n p s).variant = s.variant := rfl
@[simp] theorem setHolder_stem (n : Nat) (p : Holder) (s : State) : (setHolder n p s).stem = s.stem := rfl
@[simp] theorem setHolder_bl (n : Nat) (p : Holder) (s : State) : (setHolder n p s).bl = s.bl := rfl
@[simp] theorem setHolder_boot (n : Nat) (p : Holder) (s : State) : (setHolder n p s).boot = s.boot := rfl
@[simp] theorem setHolder_power (n : Nat) (p : Holder) (s : State) : (setHolder n p s).power = s.power := rfl
@[simp] theorem setHolder_host (n : Nat) (p : Holder) (s : State) : (setHolder n p s).host = s.host := rfl
@[simp] theorem setHolder_twin (n : Nat) (p : Holder) (s : State) : (setHolder n p s).twin = s.twin := rfl
@[simp] theorem setHolder_hush (n : Nat) (p : Holder) (s : State) : (setHolder n p s).hush = s.hush := rfl
@[simp] theorem setHolder_serif (n : Nat) (p : Holder) (s : State) : (setHolder n p s).serif = s.serif := rfl
@[simp] theorem setHolder_quill (n : Nat) (p : Holder) (s : State) : (setHolder n p s).quill = s.quill := rfl
@[simp] theorem setHolder_ms (n : Nat) (p : Holder) (s : State) : (setHolder n p s).ms = s.ms := rfl
@[simp] theorem setHolder_rt (n : Nat) (p : Holder) (s : State) : (setHolder n p s).rt = s.rt := rfl
@[simp] theorem setHolder_life (n : Nat) (p : Holder) (s : State) : (setHolder n p s).life = s.life := rfl
@[simp] theorem setHolder_feed (n : Nat) (p : Holder) (s : State) : (setHolder n p s).feed = s.feed := rfl
@[simp] theorem setHolder_dx (n : Nat) (p : Holder) (s : State) : (setHolder n p s).dx = s.dx := rfl
@[simp] theorem setHolder_prog (n : Nat) (p : Holder) (s : State) : (setHolder n p s).prog = s.prog := rfl
@[simp] theorem setHolder_lig (n : Nat) (p : Holder) (s : State) : (setHolder n p s).lig = s.lig := rfl
@[simp] theorem setHolder_sheen (n : Nat) (p : Holder) (s : State) : (setHolder n p s).sheen = s.sheen := rfl
@[simp] theorem setHolder_vl (n : Nat) (p : Holder) (s : State) : (setHolder n p s).vl = s.vl := rfl
@[simp] theorem setHolder_sl (n : Nat) (p : Holder) (s : State) : (setHolder n p s).sl = s.sl := rfl
@[simp] theorem setHolder_cb (n : Nat) (p : Holder) (s : State) : (setHolder n p s).cb = s.cb := rfl
@[simp] theorem setHolder_resume (n : Nat) (p : Holder) (s : State) : (setHolder n p s).resume = s.resume := rfl
@[simp] theorem setHolder_entry (n : Nat) (p : Holder) (s : State) : (setHolder n p s).entry = s.entry := rfl

end Machine
end Sys2Proof
end

