-- ==== Sys2Proof/Laws/Signals.lean ====
section
/-! SUPPORT. Everything that signals, events and Vellum's counting can do: each shared operation once, as an equation, and from it
what it leaves unchanged. -/

set_option linter.style.longLine false

namespace Sys2Proof
namespace Machine

/-- A signal to the host changes the host interface alone. -/
theorem signalVec_eq (v : Nat) (s : State) : ∃ h, signalVec v s = { s with host := h } := by
  unfold signalVec leaveL1
  dsimp only
  split <;> exact ⟨_, rfl⟩

/-- A status cause changes the host interface alone. -/
theorem signalBoth_eq (v : Nat) (s : State) : ∃ h, signalBoth v s = { s with host := h } := by
  obtain ⟨h, e⟩ := signalVec_eq v s
  exact ⟨_, by rw [signalBoth, signalHspi, e]⟩

/-- A ring that turns non-empty changes the host interface alone. -/
theorem signalInk_eq (n ring : Nat) (s : State) : ∃ h, signalInk n ring s = { s with host := h } := by
  unfold signalInk
  dsimp only
  split
  · exact ⟨_, rfl⟩
  · split
    · exact signalVec_eq n s
    · split
      · exact ⟨_, rfl⟩
      · exact ⟨_, rfl⟩
    · exact ⟨_, rfl⟩

/-- Writing an event changes the Inkwells and the host interface alone. -/
theorem pushEvent_eq (n type ssi : Nat) (payload : Bytes) (s : State) :
    ∃ i h, pushEvent n type ssi payload s = { s with ink := i, host := h } := by
  unfold pushEvent
  dsimp only
  repeat' split
  all_goals first
    | exact ⟨_, s.host, rfl⟩
    | (obtain ⟨h, e⟩ := signalInk_eq n 1 (setWell n _ s)
       rw [e]; exact ⟨_, h, rfl⟩)

/-- Events for any number of clients change the Inkwells and the host interface alone. -/
theorem pushEvents_eq (l : List Nat) (ssi type : Nat) (payload : Bytes) (s : State) :
    ∃ i h, l.foldl (fun t n => pushEvent n type ssi payload t) s = { s with ink := i, host := h } := by
  induction l generalizing s with
  | nil => exact ⟨s.ink, s.host, rfl⟩
  | cons n l ih =>
    obtain ⟨i, h, e⟩ := pushEvent_eq n type ssi payload s
    obtain ⟨i', h', e'⟩ := ih { s with ink := i, host := h }
    exact ⟨i', h', by rw [List.foldl_cons, e, e']⟩

/-- An event to its subscribers changes the Inkwells and the host interface alone. -/
theorem raiseAt_eq (ssi type : Nat) (payload : Bytes) (s : State) :
    ∃ i h, raiseAt ssi type payload s = { s with ink := i, host := h } := pushEvents_eq _ ssi type payload s

/-- An event now changes the Inkwells and the host interface alone. -/
theorem raise_eq (type : Nat) (payload : Bytes) (s : State) :
    ∃ i h, raise type payload s = { s with ink := i, host := h } := raiseAt_eq _ type payload s

/-- An event to one client changes the Inkwells and the host interface alone. -/
theorem raiseTo_eq (n ssi type : Nat) (payload : Bytes) (s : State) :
    ∃ i h, raiseTo n ssi type payload s = { s with ink := i, host := h } := by
  unfold raiseTo
  split
  · exact pushEvent_eq n type ssi payload s
  · exact ⟨s.ink, s.host, rfl⟩

/-- Counting changes Vellum alone. -/
theorem vellumAdd_eq (k n : Nat) (s : State) : ∃ v, vellumAdd k n s = { s with vl := v } := by
  unfold vellumAdd
  split <;> exact ⟨_, rfl⟩

/-- Counting once changes Vellum alone. -/
theorem vellumCount_eq (k : Nat) (s : State) : ∃ v, vellumCount k s = { s with vl := v } := vellumAdd_eq k 1 s

/-- An entry of the event log changes Vellum alone. -/
theorem vellumLog_eq (kind what arg value : Nat) (s : State) : ∃ v, vellumLog kind what arg value s = { s with vl := v } := by
  unfold vellumLog
  dsimp only
  split
  · obtain ⟨v, e⟩ := vellumCount_eq 79 s
    rw [e]; exact ⟨_, rfl⟩
  · exact ⟨_, rfl⟩

/-- A stage change changes the boot state and the host interface alone. -/
theorem setStage_eq (g : Stage) (s : State) : ∃ b h, setStage g s = { s with boot := b, host := h } := by
  unfold setStage
  split
  · exact ⟨s.boot, s.host, rfl⟩
  · obtain ⟨h, e⟩ := signalBoth_eq 64 { s with boot := { s.boot with stage := g } }
    rw [e]; exact ⟨_, h, rfl⟩

@[simp] theorem signalVec_pending (v : Nat) (s : State) : (signalVec v s).pending = s.pending := by obtain ⟨_, e⟩ := signalVec_eq v s; rw [e]
@[simp] theorem signalVec_draws (v : Nat) (s : State) : (signalVec v s).draws = s.draws := by obtain ⟨_, e⟩ := signalVec_eq v s; rw [e]
@[simp] theorem signalVec_variant (v : Nat) (s : State) : (signalVec v s).variant = s.variant := by obtain ⟨_, e⟩ := signalVec_eq v s; rw [e]
@[simp] theorem signalVec_stem (v : Nat) (s : State) : (signalVec v s).stem = s.stem := by obtain ⟨_, e⟩ := signalVec_eq v s; rw [e]
@[simp] theorem signalVec_bl (v : Nat) (s : State) : (signalVec v s).bl = s.bl := by obtain ⟨_, e⟩ := signalVec_eq v s; rw [e]
@[simp] theorem signalVec_boot (v : Nat) (s : State) : (signalVec v s).boot = s.boot := by obtain ⟨_, e⟩ := signalVec_eq v s; rw [e]
@[simp] theorem signalVec_power (v : Nat) (s : State) : (signalVec v s).power = s.power := by obtain ⟨_, e⟩ := signalVec_eq v s; rw [e]
@[simp] theorem signalVec_ink (v : Nat) (s : State) : (signalVec v s).ink = s.ink := by obtain ⟨_, e⟩ := signalVec_eq v s; rw [e]
@[simp] theorem signalVec_twin (v : Nat) (s : State) : (signalVec v s).twin = s.twin := by obtain ⟨_, e⟩ := signalVec_eq v s; rw [e]
@[simp] theorem signalVec_hush (v : Nat) (s : State) : (signalVec v s).hush = s.hush := by obtain ⟨_, e⟩ := signalVec_eq v s; rw [e]
@[simp] theorem signalVec_serif (v : Nat) (s : State) : (signalVec v s).serif = s.serif := by obtain ⟨_, e⟩ := signalVec_eq v s; rw [e]
@[simp] theorem signalVec_quill (v : Nat) (s : State) : (signalVec v s).quill = s.quill := by obtain ⟨_, e⟩ := signalVec_eq v s; rw [e]
@[simp] theorem signalVec_ms (v : Nat) (s : State) : (signalVec v s).ms = s.ms := by obtain ⟨_, e⟩ := signalVec_eq v s; rw [e]
@[simp] theorem signalVec_rt (v : Nat) (s : State) : (signalVec v s).rt = s.rt := by obtain ⟨_, e⟩ := signalVec_eq v s; rw [e]
@[simp] theorem signalVec_life (v : Nat) (s : State) : (signalVec v s).life = s.life := by obtain ⟨_, e⟩ := signalVec_eq v s; rw [e]
@[simp] theorem signalVec_feed (v : Nat) (s : State) : (signalVec v s).feed = s.feed := by obtain ⟨_, e⟩ := signalVec_eq v s; rw [e]
@[simp] theorem signalVec_dx (v : Nat) (s : State) : (signalVec v s).dx = s.dx := by obtain ⟨_, e⟩ := signalVec_eq v s; rw [e]
@[simp] theorem signalVec_prog (v : Nat) (s : State) : (signalVec v s).prog = s.prog := by obtain ⟨_, e⟩ := signalVec_eq v s; rw [e]
@[simp] theorem signalVec_lig (v : Nat) (s : State) : (signalVec v s).lig = s.lig := by obtain ⟨_, e⟩ := signalVec_eq v s; rw [e]
@[simp] theorem signalVec_sheen (v : Nat) (s : State) : (signalVec v s).sheen = s.sheen := by obtain ⟨_, e⟩ := signalVec_eq v s; rw [e]
@[simp] theorem signalVec_vl (v : Nat) (s : State) : (signalVec v s).vl = s.vl := by obtain ⟨_, e⟩ := signalVec_eq v s; rw [e]
@[simp] theorem signalVec_sl (v : Nat) (s : State) : (signalVec v s).sl = s.sl := by obtain ⟨_, e⟩ := signalVec_eq v s; rw [e]
@[simp] theorem signalVec_cb (v : Nat) (s : State) : (signalVec v s).cb = s.cb := by obtain ⟨_, e⟩ := signalVec_eq v s; rw [e]
@[simp] theorem signalVec_resume (v : Nat) (s : State) : (signalVec v s).resume = s.resume := by obtain ⟨_, e⟩ := signalVec_eq v s; rw [e]
@[simp] theorem signalVec_entry (v : Nat) (s : State) : (signalVec v s).entry = s.entry := by obtain ⟨_, e⟩ := signalVec_eq v s; rw [e]

@[simp] theorem signalBoth_pending (v : Nat) (s : State) : (signalBoth v s).pending = s.pending := by obtain ⟨_, e⟩ := signalBoth_eq v s; rw [e]
@[simp] theorem signalBoth_draws (v : Nat) (s : State) : (signalBoth v s).draws = s.draws := by obtain ⟨_, e⟩ := signalBoth_eq v s; rw [e]
@[simp] theorem signalBoth_variant (v : Nat) (s : State) : (signalBoth v s).variant = s.variant := by obtain ⟨_, e⟩ := signalBoth_eq v s; rw [e]
@[simp] theorem signalBoth_stem (v : Nat) (s : State) : (signalBoth v s).stem = s.stem := by obtain ⟨_, e⟩ := signalBoth_eq v s; rw [e]
@[simp] theorem signalBoth_bl (v : Nat) (s : State) : (signalBoth v s).bl = s.bl := by obtain ⟨_, e⟩ := signalBoth_eq v s; rw [e]
@[simp] theorem signalBoth_boot (v : Nat) (s : State) : (signalBoth v s).boot = s.boot := by obtain ⟨_, e⟩ := signalBoth_eq v s; rw [e]
@[simp] theorem signalBoth_power (v : Nat) (s : State) : (signalBoth v s).power = s.power := by obtain ⟨_, e⟩ := signalBoth_eq v s; rw [e]
@[simp] theorem signalBoth_ink (v : Nat) (s : State) : (signalBoth v s).ink = s.ink := by obtain ⟨_, e⟩ := signalBoth_eq v s; rw [e]
@[simp] theorem signalBoth_twin (v : Nat) (s : State) : (signalBoth v s).twin = s.twin := by obtain ⟨_, e⟩ := signalBoth_eq v s; rw [e]
@[simp] theorem signalBoth_hush (v : Nat) (s : State) : (signalBoth v s).hush = s.hush := by obtain ⟨_, e⟩ := signalBoth_eq v s; rw [e]
@[simp] theorem signalBoth_serif (v : Nat) (s : State) : (signalBoth v s).serif = s.serif := by obtain ⟨_, e⟩ := signalBoth_eq v s; rw [e]
@[simp] theorem signalBoth_quill (v : Nat) (s : State) : (signalBoth v s).quill = s.quill := by obtain ⟨_, e⟩ := signalBoth_eq v s; rw [e]
@[simp] theorem signalBoth_ms (v : Nat) (s : State) : (signalBoth v s).ms = s.ms := by obtain ⟨_, e⟩ := signalBoth_eq v s; rw [e]
@[simp] theorem signalBoth_rt (v : Nat) (s : State) : (signalBoth v s).rt = s.rt := by obtain ⟨_, e⟩ := signalBoth_eq v s; rw [e]
@[simp] theorem signalBoth_life (v : Nat) (s : State) : (signalBoth v s).life = s.life := by obtain ⟨_, e⟩ := signalBoth_eq v s; rw [e]
@[simp] theorem signalBoth_feed (v : Nat) (s : State) : (signalBoth v s).feed = s.feed := by obtain ⟨_, e⟩ := signalBoth_eq v s; rw [e]
@[simp] theorem signalBoth_dx (v : Nat) (s : State) : (signalBoth v s).dx = s.dx := by obtain ⟨_, e⟩ := signalBoth_eq v s; rw [e]
@[simp] theorem signalBoth_prog (v : Nat) (s : State) : (signalBoth v s).prog = s.prog := by obtain ⟨_, e⟩ := signalBoth_eq v s; rw [e]
@[simp] theorem signalBoth_lig (v : Nat) (s : State) : (signalBoth v s).lig = s.lig := by obtain ⟨_, e⟩ := signalBoth_eq v s; rw [e]
@[simp] theorem signalBoth_sheen (v : Nat) (s : State) : (signalBoth v s).sheen = s.sheen := by obtain ⟨_, e⟩ := signalBoth_eq v s; rw [e]
@[simp] theorem signalBoth_vl (v : Nat) (s : State) : (signalBoth v s).vl = s.vl := by obtain ⟨_, e⟩ := signalBoth_eq v s; rw [e]
@[simp] theorem signalBoth_sl (v : Nat) (s : State) : (signalBoth v s).sl = s.sl := by obtain ⟨_, e⟩ := signalBoth_eq v s; rw [e]
@[simp] theorem signalBoth_cb (v : Nat) (s : State) : (signalBoth v s).cb = s.cb := by obtain ⟨_, e⟩ := signalBoth_eq v s; rw [e]
@[simp] theorem signalBoth_resume (v : Nat) (s : State) : (signalBoth v s).resume = s.resume := by obtain ⟨_, e⟩ := signalBoth_eq v s; rw [e]
@[simp] theorem signalBoth_entry (v : Nat) (s : State) : (signalBoth v s).entry = s.entry := by obtain ⟨_, e⟩ := signalBoth_eq v s; rw [e]

@[simp] theorem signalInk_pending (n ring : Nat) (s : State) : (signalInk n ring s).pending = s.pending := by obtain ⟨_, e⟩ := signalInk_eq n ring s; rw [e]
@[simp] theorem signalInk_draws (n ring : Nat) (s : State) : (signalInk n ring s).draws = s.draws := by obtain ⟨_, e⟩ := signalInk_eq n ring s; rw [e]
@[simp] theorem signalInk_variant (n ring : Nat) (s : State) : (signalInk n ring s).variant = s.variant := by obtain ⟨_, e⟩ := signalInk_eq n ring s; rw [e]
@[simp] theorem signalInk_stem (n ring : Nat) (s : State) : (signalInk n ring s).stem = s.stem := by obtain ⟨_, e⟩ := signalInk_eq n ring s; rw [e]
@[simp] theorem signalInk_bl (n ring : Nat) (s : State) : (signalInk n ring s).bl = s.bl := by obtain ⟨_, e⟩ := signalInk_eq n ring s; rw [e]
@[simp] theorem signalInk_boot (n ring : Nat) (s : State) : (signalInk n ring s).boot = s.boot := by obtain ⟨_, e⟩ := signalInk_eq n ring s; rw [e]
@[simp] theorem signalInk_power (n ring : Nat) (s : State) : (signalInk n ring s).power = s.power := by obtain ⟨_, e⟩ := signalInk_eq n ring s; rw [e]
@[simp] theorem signalInk_ink (n ring : Nat) (s : State) : (signalInk n ring s).ink = s.ink := by obtain ⟨_, e⟩ := signalInk_eq n ring s; rw [e]
@[simp] theorem signalInk_twin (n ring : Nat) (s : State) : (signalInk n ring s).twin = s.twin := by obtain ⟨_, e⟩ := signalInk_eq n ring s; rw [e]
@[simp] theorem signalInk_hush (n ring : Nat) (s : State) : (signalInk n ring s).hush = s.hush := by obtain ⟨_, e⟩ := signalInk_eq n ring s; rw [e]
@[simp] theorem signalInk_serif (n ring : Nat) (s : State) : (signalInk n ring s).serif = s.serif := by obtain ⟨_, e⟩ := signalInk_eq n ring s; rw [e]
@[simp] theorem signalInk_quill (n ring : Nat) (s : State) : (signalInk n ring s).quill = s.quill := by obtain ⟨_, e⟩ := signalInk_eq n ring s; rw [e]
@[simp] theorem signalInk_ms (n ring : Nat) (s : State) : (signalInk n ring s).ms = s.ms := by obtain ⟨_, e⟩ := signalInk_eq n ring s; rw [e]
@[simp] theorem signalInk_rt (n ring : Nat) (s : State) : (signalInk n ring s).rt = s.rt := by obtain ⟨_, e⟩ := signalInk_eq n ring s; rw [e]
@[simp] theorem signalInk_life (n ring : Nat) (s : State) : (signalInk n ring s).life = s.life := by obtain ⟨_, e⟩ := signalInk_eq n ring s; rw [e]
@[simp] theorem signalInk_feed (n ring : Nat) (s : State) : (signalInk n ring s).feed = s.feed := by obtain ⟨_, e⟩ := signalInk_eq n ring s; rw [e]
@[simp] theorem signalInk_dx (n ring : Nat) (s : State) : (signalInk n ring s).dx = s.dx := by obtain ⟨_, e⟩ := signalInk_eq n ring s; rw [e]
@[simp] theorem signalInk_prog (n ring : Nat) (s : State) : (signalInk n ring s).prog = s.prog := by obtain ⟨_, e⟩ := signalInk_eq n ring s; rw [e]
@[simp] theorem signalInk_lig (n ring : Nat) (s : State) : (signalInk n ring s).lig = s.lig := by obtain ⟨_, e⟩ := signalInk_eq n ring s; rw [e]
@[simp] theorem signalInk_sheen (n ring : Nat) (s : State) : (signalInk n ring s).sheen = s.sheen := by obtain ⟨_, e⟩ := signalInk_eq n ring s; rw [e]
@[simp] theorem signalInk_vl (n ring : Nat) (s : State) : (signalInk n ring s).vl = s.vl := by obtain ⟨_, e⟩ := signalInk_eq n ring s; rw [e]
@[simp] theorem signalInk_sl (n ring : Nat) (s : State) : (signalInk n ring s).sl = s.sl := by obtain ⟨_, e⟩ := signalInk_eq n ring s; rw [e]
@[simp] theorem signalInk_cb (n ring : Nat) (s : State) : (signalInk n ring s).cb = s.cb := by obtain ⟨_, e⟩ := signalInk_eq n ring s; rw [e]
@[simp] theorem signalInk_resume (n ring : Nat) (s : State) : (signalInk n ring s).resume = s.resume := by obtain ⟨_, e⟩ := signalInk_eq n ring s; rw [e]
@[simp] theorem signalInk_entry (n ring : Nat) (s : State) : (signalInk n ring s).entry = s.entry := by obtain ⟨_, e⟩ := signalInk_eq n ring s; rw [e]

@[simp] theorem pushEvent_pending (n type ssi : Nat) (payload : Bytes) (s : State) : (pushEvent n type ssi payload s).pending = s.pending := by obtain ⟨_, _, e⟩ := pushEvent_eq n type ssi payload s; rw [e]
@[simp] theorem pushEvent_draws (n type ssi : Nat) (payload : Bytes) (s : State) : (pushEvent n type ssi payload s).draws = s.draws := by obtain ⟨_, _, e⟩ := pushEvent_eq n type ssi payload s; rw [e]
@[simp] theorem pushEvent_variant (n type ssi : Nat) (payload : Bytes) (s : State) : (pushEvent n type ssi payload s).variant = s.variant := by obtain ⟨_, _, e⟩ := pushEvent_eq n type ssi payload s; rw [e]
@[simp] theorem pushEvent_stem (n type ssi : Nat) (payload : Bytes) (s : State) : (pushEvent n type ssi payload s).stem = s.stem := by obtain ⟨_, _, e⟩ := pushEvent_eq n type ssi payload s; rw [e]
@[simp] theorem pushEvent_bl (n type ssi : Nat) (payload : Bytes) (s : State) : (pushEvent n type ssi payload s).bl = s.bl := by obtain ⟨_, _, e⟩ := pushEvent_eq n type ssi payload s; rw [e]
@[simp] theorem pushEvent_boot (n type ssi : Nat) (payload : Bytes) (s : State) : (pushEvent n type ssi payload s).boot = s.boot := by obtain ⟨_, _, e⟩ := pushEvent_eq n type ssi payload s; rw [e]
@[simp] theorem pushEvent_power (n type ssi : Nat) (payload : Bytes) (s : State) : (pushEvent n type ssi payload s).power = s.power := by obtain ⟨_, _, e⟩ := pushEvent_eq n type ssi payload s; rw [e]
@[simp] theorem pushEvent_twin (n type ssi : Nat) (payload : Bytes) (s : State) : (pushEvent n type ssi payload s).twin = s.twin := by obtain ⟨_, _, e⟩ := pushEvent_eq n type ssi payload s; rw [e]
@[simp] theorem pushEvent_hush (n type ssi : Nat) (payload : Bytes) (s : State) : (pushEvent n type ssi payload s).hush = s.hush := by obtain ⟨_, _, e⟩ := pushEvent_eq n type ssi payload s; rw [e]
@[simp] theorem pushEvent_serif (n type ssi : Nat) (payload : Bytes) (s : State) : (pushEvent n type ssi payload s).serif = s.serif := by obtain ⟨_, _, e⟩ := pushEvent_eq n type ssi payload s; rw [e]
@[simp] theorem pushEvent_quill (n type ssi : Nat) (payload : Bytes) (s : State) : (pushEvent n type ssi payload s).quill = s.quill := by obtain ⟨_, _, e⟩ := pushEvent_eq n type ssi payload s; rw [e]
@[simp] theorem pushEvent_ms (n type ssi : Nat) (payload : Bytes) (s : State) : (pushEvent n type ssi payload s).ms = s.ms := by obtain ⟨_, _, e⟩ := pushEvent_eq n type ssi payload s; rw [e]
@[simp] theorem pushEvent_rt (n type ssi : Nat) (payload : Bytes) (s : State) : (pushEvent n type ssi payload s).rt = s.rt := by obtain ⟨_, _, e⟩ := pushEvent_eq n type ssi payload s; rw [e]
@[simp] theorem pushEvent_life (n type ssi : Nat) (payload : Bytes) (s : State) : (pushEvent n type ssi payload s).life = s.life := by obtain ⟨_, _, e⟩ := pushEvent_eq n type ssi payload s; rw [e]
@[simp] theorem pushEvent_feed (n type ssi : Nat) (payload : Bytes) (s : State) : (pushEvent n type ssi payload s).feed = s.feed := by obtain ⟨_, _, e⟩ := pushEvent_eq n type ssi payload s; rw [e]
@[simp] theorem pushEvent_dx (n type ssi : Nat) (payload : Bytes) (s : State) : (pushEvent n type ssi payload s).dx = s.dx := by obtain ⟨_, _, e⟩ := pushEvent_eq n type ssi payload s; rw [e]
@[simp] theorem pushEvent_prog (n type ssi : Nat) (payload : Bytes) (s : State) : (pushEvent n type ssi payload s).prog = s.prog := by obtain ⟨_, _, e⟩ := pushEvent_eq n type ssi payload s; rw [e]
@[simp] theorem pushEvent_lig (n type ssi : Nat) (payload : Bytes) (s : State) : (pushEvent n type ssi payload s).lig = s.lig := by obtain ⟨_, _, e⟩ := pushEvent_eq n type ssi payload s; rw [e]
@[simp] theorem pushEvent_sheen (n type ssi : Nat) (payload : Bytes) (s : State) : (pushEvent n type ssi payload s).sheen = s.sheen := by obtain ⟨_, _, e⟩ := pushEvent_eq n type ssi payload s; rw [e]
@[simp] theorem pushEvent_vl (n type ssi : Nat) (payload : Bytes) (s : State) : (pushEvent n type ssi payload s).vl = s.vl := by obtain ⟨_, _, e⟩ := pushEvent_eq n type ssi payload s; rw [e]
@[simp] theorem pushEvent_sl (n type ssi : Nat) (payload : Bytes) (s : State) : (pushEvent n type ssi payload s).sl = s.sl := by obtain ⟨_, _, e⟩ := pushEvent_eq n type ssi payload s; rw [e]
@[simp] theorem pushEvent_cb (n type ssi : Nat) (payload : Bytes) (s : State) : (pushEvent n type ssi payload s).cb = s.cb := by obtain ⟨_, _, e⟩ := pushEvent_eq n type ssi payload s; rw [e]
@[simp] theorem pushEvent_resume (n type ssi : Nat) (payload : Bytes) (s : State) : (pushEvent n type ssi payload s).resume = s.resume := by obtain ⟨_, _, e⟩ := pushEvent_eq n type ssi payload s; rw [e]
@[simp] theorem pushEvent_entry (n type ssi : Nat) (payload : Bytes) (s : State) : (pushEvent n type ssi payload s).entry = s.entry := by obtain ⟨_, _, e⟩ := pushEvent_eq n type ssi payload s; rw [e]

@[simp] theorem raiseAt_pending (ssi type : Nat) (payload : Bytes) (s : State) : (raiseAt ssi type payload s).pending = s.pending := by obtain ⟨_, _, e⟩ := raiseAt_eq ssi type payload s; rw [e]
@[simp] theorem raiseAt_draws (ssi type : Nat) (payload : Bytes) (s : State) : (raiseAt ssi type payload s).draws = s.draws := by obtain ⟨_, _, e⟩ := raiseAt_eq ssi type payload s; rw [e]
@[simp] theorem raiseAt_variant (ssi type : Nat) (payload : Bytes) (s : State) : (raiseAt ssi type payload s).variant = s.variant := by obtain ⟨_, _, e⟩ := raiseAt_eq ssi type payload s; rw [e]
@[simp] theorem raiseAt_stem (ssi type : Nat) (payload : Bytes) (s : State) : (raiseAt ssi type payload s).stem = s.stem := by obtain ⟨_, _, e⟩ := raiseAt_eq ssi type payload s; rw [e]
@[simp] theorem raiseAt_bl (ssi type : Nat) (payload : Bytes) (s : State) : (raiseAt ssi type payload s).bl = s.bl := by obtain ⟨_, _, e⟩ := raiseAt_eq ssi type payload s; rw [e]
@[simp] theorem raiseAt_boot (ssi type : Nat) (payload : Bytes) (s : State) : (raiseAt ssi type payload s).boot = s.boot := by obtain ⟨_, _, e⟩ := raiseAt_eq ssi type payload s; rw [e]
@[simp] theorem raiseAt_power (ssi type : Nat) (payload : Bytes) (s : State) : (raiseAt ssi type payload s).power = s.power := by obtain ⟨_, _, e⟩ := raiseAt_eq ssi type payload s; rw [e]
@[simp] theorem raiseAt_twin (ssi type : Nat) (payload : Bytes) (s : State) : (raiseAt ssi type payload s).twin = s.twin := by obtain ⟨_, _, e⟩ := raiseAt_eq ssi type payload s; rw [e]
@[simp] theorem raiseAt_hush (ssi type : Nat) (payload : Bytes) (s : State) : (raiseAt ssi type payload s).hush = s.hush := by obtain ⟨_, _, e⟩ := raiseAt_eq ssi type payload s; rw [e]
@[simp] theorem raiseAt_serif (ssi type : Nat) (payload : Bytes) (s : State) : (raiseAt ssi type payload s).serif = s.serif := by obtain ⟨_, _, e⟩ := raiseAt_eq ssi type payload s; rw [e]
@[simp] theorem raiseAt_quill (ssi type : Nat) (payload : Bytes) (s : State) : (raiseAt ssi type payload s).quill = s.quill := by obtain ⟨_, _, e⟩ := raiseAt_eq ssi type payload s; rw [e]
@[simp] theorem raiseAt_ms (ssi type : Nat) (payload : Bytes) (s : State) : (raiseAt ssi type payload s).ms = s.ms := by obtain ⟨_, _, e⟩ := raiseAt_eq ssi type payload s; rw [e]
@[simp] theorem raiseAt_rt (ssi type : Nat) (payload : Bytes) (s : State) : (raiseAt ssi type payload s).rt = s.rt := by obtain ⟨_, _, e⟩ := raiseAt_eq ssi type payload s; rw [e]
@[simp] theorem raiseAt_life (ssi type : Nat) (payload : Bytes) (s : State) : (raiseAt ssi type payload s).life = s.life := by obtain ⟨_, _, e⟩ := raiseAt_eq ssi type payload s; rw [e]
@[simp] theorem raiseAt_feed (ssi type : Nat) (payload : Bytes) (s : State) : (raiseAt ssi type payload s).feed = s.feed := by obtain ⟨_, _, e⟩ := raiseAt_eq ssi type payload s; rw [e]
@[simp] theorem raiseAt_dx (ssi type : Nat) (payload : Bytes) (s : State) : (raiseAt ssi type payload s).dx = s.dx := by obtain ⟨_, _, e⟩ := raiseAt_eq ssi type payload s; rw [e]
@[simp] theorem raiseAt_prog (ssi type : Nat) (payload : Bytes) (s : State) : (raiseAt ssi type payload s).prog = s.prog := by obtain ⟨_, _, e⟩ := raiseAt_eq ssi type payload s; rw [e]
@[simp] theorem raiseAt_lig (ssi type : Nat) (payload : Bytes) (s : State) : (raiseAt ssi type payload s).lig = s.lig := by obtain ⟨_, _, e⟩ := raiseAt_eq ssi type payload s; rw [e]
@[simp] theorem raiseAt_sheen (ssi type : Nat) (payload : Bytes) (s : State) : (raiseAt ssi type payload s).sheen = s.sheen := by obtain ⟨_, _, e⟩ := raiseAt_eq ssi type payload s; rw [e]
@[simp] theorem raiseAt_vl (ssi type : Nat) (payload : Bytes) (s : State) : (raiseAt ssi type payload s).vl = s.vl := by obtain ⟨_, _, e⟩ := raiseAt_eq ssi type payload s; rw [e]
@[simp] theorem raiseAt_sl (ssi type : Nat) (payload : Bytes) (s : State) : (raiseAt ssi type payload s).sl = s.sl := by obtain ⟨_, _, e⟩ := raiseAt_eq ssi type payload s; rw [e]
@[simp] theorem raiseAt_cb (ssi type : Nat) (payload : Bytes) (s : State) : (raiseAt ssi type payload s).cb = s.cb := by obtain ⟨_, _, e⟩ := raiseAt_eq ssi type payload s; rw [e]
@[simp] theorem raiseAt_resume (ssi type : Nat) (payload : Bytes) (s : State) : (raiseAt ssi type payload s).resume = s.resume := by obtain ⟨_, _, e⟩ := raiseAt_eq ssi type payload s; rw [e]
@[simp] theorem raiseAt_entry (ssi type : Nat) (payload : Bytes) (s : State) : (raiseAt ssi type payload s).entry = s.entry := by obtain ⟨_, _, e⟩ := raiseAt_eq ssi type payload s; rw [e]

@[simp] theorem raise_pending (type : Nat) (payload : Bytes) (s : State) : (raise type payload s).pending = s.pending := by obtain ⟨_, _, e⟩ := raise_eq type payload s; rw [e]
@[simp] theorem raise_draws (type : Nat) (payload : Bytes) (s : State) : (raise type payload s).draws = s.draws := by obtain ⟨_, _, e⟩ := raise_eq type payload s; rw [e]
@[simp] theorem raise_variant (type : Nat) (payload : Bytes) (s : State) : (raise type payload s).variant = s.variant := by obtain ⟨_, _, e⟩ := raise_eq type payload s; rw [e]
@[simp] theorem raise_stem (type : Nat) (payload : Bytes) (s : State) : (raise type payload s).stem = s.stem := by obtain ⟨_, _, e⟩ := raise_eq type payload s; rw [e]
@[simp] theorem raise_bl (type : Nat) (payload : Bytes) (s : State) : (raise type payload s).bl = s.bl := by obtain ⟨_, _, e⟩ := raise_eq type payload s; rw [e]
@[simp] theorem raise_boot (type : Nat) (payload : Bytes) (s : State) : (raise type payload s).boot = s.boot := by obtain ⟨_, _, e⟩ := raise_eq type payload s; rw [e]
@[simp] theorem raise_power (type : Nat) (payload : Bytes) (s : State) : (raise type payload s).power = s.power := by obtain ⟨_, _, e⟩ := raise_eq type payload s; rw [e]
@[simp] theorem raise_twin (type : Nat) (payload : Bytes) (s : State) : (raise type payload s).twin = s.twin := by obtain ⟨_, _, e⟩ := raise_eq type payload s; rw [e]
@[simp] theorem raise_hush (type : Nat) (payload : Bytes) (s : State) : (raise type payload s).hush = s.hush := by obtain ⟨_, _, e⟩ := raise_eq type payload s; rw [e]
@[simp] theorem raise_serif (type : Nat) (payload : Bytes) (s : State) : (raise type payload s).serif = s.serif := by obtain ⟨_, _, e⟩ := raise_eq type payload s; rw [e]
@[simp] theorem raise_quill (type : Nat) (payload : Bytes) (s : State) : (raise type payload s).quill = s.quill := by obtain ⟨_, _, e⟩ := raise_eq type payload s; rw [e]
@[simp] theorem raise_ms (type : Nat) (payload : Bytes) (s : State) : (raise type payload s).ms = s.ms := by obtain ⟨_, _, e⟩ := raise_eq type payload s; rw [e]
@[simp] theorem raise_rt (type : Nat) (payload : Bytes) (s : State) : (raise type payload s).rt = s.rt := by obtain ⟨_, _, e⟩ := raise_eq type payload s; rw [e]
@[simp] theorem raise_life (type : Nat) (payload : Bytes) (s : State) : (raise type payload s).life = s.life := by obtain ⟨_, _, e⟩ := raise_eq type payload s; rw [e]
@[simp] theorem raise_feed (type : Nat) (payload : Bytes) (s : State) : (raise type payload s).feed = s.feed := by obtain ⟨_, _, e⟩ := raise_eq type payload s; rw [e]
@[simp] theorem raise_dx (type : Nat) (payload : Bytes) (s : State) : (raise type payload s).dx = s.dx := by obtain ⟨_, _, e⟩ := raise_eq type payload s; rw [e]
@[simp] theorem raise_prog (type : Nat) (payload : Bytes) (s : State) : (raise type payload s).prog = s.prog := by obtain ⟨_, _, e⟩ := raise_eq type payload s; rw [e]
@[simp] theorem raise_lig (type : Nat) (payload : Bytes) (s : State) : (raise type payload s).lig = s.lig := by obtain ⟨_, _, e⟩ := raise_eq type payload s; rw [e]
@[simp] theorem raise_sheen (type : Nat) (payload : Bytes) (s : State) : (raise type payload s).sheen = s.sheen := by obtain ⟨_, _, e⟩ := raise_eq type payload s; rw [e]
@[simp] theorem raise_vl (type : Nat) (payload : Bytes) (s : State) : (raise type payload s).vl = s.vl := by obtain ⟨_, _, e⟩ := raise_eq type payload s; rw [e]
@[simp] theorem raise_sl (type : Nat) (payload : Bytes) (s : State) : (raise type payload s).sl = s.sl := by obtain ⟨_, _, e⟩ := raise_eq type payload s; rw [e]
@[simp] theorem raise_cb (type : Nat) (payload : Bytes) (s : State) : (raise type payload s).cb = s.cb := by obtain ⟨_, _, e⟩ := raise_eq type payload s; rw [e]
@[simp] theorem raise_resume (type : Nat) (payload : Bytes) (s : State) : (raise type payload s).resume = s.resume := by obtain ⟨_, _, e⟩ := raise_eq type payload s; rw [e]
@[simp] theorem raise_entry (type : Nat) (payload : Bytes) (s : State) : (raise type payload s).entry = s.entry := by obtain ⟨_, _, e⟩ := raise_eq type payload s; rw [e]

@[simp] theorem raiseTo_pending (n ssi type : Nat) (payload : Bytes) (s : State) : (raiseTo n ssi type payload s).pending = s.pending := by obtain ⟨_, _, e⟩ := raiseTo_eq n ssi type payload s; rw [e]
@[simp] theorem raiseTo_draws (n ssi type : Nat) (payload : Bytes) (s : State) : (raiseTo n ssi type payload s).draws = s.draws := by obtain ⟨_, _, e⟩ := raiseTo_eq n ssi type payload s; rw [e]
@[simp] theorem raiseTo_variant (n ssi type : Nat) (payload : Bytes) (s : State) : (raiseTo n ssi type payload s).variant = s.variant := by obtain ⟨_, _, e⟩ := raiseTo_eq n ssi type payload s; rw [e]
@[simp] theorem raiseTo_stem (n ssi type : Nat) (payload : Bytes) (s : State) : (raiseTo n ssi type payload s).stem = s.stem := by obtain ⟨_, _, e⟩ := raiseTo_eq n ssi type payload s; rw [e]
@[simp] theorem raiseTo_bl (n ssi type : Nat) (payload : Bytes) (s : State) : (raiseTo n ssi type payload s).bl = s.bl := by obtain ⟨_, _, e⟩ := raiseTo_eq n ssi type payload s; rw [e]
@[simp] theorem raiseTo_boot (n ssi type : Nat) (payload : Bytes) (s : State) : (raiseTo n ssi type payload s).boot = s.boot := by obtain ⟨_, _, e⟩ := raiseTo_eq n ssi type payload s; rw [e]
@[simp] theorem raiseTo_power (n ssi type : Nat) (payload : Bytes) (s : State) : (raiseTo n ssi type payload s).power = s.power := by obtain ⟨_, _, e⟩ := raiseTo_eq n ssi type payload s; rw [e]
@[simp] theorem raiseTo_twin (n ssi type : Nat) (payload : Bytes) (s : State) : (raiseTo n ssi type payload s).twin = s.twin := by obtain ⟨_, _, e⟩ := raiseTo_eq n ssi type payload s; rw [e]
@[simp] theorem raiseTo_hush (n ssi type : Nat) (payload : Bytes) (s : State) : (raiseTo n ssi type payload s).hush = s.hush := by obtain ⟨_, _, e⟩ := raiseTo_eq n ssi type payload s; rw [e]
@[simp] theorem raiseTo_serif (n ssi type : Nat) (payload : Bytes) (s : State) : (raiseTo n ssi type payload s).serif = s.serif := by obtain ⟨_, _, e⟩ := raiseTo_eq n ssi type payload s; rw [e]
@[simp] theorem raiseTo_quill (n ssi type : Nat) (payload : Bytes) (s : State) : (raiseTo n ssi type payload s).quill = s.quill := by obtain ⟨_, _, e⟩ := raiseTo_eq n ssi type payload s; rw [e]
@[simp] theorem raiseTo_ms (n ssi type : Nat) (payload : Bytes) (s : State) : (raiseTo n ssi type payload s).ms = s.ms := by obtain ⟨_, _, e⟩ := raiseTo_eq n ssi type payload s; rw [e]
@[simp] theorem raiseTo_rt (n ssi type : Nat) (payload : Bytes) (s : State) : (raiseTo n ssi type payload s).rt = s.rt := by obtain ⟨_, _, e⟩ := raiseTo_eq n ssi type payload s; rw [e]
@[simp] theorem raiseTo_life (n ssi type : Nat) (payload : Bytes) (s : State) : (raiseTo n ssi type payload s).life = s.life := by obtain ⟨_, _, e⟩ := raiseTo_eq n ssi type payload s; rw [e]
@[simp] theorem raiseTo_feed (n ssi type : Nat) (payload : Bytes) (s : State) : (raiseTo n ssi type payload s).feed = s.feed := by obtain ⟨_, _, e⟩ := raiseTo_eq n ssi type payload s; rw [e]
@[simp] theorem raiseTo_dx (n ssi type : Nat) (payload : Bytes) (s : State) : (raiseTo n ssi type payload s).dx = s.dx := by obtain ⟨_, _, e⟩ := raiseTo_eq n ssi type payload s; rw [e]
@[simp] theorem raiseTo_prog (n ssi type : Nat) (payload : Bytes) (s : State) : (raiseTo n ssi type payload s).prog = s.prog := by obtain ⟨_, _, e⟩ := raiseTo_eq n ssi type payload s; rw [e]
@[simp] theorem raiseTo_lig (n ssi type : Nat) (payload : Bytes) (s : State) : (raiseTo n ssi type payload s).lig = s.lig := by obtain ⟨_, _, e⟩ := raiseTo_eq n ssi type payload s; rw [e]
@[simp] theorem raiseTo_sheen (n ssi type : Nat) (payload : Bytes) (s : State) : (raiseTo n ssi type payload s).sheen = s.sheen := by obtain ⟨_, _, e⟩ := raiseTo_eq n ssi type payload s; rw [e]
@[simp] theorem raiseTo_vl (n ssi type : Nat) (payload : Bytes) (s : State) : (raiseTo n ssi type payload s).vl = s.vl := by obtain ⟨_, _, e⟩ := raiseTo_eq n ssi type payload s; rw [e]
@[simp] theorem raiseTo_sl (n ssi type : Nat) (payload : Bytes) (s : State) : (raiseTo n ssi type payload s).sl = s.sl := by obtain ⟨_, _, e⟩ := raiseTo_eq n ssi type payload s; rw [e]
@[simp] theorem raiseTo_cb (n ssi type : Nat) (payload : Bytes) (s : State) : (raiseTo n ssi type payload s).cb = s.cb := by obtain ⟨_, _, e⟩ := raiseTo_eq n ssi type payload s; rw [e]
@[simp] theorem raiseTo_resume (n ssi type : Nat) (payload : Bytes) (s : State) : (raiseTo n ssi type payload s).resume = s.resume := by obtain ⟨_, _, e⟩ := raiseTo_eq n ssi type payload s; rw [e]
@[simp] theorem raiseTo_entry (n ssi type : Nat) (payload : Bytes) (s : State) : (raiseTo n ssi type payload s).entry = s.entry := by obtain ⟨_, _, e⟩ := raiseTo_eq n ssi type payload s; rw [e]

@[simp] theorem vellumAdd_pending (k n : Nat) (s : State) : (vellumAdd k n s).pending = s.pending := by obtain ⟨_, e⟩ := vellumAdd_eq k n s; rw [e]
@[simp] theorem vellumAdd_draws (k n : Nat) (s : State) : (vellumAdd k n s).draws = s.draws := by obtain ⟨_, e⟩ := vellumAdd_eq k n s; rw [e]
@[simp] theorem vellumAdd_variant (k n : Nat) (s : State) : (vellumAdd k n s).variant = s.variant := by obtain ⟨_, e⟩ := vellumAdd_eq k n s; rw [e]
@[simp] theorem vellumAdd_stem (k n : Nat) (s : State) : (vellumAdd k n s).stem = s.stem := by obtain ⟨_, e⟩ := vellumAdd_eq k n s; rw [e]
@[simp] theorem vellumAdd_bl (k n : Nat) (s : State) : (vellumAdd k n s).bl = s.bl := by obtain ⟨_, e⟩ := vellumAdd_eq k n s; rw [e]
@[simp] theorem vellumAdd_boot (k n : Nat) (s : State) : (vellumAdd k n s).boot = s.boot := by obtain ⟨_, e⟩ := vellumAdd_eq k n s; rw [e]
@[simp] theorem vellumAdd_power (k n : Nat) (s : State) : (vellumAdd k n s).power = s.power := by obtain ⟨_, e⟩ := vellumAdd_eq k n s; rw [e]
@[simp] theorem vellumAdd_ink (k n : Nat) (s : State) : (vellumAdd k n s).ink = s.ink := by obtain ⟨_, e⟩ := vellumAdd_eq k n s; rw [e]
@[simp] theorem vellumAdd_host (k n : Nat) (s : State) : (vellumAdd k n s).host = s.host := by obtain ⟨_, e⟩ := vellumAdd_eq k n s; rw [e]
@[simp] theorem vellumAdd_twin (k n : Nat) (s : State) : (vellumAdd k n s).twin = s.twin := by obtain ⟨_, e⟩ := vellumAdd_eq k n s; rw [e]
@[simp] theorem vellumAdd_hush (k n : Nat) (s : State) : (vellumAdd k n s).hush = s.hush := by obtain ⟨_, e⟩ := vellumAdd_eq k n s; rw [e]
@[simp] theorem vellumAdd_serif (k n : Nat) (s : State) : (vellumAdd k n s).serif = s.serif := by obtain ⟨_, e⟩ := vellumAdd_eq k n s; rw [e]
@[simp] theorem vellumAdd_quill (k n : Nat) (s : State) : (vellumAdd k n s).quill = s.quill := by obtain ⟨_, e⟩ := vellumAdd_eq k n s; rw [e]
@[simp] theorem vellumAdd_ms (k n : Nat) (s : State) : (vellumAdd k n s).ms = s.ms := by obtain ⟨_, e⟩ := vellumAdd_eq k n s; rw [e]
@[simp] theorem vellumAdd_rt (k n : Nat) (s : State) : (vellumAdd k n s).rt = s.rt := by obtain ⟨_, e⟩ := vellumAdd_eq k n s; rw [e]
@[simp] theorem vellumAdd_life (k n : Nat) (s : State) : (vellumAdd k n s).life = s.life := by obtain ⟨_, e⟩ := vellumAdd_eq k n s; rw [e]
@[simp] theorem vellumAdd_feed (k n : Nat) (s : State) : (vellumAdd k n s).feed = s.feed := by obtain ⟨_, e⟩ := vellumAdd_eq k n s; rw [e]
@[simp] theorem vellumAdd_dx (k n : Nat) (s : State) : (vellumAdd k n s).dx = s.dx := by obtain ⟨_, e⟩ := vellumAdd_eq k n s; rw [e]
@[simp] theorem vellumAdd_prog (k n : Nat) (s : State) : (vellumAdd k n s).prog = s.prog := by obtain ⟨_, e⟩ := vellumAdd_eq k n s; rw [e]
@[simp] theorem vellumAdd_lig (k n : Nat) (s : State) : (vellumAdd k n s).lig = s.lig := by obtain ⟨_, e⟩ := vellumAdd_eq k n s; rw [e]
@[simp] theorem vellumAdd_sheen (k n : Nat) (s : State) : (vellumAdd k n s).sheen = s.sheen := by obtain ⟨_, e⟩ := vellumAdd_eq k n s; rw [e]
@[simp] theorem vellumAdd_sl (k n : Nat) (s : State) : (vellumAdd k n s).sl = s.sl := by obtain ⟨_, e⟩ := vellumAdd_eq k n s; rw [e]
@[simp] theorem vellumAdd_cb (k n : Nat) (s : State) : (vellumAdd k n s).cb = s.cb := by obtain ⟨_, e⟩ := vellumAdd_eq k n s; rw [e]
@[simp] theorem vellumAdd_resume (k n : Nat) (s : State) : (vellumAdd k n s).resume = s.resume := by obtain ⟨_, e⟩ := vellumAdd_eq k n s; rw [e]
@[simp] theorem vellumAdd_entry (k n : Nat) (s : State) : (vellumAdd k n s).entry = s.entry := by obtain ⟨_, e⟩ := vellumAdd_eq k n s; rw [e]

@[simp] theorem vellumCount_pending (k : Nat) (s : State) : (vellumCount k s).pending = s.pending := by obtain ⟨_, e⟩ := vellumCount_eq k s; rw [e]
@[simp] theorem vellumCount_draws (k : Nat) (s : State) : (vellumCount k s).draws = s.draws := by obtain ⟨_, e⟩ := vellumCount_eq k s; rw [e]
@[simp] theorem vellumCount_variant (k : Nat) (s : State) : (vellumCount k s).variant = s.variant := by obtain ⟨_, e⟩ := vellumCount_eq k s; rw [e]
@[simp] theorem vellumCount_stem (k : Nat) (s : State) : (vellumCount k s).stem = s.stem := by obtain ⟨_, e⟩ := vellumCount_eq k s; rw [e]
@[simp] theorem vellumCount_bl (k : Nat) (s : State) : (vellumCount k s).bl = s.bl := by obtain ⟨_, e⟩ := vellumCount_eq k s; rw [e]
@[simp] theorem vellumCount_boot (k : Nat) (s : State) : (vellumCount k s).boot = s.boot := by obtain ⟨_, e⟩ := vellumCount_eq k s; rw [e]
@[simp] theorem vellumCount_power (k : Nat) (s : State) : (vellumCount k s).power = s.power := by obtain ⟨_, e⟩ := vellumCount_eq k s; rw [e]
@[simp] theorem vellumCount_ink (k : Nat) (s : State) : (vellumCount k s).ink = s.ink := by obtain ⟨_, e⟩ := vellumCount_eq k s; rw [e]
@[simp] theorem vellumCount_host (k : Nat) (s : State) : (vellumCount k s).host = s.host := by obtain ⟨_, e⟩ := vellumCount_eq k s; rw [e]
@[simp] theorem vellumCount_twin (k : Nat) (s : State) : (vellumCount k s).twin = s.twin := by obtain ⟨_, e⟩ := vellumCount_eq k s; rw [e]
@[simp] theorem vellumCount_hush (k : Nat) (s : State) : (vellumCount k s).hush = s.hush := by obtain ⟨_, e⟩ := vellumCount_eq k s; rw [e]
@[simp] theorem vellumCount_serif (k : Nat) (s : State) : (vellumCount k s).serif = s.serif := by obtain ⟨_, e⟩ := vellumCount_eq k s; rw [e]
@[simp] theorem vellumCount_quill (k : Nat) (s : State) : (vellumCount k s).quill = s.quill := by obtain ⟨_, e⟩ := vellumCount_eq k s; rw [e]
@[simp] theorem vellumCount_ms (k : Nat) (s : State) : (vellumCount k s).ms = s.ms := by obtain ⟨_, e⟩ := vellumCount_eq k s; rw [e]
@[simp] theorem vellumCount_rt (k : Nat) (s : State) : (vellumCount k s).rt = s.rt := by obtain ⟨_, e⟩ := vellumCount_eq k s; rw [e]
@[simp] theorem vellumCount_life (k : Nat) (s : State) : (vellumCount k s).life = s.life := by obtain ⟨_, e⟩ := vellumCount_eq k s; rw [e]
@[simp] theorem vellumCount_feed (k : Nat) (s : State) : (vellumCount k s).feed = s.feed := by obtain ⟨_, e⟩ := vellumCount_eq k s; rw [e]
@[simp] theorem vellumCount_dx (k : Nat) (s : State) : (vellumCount k s).dx = s.dx := by obtain ⟨_, e⟩ := vellumCount_eq k s; rw [e]
@[simp] theorem vellumCount_prog (k : Nat) (s : State) : (vellumCount k s).prog = s.prog := by obtain ⟨_, e⟩ := vellumCount_eq k s; rw [e]
@[simp] theorem vellumCount_lig (k : Nat) (s : State) : (vellumCount k s).lig = s.lig := by obtain ⟨_, e⟩ := vellumCount_eq k s; rw [e]
@[simp] theorem vellumCount_sheen (k : Nat) (s : State) : (vellumCount k s).sheen = s.sheen := by obtain ⟨_, e⟩ := vellumCount_eq k s; rw [e]
@[simp] theorem vellumCount_sl (k : Nat) (s : State) : (vellumCount k s).sl = s.sl := by obtain ⟨_, e⟩ := vellumCount_eq k s; rw [e]
@[simp] theorem vellumCount_cb (k : Nat) (s : State) : (vellumCount k s).cb = s.cb := by obtain ⟨_, e⟩ := vellumCount_eq k s; rw [e]
@[simp] theorem vellumCount_resume (k : Nat) (s : State) : (vellumCount k s).resume = s.resume := by obtain ⟨_, e⟩ := vellumCount_eq k s; rw [e]
@[simp] theorem vellumCount_entry (k : Nat) (s : State) : (vellumCount k s).entry = s.entry := by obtain ⟨_, e⟩ := vellumCount_eq k s; rw [e]

@[simp] theorem vellumLog_pending (kind what arg value : Nat) (s : State) : (vellumLog kind what arg value s).pending = s.pending := by obtain ⟨_, e⟩ := vellumLog_eq kind what arg value s; rw [e]
@[simp] theorem vellumLog_draws (kind what arg value : Nat) (s : State) : (vellumLog kind what arg value s).draws = s.draws := by obtain ⟨_, e⟩ := vellumLog_eq kind what arg value s; rw [e]
@[simp] theorem vellumLog_variant (kind what arg value : Nat) (s : State) : (vellumLog kind what arg value s).variant = s.variant := by obtain ⟨_, e⟩ := vellumLog_eq kind what arg value s; rw [e]
@[simp] theorem vellumLog_stem (kind what arg value : Nat) (s : State) : (vellumLog kind what arg value s).stem = s.stem := by obtain ⟨_, e⟩ := vellumLog_eq kind what arg value s; rw [e]
@[simp] theorem vellumLog_bl (kind what arg value : Nat) (s : State) : (vellumLog kind what arg value s).bl = s.bl := by obtain ⟨_, e⟩ := vellumLog_eq kind what arg value s; rw [e]
@[simp] theorem vellumLog_boot (kind what arg value : Nat) (s : State) : (vellumLog kind what arg value s).boot = s.boot := by obtain ⟨_, e⟩ := vellumLog_eq kind what arg value s; rw [e]
@[simp] theorem vellumLog_power (kind what arg value : Nat) (s : State) : (vellumLog kind what arg value s).power = s.power := by obtain ⟨_, e⟩ := vellumLog_eq kind what arg value s; rw [e]
@[simp] theorem vellumLog_ink (kind what arg value : Nat) (s : State) : (vellumLog kind what arg value s).ink = s.ink := by obtain ⟨_, e⟩ := vellumLog_eq kind what arg value s; rw [e]
@[simp] theorem vellumLog_host (kind what arg value : Nat) (s : State) : (vellumLog kind what arg value s).host = s.host := by obtain ⟨_, e⟩ := vellumLog_eq kind what arg value s; rw [e]
@[simp] theorem vellumLog_twin (kind what arg value : Nat) (s : State) : (vellumLog kind what arg value s).twin = s.twin := by obtain ⟨_, e⟩ := vellumLog_eq kind what arg value s; rw [e]
@[simp] theorem vellumLog_hush (kind what arg value : Nat) (s : State) : (vellumLog kind what arg value s).hush = s.hush := by obtain ⟨_, e⟩ := vellumLog_eq kind what arg value s; rw [e]
@[simp] theorem vellumLog_serif (kind what arg value : Nat) (s : State) : (vellumLog kind what arg value s).serif = s.serif := by obtain ⟨_, e⟩ := vellumLog_eq kind what arg value s; rw [e]
@[simp] theorem vellumLog_quill (kind what arg value : Nat) (s : State) : (vellumLog kind what arg value s).quill = s.quill := by obtain ⟨_, e⟩ := vellumLog_eq kind what arg value s; rw [e]
@[simp] theorem vellumLog_ms (kind what arg value : Nat) (s : State) : (vellumLog kind what arg value s).ms = s.ms := by obtain ⟨_, e⟩ := vellumLog_eq kind what arg value s; rw [e]
@[simp] theorem vellumLog_rt (kind what arg value : Nat) (s : State) : (vellumLog kind what arg value s).rt = s.rt := by obtain ⟨_, e⟩ := vellumLog_eq kind what arg value s; rw [e]
@[simp] theorem vellumLog_life (kind what arg value : Nat) (s : State) : (vellumLog kind what arg value s).life = s.life := by obtain ⟨_, e⟩ := vellumLog_eq kind what arg value s; rw [e]
@[simp] theorem vellumLog_feed (kind what arg value : Nat) (s : State) : (vellumLog kind what arg value s).feed = s.feed := by obtain ⟨_, e⟩ := vellumLog_eq kind what arg value s; rw [e]
@[simp] theorem vellumLog_dx (kind what arg value : Nat) (s : State) : (vellumLog kind what arg value s).dx = s.dx := by obtain ⟨_, e⟩ := vellumLog_eq kind what arg value s; rw [e]
@[simp] theorem vellumLog_prog (kind what arg value : Nat) (s : State) : (vellumLog kind what arg value s).prog = s.prog := by obtain ⟨_, e⟩ := vellumLog_eq kind what arg value s; rw [e]
@[simp] theorem vellumLog_lig (kind what arg value : Nat) (s : State) : (vellumLog kind what arg value s).lig = s.lig := by obtain ⟨_, e⟩ := vellumLog_eq kind what arg value s; rw [e]
@[simp] theorem vellumLog_sheen (kind what arg value : Nat) (s : State) : (vellumLog kind what arg value s).sheen = s.sheen := by obtain ⟨_, e⟩ := vellumLog_eq kind what arg value s; rw [e]
@[simp] theorem vellumLog_sl (kind what arg value : Nat) (s : State) : (vellumLog kind what arg value s).sl = s.sl := by obtain ⟨_, e⟩ := vellumLog_eq kind what arg value s; rw [e]
@[simp] theorem vellumLog_cb (kind what arg value : Nat) (s : State) : (vellumLog kind what arg value s).cb = s.cb := by obtain ⟨_, e⟩ := vellumLog_eq kind what arg value s; rw [e]
@[simp] theorem vellumLog_resume (kind what arg value : Nat) (s : State) : (vellumLog kind what arg value s).resume = s.resume := by obtain ⟨_, e⟩ := vellumLog_eq kind what arg value s; rw [e]
@[simp] theorem vellumLog_entry (kind what arg value : Nat) (s : State) : (vellumLog kind what arg value s).entry = s.entry := by obtain ⟨_, e⟩ := vellumLog_eq kind what arg value s; rw [e]

@[simp] theorem setStage_pending (g : Stage) (s : State) : (setStage g s).pending = s.pending := by obtain ⟨_, _, e⟩ := setStage_eq g s; rw [e]
@[simp] theorem setStage_draws (g : Stage) (s : State) : (setStage g s).draws = s.draws := by obtain ⟨_, _, e⟩ := setStage_eq g s; rw [e]
@[simp] theorem setStage_variant (g : Stage) (s : State) : (setStage g s).variant = s.variant := by obtain ⟨_, _, e⟩ := setStage_eq g s; rw [e]
@[simp] theorem setStage_stem (g : Stage) (s : State) : (setStage g s).stem = s.stem := by obtain ⟨_, _, e⟩ := setStage_eq g s; rw [e]
@[simp] theorem setStage_bl (g : Stage) (s : State) : (setStage g s).bl = s.bl := by obtain ⟨_, _, e⟩ := setStage_eq g s; rw [e]
@[simp] theorem setStage_power (g : Stage) (s : State) : (setStage g s).power = s.power := by obtain ⟨_, _, e⟩ := setStage_eq g s; rw [e]
@[simp] theorem setStage_ink (g : Stage) (s : State) : (setStage g s).ink = s.ink := by obtain ⟨_, _, e⟩ := setStage_eq g s; rw [e]
@[simp] theorem setStage_twin (g : Stage) (s : State) : (setStage g s).twin = s.twin := by obtain ⟨_, _, e⟩ := setStage_eq g s; rw [e]
@[simp] theorem setStage_hush (g : Stage) (s : State) : (setStage g s).hush = s.hush := by obtain ⟨_, _, e⟩ := setStage_eq g s; rw [e]
@[simp] theorem setStage_serif (g : Stage) (s : State) : (setStage g s).serif = s.serif := by obtain ⟨_, _, e⟩ := setStage_eq g s; rw [e]
@[simp] theorem setStage_quill (g : Stage) (s : State) : (setStage g s).quill = s.quill := by obtain ⟨_, _, e⟩ := setStage_eq g s; rw [e]
@[simp] theorem setStage_ms (g : Stage) (s : State) : (setStage g s).ms = s.ms := by obtain ⟨_, _, e⟩ := setStage_eq g s; rw [e]
@[simp] theorem setStage_rt (g : Stage) (s : State) : (setStage g s).rt = s.rt := by obtain ⟨_, _, e⟩ := setStage_eq g s; rw [e]
@[simp] theorem setStage_life (g : Stage) (s : State) : (setStage g s).life = s.life := by obtain ⟨_, _, e⟩ := setStage_eq g s; rw [e]
@[simp] theorem setStage_feed (g : Stage) (s : State) : (setStage g s).feed = s.feed := by obtain ⟨_, _, e⟩ := setStage_eq g s; rw [e]
@[simp] theorem setStage_dx (g : Stage) (s : State) : (setStage g s).dx = s.dx := by obtain ⟨_, _, e⟩ := setStage_eq g s; rw [e]
@[simp] theorem setStage_prog (g : Stage) (s : State) : (setStage g s).prog = s.prog := by obtain ⟨_, _, e⟩ := setStage_eq g s; rw [e]
@[simp] theorem setStage_lig (g : Stage) (s : State) : (setStage g s).lig = s.lig := by obtain ⟨_, _, e⟩ := setStage_eq g s; rw [e]
@[simp] theorem setStage_sheen (g : Stage) (s : State) : (setStage g s).sheen = s.sheen := by obtain ⟨_, _, e⟩ := setStage_eq g s; rw [e]
@[simp] theorem setStage_vl (g : Stage) (s : State) : (setStage g s).vl = s.vl := by obtain ⟨_, _, e⟩ := setStage_eq g s; rw [e]
@[simp] theorem setStage_sl (g : Stage) (s : State) : (setStage g s).sl = s.sl := by obtain ⟨_, _, e⟩ := setStage_eq g s; rw [e]
@[simp] theorem setStage_cb (g : Stage) (s : State) : (setStage g s).cb = s.cb := by obtain ⟨_, _, e⟩ := setStage_eq g s; rw [e]
@[simp] theorem setStage_resume (g : Stage) (s : State) : (setStage g s).resume = s.resume := by obtain ⟨_, _, e⟩ := setStage_eq g s; rw [e]
@[simp] theorem setStage_entry (g : Stage) (s : State) : (setStage g s).entry = s.entry := by obtain ⟨_, _, e⟩ := setStage_eq g s; rw [e]

end Machine
end Sys2Proof
end

