-- ==== Sys2Proof/Machine/Pins.lean ====
section
/-! DEFINITION. What stands at the pins that the engine drives: under POR_N, while the boot waits for XO_IN, under boundary scan and
internal scan, and in service (R101, R613, R614, R690, R728); and the configuration header that the PCIe function shows (R648). -/

namespace Sys2Proof.Machine

/-- The outputs are held as under POR_N: while POR_N is low, while the boot waits for XO_IN, and after internal scan (R101, R614,
R728). -/
def outputsHeld (s : State) : Bool := s.power.mode = .held || s.life.jtag = 2 || (s.power.mode = .booting && !s.stem.xoIn)

/-- Under POR_N and internal scan AON drives nothing either, and HUSH_OUT stands in its fault state, low (R101, R614, R690). -/
def aonHeld (s : State) : Bool := s.power.mode = .held || s.life.jtag = 2

/-- A pin while the outputs are held: HUSH_OUT in its fault state, or as AON drives it while the boot waits; XMI0_RESET_N and
XMI1_RESET_N low; every other one high-impedance (R101, R728). -/
def heldPin (s : State) : Pin → PinDrive
  | .hushOut => .level (!aonHeld s && s.hush.out)
  | .xmiResetN n => if hasXmi s.variant ∧ n < 2 then .level false else .highZ
  | .serClock _ | .serSdo _ | .hspiIrqN | .wakeN | .pulse _ | .gpio _ | .claimOut => .highZ

/-- An open-drain output: low while its signal is present, released otherwise. -/
def openDrain (low : Bool) : PinDrive := if low then .level false else .highZ

/-- A GPIO pin as its function drives it: GPIO_OUT, TEMP_ALERT_N, SHOW_IND, LOCK_IND, CLAIM_IND and FAULT_N; the inputs are not driven
(R673). -/
def gpioDrive (s : State) (n : Nat) : PinDrive :=
  match (gpioPin s n).func with
  | 1 => .level (bit s.host.out n)
  | 3 => openDrain s.host.tempAlert
  | 4 => .level (s.power.mode = .showing || s.power.mode = .degraded)
  | 5 => .level (s.bl.state = .locked)
  | 6 => .level (!isPartner s || s.twin.state = 1)
  | 7 => openDrain (decide (faultBits s / 2 ≠ 0))
  | _ => .highZ

/-- A pin as the engine drives it in service. An open-drain output is low or released. -/
def enginePin (s : State) : Pin → PinDrive
  | .hushOut => .level s.hush.out
  | .xmiResetN n => if hasXmi s.variant ∧ n < 2 then .data else .highZ
  | .serClock n => if serEn (serPort s n).cfg ∧ serMaster (serPort s n).cfg ∧ (serPort s n).state ≠ 0 then .data else .highZ
  | .serSdo n => if portDriving (serPort s n) ∧ (serPort s n).sdo.any Option.isSome then .data else .highZ
  | .hspiIrqN => openDrain (hspiIrqLow s)
  | .wakeN => openDrain s.power.wakePin
  | .pulse m => .level (blOut s m).level
  | .gpio n => gpioDrive s n
  | .claimOut => if hasTwin s.variant then .level s.twin.claimOut else .highZ

/-- What drives a pin: the boundary register while EXTEST, CLAMP or HIGHZ is loaded, what is held while the outputs are held, and the
engine otherwise (R101, R613, R614, R728). -/
def pinDrive (s : State) (p : Pin) : PinDrive :=
  if s.life.jtag = 1 then ((s.life.boundary.find? (fun e => e.1 = p)).map (·.2)).getD .highZ
  else if outputsHeld s then heldPin s p
  else enginePin s p

/-! ### The bit clocks of a Serif frame (R391, R393, R394, R396) -/

/-- The Stem cycles of one bit clock of a master port (R396). -/
def bclkCycles (mult : Nat) (c : SerCfg) : Nat := 32768 / (frameLen c * mult)

/-- SDO and a master's FSYNC change on BCLK's rising edge, and SDI and a slave's FSYNC are sampled on its falling one; with BCLK_POL 0 the
edges are the other way round (R393). -/
def launchesOnRise (c : SerCfg) : Bool := bit c.cfg0 2

/-- FSYNC in bit clock `i` of a frame: active for one bit clock, or for half of the frame; FS_POL makes it active low (R393). -/
def fsyncHigh (c : SerCfg) (i : Nat) : Bool :=
  (if bit c.cfg0 4 then decide (i % frameLen c < frameLen c / 2) else decide (i % frameLen c = 0)) != bit c.cfg0 3

/-- SDO in bit clock `i` of the frame sent last: a slot's sample MSB first and then zeros; outside every slot TX_HIZ decides; none is
high-impedance (R391, R394, R402). -/
def sdoBit (p : SerPort) (i : Nat) : Option Bool :=
  let c := p.cfg
  let j := (i + frameLen c - serOfs c) % frameLen c
  let b := j % serWidth c
  if p.sdo.isEmpty then none
  else if j / serWidth c < serSlots c then
    (p.sdo.getD (j / serWidth c) none).map (fun v => decide (b < serBits c) && (unsgn (serBits c) v).testBit (serBits c - 1 - b))
  else if serHiz c then none else some false

/-! ### The PCIe function -/

/-- The configuration header of the PCIe function (R648): the subsystem comes from the board record in force, which holds the defaults
when the flash holds no valid record. -/
def pciHeader (s : State) : PciHeader :=
  { vendor := 0x1E5A, device := partOf s.variant, revision := 0xB1, cls := 0x040100, subVendor := u16 (boardBytes s) 8,
    subsystem := u16 (boardBytes s) 10, intPin := 0 }

/-- The capabilities of the PCIe function; the Device Serial Number holds SERIAL (R650). -/
def pciCaps (s : State) : PciCaps :=
  { vectors := 72, tableAt := 0x8000, pbaAt := 0x9000, maxGen := 4, maxWidth := 4, payload := 256, readReq := 4096, aspmL1 := true,
    d3hot := true, pme := true, aer := true, serial := s.life.serial }

end Sys2Proof.Machine
end

