-- ==== Sys2Proof/WellFormed.lean ====
section
/-! DEFINITION. Well-formed commands: the operands lie in the ranges that the manual gives them. exec does not ask for it. -/

namespace Sys2Proof

/-- A client number: the Inkwells 0 to 63 (R170). -/
def Request.clientOk (r : Request) : Bool := r.client < 64

/-- A request slot's fields fit their widths, the slot holds the inline bytes that LENGTH counts (all 224 when it counts more),
and a session's frame the sheet bytes that SHEET_LEN counts (R179, R197). -/
def Request.wf (r : Request) : Bool :=
  r.clientOk && r.seq < 2 ^ 16 && r.flags < 2 ^ 16 && r.length < 2 ^ 16 && r.sheet < 2 ^ 16 && r.sheetLen < 2 ^ 16 &&
  r.rsv12 < 2 ^ 32 && r.applySsi < 2 ^ 64 && r.rsv24 < 2 ^ 64 && r.payload.length = min r.length 224 &&
  (r.netSheet.isEmpty || r.netSheet.length = r.sheetLen)

/-- The head of a waiting request fits its slot. -/
def Head.wf (h : Head) : Bool := h.opcode < 2 ^ 16 && h.seq < 2 ^ 16 && h.sheet < 2 ^ 16 && h.sheetLen < 2 ^ 16

/-- A write of one PCIe or HSPI transaction to BAR0, which is 16 MiB (R649): 4,096 bytes at most. -/
def wordAt (off n : Nat) : Bool := off < 2 ^ 24 && 0 < n && n ≤ 4096

/-- A write of one transaction to BAR2, which is 64 MiB (R649). -/
def sheetAt (off n : Nat) : Bool := off < 2 ^ 26 && 0 < n && n ≤ 4096

/-- An Inkwell number. -/
def wellNo (n : Nat) : Bool := n < 64

/-- The number of a channel, port, stream, Nib or Cartridge. -/
def index16 (n : Nat) : Bool := n < 2 ^ 16

/-- A Quill frame: the port is one of four, and the tags are 12-bit VIDs (R410, R415). -/
def Frame.wf (f : Frame) : Bool := f.port < 4 && f.tags.all (· < 4096) && f.ether < 2 ^ 16 && f.mac < 2 ^ 48 && f.src < 2 ^ 32 && f.dst < 2 ^ 32

/-- A stream packet: RTP's 16-bit sequence number and 32-bit timestamp (R424). -/
def MediaPacket.wf (p : MediaPacket) : Bool := p.port < 4 && p.seq < 2 ^ 16 && p.ts < 2 ^ 32 && p.pt < 128 && p.ver < 4

/-- A PTP message of one of a port (R416). -/
def PtpMsg.wf (m : PtpMsg) : Bool := m.port < 4 && m.kind < 4 && m.domain < 256

/-- An sACN packet (R330): the universe is a 16-bit number, and at most 512 slots follow the start code. -/
def SacnPacket.wf (p : SacnPacket) : Bool := p.port < 4 && p.univ < 2 ^ 16 && p.prio < 256 && p.seq < 256 && p.slots.length ≤ 512

/-- A Feed access (R528): at least one byte, below 2^40. -/
def FeedReq.wf (q : FeedReq) : Bool := 0 < q.len && q.addr + q.len ≤ 2 ^ 40 && (!q.write || q.data.length = q.len)

/-- A Feed atomic (R535): one of three kinds. -/
def FeedAtomic.wf (q : FeedAtomic) : Bool := q.kind < 3 && q.addr < 2 ^ 40 && q.a < 2 ^ 64 && q.b < 2 ^ 64

/-- A well-formed command, case by case. -/
def Instr.wf : Instr → Bool
  | .sysIdentityGet r | .sysCapsGet r | .sysRoleSet r | .sysGrantGet r | .sysGrantSet r | .sysClockGet r | .sysRateSet r |
    .sysSsiRealign r | .sysBootInfo r | .sysRestart r | .sysFwWrite r | .sysFwSelect r | .sysFwCommit r | .sysResumeSet r |
    .sysResumeSave r | .sysInkGet r | .sysInkClose r | .sysSubscribe r | .sysWarnGet r | .sysArmedGet r | .sysArmedCancel r |
    .sysMemStatusGet r | .sysCartStatusGet r | .lcStatusGet r | .lcNonceGet r | .lcProvision r | .lcDeploy r | .lcReturn r |
    .lcDebugUnlock r | .lcAttest r | .sysBoardGet r | .sysBoardSet r | .sysGpioConfig r | .sysGpioGet r | .sysGpioSet r | .sysLtcConfig r |
    .sysLtcStatusGet r | .sysLinkGet r | .blStatusGet r | .blRefConfig r | .blSelect r | .blSteer r | .blPhaseStep r | .blOutConfig r |
    .blPolicySet r | .blRefClear r | .modeGet r | .modeSet r | .modeWakeConfig r | .netPortConfig r | .netPortStatusGet r |
    .netPtpConfig r | .netPtpStatusGet r | .netQuillConfig r | .netRxSet r | .netRxGet r | .netTxSet r | .netTxGet r | .netStatusGet r |
    .netNmosConfig r | .serConfig r | .serConfigGet r | .serStatusGet r | .serCountersGet r | .ligRouteSet r | .ligRouteGet r |
    .ligSinkConfig r | .ligGainSet r | .ligFallback r | .ligPatchSet r | .ligStatusGet r | .instCreate r | .instDelete r | .instSet r |
    .instGet r | .instList r | .instRename r | .progList r | .instCoefSet r | .instCoefGet r | .dxLoadGet r | .dxNibGet r | .dxConfig r |
    .sceneStore r | .sceneRecall r | .sceneDelete r | .sceneList r | .sceneExport r | .sceneImport r | .sceneSafeSet r | .sceneSafeGet r |
    .cueConfig r | .cueMapSet r | .cueMapGet r | .cueStatusGet r | .folioMap r | .folioRead r | .folioWrite r | .sheenConfig r |
    .sheenLoudReset r | .sheenSetDefine r | .sheenSetDelete r | .sheenSetRead r | .sheenStatusGet r | .sheenConfigGet r |
    .hushStatusGet r | .hushClear r | .hushConfig r | .hushConfigGet r | .twinStatusGet r | .twinConfig r | .twinPromote r |
    .twinResync r | .twinDissolve r | .msStatusGet r | .msConfig r | .msRosterSet r | .msJoin r | .msLeave r | .msFlourish r |
    .msXbusSet r | .msMembersGet r | .sealRun r | .sealStatusGet r | .sealDigestGet r | .sealRegionRun r | .rtStatusGet r | .rtConfig r |
    .rtNibTest r | .rtMigrate r | .rtShedSet r | .rtShedGet r | .rtRepairGet r | .btStatusGet r | .rtRowRetire r | .btInject r |
    .cbList r | .cbRun r | .cbAbort r | .cbResultGet r | .vlStatusGet r | .vlRead r | .vlExport r | .vlSave r | .expRegRead r |
    .expRegWrite r => r.wf
  | .registerWrite _ off data => wordAt off data.length
  | .inkCtrlOpen _ n => wellNo n
  | .inkCtrlClose _ n => wellNo n
  | .inkCtrlResync _ n => wellNo n
  | .doorbell _ n v heads => wellNo n && heads.all Head.wf && v < 2 ^ 16
  | .repConsWrite _ n v => wellNo n && v < 2 ^ 16
  | .evtConsWrite _ n v => wellNo n && v < 2 ^ 16
  | .sheetFree _ n h => index16 n && h < 2048
  | .lgArmHiWrite n _ => index16 n
  | .lgSinkCfgWrite n _ => index16 n
  | .lgGainWrite n _ => index16 n
  | .lgShadeWrite n _ => index16 n
  | .srCtrlApply n => index16 n
  | .snSrcPeakRead n => index16 n
  | .snSnkPeakRead n => index16 n
  | .slBytesLoRead c => c < 4
  | .slCtrlGo c => c < 4
  | .slCtrlAbort c => c < 4
  | .hspiWrite addr data => addr < 2 ^ 32 && data.length ≤ 4096
  | .hspiRead addr n _ => addr < 2 ^ 32 && n ≤ 4096
  | .i2cWrite ptr _ => ptr < 256
  | .i2cRead ptr _ => ptr < 256
  | .pcieLinkTrained gen lanes => gen ≤ 4 && lanes ≤ 4
  | .aonTick _ _ pins => pins < 2 ^ 16
  | .lateRecallApply client seq => client < 256 && seq < 2 ^ 16
  | .backupFallback n => index16 n
  | .backupReturn n => index16 n
  | .repeatLimitExpiry n => index16 n
  | .candidateQualified n _ _ => index16 n
  | .refDisqual n _ => index16 n
  | .barExpiry n => index16 n
  | .refPulseEdge n _ _ _ => index16 n
  | .sessionKeepalive n => wellNo n
  | .sessionClose n => wellNo n
  | .sessionRequestFrame n _ _ h => wellNo n && h.wf
  | .sessionBadFrame n => wellNo n
  | .sessionReplySent n => wellNo n
  | .sessionDrop n _ => wellNo n
  | .sessionExpire n => wellNo n
  | .frameRx f => f.wf
  | .ptpMessageRx m => m.wf
  | .ptpSyncTx n => n < 4
  | .mediaPacketRx p => p.wf
  | .legDown n leg => index16 n && leg < 2
  | .netLink n _ => n < 4
  | .offsetError n => index16 n
  | .txPacketSend n => index16 n
  | .arpRetry n _ => index16 n
  | .sacnPacketRx p => p.wf
  | .oscMessageRx _ port _ => port < 65536
  | .timecodeTrigger n _ => index16 n
  | .serifFrameReference n => index16 n
  | .serifFrameRx n _ _ => index16 n
  | .rateMeasurement n _ => index16 n
  | .noClock n => index16 n
  | .frameError n => index16 n
  | .portRunning n => index16 n
  | .blotterDispatchDone n _ => index16 n
  | .dispatchTimeout n => index16 n
  | .migrationCopy n => index16 n
  | .migrationSwap n _ => index16 n
  | .nibReadmit n => index16 n
  | .coverage n => index16 n
  | .feedAccess q => q.wf
  | .feedAtomic q => q.wf
  | .cartridgeWrite n _ => index16 n
  | .cartridgeRead n _ _ => index16 n
  | .sealJobDone c _ => c < 4
  | .avsStep _ mv => mv < 2 ^ 16
  | .avsRetry _ mv => mv < 2 ^ 16
  | .gpioEdge pin _ => pin < 16
  | .unknownOpcodeRequest op r => r.wf && op < 2 ^ 16
  | .bar2Write _ off data => sheetAt off data.length
  | .announceReceiptTimeout n => index16 n
  | .nibUncorrectableError n kind _ _ => index16 n && kind < 3
  | .commandCompletes client seq => client < 256 && seq < 2 ^ 16
  | .clkCtrlApply | .clkCtrlRealign | .bootCtrlGo _ | .resetCauseWrite _ _ | .sheetAlloc _ | .blSelectWrite _ | .blStepWrite _ |
    .blSteerWrite _ | .pwModeReq _ | .pwWakeAtHiWrite _ | .dxCtrlWrite _ | .qlApply _ | .snBall0Write _ | .snBall1Write _ | .ssiLoRead |
    .dxArmedSsiLoRead | .hsLastSsiLoRead | .snEpochSsiLoRead | .fdLastAddrLoRead | .slDigestSsiLoRead | .vlAonLoRead | .wakeCauseRead _ |
    .cbCtrlGo | .cbCtrlAbort | .cbFifoRead | .hspiWriteCommit | .hspiStatus | .hspiUnknownCommand | .bmcCtrlWrite _ | .msixEnable _ _ |
    .porNAssert | .porNRelease _ | .pwrFailAssert | .pwrFailDeassert | .xoLoss | .xoReturn | .perstAssert | .pcieLinkDrop | .d3hotToD0 |
    .jtagTrst | .jtagBoundaryInstruction _ | .jtagInternalScan | .hushChannelDebounced _ _ | .hushFault | .hushRelease | .hushOutToggle |
    .pwrFailNFilter | .stemLock | .stemRelock | .sampleTick | .periodBoundary _ | .classACompletion _ | .ductusWdt | .timedActionApply |
    .readinessDeadline _ _ | .routeCrossfadeEnd | .stageCrossfadeEnd | .reportIntervalClose | .sheenRecordWritten | .refRevert | .lock _ |
    .hoValidSet | .holdoverExpired | .holdoverNvsWrite | .firstLock _ _ | .alignmentComplete | .slewComplete | .steerRampDone |
    .bootSourceRead _ | .hostFirstWaitExpiry | .bootWatchdog | .fwRunningSignal | .inkwellsServeBasic | .ready | .zeroisation |
    .scribeWatchdog | .lockstepMismatch | .scribeRestartDone | .standbyEntryComplete | .wakeInkwellsReady | .wakeComplete _ |
    .deferredStandby | .wakeAtReached | .autosave | .tlsConnect _ | .sessionOpen _ | .sessionResume _ _ _ | .is05Activation _ _ _ _ |
    .is04Heartbeat | .sacnSourceLost _ _ | .ltcFrameDecoded _ _ | .ltcInLost | .ltcOutFrame _ | .twinHelloRx _ _ _ | .twinStatusRx _ |
    .twinJournalRx _ | .twinJAckRx _ _ | .journalResend | .giveupCause _ _ | .twinGiveupRx _ _ _ | .twinHandoverRx _ _ _ | .handoverPoint |
    .handoverEnd | .twinCheckRx _ _ _ | .mismatchCheckDone _ | .twinSnapRx _ _ _ _ _ _ | .twinLinkDown | .silentDeath | .formWaitExpiry |
    .pairingRetry | .giveupCauseCleared | .msPeerConnect _ _ _ _ | .msHelloRx _ | .msViewRx _ _ _ _ | .msPrepareRx _ _ |
    .msVoteRx _ _ _ _ _ _ | .msCommitRx _ _ _ | .msAbortRx _ _ _ _ | .msAckRx _ _ _ _ _ | .msHeartbeatRx _ | .msHeartbeatTimer |
    .msMemberGone _ | .msVoteDeadline _ | .msCommitResend _ | .msRejoin | .watchListExpiry | .repairTableWrite | .sealDigestReady |
    .copybookDone _ | .vellumPeriodicWrite | .vellumWriteDone _ | .d3hotEntry | .pmeEnWrite _ | .l1Entry | .tempAlert _ | .aonOrderResend => true

end Sys2Proof
end

