-- ==== Sys2Proof/Tests/Slice0.lean ====
section
/-! SUPPORT. The tests: the well-formedness checks, the worked examples of the manual, and for every clause of a statement a state and operands
that meet its hypotheses. Expected results come from the manual; a witness only shows that a statement says something. -/

set_option Elab.async false
set_option linter.unusedVariables false

open Sys2Proof Sys2Proof.Machine

namespace Sys2Proof.Tests

/-! ### States for the tests -/

/-- An engine in COMMISSION, READY, with its PCIe link up and Inkwell 0 bound to PCIe with ADMIN. -/
def up : State :=
  let s := State.reset
  setWell 0 { bind := .pcie, role := 5 }
    { s with boot := { s.boot with stage := .ready, inkBasic := true, netUp := true },
             power := { s.power with mode := .commission },
             stem := { s.stem with xoIn := true, xoOk := true, stemLock := true, aligned := true, ssi := 48000, ms := 10000 },
             hush := { s.hush with asserted := false, fault := false },
             host := { s.host with hspiUp := true, gpio := [(0, { func := 2 })],
                                   pcie := { s.host.pcie with trained := true, linkL0 := true } } }
/-- The engine `up` in another operating mode. -/
def inMode (m : Mode) : State := { up with power := { up.power with mode := m } }
/-- The engine in SHOW. -/
def onAir : State := inMode .showing
/-- The engine in MAINTENANCE. -/
def maint : State := inMode .maintenance
/-- The engine held in reset. -/
def held : State := { State.reset with power := { State.reset.power with mode := .held } }
/-- The boot ROM runs. -/
def rom : State :=
  { State.reset with power := { State.reset.power with mode := .booting }, boot := { State.reset.boot with stage := .rom },
                     stem := { State.reset.stem with xoIn := true, ms := 100 } }
/-- The engine wakes from STANDBY. -/
def waking : State := { inMode .standby with power := { (inMode .standby).power with waking := true }, boot := { up.boot with stage := .waking, inkBasic := false } }
/-- `k` milliseconds later. -/
def later (k : Nat) (s : State) : State := { s with stem := { s.stem with ms := s.stem.ms + k } }
/-- A state or operand for the tests: `avsUp`. -/
def avsUp (mv : Nat) : State :=
  { up with host := { up.host with board := zeros 6 ++ [1, 0] ++ zeros 80, avs := { up.host.avs with setMv := mv } } }
/-- A state or operand for the tests: `slow`. -/
def slow : State := avsUp 750
/-- A state or operand for the tests: `fast`. -/
def fast : State := avsUp 850
/-- A session is open on Inkwell 8. -/
def sess : State := modWell 8 (fun w => { w with bind := .net, role := 3, connected := true }) up
/-- A state or operand for the tests: `cand`. -/
def cand : State :=
  let s := { up with bl := { up.bl with refs := [(4, { prio := 1, qualT := 5 })] } }
  s
/-- A state or operand for the tests: `qual4`. -/
def qual4 : State := modRef 4 (fun r => { r with qual := true }) cand
/-- A state or operand for the tests: `revert`. -/
def revert : State :=
  { modRef 4 (fun r => { r with qual := true, qualMs := 0 }) cand with
    bl := { (modRef 4 (fun r => { r with qual := true, qualMs := 0 }) cand).bl with
      refs := [(4, { prio := 1, qualT := 5 }), (5, { prio := 9, qualT := 5 })], sel := 5, state := .locked, selmode := 0,
      policy := { up.bl.policy with revert := 1, wtr := 0 } } }
/-- A state or operand for the tests: `jam`. -/
def jam (s : State) : State := { s with stem := { s.stem with jamArmed := true }, bl := { s.bl with sel := 0, state := .locked } }
/-- A state or operand for the tests: `masterCfg`. -/
def masterCfg : SerCfg := { cfg0 := 0x003 + 0x300, cfg1 := 0x1000 + 0x100000 }
/-- A state or operand for the tests: `slaveCfg`. -/
def slaveCfg : SerCfg := { cfg0 := 0x001 + 0x300, cfg1 := 0x1000 + 0x100000 }
/-- A state or operand for the tests: `badCfg`. -/
def badCfg : SerCfg := { cfg0 := 0x700 }
/-- A state or operand for the tests: `sharedPort`. -/
def sharedPort : SerPort := { state := 2, cfg := { cfg0 := 0x61 + 0x300, cfg1 := 0x1000 + 0x100000 } }
/-- A state or operand for the tests: `fullPort`. -/
def fullPort : SerPort := { state := 1, cfg := slaveCfg, measured := true, rxBuf := [[], []], txBuf := [[], []] }
/-- A state or operand for the tests: `fellBack`. -/
def fellBack : State :=
  modSink 600 (fun k => { k with live := 0x2000 + 2999 + 3000 * 32768, want := true })
    { up with lig := { up.lig with now := [(3000, { tag := 0 })] } }
/-- A state or operand for the tests: `goneBack`. -/
def goneBack : State :=
  modSink 600 (fun k => { k with live := 0x2000 + 2999 + 3000 * 32768, sel := 1, good := 1000000000 })
    { up with lig := { up.lig with now := [(2999, { tag := 0 })] } }
/-- A state or operand for the tests: `linked`. -/
def linked : State := modNet 0 (fun q => { q with link := true }) up
/-- A state or operand for the tests: `ptp`. -/
def ptp : State := modPtp 0 (fun q => { q with state := 2, cfg := { q.cfg with role := 1 } }) linked
/-- A state or operand for the tests: `heardEntry`. -/
def heardEntry : Bytes := [0, 0, 1, 0] ++ zeros 60
/-- A state or operand for the tests: `hearing`. -/
def hearing : State := modRx 0 (fun q => { q with entry := heardEntry }) linked
/-- A state or operand for the tests: `packet`. -/
def packet : MediaPacket := { stream := 0, port := 0, dst := 0, udp := 0, pt := 97, seq := 0, ts := 0 }
/-- A state or operand for the tests: `sender`. -/
def sender : State :=
  { modTx 0 (fun q => { q with entry := [0, 0, 1, 0] ++ zeros 60, due := some (0, []) }) linked with
    bl := { linked.bl with state := .locked } }
/-- A state or operand for the tests: `nmos`. -/
def nmos : State := { up with quill := { up.quill with nmos := { up.quill.nmos with en := true } } }
/-- A state or operand for the tests: `cueState`. -/
def cueState : State :=
  { up with prog := { up.prog with cue := { up.prog.cue with cfg := { up.prog.cue.cfg with sacnPorts := 1 }, map := [(0, { source := 1, univ := 1, slot := 1 })] } } }
/-- A state or operand for the tests: `ltcOn`. -/
def ltcOn : State := { up with bl := { up.bl with outs := [(3, { en := true, always := true })] } }
/-- A state or operand for the tests: `tcState`. -/
def tcState : State :=
  let c : CueEntry := { source := 3, action := 0, scene := 1, tc := 0 }
  let now := sinceMidnight up 0
  let s := { up with stem := { up.stem with ssi := up.stem.ssi + (86400 * fsOp up - now) - frameStart up 1 2 } }
  { s with prog := { s.prog with cue := { s.prog.cue with cfg := { s.prog.cue.cfg with tcSource := 2, tcRate := 1, tzOfs := 0 }, map := [(1, c)] } } }
/-- A state or operand for the tests: `head`. -/
def head : TwinHead := { pair := 9 }
/-- A state or operand for the tests: `twinUp`. -/
def twinUp : State :=
  { up with twin := { up.twin with cfg := { up.twin.cfg with en := true, pair := 9 }, partner := true, state := 2, linkUp := true, helloOk := true } }
/-- A state or operand for the tests: `inHand`. -/
def inHand : Handover := { point := 40000, newClaim := 3, cmd := none, incoming := true }
/-- A state or operand for the tests: `roster`. -/
def roster : State :=
  { up with ms := { up.ms with cfg := { up.ms.cfg with msId := 9, memberId := 1 }, state := 1, roster := [(0, (2, 77))] } }
/-- A state or operand for the tests: `memberState`. -/
def memberState : State :=
  { up with ms := { up.ms with cfg := { up.ms.cfg with msId := 9, memberId := 1 }, state := 2, member := true, members := [1, 2],
                               peers := [{ member := 2, hello := true }], roster := [(0, (1, 66)), (1, (2, 77))] } }
/-- A state or operand for the tests: `fl`. -/
def fl (o : Nat) : Flourish := { origin := o, number := 7, view := 0, scene := 1, flags := 0, scope := 0, apply := 96000, from_ := if o = 1 then none else some o }
/-- A state or operand for the tests: `withFl`. -/
def withFl (f : Flourish) : State := { memberState with ms := { memberState.ms with flourishes := [f] } }
/-- A state or operand for the tests: `grid`. -/
def grid : State := up
/-- A state or operand for the tests: `armedNow`. -/
def armedNow : Armed := { client := 0, seq := 3, opcode := 0x0604, applySsi := 48000 }
/-- A state or operand for the tests: `recallNow`. -/
def recallNow : Armed := { client := 0, seq := 3, opcode := 0x0802, applySsi := 48000, late := true }
/-- A state or operand for the tests: `runNow`. -/
def runNow : Running := { client := 0, seq := 5, opcode := 0x0101, result := some { opcode := 0x0101, seq := 5, status := .ok } }
/-- A state or operand for the tests: `rset`. -/
def rset : ReportSet := { owner := 0, interval := 100, luRel := false, items := [] }
/-- A state or operand for the tests: `closing1`. -/
def closing1 : Closing := { set_ := 1, start := 0, stop := 8, part := false, epoch := 0, fill := false, span := false, luRel := false, items := [] }
/-- A state or operand for the tests: `job`. -/
def job : SealJob := { client := 0, seq := 5, obj := 0, index := 0, alg := 0, flags := 0, seed := 0, chan := 1 }
/-- A state or operand for the tests: `mig`. -/
def mig : Migration := { src := 3, dst := 5, mode := 0, cause := 0, q := 5 }
/-- A state or operand for the tests: `noXo`. -/
def noXo : State := { up with stem := { up.stem with xoIn := false } }
/-- A receive entry with EN clear whose fields are all in range, and a transmit entry of the kind. -/
def rxEntry : Bytes := zeros 8 ++ [1, 97] ++ le 2 96 ++ zeros 52
/-- A state or operand for the tests: `txEntry`. -/
def txEntry : Bytes := zeros 8 ++ [1, 97, 16, 0] ++ zeros 52
/-- A state or operand for the tests: `badSdp`. -/
def badSdp : Sdp :=
  { legs := [{ dst := 0, udp := 5004, pt := 97, enc := 0, rate := 1, channels := 1, ptime := 1000, refClk := .localMac 0, mediaClk := none }], dup := false }
/-- A request of client 0 with sequence number 7. -/
def rq (p : Bytes) : Request := { client := 0, seq := 7, length := p.length, payload := p }
/-- The same with the EXPERT flag. -/
def rx (p : Bytes) : Request := { rq p with flags := 2 }
/-- Client 0 holds sheet 5 with these bytes. -/
def withSheet (b : Bytes) (s : State) : State := writeSheet 5 b (setHolder 5 (.client 0) s)
/-- The same with a sheet. -/
def rqs (p b : Bytes) : Request := { client := 0, seq := 7, length := p.length, payload := p, sheet := 5, sheetLen := b.length }
/-- A state or operand for the tests: `withInst`. -/
def withInst (k : Nat) (i : Inst) : State := { up with prog := { up.prog with insts := [(k, i)] } }
/-- A state or operand for the tests: `strip`. -/
def strip : State := withInst 0 { prog := 1, lane := 0 }
/-- A state or operand for the tests: `eqStrip`. -/
def eqStrip : State := withInst 0 { prog := 1, lane := 0, params := [(0x0200, 1), (0x0210, 1)] }
/-- A state or operand for the tests: `bus`. -/
def bus : State := withInst (instKey 1 0) { prog := 3, lane := 0 }
/-- A state or operand for the tests: `withScene`. -/
def withScene : State := { up with prog := { up.prog with scenes := [(1, {})] } }
/-- A state or operand for the tests: `withSet`. -/
def withSet : State := { up with sheen := { up.sheen with sets := [(0, rset)] } }
/-- A state or operand for the tests: `atState`. -/
def atState (l : Nat) : State := { up with life := { up.life with state := l } }
/-- A state or operand for the tests: `airTwin`. -/
def airTwin (k : Nat) : State := { onAir with twin := { twinUp.twin with state := k, heard := true, pState := if k = 1 then 2 else 1, claim := 1 } }
/-- A state or operand for the tests: `gen256`. -/
def gen256 : Bytes := le 32 0x6B17D1F2E12C4247F8BCE6E563A440F277037D812DEB33A0F4A13945D898C296 ++ le 32 0x4FE342E2FE1A7F9B8EE7EB4A7C0F9E162BCE33576B315ECECBB6406837BF51F5
/-- A state or operand for the tests: `boardSheet`. -/
def boardSheet : Bytes := le 4 0x42524443 ++ le 2 1 ++ zeros 6 ++ [4, 4, 0x20, 100] ++ zeros 236
/-- A state or operand for the tests: `hushSheet`. -/
def hushSheet : Bytes := le 4 0x48555348 ++ le 2 1 ++ [0, 0] ++ le 2 20 ++ le 2 50 ++ [10] ++ zeros 1299
/-- A state or operand for the tests: `unlockState`. -/
def unlockState : State :=
  { atState 1 with life := { (atState 1).life with ownerHash := some (sha256 gen256), nonces := [(zeros 16, 10000)] } }
/-- A state or operand for the tests: `unlockToken`. -/
def unlockToken : Bytes := zeros 16 ++ gen256 ++ le 32 0x7CF27B188D034F7E8A52380304B51AC3C08969E277F21B35A60B48FC47669978 ++ le 32 0x162EF782C799530AD06906A65331DB54A31713D120F41AFDB71F62923089046A
/-- A state or operand for the tests: `noSheets`. -/
def noSheets : State := { sess with ink := { sess.ink with holders := (List.range 2048).map (fun h => (h, Holder.client 1)) } }
/-- A state or operand for the tests: `fullRing`. -/
def fullRing : State := modWell 0 (fun w => { w with replies := List.replicate 16 { opcode := 0x0101, seq := 1, status := .ok }, repProd := 16, reqProd := 16, reqCons := 16 }) up
/-- A state or operand for the tests: `otherTurn`. -/
def otherTurn : State := modWell 2 (fun w => { w with bind := .pcie, waiting := [{ opcode := 0x0101, seq := 1 }] }) { up with ink := { up.ink with visitFirst := 2, visitAt := 2 } }
/-- A state or operand for the tests: `noSheetReq`. -/
def noSheetReq : Request := { client := 8, seq := 7, sheetLen := 4, netSheet := zeros 4 }
/-- A state or operand for the tests: `resentState`. -/
def resentState (q : Option Reply) : State :=
  modWell 0 (fun w => { w with fresh := false, lastSeq := 7, cache := [{ seq := 7, crc := requestCheck 0x0101 (rq []) up, reply := q }] }) up
/-- A state or operand for the tests: `joinState`. -/
def joinState : State := { up with ms := { up.ms with cfg := { up.ms.cfg with msId := 9, memberId := 1 } } }
/-- A state or operand for the tests: `flourishState`. -/
def flourishState : State :=
  { memberState with prog := { memberState.prog with scenes := [(1, {})] }, bl := { memberState.bl with state := .locked }, power := onAir.power }

/-! ### Well-formedness: an ill-formed term for each check -/

/-- Every field of a request is checked. -/
theorem test_wf_request :
    Instr.wf (.sysIdentityGet (rq [])) = true ∧ Instr.wf (.sysIdentityGet { rq [] with client := 64 }) = false ∧ Instr.wf (.blSelect { rq [] with seq := 2 ^ 16 }) = false ∧
    Instr.wf (.modeSet { rq [] with flags := 2 ^ 16 }) = false ∧ Instr.wf (.netRxSet { rq [] with length := 2 ^ 16, payload := zeros 224 }) = false ∧
    Instr.wf (.ligRouteSet { rq [] with sheet := 2 ^ 16 }) = false ∧ Instr.wf (.sceneStore { rq [] with sheetLen := 2 ^ 16 }) = false ∧
    Instr.wf (.msJoin { rq [] with rsv12 := 2 ^ 32 }) = false ∧ Instr.wf (.sealRun { rq [] with applySsi := 2 ^ 64 }) = false ∧
    Instr.wf (.cbRun { rq [] with rsv24 := 2 ^ 64 }) = false ∧ Instr.wf (.vlRead { rq [] with length := 1 }) = false ∧
    Instr.wf (.vlSave { rq [] with netSheet := [0] }) = false := by decide +kernel

/-- The number of an unknown opcode has 16 bits. -/
theorem test_wf_unknown_opcode : Instr.wf (.unknownOpcodeRequest 0x10000 (rq [])) = false ∧ Instr.wf (.unknownOpcodeRequest 0x0103 (rq [])) = true := by decide +kernel

/-- The accesses of the host registers are checked. -/
theorem test_wf_host_accesses :
    Instr.wf (.registerWrite .pcie (2 ^ 24) [0]) = false ∧ Instr.wf (.registerWrite .pcie 0 []) = false ∧ Instr.wf (.bar2Write .pcie (2 ^ 26) [0]) = false ∧
    Instr.wf (.inkCtrlOpen .pcie 64) = false ∧ Instr.wf (.inkCtrlClose .pcie 64) = false ∧ Instr.wf (.inkCtrlResync .pcie 64) = false ∧
    Instr.wf (.doorbell .pcie 64 0 []) = false ∧ Instr.wf (.doorbell .pcie 0 65536 []) = false ∧ Instr.wf (.doorbell .pcie 0 1 [{ opcode := 65536 }]) = false ∧
    Instr.wf (.repConsWrite .pcie 64 0) = false ∧ Instr.wf (.repConsWrite .pcie 0 65536) = false ∧ Instr.wf (.evtConsWrite .pcie 64 0) = false ∧
    Instr.wf (.evtConsWrite .pcie 0 65536) = false ∧ Instr.wf (.sheetFree .pcie 0 2048) = false ∧ Instr.wf (.sheetFree .pcie 65536 0) = false := by decide +kernel

/-- The transfers of HSPI and I2C are checked. -/
theorem test_wf_board_transfers :
    Instr.wf (.hspiWrite (2 ^ 32) []) = false ∧ Instr.wf (.hspiRead (2 ^ 32) 4 true) = false ∧ Instr.wf (.hspiRead 0 4097 true) = false ∧
    Instr.wf (.i2cWrite 256 []) = false ∧ Instr.wf (.i2cRead 256 1) = false ∧ Instr.wf (.gpioEdge 16 true) = false ∧
    Instr.wf (.avsStep true 65536) = false ∧ Instr.wf (.avsRetry true 65536) = false ∧ Instr.wf (.pcieLinkTrained 5 4) = false ∧ Instr.wf (.pcieLinkTrained 4 5) = false := by decide +kernel

/-- The numbers of sinks, ports, sources, channels and Nibs have 16 bits; a Seal channel is one of four. -/
theorem test_wf_indexes :
    Instr.wf (.lgArmHiWrite 65536 0) = false ∧ Instr.wf (.lgSinkCfgWrite 65536 0) = false ∧ Instr.wf (.lgGainWrite 65536 0) = false ∧ Instr.wf (.lgShadeWrite 65536 0) = false ∧
    Instr.wf (.srCtrlApply 65536) = false ∧ Instr.wf (.snSrcPeakRead 65536) = false ∧ Instr.wf (.snSnkPeakRead 65536) = false ∧ Instr.wf (.slBytesLoRead 4) = false ∧
    Instr.wf (.slCtrlGo 4) = false ∧ Instr.wf (.slCtrlAbort 4) = false ∧ Instr.wf (.sealJobDone 4 none) = false ∧ Instr.wf (.backupFallback 65536) = false ∧
    Instr.wf (.backupReturn 65536) = false ∧ Instr.wf (.repeatLimitExpiry 65536) = false ∧ Instr.wf (.candidateQualified 65536 0 0) = false ∧ Instr.wf (.refDisqual 65536 0) = false ∧
    Instr.wf (.barExpiry 65536) = false ∧ Instr.wf (.refPulseEdge 65536 0 0 0) = false ∧ Instr.wf (.offsetError 65536) = false ∧ Instr.wf (.txPacketSend 65536) = false ∧
    Instr.wf (.arpRetry 65536 none) = false ∧ Instr.wf (.timecodeTrigger 65536 0) = false ∧ Instr.wf (.serifFrameReference 65536) = false ∧
    Instr.wf (.rateMeasurement 65536 0) = false ∧ Instr.wf (.noClock 65536) = false ∧ Instr.wf (.frameError 65536) = false ∧ Instr.wf (.portRunning 65536) = false ∧
    Instr.wf (.blotterDispatchDone 65536 true) = false ∧ Instr.wf (.dispatchTimeout 65536) = false ∧ Instr.wf (.migrationCopy 65536) = false ∧
    Instr.wf (.nibReadmit 65536) = false ∧ Instr.wf (.coverage 65536) = false ∧ Instr.wf (.cartridgeRead 65536 true true) = false ∧ Instr.wf (.announceReceiptTimeout 65536) = false := by decide +kernel

/-- The Inkwells of sessions and the numbers of the requests in execution are checked. -/
theorem test_wf_sessions :
    Instr.wf (.sessionKeepalive 64) = false ∧ Instr.wf (.sessionClose 64) = false ∧ Instr.wf (.sessionRequestFrame 64 32 0 {}) = false ∧
    Instr.wf (.sessionRequestFrame 8 32 0 { seq := 65536 }) = false ∧ Instr.wf (.sessionBadFrame 64) = false ∧ Instr.wf (.sessionReplySent 64) = false ∧
    Instr.wf (.sessionDrop 64 true) = false ∧ Instr.wf (.sessionExpire 64) = false ∧ Instr.wf (.lateRecallApply 256 0) = false ∧ Instr.wf (.lateRecallApply 0 65536) = false ∧
    Instr.wf (.commandCompletes 256 0) = false ∧ Instr.wf (.commandCompletes 0 65536) = false := by decide +kernel

/-- The frames, packets and messages of the network are checked. -/
theorem test_wf_network :
    Instr.wf (.ptpSyncTx 4) = false ∧ Instr.wf (.netLink 4 true) = false ∧ Instr.wf (.legDown 0 2) = false ∧ Instr.wf (.legDown 65536 0) = false ∧ Instr.wf (.oscMessageRx 0 65536 []) = false ∧
    Instr.wf (.mediaPacketRx { packet with port := 4 }) = false ∧ Instr.wf (.mediaPacketRx { packet with seq := 65536 }) = false ∧
    Instr.wf (.sacnPacketRx { port := 4, univ := 1, cid := 5, seq := 0 }) = false ∧ Instr.wf (.sacnPacketRx { port := 0, univ := 65536, cid := 5, seq := 0 }) = false := by decide +kernel

/-- The accesses of Feed are checked. -/
theorem test_wf_feed :
    Instr.wf (.feedAccess { master := 0, write := false, addr := 0, len := 0 }) = false ∧ Instr.wf (.feedAccess { master := 0, write := true, addr := 0, len := 2, data := [0] }) = false ∧
    Instr.wf (.feedAccess { master := 0, write := false, addr := 2 ^ 40, len := 1 }) = false ∧ Instr.wf (.feedAtomic { master := 0, kind := 3, addr := 0, a := 0 }) = false ∧
    Instr.wf (.feedAtomic { master := 0, kind := 0, addr := 2 ^ 40, a := 0 }) = false := by decide +kernel

/-! ### The manual's worked examples and tables -/

/-- The nine ASCII bytes of the check values of R560. -/
def digits : Bytes := [0x31, 0x32, 0x33, 0x34, 0x35, 0x36, 0x37, 0x38, 0x39]

/-- R560: the check value of CRC-32C. -/
theorem test_crc32c_check : crc32c digits = 0xE3069283 := by decide +kernel

/-- R560: the check value of CRC-32. -/
theorem test_crc32_check : crcRun (algPoly 1) (algOnes 1) digits ^^^ algOnes 1 = 0xCBF43926 := by decide +kernel

/-- R560: the check value of CRC-64. -/
theorem test_crc64_check : crc64 digits = 0x995DC9BBDF1939FA := by decide +kernel

/-- R560: the check value of SHA-256. -/
theorem test_sha256_check : sha256 [0x61, 0x62, 0x63] = be 32 0xBA7816BF8F01CFEA414140DE5DAE2223B00361A396177A9CB410FF61F20015AD := by decide +kernel

/-- The worked example of chapter 0: SYS_ID and CAPS0 of a ZL9200. -/
theorem test_identity_of_a_zl9200 : sysId { State.reset with variant := .zl9200 } = 0x9200B101 ∧ caps0 { State.reset with variant := .zl9200 } = 0x06080430 := by decide +kernel

/-- The worked example of chapter 7: SYS_ID, CAPS0 and CAPS1 of a ZL9400. -/
theorem test_identity_of_a_zl9400 : sysId { State.reset with variant := .zl9400 } = 0x9400B101 ∧ caps0 { State.reset with variant := .zl9400 } = 0x0C10085B ∧
    caps1 { State.reset with variant := .zl9400 } = 0x00222020 := by decide +kernel

/-- The worked example of chapter 2: Stem locks with SSI from AON's time of day. -/
theorem test_stem_lock_takes_aon_time :
    ∃ t, exec .stemLock { rom with stem := { rom.stem with aonSet := true, aonMs := 1912345678000 } } = .next t ∧ t.stem.ssi = 91792592544000 ∧ t.stem.stemLock = true :=
  ⟨_, rfl, by decide +kernel⟩

/-- The worked example of chapter 8, SW 1: a period that takes 141,000 cycles is late and starts catch-up at level 1. -/
theorem test_late_period_starts_catchup :
    let s := { up with dx := { up.dx with open_ := [5998, 5999], sw := 1 } }
    ∃ t, exec (.classACompletion ⟨true, 141000⟩) s = .next t ∧ t.dx.level = 1 ∧ t.dx.late = 1 ∧ t.dx.carryMax = 9928 := ⟨_, rfl, by decide +kernel⟩

/-- The same example: the next period, completed at 134,928, raises the level to 2. -/
theorem test_second_late_period_halves_class_b :
    let s := { up with dx := { up.dx with open_ := [5998], sw := 1, level := 1, late := 1, carried := true } }
    ∃ t, exec (.classACompletion ⟨true, 134928⟩) s = .next t ∧ t.dx.level = 2 ∧ t.dx.late = 2 := ⟨_, rfl, by decide +kernel⟩

/-- The same example: 16,216 cycles early after a late start is no recovery, 23,072 early with nothing carried is one. -/
theorem test_recovery_needs_an_eighth :
    (∃ t, exec (.classACompletion ⟨true, 114856⟩) { up with dx := { up.dx with open_ := [5998], sw := 1, level := 2, carried := true } } = .next t ∧ t.dx.level = 2) ∧
    ∃ t, exec (.classACompletion ⟨true, 108000⟩) { up with dx := { up.dx with open_ := [5998], sw := 1, level := 2 } } = .next t ∧ t.dx.level = 0 ∧ t.dx.recovered = 1 :=
  ⟨⟨_, rfl, by decide +kernel⟩, ⟨_, rfl, by decide +kernel⟩⟩

/-- The worked example of chapter 6: with PTR 62, client 0 is at distance 2 and client 3 at 5, so client 0 is served first. -/
theorem test_sheet_contest : contestOrder 62 [3, 0] = [0, 3] ∧ contestOrder 1 [3, 0] = [3, 0] := by decide +kernel

/-- The same chapter: with LAST_SEQ 0x0001 a message numbered 0xFFEF, 18 behind, is a conflict, and 0x0002 is executed. -/
theorem test_sequence_window : seqVerdict { fresh := false, lastSeq := 1 } 0xFFEF 0 = .conflict ∧ seqVerdict { fresh := false, lastSeq := 1 } 2 0 = .execute := by decide +kernel

/-- The worked example of chapter 9: the planned cost of the piano pair is 4,016 cycles. -/
theorem test_planned_cost_of_the_piano_pair :
    let s := { up with feed := { up.feed with xmiMib := 8192 },
                       prog := { up.prog with insts := [(instKey 1 0, { prog := 3, params := [(0x0010, 1)] }), (instKey 1 2, { prog := 3, params := [(0x0010, 1)] }),
                         (instKey 1 4, { prog := 3 }), (instKey 1 5, { prog := 3 })] } }
    let i : Inst := { prog := 2, params := [(0x0100, 1), (0x0101, 400), (0x0102, 1), (0x0210, 1), (0x0220, 1), (0x0230, 1), (0x0240, 1), (0x0310, 1), (0x0400, 1), (0x0401, 288),
      (0x1000, 0), (0x1002, 0), (0x1004, 0), (0x1005, 0)] }
    costOf s 2 (param s i) = 4016 := by decide +kernel

/-- The worked example of chapter 10: a cue 20 ms ahead with ALIGN applies at 92,000,004,168. -/
theorem test_cue_applies_aligned :
    cueApply { action := 1, flags := 1 } { up with stem := { up.stem with ssi := 92000003205 } } = 92000004168 := by decide +kernel

/-- The worked example of chapter 11: the fields of the route word 0x8022_B385 and of the Hairline word 0x0001_E003. -/
theorem test_route_words : wSrc 0x8022B385 = 4997 ∧ wEn 0x8022B385 = true ∧ wHair 0x8022B385 = false ∧ wBackup 0x8022B385 = 69 ∧ wFade 0x8022B385 = 8 ∧
    wSrc 0x0001E003 = 3 ∧ wHair 0x0001E003 = true ∧ hasBackup 0x0001E003 = false := by decide +kernel

/-- The worked example of chapter 13: the record of port 7 is correct at 1x and its frame is too long for 2x. -/
theorem test_serif_record_of_port_7 : serCfgOk 1 { cfg0 := 0x00010501, cfg1 := 0x0018201F, rxEn := 0xFFFFFFFF, txEn := 0x0000FFFF } = true ∧
    serCfgOk 2 { cfg0 := 0x00010501, cfg1 := 0x0018201F, rxEn := 0xFFFFFFFF, txEn := 0x0000FFFF } = false := by decide +kernel

/-- The worked example of chapter 18: sheet 1,204 lies in an even bank, on T1. -/
theorem test_sheet_address_port : regionOf State.reset (0x10000000 + 1204 * 0x1000) = some .res ∧ feedPort .res (0x10000000 + 1204 * 0x1000) = 1 := by decide +kernel

/-- The worked example of chapter 21: with 8 GiB fitted, tests 1 to 15 take 3,397 ms. -/
theorem test_copybook_estimate : cbEstimate { up with feed := { up.feed with xmiMib := 8192 } } 0xFFFE = 3397 := by decide +kernel

/-- The worked example of chapter 23: the LTC frame at SSI 91,792,592,880,000 is 16:07:28:00. -/
theorem test_ltc_frame_time :
    let s := { ltcOn with stem := { ltcOn.stem with ssi := 91792592880000 } }
    let u := { s with host := { s.host with ltc := { s.host.ltc with cfg := { s.host.ltc.cfg with rate := 1, tzOfs := 3600 } } } }
    ∃ t, exec (.ltcOutFrame (ltcDayFrame u)) u = .next t ∧ t.host.ltc.outTime = 0x10071C00 := ⟨_, rfl, by decide +kernel⟩

/-- The worked example of chapter 23: 54.0 °C is below the limit of 95, and 95 °C latches the alert. -/
theorem test_temperature_alert :
    let s := { up with host := { up.host with board := padTo 252 (zeros 15 ++ [95]) } }
    (∃ t, exec (.tempAlert 432) s = .next t ∧ t.host.tempAlert = false) ∧ ∃ t, exec (.tempAlert 760) s = .next t ∧ t.host.tempAlert = true :=
  ⟨⟨_, rfl, by decide +kernel⟩, ⟨_, rfl, by decide +kernel⟩⟩

/-- The worked example of chapter 16: a give-up at 67.663 µs into the grid of P0 stops at P0 + 4. -/
theorem test_stop_ssi_of_a_give_up : stopSsiAt { up with stem := { up.stem with ssi := 91800000000003 } } 5163 = 91800000000004 := by decide +kernel

/-- R174: 16 requests may be outstanding; a doorbell of 17 is discarded and sets DB_RANGE. -/
theorem test_doorbell_of_17 : ∃ t, exec (.doorbell .pcie 0 17 []) up = .next t ∧ (well t 0).reqProd = 0 ∧ (well t 0).err = 1 := ⟨_, rfl, by decide +kernel⟩

/-- A step runs the front command with the rest of the queue. -/
theorem test_step_runs_the_front : step { up with pending := [.jtagTrst, .hspiStatus] } = exec .jtagTrst { up with pending := [.hspiStatus] } := rfl

/-- A request of a client that no Inkwell has faults. -/
theorem test_no_client_faults : exec (.sysIdentityGet { rq [] with client := 64 }) up = .fault .noClient := rfl

/-- No row of the opcode table gives bits, so no word spells a command. -/
theorem test_no_word_is_a_command : decodeTableWord 16 0x1234 = none ∧ State.reset.withFetchWord 16 0x1234 = State.reset := by decide +kernel

/-! ### An accepted request for every Sprinile command -/

theorem test_sysIdentityGet : ∃ (r : Request) (s : State), Accepted 0x0101 cmdIdentityGet r s := ⟨rq [], up, by decide +kernel⟩
theorem test_sysCapsGet : ∃ (r : Request) (s : State), Accepted 0x0102 cmdCapsGet r s := ⟨rq [], up, by decide +kernel⟩
theorem test_sysRoleSet : ∃ (r : Request) (s : State), Accepted 0x0110 cmdRoleSet r s := ⟨rq [5, 0, 0, 0], up, by decide +kernel⟩
theorem test_sysGrantGet : ∃ (r : Request) (s : State), Accepted 0x0111 cmdGrantGet r s := ⟨rq (zeros 2), up, by decide +kernel⟩
theorem test_sysGrantSet : ∃ (r : Request) (s : State), Accepted 0x0112 cmdGrantSet r s := ⟨rq ([0, 5, 0, 0, 1] ++ zeros 31), up, by decide +kernel⟩
theorem test_sysClockGet : ∃ (r : Request) (s : State), Accepted 0x0120 cmdClockGet r s := ⟨rq [], up, by decide +kernel⟩
theorem test_sysRateSet : ∃ (r : Request) (s : State), Accepted 0x0121 cmdRateSet r s := ⟨rq [1, 1, 0, 0], up, by decide +kernel⟩
theorem test_sysSsiRealign : ∃ (r : Request) (s : State), Accepted 0x0122 cmdSsiRealign r s := ⟨rq [], up, by decide +kernel⟩
theorem test_sysBootInfo : ∃ (r : Request) (s : State), Accepted 0x0130 cmdBootInfo r s := ⟨rq [], up, by decide +kernel⟩
theorem test_sysRestart : ∃ (r : Request) (s : State), Accepted 0x0131 cmdRestart r s := ⟨rq (zeros 1), up, by decide +kernel⟩
theorem test_sysFwWrite : ∃ (r : Request) (s : State), Accepted 0x0132 cmdFwWrite r s := ⟨rqs ([1, 0, 0, 0] ++ le 4 0 ++ le 4 4) (zeros 4), withSheet (zeros 4) up, by decide +kernel⟩
theorem test_sysFwSelect : ∃ (r : Request) (s : State), Accepted 0x0133 cmdFwSelect r s := ⟨rq (zeros 4), up, by decide +kernel⟩
theorem test_sysFwCommit : ∃ (r : Request) (s : State), Accepted 0x0134 cmdFwCommit r s := ⟨rq [], up, by decide +kernel⟩
theorem test_sysResumeSet : ∃ (r : Request) (s : State), Accepted 0x0135 cmdResumeSet r s := ⟨rq (zeros 4), up, by decide +kernel⟩
theorem test_sysResumeSave : ∃ (r : Request) (s : State), Accepted 0x0136 cmdResumeSave r s := ⟨rq [], up, by decide +kernel⟩
theorem test_sysInkGet : ∃ (r : Request) (s : State), Accepted 0x0140 cmdInkGet r s := ⟨rq (zeros 4), up, by decide +kernel⟩
theorem test_sysInkClose : ∃ (r : Request) (s : State), Accepted 0x0141 cmdInkClose r s := ⟨rq [1], up, by decide +kernel⟩
theorem test_sysSubscribe : ∃ (r : Request) (s : State), Accepted 0x0150 cmdSubscribe r s := ⟨rq (zeros 8), up, by decide +kernel⟩
theorem test_sysWarnGet : ∃ (r : Request) (s : State), Accepted 0x0151 cmdWarnGet r s := ⟨rq [3, 0, 0, 0], modWell 0 (fun w => { w with cache := [{ seq := 3, crc := 0, reply := none, warns := [{ code := 1, group := 4 }] }] }) up, by decide +kernel⟩
theorem test_sysArmedGet : ∃ (r : Request) (s : State), Accepted 0x0152 cmdArmedGet r s := ⟨rq (zeros 4), up, by decide +kernel⟩
theorem test_sysArmedCancel : ∃ (r : Request) (s : State), Accepted 0x0153 cmdArmedCancel r s := ⟨rq [0, 0, 3, 0], { up with ink := { up.ink with armed := [{ armedNow with applySsi := 96000 }] } }, by decide +kernel⟩
theorem test_sysMemStatusGet : ∃ (r : Request) (s : State), Accepted 0x0160 cmdMemStatusGet r s := ⟨rq [], up, by decide +kernel⟩
theorem test_sysCartStatusGet : ∃ (r : Request) (s : State), Accepted 0x0161 cmdCartStatusGet r s := ⟨rq [], up, by decide +kernel⟩
theorem test_lcStatusGet : ∃ (r : Request) (s : State), Accepted 0x0170 cmdLcStatusGet r s := ⟨rq [], up, by decide +kernel⟩
theorem test_lcNonceGet : ∃ (r : Request) (s : State), Accepted 0x0171 cmdLcNonceGet r s := ⟨rq [], up, by decide +kernel⟩
theorem test_lcProvision : ∃ (r : Request) (s : State), Accepted 0x0172 cmdLcProvision r s := ⟨rq gen256, { atState 0 with life := { (atState 0).life with fwKeyHash := some (zeros 32), ownerHash := none } }, by decide +kernel⟩
theorem test_lcDeploy : ∃ (r : Request) (s : State), Accepted 0x0173 cmdLcDeploy r s := ⟨rq [], atState 1, by decide +kernel⟩
theorem test_lcReturn : ∃ (r : Request) (s : State), Accepted 0x0174 cmdLcReturn r s := ⟨rq [], { atState 1 with life := { (atState 1).life with ownerHash := none } }, by decide +kernel⟩
theorem test_lcDebugUnlock : ∃ (r : Request) (s : State), Accepted 0x0175 cmdLcDebugUnlock r s := ⟨rq unlockToken, unlockState, by decide +kernel⟩
theorem test_lcAttest : ∃ (r : Request) (s : State), Accepted 0x0176 cmdLcAttest r s := ⟨rq (zeros 16), up, by decide +kernel⟩
theorem test_sysBoardGet : ∃ (r : Request) (s : State), Accepted 0x0190 cmdBoardGet r s := ⟨rq [], up, by decide +kernel⟩
theorem test_sysBoardSet : ∃ (r : Request) (s : State), Accepted 0x0191 cmdBoardSet r s := ⟨rqs [] boardSheet, withSheet boardSheet up, by decide +kernel⟩
theorem test_sysGpioConfig : ∃ (r : Request) (s : State), Accepted 0x0192 cmdGpioConfig r s := ⟨rq (zeros 4), up, by decide +kernel⟩
theorem test_sysGpioGet : ∃ (r : Request) (s : State), Accepted 0x0193 cmdGpioGet r s := ⟨rq [], up, by decide +kernel⟩
theorem test_sysGpioSet : ∃ (r : Request) (s : State), Accepted 0x0194 cmdGpioSet r s := ⟨rq (zeros 4), up, by decide +kernel⟩
theorem test_sysLtcConfig : ∃ (r : Request) (s : State), Accepted 0x0195 cmdLtcConfig r s := ⟨rq (zeros 12), up, by decide +kernel⟩
theorem test_sysLtcStatusGet : ∃ (r : Request) (s : State), Accepted 0x0196 cmdLtcStatusGet r s := ⟨rq [], up, by decide +kernel⟩
theorem test_sysLinkGet : ∃ (r : Request) (s : State), Accepted 0x0197 cmdLinkGet r s := ⟨rq [], up, by decide +kernel⟩

/-- Every command of `sysRows` is accepted somewhere. -/
theorem test_sysRows : ∀ e ∈ sysRows, ∃ (r : Request) (s : State), Accepted e.op e.cmd r s := by
  simp only [sysRows, List.forall_mem_cons]
  exact ⟨test_sysIdentityGet, test_sysCapsGet, test_sysRoleSet, test_sysGrantGet, test_sysGrantSet, test_sysClockGet, test_sysRateSet, test_sysSsiRealign, test_sysBootInfo, test_sysRestart, test_sysFwWrite, test_sysFwSelect, test_sysFwCommit, test_sysResumeSet, test_sysResumeSave, test_sysInkGet, test_sysInkClose, test_sysSubscribe, test_sysWarnGet, test_sysArmedGet, test_sysArmedCancel, test_sysMemStatusGet, test_sysCartStatusGet, test_lcStatusGet, test_lcNonceGet, test_lcProvision, test_lcDeploy, test_lcReturn, test_lcDebugUnlock, test_lcAttest, test_sysBoardGet, test_sysBoardSet, test_sysGpioConfig, test_sysGpioGet, test_sysGpioSet, test_sysLtcConfig, test_sysLtcStatusGet, test_sysLinkGet, fun _ h => absurd h (List.not_mem_nil)⟩

theorem test_blStatusGet : ∃ (r : Request) (s : State), Accepted 0x0201 cmdBlStatusGet r s := ⟨rq [], up, by decide +kernel⟩
theorem test_blRefConfig : ∃ (r : Request) (s : State), Accepted 0x0202 cmdBlRefConfig r s := ⟨rq ([0, 1, 0, 5] ++ le 4 248 ++ zeros 4), up, by decide +kernel⟩
theorem test_blSelect : ∃ (r : Request) (s : State), Accepted 0x0203 cmdBlSelect r s := ⟨rq (zeros 4), up, by decide +kernel⟩
theorem test_blSteer : ∃ (r : Request) (s : State), Accepted 0x0204 cmdBlSteer r s := ⟨rq (zeros 4), up, by decide +kernel⟩
theorem test_blPhaseStep : ∃ (r : Request) (s : State), Accepted 0x0205 cmdBlPhaseStep r s := ⟨rq (zeros 4), up, by decide +kernel⟩
theorem test_blOutConfig : ∃ (r : Request) (s : State), Accepted 0x0206 cmdBlOutConfig r s := ⟨rq ([1, 1] ++ zeros 10), up, by decide +kernel⟩
theorem test_blPolicySet : ∃ (r : Request) (s : State), Accepted 0x0207 cmdBlPolicySet r s := ⟨rq ([0, 0] ++ le 2 300 ++ le 4 0 ++ le 2 1 ++ [50, 3] ++ le 2 60 ++ le 2 0 ++ le 4 1000 ++ le 4 1000 ++ zeros 4), up, by decide +kernel⟩
theorem test_blRefClear : ∃ (r : Request) (s : State), Accepted 0x0208 cmdBlRefClear r s := ⟨rq (zeros 1), up, by decide +kernel⟩

/-- Every command of `blRows` is accepted somewhere. -/
theorem test_blRows : ∀ e ∈ blRows, ∃ (r : Request) (s : State), Accepted e.op e.cmd r s := by
  simp only [blRows, List.forall_mem_cons]
  exact ⟨test_blStatusGet, test_blRefConfig, test_blSelect, test_blSteer, test_blPhaseStep, test_blOutConfig, test_blPolicySet, test_blRefClear, fun _ h => absurd h (List.not_mem_nil)⟩

theorem test_modeGet : ∃ (r : Request) (s : State), Accepted 0x0301 cmdModeGet r s := ⟨rq [], up, by decide +kernel⟩
theorem test_modeSet : ∃ (r : Request) (s : State), Accepted 0x0302 cmdModeSet r s := ⟨rq [4, 0, 0, 0], up, by decide +kernel⟩
theorem test_modeWakeConfig : ∃ (r : Request) (s : State), Accepted 0x0303 cmdModeWakeConfig r s := ⟨rq (zeros 16), up, by decide +kernel⟩

/-- Every command of `modeRows` is accepted somewhere. -/
theorem test_modeRows : ∀ e ∈ modeRows, ∃ (r : Request) (s : State), Accepted e.op e.cmd r s := by
  simp only [modeRows, List.forall_mem_cons]
  exact ⟨test_modeGet, test_modeSet, test_modeWakeConfig, fun _ h => absurd h (List.not_mem_nil)⟩

theorem test_netPortConfig : ∃ (r : Request) (s : State), Accepted 0x0401 cmdNetPortConfig r s := ⟨rq ([0, 0, 0, 0, 1, 0, 0, 0] ++ [0, 0, 0, 0, 1, 0, 0, 10, 24] ++ zeros 119), up, by decide +kernel⟩
theorem test_netPortStatusGet : ∃ (r : Request) (s : State), Accepted 0x0402 cmdNetPortStatusGet r s := ⟨rq [], up, by decide +kernel⟩
theorem test_netPtpConfig : ∃ (r : Request) (s : State), Accepted 0x0403 cmdNetPtpConfig r s := ⟨rq ([0, 1, 0, 0, 0, 0, 0, 0, 0, 3, 128, 128, 248] ++ zeros 11), up, by decide +kernel⟩
theorem test_netPtpStatusGet : ∃ (r : Request) (s : State), Accepted 0x0404 cmdNetPtpStatusGet r s := ⟨rq [], up, by decide +kernel⟩
theorem test_netQuillConfig : ∃ (r : Request) (s : State), Accepted 0x0405 cmdNetQuillConfig r s := ⟨rq ([0, 0, 0, 0] ++ le 2 1000 ++ [0, 0]), up, by decide +kernel⟩
theorem test_netRxSet : ∃ (r : Request) (s : State), Accepted 0x0410 cmdNetRxSet r s := ⟨rq rxEntry, up, by decide +kernel⟩
theorem test_netRxGet : ∃ (r : Request) (s : State), Accepted 0x0411 cmdNetRxGet r s := ⟨rq (zeros 4), up, by decide +kernel⟩
theorem test_netTxSet : ∃ (r : Request) (s : State), Accepted 0x0412 cmdNetTxSet r s := ⟨rq txEntry, up, by decide +kernel⟩
theorem test_netTxGet : ∃ (r : Request) (s : State), Accepted 0x0413 cmdNetTxGet r s := ⟨rq (zeros 4), up, by decide +kernel⟩
theorem test_netStatusGet : ∃ (r : Request) (s : State), Accepted 0x0414 cmdNetStatusGet r s := ⟨rq (zeros 4), up, by decide +kernel⟩
theorem test_netNmosConfig : ∃ (r : Request) (s : State), Accepted 0x0420 cmdNetNmosConfig r s := ⟨rq (zeros 40), up, by decide +kernel⟩

/-- Every command of `netRows` is accepted somewhere. -/
theorem test_netRows : ∀ e ∈ netRows, ∃ (r : Request) (s : State), Accepted e.op e.cmd r s := by
  simp only [netRows, List.forall_mem_cons]
  exact ⟨test_netPortConfig, test_netPortStatusGet, test_netPtpConfig, test_netPtpStatusGet, test_netQuillConfig, test_netRxSet, test_netRxGet, test_netTxSet, test_netTxGet, test_netStatusGet, test_netNmosConfig, fun _ h => absurd h (List.not_mem_nil)⟩

theorem test_serConfig : ∃ (r : Request) (s : State), Accepted 0x0501 cmdSerConfig r s := ⟨rq ([0, 0, 0, 0] ++ le 4 slaveCfg.cfg0 ++ le 4 slaveCfg.cfg1 ++ zeros 8), up, by decide +kernel⟩
theorem test_serConfigGet : ∃ (r : Request) (s : State), Accepted 0x0502 cmdSerConfigGet r s := ⟨rq (zeros 4), up, by decide +kernel⟩
theorem test_serStatusGet : ∃ (r : Request) (s : State), Accepted 0x0503 cmdSerStatusGet r s := ⟨rq [], up, by decide +kernel⟩
theorem test_serCountersGet : ∃ (r : Request) (s : State), Accepted 0x0504 cmdSerCountersGet r s := ⟨rq (zeros 4), up, by decide +kernel⟩

/-- Every command of `serRows` is accepted somewhere. -/
theorem test_serRows : ∀ e ∈ serRows, ∃ (r : Request) (s : State), Accepted e.op e.cmd r s := by
  simp only [serRows, List.forall_mem_cons]
  exact ⟨test_serConfig, test_serConfigGet, test_serStatusGet, test_serCountersGet, fun _ h => absurd h (List.not_mem_nil)⟩

theorem test_ligRouteSet : ∃ (r : Request) (s : State), Accepted 0x0601 cmdLigRouteSet r s := ⟨rq (le 4 1 ++ zeros 4 ++ le 2 600 ++ zeros 6), up, by decide +kernel⟩
theorem test_ligRouteGet : ∃ (r : Request) (s : State), Accepted 0x0602 cmdLigRouteGet r s := ⟨rq [0, 0, 1, 0], up, by decide +kernel⟩
theorem test_ligSinkConfig : ∃ (r : Request) (s : State), Accepted 0x0603 cmdLigSinkConfig r s := ⟨rq (le 2 600 ++ le 2 1 ++ le 2 96 ++ [1, 2] ++ le 2 50 ++ zeros 2 ++ le 4 1000), up, by decide +kernel⟩
theorem test_ligGainSet : ∃ (r : Request) (s : State), Accepted 0x0604 cmdLigGainSet r s := ⟨rq (le 2 600 ++ le 2 1 ++ le 4 0), up, by decide +kernel⟩
theorem test_ligFallback : ∃ (r : Request) (s : State), Accepted 0x0605 cmdLigFallback r s := ⟨rq (le 2 600 ++ [1, 0]), fellBack, by decide +kernel⟩
theorem test_ligPatchSet : ∃ (r : Request) (s : State), Accepted 0x0606 cmdLigPatchSet r s := ⟨rq (zeros 1), up, by decide +kernel⟩
theorem test_ligStatusGet : ∃ (r : Request) (s : State), Accepted 0x0607 cmdLigStatusGet r s := ⟨rq [], up, by decide +kernel⟩

/-- Every command of `ligRows` is accepted somewhere. -/
theorem test_ligRows : ∀ e ∈ ligRows, ∃ (r : Request) (s : State), Accepted e.op e.cmd r s := by
  simp only [ligRows, List.forall_mem_cons]
  exact ⟨test_ligRouteSet, test_ligRouteGet, test_ligSinkConfig, test_ligGainSet, test_ligFallback, test_ligPatchSet, test_ligStatusGet, fun _ h => absurd h (List.not_mem_nil)⟩

theorem test_instCreate : ∃ (r : Request) (s : State), Accepted 0x0701 cmdInstCreate r s := ⟨rq ([0, 1] ++ zeros 18), up, by decide +kernel⟩
theorem test_instDelete : ∃ (r : Request) (s : State), Accepted 0x0702 cmdInstDelete r s := ⟨rq (zeros 4), strip, by decide +kernel⟩
theorem test_instSet : ∃ (r : Request) (s : State), Accepted 0x0703 cmdInstSet r s := ⟨rq ([0, 0, 0, 0, 1, 0, 0, 0] ++ le 2 0x0200 ++ zeros 2 ++ le 4 1), strip, by decide +kernel⟩
theorem test_instGet : ∃ (r : Request) (s : State), Accepted 0x0704 cmdInstGet r s := ⟨rq (zeros 6), strip, by decide +kernel⟩
theorem test_instList : ∃ (r : Request) (s : State), Accepted 0x0705 cmdInstList r s := ⟨rq (zeros 3), up, by decide +kernel⟩
theorem test_instRename : ∃ (r : Request) (s : State), Accepted 0x0706 cmdInstRename r s := ⟨rq (zeros 20), strip, by decide +kernel⟩
theorem test_progList : ∃ (r : Request) (s : State), Accepted 0x0707 cmdProgList r s := ⟨rq [], up, by decide +kernel⟩
theorem test_instCoefSet : ∃ (r : Request) (s : State), Accepted 0x0710 cmdInstCoefSet r s := ⟨rx ([0, 4, 0, 0] ++ zeros 20), eqStrip, by decide +kernel⟩
theorem test_instCoefGet : ∃ (r : Request) (s : State), Accepted 0x0711 cmdInstCoefGet r s := ⟨rx [0, 4, 0, 0], eqStrip, by decide +kernel⟩
theorem test_dxLoadGet : ∃ (r : Request) (s : State), Accepted 0x0780 cmdDxLoadGet r s := ⟨rq [], up, by decide +kernel⟩
theorem test_dxNibGet : ∃ (r : Request) (s : State), Accepted 0x0781 cmdDxNibGet r s := ⟨rq [], up, by decide +kernel⟩
theorem test_dxConfig : ∃ (r : Request) (s : State), Accepted 0x0782 cmdDxConfig r s := ⟨rq (zeros 4), up, by decide +kernel⟩

/-- Every command of `instRows` is accepted somewhere. -/
theorem test_instRows : ∀ e ∈ instRows, ∃ (r : Request) (s : State), Accepted e.op e.cmd r s := by
  simp only [instRows, List.forall_mem_cons]
  exact ⟨test_instCreate, test_instDelete, test_instSet, test_instGet, test_instList, test_instRename, test_progList, test_instCoefSet, test_instCoefGet, test_dxLoadGet, test_dxNibGet, test_dxConfig, fun _ h => absurd h (List.not_mem_nil)⟩

theorem test_sceneStore : ∃ (r : Request) (s : State), Accepted 0x0801 cmdSceneStore r s := ⟨rq ([1, 0] ++ zeros 22), up, by decide +kernel⟩
theorem test_sceneRecall : ∃ (r : Request) (s : State), Accepted 0x0802 cmdSceneRecall r s := ⟨rq ([1, 0] ++ zeros 6), withScene, by decide +kernel⟩
theorem test_sceneDelete : ∃ (r : Request) (s : State), Accepted 0x0803 cmdSceneDelete r s := ⟨rq [1, 0], withScene, by decide +kernel⟩
theorem test_sceneList : ∃ (r : Request) (s : State), Accepted 0x0804 cmdSceneList r s := ⟨rq (zeros 2), up, by decide +kernel⟩
theorem test_sceneExport : ∃ (r : Request) (s : State), Accepted 0x0805 cmdSceneExport r s := ⟨rq [1, 0, 0, 0], withScene, by decide +kernel⟩
theorem test_sceneImport : ∃ (r : Request) (s : State), Accepted 0x0806 cmdSceneImport r s := ⟨rqs [1, 0, 0, 0, 2, 0, 0] (zeros 4), withSheet (zeros 4) up, by decide +kernel⟩
theorem test_sceneSafeSet : ∃ (r : Request) (s : State), Accepted 0x0807 cmdSceneSafeSet r s := ⟨rq ([0, 0, 0, 0, 1, 0] ++ zeros 6), up, by decide +kernel⟩
theorem test_sceneSafeGet : ∃ (r : Request) (s : State), Accepted 0x0808 cmdSceneSafeGet r s := ⟨rq (zeros 4), up, by decide +kernel⟩
theorem test_cueConfig : ∃ (r : Request) (s : State), Accepted 0x0810 cmdCueConfig r s := ⟨rq ([0, 0, 0, 0, 0, 0] ++ le 2 20 ++ le 2 500 ++ zeros 6), up, by decide +kernel⟩
theorem test_cueMapSet : ∃ (r : Request) (s : State), Accepted 0x0811 cmdCueMapSet r s := ⟨rq (zeros 68), up, by decide +kernel⟩
theorem test_cueMapGet : ∃ (r : Request) (s : State), Accepted 0x0812 cmdCueMapGet r s := ⟨rq (zeros 1), up, by decide +kernel⟩
theorem test_cueStatusGet : ∃ (r : Request) (s : State), Accepted 0x0813 cmdCueStatusGet r s := ⟨rq [], up, by decide +kernel⟩
theorem test_folioMap : ∃ (r : Request) (s : State), Accepted 0x0820 cmdFolioMap r s := ⟨rx [1], up, by decide +kernel⟩
theorem test_folioRead : ∃ (r : Request) (s : State), Accepted 0x0821 cmdFolioRead r s := ⟨rx [0, 0, 0, 0, 0, 0, 1, 0], strip, by decide +kernel⟩
theorem test_folioWrite : ∃ (r : Request) (s : State), Accepted 0x0822 cmdFolioWrite r s := ⟨rx ([0, 0, 0, 0, 1, 0] ++ zeros 8), strip, by decide +kernel⟩

/-- Every command of `sceneRows` is accepted somewhere. -/
theorem test_sceneRows : ∀ e ∈ sceneRows, ∃ (r : Request) (s : State), Accepted e.op e.cmd r s := by
  simp only [sceneRows, List.forall_mem_cons]
  exact ⟨test_sceneStore, test_sceneRecall, test_sceneDelete, test_sceneList, test_sceneExport, test_sceneImport, test_sceneSafeSet, test_sceneSafeGet, test_cueConfig, test_cueMapSet, test_cueMapGet, test_cueStatusGet, test_folioMap, test_folioRead, test_folioWrite, fun _ h => absurd h (List.not_mem_nil)⟩

theorem test_sheenConfig : ∃ (r : Request) (s : State), Accepted 0x0901 cmdSheenConfig r s := ⟨rq ([3, 0, 0, 0, 1, 0, 0, 0] ++ zeros 4), up, by decide +kernel⟩
theorem test_sheenLoudReset : ∃ (r : Request) (s : State), Accepted 0x0902 cmdSheenLoudReset r s := ⟨rq (zeros 8), up, by decide +kernel⟩
theorem test_sheenSetDefine : ∃ (r : Request) (s : State), Accepted 0x0910 cmdSheenSetDefine r s := ⟨rq ([0, 0, 0, 0, 1, 0, 0, 0] ++ zeros 4), up, by decide +kernel⟩
theorem test_sheenSetDelete : ∃ (r : Request) (s : State), Accepted 0x0911 cmdSheenSetDelete r s := ⟨rq [0], withSet, by decide +kernel⟩
theorem test_sheenSetRead : ∃ (r : Request) (s : State), Accepted 0x0912 cmdSheenSetRead r s := ⟨rq (zeros 6), withSet, by decide +kernel⟩
theorem test_sheenStatusGet : ∃ (r : Request) (s : State), Accepted 0x0913 cmdSheenStatusGet r s := ⟨rq [], up, by decide +kernel⟩
theorem test_sheenConfigGet : ∃ (r : Request) (s : State), Accepted 0x0914 cmdSheenConfigGet r s := ⟨rq [], up, by decide +kernel⟩

/-- Every command of `sheenRows` is accepted somewhere. -/
theorem test_sheenRows : ∀ e ∈ sheenRows, ∃ (r : Request) (s : State), Accepted e.op e.cmd r s := by
  simp only [sheenRows, List.forall_mem_cons]
  exact ⟨test_sheenConfig, test_sheenLoudReset, test_sheenSetDefine, test_sheenSetDelete, test_sheenSetRead, test_sheenStatusGet, test_sheenConfigGet, fun _ h => absurd h (List.not_mem_nil)⟩

theorem test_hushStatusGet : ∃ (r : Request) (s : State), Accepted 0x0A01 cmdHushStatusGet r s := ⟨rq [], up, by decide +kernel⟩
theorem test_hushClear : ∃ (r : Request) (s : State), Accepted 0x0A02 cmdHushClear r s := ⟨rq [], modWell 0 (fun w => { w with role := 4 }) up, by decide +kernel⟩
theorem test_hushConfig : ∃ (r : Request) (s : State), Accepted 0x0A03 cmdHushConfig r s := ⟨rqs [] hushSheet, withSheet hushSheet (modWell 0 (fun w => { w with role := 4 }) up), by decide +kernel⟩
theorem test_hushConfigGet : ∃ (r : Request) (s : State), Accepted 0x0A04 cmdHushConfigGet r s := ⟨rq [], up, by decide +kernel⟩

/-- Every command of `hushRows` is accepted somewhere. -/
theorem test_hushRows : ∀ e ∈ hushRows, ∃ (r : Request) (s : State), Accepted e.op e.cmd r s := by
  simp only [hushRows, List.forall_mem_cons]
  exact ⟨test_hushStatusGet, test_hushClear, test_hushConfig, test_hushConfigGet, fun _ h => absurd h (List.not_mem_nil)⟩

theorem test_twinStatusGet : ∃ (r : Request) (s : State), Accepted 0x0B01 cmdTwinStatusGet r s := ⟨rq [], up, by decide +kernel⟩
theorem test_twinConfig : ∃ (r : Request) (s : State), Accepted 0x0B02 cmdTwinConfig r s := ⟨rq ([1, 1, 1, 0] ++ le 2 1 ++ le 2 20 ++ le 32 5), up, by decide +kernel⟩
theorem test_twinPromote : ∃ (r : Request) (s : State), Accepted 0x0B03 cmdTwinPromote r s := ⟨rq [], airTwin 1, by decide +kernel⟩
theorem test_twinResync : ∃ (r : Request) (s : State), Accepted 0x0B04 cmdTwinResync r s := ⟨rq [], airTwin 1, by decide +kernel⟩
theorem test_twinDissolve : ∃ (r : Request) (s : State), Accepted 0x0B05 cmdTwinDissolve r s := ⟨rq [0], airTwin 1, by decide +kernel⟩

/-- Every command of `twinRows` is accepted somewhere. -/
theorem test_twinRows : ∀ e ∈ twinRows, ∃ (r : Request) (s : State), Accepted e.op e.cmd r s := by
  simp only [twinRows, List.forall_mem_cons]
  exact ⟨test_twinStatusGet, test_twinConfig, test_twinPromote, test_twinResync, test_twinDissolve, fun _ h => absurd h (List.not_mem_nil)⟩

theorem test_msStatusGet : ∃ (r : Request) (s : State), Accepted 0x0C01 cmdMsStatusGet r s := ⟨rq [], up, by decide +kernel⟩
theorem test_msConfig : ∃ (r : Request) (s : State), Accepted 0x0C02 cmdMsConfig r s := ⟨rq (le 2 1 ++ le 2 1 ++ [0, 0] ++ le 2 1000 ++ le 2 20 ++ zeros 18), up, by decide +kernel⟩
theorem test_msRosterSet : ∃ (r : Request) (s : State), Accepted 0x0C03 cmdMsRosterSet r s := ⟨rqs [] (le 2 0 ++ le 2 1 ++ zeros 36), withSheet (le 2 0 ++ le 2 1 ++ zeros 36) up, by decide +kernel⟩
theorem test_msLeave : ∃ (r : Request) (s : State), Accepted 0x0C05 cmdMsLeave r s := ⟨rq [], roster, by decide +kernel⟩
theorem test_msXbusSet : ∃ (r : Request) (s : State), Accepted 0x0C07 cmdMsXbusSet r s := ⟨rq (zeros 8), bus, by decide +kernel⟩
theorem test_msMembersGet : ∃ (r : Request) (s : State), Accepted 0x0C08 cmdMsMembersGet r s := ⟨rq (zeros 2), up, by decide +kernel⟩

/-- Every command of `msRows` is accepted somewhere. -/
theorem test_msRows : ∀ e ∈ msRows, ∃ (r : Request) (s : State), Accepted e.op e.cmd r s := by
  simp only [msRows, List.forall_mem_cons]
  exact ⟨test_msStatusGet, test_msConfig, test_msRosterSet, test_msLeave, test_msXbusSet, test_msMembersGet, fun _ h => absurd h (List.not_mem_nil)⟩

theorem test_sealRun : ∃ (r : Request) (s : State), Accepted 0x0D01 cmdSealRun r s := ⟨rqs ([0, 0, 1] ++ zeros 53) (zeros 4), withSheet (zeros 4) up, by decide +kernel⟩
theorem test_sealStatusGet : ∃ (r : Request) (s : State), Accepted 0x0D02 cmdSealStatusGet r s := ⟨rq [], up, by decide +kernel⟩
theorem test_sealDigestGet : ∃ (r : Request) (s : State), Accepted 0x0D03 cmdSealDigestGet r s := ⟨rq [], up, by decide +kernel⟩
theorem test_sealRegionRun : ∃ (r : Request) (s : State), Accepted 0x0D10 cmdSealRegionRun r s := ⟨rx (le 8 0x10000000 ++ le 4 64 ++ [0, 1] ++ zeros 50), up, by decide +kernel⟩

/-- Every command of `sealRows` is accepted somewhere. -/
theorem test_sealRows : ∀ e ∈ sealRows, ∃ (r : Request) (s : State), Accepted e.op e.cmd r s := by
  simp only [sealRows, List.forall_mem_cons]
  exact ⟨test_sealRun, test_sealStatusGet, test_sealDigestGet, test_sealRegionRun, fun _ h => absurd h (List.not_mem_nil)⟩

theorem test_rtStatusGet : ∃ (r : Request) (s : State), Accepted 0x0E01 cmdRtStatusGet r s := ⟨rq [], up, by decide +kernel⟩
theorem test_rtConfig : ∃ (r : Request) (s : State), Accepted 0x0E02 cmdRtConfig r s := ⟨rq [4, 8, 2, 0], up, by decide +kernel⟩
theorem test_rtNibTest : ∃ (r : Request) (s : State), Accepted 0x0E03 cmdRtNibTest r s := ⟨rq (zeros 4), up, by decide +kernel⟩
theorem test_rtMigrate : ∃ (r : Request) (s : State), Accepted 0x0E04 cmdRtMigrate r s := ⟨rq (zeros 4), up, by decide +kernel⟩
theorem test_rtShedSet : ∃ (r : Request) (s : State), Accepted 0x0E05 cmdRtShedSet r s := ⟨rq [0, 0, 0, 0, 1, 0, 4, 0], up, by decide +kernel⟩
theorem test_rtShedGet : ∃ (r : Request) (s : State), Accepted 0x0E06 cmdRtShedGet r s := ⟨rq (zeros 4), up, by decide +kernel⟩
theorem test_rtRepairGet : ∃ (r : Request) (s : State), Accepted 0x0E07 cmdRtRepairGet r s := ⟨rq [], up, by decide +kernel⟩
theorem test_btStatusGet : ∃ (r : Request) (s : State), Accepted 0x0E08 cmdBtStatusGet r s := ⟨rq [], up, by decide +kernel⟩
theorem test_rtRowRetire : ∃ (r : Request) (s : State), Accepted 0x0E18 cmdRtRowRetire r s := ⟨rx (zeros 4), up, by decide +kernel⟩
theorem test_btInject : ∃ (r : Request) (s : State), Accepted 0x0E19 cmdBtInject r s := ⟨rx [0, 0, 1], up, by decide +kernel⟩
theorem test_cbList : ∃ (r : Request) (s : State), Accepted 0x0E20 cmdCbList r s := ⟨rq [], up, by decide +kernel⟩
theorem test_cbRun : ∃ (r : Request) (s : State), Accepted 0x0E21 cmdCbRun r s := ⟨rq [0, 0, 2, 0], maint, by decide +kernel⟩
theorem test_cbAbort : ∃ (r : Request) (s : State), Accepted 0x0E22 cmdCbAbort r s := ⟨rq [], maint, by decide +kernel⟩
theorem test_cbResultGet : ∃ (r : Request) (s : State), Accepted 0x0E23 cmdCbResultGet r s := ⟨rq (zeros 4), up, by decide +kernel⟩

/-- Every command of `rtRows` is accepted somewhere. -/
theorem test_rtRows : ∀ e ∈ rtRows, ∃ (r : Request) (s : State), Accepted e.op e.cmd r s := by
  simp only [rtRows, List.forall_mem_cons]
  exact ⟨test_rtStatusGet, test_rtConfig, test_rtNibTest, test_rtMigrate, test_rtShedSet, test_rtShedGet, test_rtRepairGet, test_btStatusGet, test_rtRowRetire, test_btInject, test_cbList, test_cbRun, test_cbAbort, test_cbResultGet, fun _ h => absurd h (List.not_mem_nil)⟩

theorem test_vlStatusGet : ∃ (r : Request) (s : State), Accepted 0x0F01 cmdVlStatusGet r s := ⟨rq [], up, by decide +kernel⟩
theorem test_vlRead : ∃ (r : Request) (s : State), Accepted 0x0F02 cmdVlRead r s := ⟨rq [0, 0, 16, 0], up, by decide +kernel⟩
theorem test_vlExport : ∃ (r : Request) (s : State), Accepted 0x0F03 cmdVlExport r s := ⟨rq (zeros 20), up, by decide +kernel⟩
theorem test_vlSave : ∃ (r : Request) (s : State), Accepted 0x0F04 cmdVlSave r s := ⟨rq [], up, by decide +kernel⟩

/-- Every command of `vlRows` is accepted somewhere. -/
theorem test_vlRows : ∀ e ∈ vlRows, ∃ (r : Request) (s : State), Accepted e.op e.cmd r s := by
  simp only [vlRows, List.forall_mem_cons]
  exact ⟨test_vlStatusGet, test_vlRead, test_vlExport, test_vlSave, fun _ h => absurd h (List.not_mem_nil)⟩

theorem test_expRegRead : ∃ (r : Request) (s : State), Accepted 0x1001 cmdRegRead r s := ⟨rx (le 8 0x30000000 ++ le 2 1 ++ zeros 6), up, by decide +kernel⟩
theorem test_expRegWrite : ∃ (r : Request) (s : State), Accepted 0x1002 cmdRegWrite r s := ⟨rx (le 8 0x30000000 ++ le 2 1 ++ zeros 6 ++ le 4 0), up, by decide +kernel⟩

/-- Every command of `expRows` is accepted somewhere. -/
theorem test_expRows : ∀ e ∈ expRows, ∃ (r : Request) (s : State), Accepted e.op e.cmd r s := by
  simp only [expRows, List.forall_mem_cons]
  exact ⟨test_expRegRead, test_expRegWrite, fun _ h => absurd h (List.not_mem_nil)⟩

/-! ### A witness for every clause of every statement -/


theorem test_EmptyQueueIdles_1 : ∃ s : State, s.pending = [] := ⟨State.reset, rfl⟩

theorem test_StepKeepsTheVariantAndTakesTheFront_1 : ∃ s t : State, step s = .next t := ⟨State.reset, State.reset, rfl⟩

theorem test_EveryCommandKeepsTheRest_1 : ∃ (c : Instr) (s t : State), exec c s = .next t := ⟨.hspiStatus, State.reset, _, rfl⟩


theorem test_MemoriesStayCanonical_1 : ∃ s t : State, MemoriesCanonical s ∧ step s = .next t := ⟨State.reset, State.reset, by decide, rfl⟩

theorem test_ResetState_1 : ∃ n, 2 ≤ n := ⟨2, by decide⟩

theorem test_RequestsOfNoClientFault_1 : ∃ e ∈ sprinileRows, ∃ r : Request, 64 ≤ r.client := ⟨_, .head _, { rq [] with client := 64 }, by decide⟩
theorem test_RequestsOfNoClientFault_2 : ∃ e ∈ sprinileRows, ∃ r : Request, r.client < 64 := ⟨_, .head _, rq [], by decide⟩

theorem test_UnboundAndHeldServeNothing_1 : ∃ e ∈ sprinileRows, ∃ (r : Request) (s : State), r.client < 64 ∧ (well s r.client).bind = .unbound := ⟨_, .head _, { rq [] with client := 2 }, up, by decide⟩
theorem test_UnboundAndHeldServeNothing_2 : ∃ e ∈ sprinileRows, ∃ (r : Request) (s : State), r.client < 64 ∧ s.power.mode = .held := ⟨_, .head _, rq [], held, by decide⟩
theorem test_UnboundAndHeldServeNothing_3 : ∃ e ∈ sprinileRows, ∃ (r : Request) (s : State), r.client < 64 ∧ (well s r.client).bind ≠ .unbound ∧ s.power.mode ≠ .held ∧ ringable s r.client = false := ⟨_, .head _, rq [], fullRing, by decide +kernel⟩
theorem test_UnboundAndHeldServeNothing_4 : ∃ e ∈ sprinileRows, ∃ (r : Request) (s : State), r.client < 64 ∧ (well s r.client).bind ≠ .unbound ∧ s.power.mode ≠ .held ∧ ringable s r.client = true ∧ s.boot.inkBasic = true ∧ itsTurn s r.client = false := ⟨_, .head _, rq [], otherTurn, by decide +kernel⟩

theorem test_EarlyRequestsAreNotReady_1 : ∃ e ∈ sprinileRows, ∃ (r : Request) (s : State), Taken r s ∧ admitted e.op s = false := ⟨_, .head _, rq [], { up with boot := { up.boot with inkBasic := false } }, by decide +kernel⟩
theorem test_EarlyRequestsAreNotReady_2 : ∃ s : State, s.boot.inkBasic = false := ⟨State.reset, rfl⟩

theorem test_RefusedRequestsChangeNothing_1 : ∃ e ∈ sprinileRows, ∃ (r : Request) (s : State) (st : Status) (d : Bytes), Reaches e.op r s ∧ verdict e.op r s = .execute ∧ sheetFound e.op r s = true ∧ checks e.op e.cmd r s = some (st, d) := ⟨_, .head _, rq [0], up, .badLength, [], by decide +kernel⟩
theorem test_RefusedRequestsChangeNothing_2 : ∃ e ∈ sprinileRows, ∃ (r : Request) (s : State), Reaches e.op r s ∧ verdict e.op r s = .execute ∧ sheetFound e.op r s = false := ⟨_, .head _, noSheetReq, noSheets, by decide +kernel⟩
theorem test_RefusedRequestsChangeNothing_3 : ∃ e ∈ sprinileRows, ∃ (r : Request) (s : State), Reaches e.op r s ∧ verdict e.op r s = .execute ∧ sheetFound e.op r s = true ∧ checks e.op e.cmd r s = none ∧ succeeded (effect e.op e.cmd r s).status = false ∧ (effect e.op e.cmd r s).keep = false := ⟨⟨0x0110, .sysRoleSet, cmdRoleSet⟩, .tail _ (.tail _ (.head _)), rq [4, 0, 0, 0], up, by decide +kernel⟩

theorem test_ResentRequestsAreNotExecuted_1 : ∃ e ∈ sprinileRows, ∃ (r : Request) (s : State) (q : Reply), Reaches e.op r s ∧ verdict e.op r s = .resend q := ⟨_, .head _, rq [], resentState (some { opcode := 0x0101, seq := 7, status := .ok }), { opcode := 0x0101, seq := 7, status := .ok }, by decide +kernel⟩
theorem test_ResentRequestsAreNotExecuted_2 : ∃ e ∈ sprinileRows, ∃ (r : Request) (s : State), Reaches e.op r s ∧ verdict e.op r s = .running := ⟨_, .head _, rq [], resentState none, by decide +kernel⟩
theorem test_ResentRequestsAreNotExecuted_3 : ∃ e ∈ sprinileRows, ∃ (r : Request) (s : State), Reaches e.op r s ∧ verdict e.op r s = .conflict := ⟨_, .head _, rq [], modWell 0 (fun w => { w with fresh := false, lastSeq := 7 }) up, by decide +kernel⟩
theorem test_ResentRequestsAreNotExecuted_4 : ∃ (n : Nat) (s : State), n < 64 ∧ (well s n).bind ≠ .unbound := ⟨63, setWell 63 { bind := .net } up, by decide +kernel⟩

theorem test_UnknownOpcodesAreRefused_1 : ∃ (op : Nat) (r : Request) (s : State), (opRow op).isSome = false ∧ Reaches op r s ∧ verdict op r s = .execute ∧ sheetFound op r s = true := ⟨0x0103, rq [], up, by decide +kernel⟩







theorem test_ManuscriptCommandsComplete_1 : ∃ (r : Request) (s : State), Accepted 0x0C04 cmdMsJoin r (msBegin s) := ⟨rq [], joinState, by decide +kernel⟩
theorem test_ManuscriptCommandsComplete_2 : ∃ (r : Request) (s : State), Accepted 0x0C06 cmdMsFlourish r (msBegin s) := ⟨rq (le 2 1 ++ zeros 6), flourishState, by decide +kernel⟩


theorem test_DoorbellRange_1 : ∃ (via : Via) (n v : Nat) (heads : List Head) (s : State), reach via s = true ∧ boundTo via n s = true ∧ v < 65536 ∧ 1 ≤ (v + 65536 - (well s n).reqProd) % 65536 ∧ (v + 65536 - (well s n).reqProd) % 65536 ≤ 16 ∧ (v + 65536 - (well s n).repCons) % 65536 ≤ 16 ∧ heads = [] := ⟨.pcie, 0, 16, [], up, by decide +kernel⟩
theorem test_DoorbellRange_2 : ∃ (via : Via) (n v : Nat) (heads : List Head) (s : State), reach via s = true ∧ boundTo via n s = true ∧ v < 65536 ∧ ((v + 65536 - (well s n).reqProd) % 65536 = 0 ∨ 16 < (v + 65536 - (well s n).reqProd) % 65536 ∨ 16 < (v + 65536 - (well s n).repCons) % 65536) ∧ heads = [] := ⟨.pcie, 0, 17, [], up, by decide +kernel⟩
theorem test_DoorbellRange_3 : ∃ n i : Nat, n < 64 ∧ i = 0 := ⟨63, 0, by decide⟩

theorem test_ConsumerIndexes_1 : ∃ (via : Via) (n v k : Nat) (s : State), reach via s = true ∧ boundTo via n s = true ∧ k = (v % 65536 + 65536 - (well s n).repCons) % 65536 ∧ k ≤ (well s n).replies.length := ⟨.pcie, 0, 1, 1, modWell 0 (fun w => { w with replies := [{ opcode := 0x0101, seq := 1, status := .ok }], repProd := 1 }) up, by decide +kernel⟩
theorem test_ConsumerIndexes_2 : ∃ (via : Via) (n v : Nat) (s : State), reach via s = true ∧ boundTo via n s = true ∧ (well s n).replies.length < (v % 65536 + 65536 - (well s n).repCons) % 65536 := ⟨.pcie, 0, 1, up, by decide +kernel⟩
theorem test_ConsumerIndexes_3 : ∃ (via : Via) (n v k : Nat) (s : State), reach via s = true ∧ boundTo via n s = true ∧ k = (v % 65536 + 65536 - (well s n).evtCons) % 65536 ∧ k ≤ (well s n).events.length := ⟨.pcie, 0, 1, 1, modWell 0 (fun w => { w with events := [{ type := 1, evtSeq := 1, ssi := 0, payload := [] }], evtProd := 1 }) up, by decide +kernel⟩
theorem test_ConsumerIndexes_4 : ∃ (via : Via) (n v : Nat) (s : State), reach via s = true ∧ boundTo via n s = true ∧ (well s n).events.length < (v % 65536 + 65536 - (well s n).evtCons) % 65536 := ⟨.pcie, 0, 1, up, by decide +kernel⟩

theorem test_InkwellControl_1 : ∃ (via : Via) (n : Nat) (s : State), reach via s = true ∧ openable n s = true := ⟨.pcie, 7, up, by decide +kernel⟩
theorem test_InkwellControl_2 : ∃ (via : Via) (n : Nat) (s : State), reach via s = true ∧ boundTo via n s = true ∧ 2 ≤ n := ⟨.pcie, 2, setWell 2 { bind := .pcie } up, by decide +kernel⟩
theorem test_InkwellControl_3 : ∃ (via : Via) (n : Nat) (s : State), reach via s = true ∧ boundTo via n s = true := ⟨.pcie, 0, up, by decide +kernel⟩
theorem test_InkwellControl_4 : ∃ (via : Via) (n : Nat) (s : State), reach via s = true ∧ ((well s n).bind ≠ .unbound ∨ n < 2) := ⟨.pcie, 2, setWell 2 { bind := .hspi } up, by decide +kernel⟩
theorem test_InkwellControl_5 : ∃ (via : Via) (n : Nat) (s : State), reach via s = true ∧ (boundTo via n s = false ∨ n < 2) := ⟨.pcie, 1, up, by decide +kernel⟩
theorem test_InkwellControl_6 : ∃ (via : Via) (n : Nat) (s : State), reach via s = true ∧ boundTo via n s = false := ⟨.pcie, 1, up, by decide +kernel⟩

theorem test_ForeignSheetAccesses_1 : ∃ (via : Via) (n : Nat) (s : State), reach via s = true ∧ boundTo via n s = false := ⟨.pcie, 1, up, by decide +kernel⟩

theorem test_ResetCauseNeedsAdmin_1 : ∃ (via : Via) (s : State), reach via s = true ∧ (well s (match via with | .pcie => 0 | .hspi => 1)).role = 5 := ⟨.pcie, up, by decide +kernel⟩
theorem test_ResetCauseNeedsAdmin_2 : ∃ (via : Via) (s : State), reach via s = true ∧ (well s (match via with | .pcie => 0 | .hspi => 1)).role ≠ 5 := ⟨.hspi, up, by decide +kernel⟩

theorem test_EmptyCartridgeRead_1 : ∃ (n : Nat) (s : State), cartPresent s.variant n = true ∧ (cartAt s n).words = [] := ⟨0, up, by decide +kernel⟩

theorem test_CollidingAtomic_1 : ∃ (q : FeedAtomic) (v : Nat) (s : State), q.master < 10 ∧ q.kind ≤ 2 ∧ regionOf s q.addr = some .exch ∧ permitted s q.master true .exch q.addr = true ∧ q.addr % 8 = 0 ∧ poisoned s q.addr = false ∧ q.uncorr = false ∧ q.collide = some v := ⟨{ master := 0, kind := 2, addr := 0x14000008, a := 1, collide := some 5 }, 5, up, by decide +kernel⟩

theorem test_SomeAdminRemains_1 : ∃ (r : Request) (s t : State), Reaches 0x0112 r s ∧ verdict 0x0112 r s = .execute ∧ sheetFound 0x0112 r s = true ∧ checks 0x0112 cmdGrantSet r s = none ∧ grantWrite (u8 (context 0x0112 r s).p 0) (u8 (context 0x0112 r s).p 1) (if u8 (context 0x0112 r s).p 0 = 0 then u8 (context 0x0112 r s).p 4 else ofLe (slice (context 0x0112 r s).p 4 32)) (checked 0x0112 r s) = some t ∧ someAdmin t = false := ⟨rq ([0, 3, 0, 0, 0] ++ zeros 31), up, _, by decide +kernel, by decide +kernel, by decide +kernel, by decide +kernel, rfl, by decide +kernel⟩


theorem test_HostRegisterAccessesComplete_1 : ∃ (via : Via) (off : Nat) (data : Bytes) (s : State), reach via s = true ∧ off < 0x100000 ∧ off % 4 = 0 ∧ data.length = 4 := ⟨.pcie, 0x1C, [1,0,0,0], up, by decide +kernel⟩
theorem test_HostRegisterAccessesComplete_2 : ∃ (via : Via) (off : Nat) (data : Bytes) (s : State), reach via s = true ∧ off < 0x100000 ∧ (off % 4 ≠ 0 ∨ data.length ≠ 4) := ⟨.pcie, 0x1C, [1,0], up, by decide +kernel⟩
theorem test_HostRegisterAccessesComplete_3 : ∃ (via : Via) (off : Nat) (data : Bytes) (s : State), reach via s = true ∧ 0x100000 ≤ off ∧ off < 0x500000 ∧ inkAccess via true off data.length = true := ⟨.hspi, 0x101000, [1,0,0,0], up, by decide +kernel⟩
theorem test_HostRegisterAccessesComplete_4 : ∃ (via : Via) (s : State), reach via s = true ∧ s.boot.stage = .waitHost := ⟨.pcie, { up with boot := { up.boot with stage := .waitHost } }, by decide +kernel⟩
theorem test_HostRegisterAccessesComplete_5 : ∃ (s : State), reach .hspi s = true := ⟨up, by decide +kernel⟩
theorem test_HostRegisterAccessesComplete_6 : ∃ (s : State), reach .pcie s = true := ⟨up, by decide +kernel⟩

theorem test_SheetPoolAccessesComplete_1 : ∃ (via : Via) (n : Nat) (s : State), reach via s = true ∧ boundTo via n s = true := ⟨.pcie, 0, up, by decide +kernel⟩
theorem test_SheetPoolAccessesComplete_2 : ∃ (via : Via) (n h : Nat) (s : State), reach via s = true ∧ boundTo via n s = true ∧ holderOf s (h % 2048) = .client n := ⟨.pcie, 0, 5, setHolder 5 (.client 0) up, by decide +kernel⟩
theorem test_SheetPoolAccessesComplete_3 : ∃ (via : Via) (n h : Nat) (s : State), reach via s = true ∧ boundTo via n s = true ∧ holderOf s (h % 2048) ≠ .client n := ⟨.pcie, 0, 5, up, by decide +kernel⟩
theorem test_SheetPoolAccessesComplete_4 : ∃ (via : Via) (off : Nat) (data : Bytes) (s : State), reach via s = true ∧ memoriesHeld s = false ∧ romRuns s = false ∧ off < 0x800000 ∧ off % 4096 + data.length ≤ 4096 ∧ data ≠ [] ∧ localHolder s (off / 4096) = true := ⟨.pcie, 0x5000, [1,2], setHolder 5 (.client 0) up, by decide +kernel⟩
theorem test_SheetPoolAccessesComplete_5 : ∃ (via : Via) (off : Nat) (data : Bytes) (s : State), reach via s = true ∧ memoriesHeld s = false ∧ romRuns s = false ∧ off < 0x800000 ∧ off % 4096 + data.length ≤ 4096 ∧ data ≠ [] ∧ localHolder s (off / 4096) = false := ⟨.pcie, 0x5000, [1,2], up, by decide +kernel⟩
theorem test_SheetPoolAccessesComplete_6 : ∃ (via : Via) (off : Nat) (data : Bytes) (s : State), reach via s = true ∧ memoriesHeld s = false ∧ romRuns s = true ∧ off < 0x801000 := ⟨.pcie, 0, [1,2], { up with boot := { up.boot with stage := .waitHost } }, by decide +kernel⟩
theorem test_SheetPoolAccessesComplete_7 : ∃ (via : Via) (n v : Nat) (heads : List Head) (s : State), reach via s = true ∧ openable n s = true := ⟨.pcie, 2, 1, [], up, by decide +kernel⟩

theorem test_HspiTransfersComplete_1 : ∃ (a : Nat) (b : Bytes) (s : State), s.host.hspiUp = true ∧ s.host.hspiBuf = none ∧ hspiOk a b.length = true := ⟨0x1C, [1,0,0,0], up, by decide +kernel⟩
theorem test_HspiTransfersComplete_2 : ∃ (a : Nat) (b : Bytes) (s : State), s.host.hspiUp = true ∧ s.host.hspiBuf.isSome = true := ⟨0x1C, [1,0,0,0], modHost (fun h => { h with hspiBuf := some (0, []) }) up, by decide +kernel⟩
theorem test_HspiTransfersComplete_3 : ∃ (a : Nat) (b : Bytes) (s : State), s.host.hspiUp = true ∧ s.host.hspiBuf = none ∧ hspiOk a b.length = false := ⟨0x1D, [1,0,0,0], up, by decide +kernel⟩
theorem test_HspiTransfersComplete_4 : ∃ (a : Nat) (b : Bytes) (s : State), s.host.hspiBuf = some (a, b) := ⟨0x1C, [1,0,0,0], modHost (fun h => { h with hspiBuf := some (0x1C, [1,0,0,0]) }) up, by decide +kernel⟩
theorem test_HspiTransfersComplete_5 : ∃ (a n : Nat) (s : State), s.host.hspiUp = true ∧ a % 4 = 0 := ⟨0, 4, up, by decide +kernel⟩
theorem test_HspiTransfersComplete_6 : ∃ (a n : Nat) (s : State), s.host.hspiUp = true ∧ a % 4 = 0 := ⟨0, 4, up, by decide +kernel⟩
theorem test_HspiTransfersComplete_7 : ∃ (a n : Nat) (onTime : Bool) (s : State), s.host.hspiUp = true ∧ a % 4 ≠ 0 := ⟨1, 4, true, up, by decide +kernel⟩
theorem test_HspiTransfersComplete_8 : ∃ (s : State), s.host.hspiUp = true := ⟨up, by decide +kernel⟩
theorem test_HspiTransfersComplete_9 : ∃ (s : State), s.host.hspiUp = true := ⟨up, by decide +kernel⟩

theorem test_BoardPinsComplete_1 : ∃ (data : Bytes) (s : State), i2cUp s = true ∧ data ≠ [] := ⟨[1], up, by decide +kernel⟩
theorem test_BoardPinsComplete_2 : ∃ (ptr n : Nat) (x : Bytes) (s : State), i2cUp s = true ∧ x = i2cBytes s ptr n := ⟨0, 4, i2cBytes up 0 4, up, by decide +kernel⟩
theorem test_BoardPinsComplete_3 : ∃ (on : Bool) (s : State), i2cUp s = true := ⟨true, up, by decide +kernel⟩
theorem test_BoardPinsComplete_4 : ∃ (pin : Nat) (level : Bool) (s : State), s.power.mode ≠ .held ∧ pin < 16 ∧ bit s.host.pins pin ≠ level ∧ (gpioPin s pin).func = 0 ∧ (gpioPin s pin).event = true := ⟨3, false, modHost (fun h => { h with gpio := [(3, { event := true })] }) up, by decide +kernel⟩
theorem test_BoardPinsComplete_5 : ∃ (pin : Nat) (level : Bool) (s : State), s.power.mode ≠ .held ∧ pin < 16 ∧ bit s.host.pins pin ≠ level ∧ ((gpioPin s pin).func ≠ 0 ∨ (gpioPin s pin).event = false) := ⟨3, false, up, by decide +kernel⟩
theorem test_BoardPinsComplete_6 : ∃ (ack : Bool) (mv : Nat) (s : State), avsEn s = true ∧ s.power.mode ≠ .held ∧ s.host.avs.setMv < avsWant s := ⟨true, 760, slow, by decide +kernel⟩
theorem test_BoardPinsComplete_7 : ∃ (ack : Bool) (mv : Nat) (s : State), avsEn s = true ∧ s.power.mode ≠ .held ∧ avsWant s < s.host.avs.setMv ∧ s.host.avs.fault = false := ⟨true, 840, fast, by decide +kernel⟩
theorem test_BoardPinsComplete_8 : ∃ (ack : Bool) (mv : Nat) (s : State), avsEn s = true ∧ s.power.mode ≠ .held ∧ s.host.avs.fault = true ∧ s.host.avs.faultMs + 10 ≤ s.stem.ms := ⟨true, 760, modHost (fun h => { h with avs := { h.avs with fault := true } }) slow, by decide +kernel⟩
theorem test_BoardPinsComplete_9 : ∃ (temp : Int) (s : State), s.power.mode ≠ .held := ⟨400, up, by decide +kernel⟩
theorem test_BoardPinsComplete_10 : ∃ (s : State), s.power.mode ≠ .held ∧ s.host.bmcWarn = false ∧ (failPin s).isSome = true ∧ s.boot.pwrFail = false := ⟨up, by decide +kernel⟩
theorem test_BoardPinsComplete_11 : ∃ (s : State), s.power.mode ≠ .held ∧ s.host.bmcWarn = false ∧ s.boot.pwrFail = true := ⟨{ up with boot := { up.boot with pwrFail := true } }, by decide +kernel⟩
theorem test_BoardPinsComplete_12 : ∃ (s : State), 2 ≤ s.host.lowRun := ⟨modHost (fun h => { h with lowRun := 2 }) up, by decide +kernel⟩
theorem test_BoardPinsComplete_13 : ∃ (s : State), s.host.lowRun < 2 ∧ 10 ≤ s.host.highRun := ⟨modHost (fun h => { h with highRun := 10 }) up, by decide +kernel⟩

theorem test_PcieEventsComplete_1 : ∃ (s : State), s.power.mode ≠ .held ∧ s.host.pcie.perst = false := ⟨up, by decide +kernel⟩
theorem test_PcieEventsComplete_2 : ∃ (gen lanes : Nat) (s : State), s.power.mode ≠ .held ∧ s.stem.xoIn = true ∧ (1 ≤ gen ∧ gen ≤ u8 (boardBytes s) 12) ∧ (lanes = 1 ∨ lanes = 2 ∨ lanes = 4) ∧ lanes ≤ u8 (boardBytes s) 13 := ⟨4, 4, up, by decide +kernel⟩
theorem test_PcieEventsComplete_3 : ∃ (s : State), s.host.pcie.trained = true := ⟨up, by decide +kernel⟩
theorem test_PcieEventsComplete_4 : ∃ (s : State), s.host.pcie.trained = true ∧ s.host.pcie.dstate = 0 := ⟨up, by decide +kernel⟩
theorem test_PcieEventsComplete_5 : ∃ (s : State), s.host.pcie.trained = true ∧ s.host.pcie.dstate = 3 := ⟨modPcie (fun p => { p with dstate := 3 }) up, by decide +kernel⟩
theorem test_PcieEventsComplete_6 : ∃ (on : Bool) (s : State), s.host.pcie.trained = true := ⟨true, up, by decide +kernel⟩
theorem test_PcieEventsComplete_7 : ∃ (s : State), s.host.pcie.trained = true ∧ s.host.pcie.linkL0 = true := ⟨up, by decide +kernel⟩
theorem test_PcieEventsComplete_8 : ∃ (fnMask : Bool) (a : State) (s : State), a = access .pcie s ∧ a.host.pcie.trained = true ∧ a.host.pcie.perst = false ∧ a.host.pcie.stale = true := ⟨false, access .pcie (modPcie (fun p => { p with stale := true }) up), modPcie (fun p => { p with stale := true }) up, by decide +kernel⟩
theorem test_PcieEventsComplete_9 : ∃ (on fnMask : Bool) (a : State) (s : State), a = access .pcie s ∧ a.host.pcie.trained = true ∧ a.host.pcie.perst = false ∧ a.host.pcie.stale = false := ⟨true, false, access .pcie up, up, by decide +kernel⟩

theorem test_SessionsComplete_1 : ∃ (s : State), tlsOpen s = true ∧ s.ink.tls < 8 := ⟨up, by decide +kernel⟩
theorem test_SessionsComplete_2 : ∃ (s : State), tlsOpen s = true ∧ 8 ≤ s.ink.tls ∧ s.ink.tlsQueue < 64 := ⟨{ up with ink := { up.ink with tls := 8 } }, by decide +kernel⟩
theorem test_SessionsComplete_3 : ∃ (cert : Bool) (s : State), tlsOpen s = true ∧ 8 ≤ s.ink.tls ∧ 64 ≤ s.ink.tlsQueue := ⟨true, { up with ink := { up.ink with tls := 8, tlsQueue := 64 } }, by decide +kernel⟩
theorem test_SessionsComplete_4 : ∃ (key n : Nat) (s : State), tlsOpen s = true ∧ s.ink.tls ≠ 0 ∧ keyGrant s key ≠ 0 ∧ sessionWell (tlsDone s) = some n := ⟨7, 8, { up with ink := { up.ink with tls := 1 } }, by decide +kernel⟩
theorem test_SessionsComplete_5 : ∃ (key : Nat) (s : State), tlsOpen s = true ∧ s.ink.tls ≠ 0 ∧ keyGrant s key = 0 := ⟨7, { up with ink := { up.ink with tls := 1, anonRole := 0 } }, by decide +kernel⟩
theorem test_SessionsComplete_6 : ∃ (key tok last n : Nat) (s : State), tlsOpen s = true ∧ s.ink.tls ≠ 0 ∧ keyGrant s key ≠ 0 ∧ resumable (tlsDone s) tok key = some n := ⟨7, 99, 0, 8, setWell 8 { bind := .net, keyHash := 7, token := 99, dropped := true } { up with ink := { up.ink with tls := 1 } }, by decide +kernel⟩
theorem test_SessionsComplete_7 : ∃ (key tok last : Nat) (s : State), tlsOpen s = true ∧ s.ink.tls ≠ 0 ∧ keyGrant s key ≠ 0 ∧ resumable (tlsDone s) tok key = none := ⟨7, 99, 0, { up with ink := { up.ink with tls := 1 } }, by decide +kernel⟩
theorem test_SessionsComplete_8 : ∃ (n : Nat) (s : State), live n s = true := ⟨8, sess, by decide +kernel⟩
theorem test_SessionsComplete_9 : ∃ (n : Nat) (s : State), live n s = true ∧ 2 ≤ n := ⟨8, sess, by decide +kernel⟩
theorem test_SessionsComplete_10 : ∃ (n size len : Nat) (h : Head) (s : State), live n s = true ∧ (well s n).unanswered < 16 ∧ s.boot.inkBasic = true ∧ size = 32 + len + h.sheetLen ∧ h.sheet = 0 := ⟨8, 32, 0, { opcode := 0x0101, seq := 1 }, sess, by decide +kernel⟩
theorem test_SessionsComplete_11 : ∃ (n : Nat) (s : State), live n s = true := ⟨8, sess, by decide +kernel⟩
theorem test_SessionsComplete_12 : ∃ (n : Nat) (r : Reply) (rest : List Reply) (s : State), live n s = true ∧ (well s n).replies = r :: rest ∧ r.sheetLen = 0 := ⟨8, { opcode := 0x0101, seq := 1, status := .ok }, [], modWell 8 (fun w => { w with replies := [{ opcode := 0x0101, seq := 1, status := .ok }] }) sess, by decide +kernel⟩
theorem test_SessionsComplete_13 : ∃ (n : Nat) (closed : Bool) (s : State), live n s = true ∧ (closed = true ∨ (well s n).lastMs + 15000 ≤ s.stem.ms) := ⟨8, true, sess, by decide +kernel⟩
theorem test_SessionsComplete_14 : ∃ (n : Nat) (s : State), n < 64 ∧ 2 ≤ n ∧ (well s n).bind = .net ∧ (well s n).dropped = true ∧ (well s n).dropMs + 30000 ≤ s.stem.ms := ⟨8, later 30000 (modWell 8 (fun w => { w with dropped := true, connected := false }) sess), by decide +kernel⟩

theorem test_BaselineRegistersComplete_1 : ∃ (w : Word) (s : State), expertMode s = true ∧ fld w.toNat 0 2 ≠ 3 ∧ (¬ (24 < fld w.toNat 2 5 ∧ fld w.toNat 0 2 = 1)) ∧ selectRefused (fld w.toNat 0 2) (fld w.toNat 2 5) s = none := ⟨0, up, by decide +kernel⟩
theorem test_BaselineRegistersComplete_2 : ∃ (w : Word) (s : State), expertMode s = true ∧ (fld w.toNat 0 2 = 3 ∨ (selectRefused (fld w.toNat 0 2) (fld w.toNat 2 5) s).isSome = true) := ⟨3, up, by decide +kernel⟩
theorem test_BaselineRegistersComplete_3 : ∃ (w : Word) (s : State), expertMode s = true ∧ stepRefused (sgn 32 w.toNat) s = none := ⟨5, { up with bl := { up.bl with state := .locked } }, by decide +kernel⟩
theorem test_BaselineRegistersComplete_4 : ∃ (w : Word) (s : State), expertMode s = true ∧ (stepRefused (sgn 32 w.toNat) s).isSome = true := ⟨0x7FFFFFFF, up, by decide +kernel⟩
theorem test_BaselineRegistersComplete_5 : ∃ (w : Word) (s : State), expertMode s = true ∧ s.bl.state = .free := ⟨1000, { up with bl := { up.bl with state := .free } }, by decide +kernel⟩
theorem test_BaselineRegistersComplete_6 : ∃ (w : Word) (s : State), expertMode s = true ∧ s.bl.state ≠ .free := ⟨1000, { up with bl := { up.bl with state := .locked } }, by decide +kernel⟩
theorem test_BaselineRegistersComplete_7 : ∃ (w : Word) (s : State), expertMode s = false := ⟨0, onAir, by decide +kernel⟩
theorem test_BaselineRegistersComplete_8 : ∃ (w : Word) (s : State), expertMode s = false := ⟨0, onAir, by decide +kernel⟩
theorem test_BaselineRegistersComplete_9 : ∃ (w : Word) (s : State), expertMode s = false := ⟨0, onAir, by decide +kernel⟩

theorem test_ReferenceEventsComplete_1 : ∃ (n : Nat) (build fofs : Int) (s : State), criteriaMet s n = true ∧ n ≤ 23 ∧ refAbsent s n = false ∧ (refCfg s n).prio ≠ 0 ∧ (refSt s n).bar = false ∧ (refSt s n).qual = false ∧ (refSt s n).qualMs + max 1 (min (refCfg s n).qualT 60) * 1000 ≤ s.stem.ms ∧ fofs.natAbs ≤ 15000 ∧ tooFar (modRef n (fun r => { r with buildout := build, fofs := fofs }) s) n = false := ⟨4, 0, 0, cand, by decide +kernel⟩
theorem test_ReferenceEventsComplete_2 : ∃ (n cause : Nat) (s : State), n ≤ 23 ∧ refAbsent s n = false ∧ (1 ≤ cause ∧ cause ≤ 10) ∧ (refSt s n).qual = true := ⟨4, 2, qual4, by decide +kernel⟩
theorem test_ReferenceEventsComplete_3 : ∃ (n cause : Nat) (s : State), n ≤ 23 ∧ refAbsent s n = false ∧ (1 ≤ cause ∧ cause ≤ 10) ∧ cause ≠ 8 ∧ (refSt s n).qual = false := ⟨4, 2, up, by decide +kernel⟩
theorem test_ReferenceEventsComplete_4 : ∃ (n t : Nat) (s : State), (refSt s n).bar = true ∧ (refSt s n).barUntil = some t ∧ t ≤ s.stem.ms := ⟨4, 5, modRef 4 (fun r => { r with bar := true, barUntil := some 5 }) up, by decide +kernel⟩
theorem test_ReferenceEventsComplete_5 : ∃ (b : Nat) (s : State), bestRef s = some b ∧ s.bl.selmode = 0 ∧ following s = true ∧ s.bl.sel ≠ 24 ∧ revertDue s b = true ∧ s.stem.ssi % 8 = 0 := ⟨4, revert, by decide +kernel⟩
theorem test_ReferenceEventsComplete_6 : ∃ (n : Nat) (dev fofs build : Int) (s : State), 4 ≤ n ∧ n ≤ 23 ∧ refAbsent s n = false ∧ refPowered s n = true ∧ baselineTested s = false ∧ fofs.natAbs ≤ 15000 ∧ following s = true ∧ s.bl.sel = n ∧ measuredAtBoundary n = false := ⟨5, 3, 4, 5, { qual4 with bl := { qual4.bl with state := .locked, sel := 5 } }, by decide +kernel⟩
theorem test_ReferenceEventsComplete_7 : ∃ (n : Nat) (dev fofs build : Int) (s : State), 4 ≤ n ∧ n ≤ 23 ∧ refAbsent s n = false ∧ refPowered s n = true ∧ baselineTested s = false ∧ fofs.natAbs ≤ 15000 ∧ tooFar (modRef n (fun r => { r with dev := dev, fofs := fofs, buildout := build, los := false }) s) n = false ∧ (following s = false ∨ s.bl.sel ≠ n) := ⟨4, 3, 4, 5, up, by decide +kernel⟩
theorem test_ReferenceEventsComplete_8 : ∃ (err : Int) (m : Nat) (s : State), s.bl.state = .acquiring ∧ err.natAbs ≤ lockThreshold s.bl.sel ∧ s.bl.inMs = some m ∧ m + 2000 ≤ s.stem.ms ∧ s.bl.aligning = false ∧ s.bl.thetaStep = false ∧ (s.stem.jamArmed = false ∨ 4 ≤ s.bl.sel ∨ s.bl.jamDue = true) ∧ s.power.mode ≠ .standby := ⟨0, 0, { up with bl := { up.bl with state := .acquiring, sel := 4, inMs := some 0 } }, by decide +kernel⟩
theorem test_ReferenceEventsComplete_9 : ∃ (s : State), s.bl.state = .locked ∧ s.bl.lockMs + 10000 ≤ s.stem.ms := ⟨{ up with bl := { up.bl with state := .locked, lockMs := 0 } }, by decide +kernel⟩
theorem test_ReferenceEventsComplete_10 : ∃ (s : State), s.bl.hoValid = true ∧ s.bl.nvsMs + 600000 ≤ s.stem.ms := ⟨later 600000 { up with bl := { up.bl with hoValid := true } }, by decide +kernel⟩
theorem test_ReferenceEventsComplete_11 : ∃ (sec : Nat) (s : State), s.bl.state = .holdover ∧ s.bl.hoWait = false ∧ s.bl.policy.hoLimit ≠ 0 ∧ s.bl.hoMs + s.bl.policy.hoLimit * 1000 ≤ s.stem.ms ∧ sec = (s.stem.ms - s.bl.hoMs) / 1000 := ⟨10, { up with bl := { up.bl with state := .holdover, hoMs := 0, policy := { up.bl.policy with hoLimit := 5 } } }, by decide +kernel⟩

theorem test_LoopAndClockEventsComplete_1 : ∃ (theta delta : Int) (s : State), s.stem.jamArmed = true ∧ s.bl.sel < 4 ∧ following s = true ∧ s.bl.aligning = false ∧ s.bl.thetaStep = false ∧ s.bl.jamDue = false ∧ fullMode s.power.mode = true := ⟨3, 4, jam onAir, by decide +kernel⟩
theorem test_LoopAndClockEventsComplete_2 : ∃ (theta delta : Int) (s : State), s.stem.jamArmed = true ∧ s.bl.sel < 4 ∧ following s = true ∧ s.bl.aligning = false ∧ s.bl.thetaStep = false ∧ s.bl.jamDue = false ∧ fullMode s.power.mode = false := ⟨3, 4, jam { up with power := { up.power with mode := .standby } }, by decide +kernel⟩
theorem test_LoopAndClockEventsComplete_3 : ∃ (s : State), s.bl.aligning = true ∧ s.bl.theta.natAbs ≤ pullStep s := ⟨{ up with bl := { up.bl with aligning := true } }, by decide +kernel⟩
theorem test_LoopAndClockEventsComplete_4 : ∃ (s : State), s.bl.buildout.natAbs ≤ s.bl.policy.slewRate := ⟨up, by decide +kernel⟩
theorem test_LoopAndClockEventsComplete_5 : ∃ (s : State), s.bl.state = .free ∧ rampFreq s = s.bl.steer := ⟨{ up with bl := { up.bl with state := .free } }, by decide +kernel⟩
theorem test_LoopAndClockEventsComplete_6 : ∃ (s : State), clkCtrlOpen s = true ∧ s.stem.cfgRate ≠ 3 ∧ (s.stem.cfgFamily ≠ s.stem.family ∨ rateMult s.stem.cfgRate ≠ s.stem.mult) := ⟨{ up with stem := { up.stem with cfgRate := 1 } }, by decide +kernel⟩
theorem test_LoopAndClockEventsComplete_7 : ∃ (s : State), clkCtrlOpen s = false := ⟨onAir, by decide +kernel⟩
theorem test_LoopAndClockEventsComplete_8 : ∃ (s : State), clkCtrlOpen s = true := ⟨up, by decide +kernel⟩
theorem test_LoopAndClockEventsComplete_9 : ∃ (s : State), clkCtrlOpen s = false := ⟨onAir, by decide +kernel⟩
theorem test_LoopAndClockEventsComplete_10 : ∃ (s : State), expertMode s = true := ⟨up, by decide +kernel⟩
theorem test_LoopAndClockEventsComplete_11 : ∃ (s : State), s.stem.stemLock = false ∧ s.power.mode = .booting ∧ s.stem.xoIn = true ∧ s.stem.aonSet = false ∧ s.hush.cfg.ports = [] := ⟨{ up with power := { up.power with mode := .booting }, stem := { up.stem with stemLock := false, xoIn := true } }, by decide +kernel⟩
theorem test_LoopAndClockEventsComplete_12 : ∃ (s : State), s.stem.stemLock = false ∧ s.power.mode = .booting ∧ s.stem.xoIn = true ∧ s.stem.aonSet = true ∧ s.hush.cfg.ports = [] := ⟨{ up with power := { up.power with mode := .booting }, stem := { up.stem with stemLock := false, xoIn := true, aonSet := true, aonMs := 77 } }, by decide +kernel⟩
theorem test_LoopAndClockEventsComplete_13 : ∃ (c : RateChange) (s : State), s.stem.change = some c ∧ c.halted = true ∧ s.stem.ssi % 8 = 0 := ⟨{ family := 0, mult := 2, halted := true }, { up with stem := { up.stem with change := some { family := 0, mult := 2, halted := true } } }, by decide +kernel⟩

theorem test_ModeEventsComplete_1 : ∃ (w : Word) (l : List Nat) (s : State), expertMode s = true ∧ bit w.toNat 8 = true ∧ modeOutcome (fld w.toNat 0 3) false s = .go l := ⟨0x104, [], up, by decide +kernel⟩
theorem test_ModeEventsComplete_2 : ∃ (w : Word) (st : Status) (s : State), expertMode s = true ∧ bit w.toNat 8 = true ∧ modeOutcome (fld w.toNat 0 3) false s = .refuse st := ⟨0x100, .badParam, up, by decide +kernel⟩
theorem test_ModeEventsComplete_3 : ∃ (w : Word) (s : State), expertMode s = true := ⟨1, up, by decide +kernel⟩
theorem test_ModeEventsComplete_4 : ∃ (c : Nat × Nat) (s : State), s.power.stbyDefer = some c ∧ s.power.waking = false ∧ s.stem.ssi % 8 = 0 ∧ s.power.mode ≠ .standby ∧ isPartner s = false ∧ isMember s = false ∧ hushOn s = false := ⟨(0, 5), { up with power := { up.power with stbyDefer := some (0, 5) } }, by decide +kernel⟩
theorem test_ModeEventsComplete_5 : ∃ (c : Nat × Nat) (s : State), s.power.stbyDefer = some c ∧ s.power.waking = false ∧ s.stem.ssi % 8 = 0 ∧ s.power.mode ≠ .standby ∧ isPartner s = false ∧ isMember s = false ∧ hushOn s = true := ⟨(0, 5), { up with power := { up.power with stbyDefer := some (0, 5) }, hush := { up.hush with asserted := true } }, by decide +kernel⟩
theorem test_ModeEventsComplete_6 : ∃ (s : State), s.power.entering = true ∧ s.power.fadeLen ≤ s.power.fadeDone ∧ s.power.gen.len ≤ s.power.gen.done ∧ s.stem.ssi % 8 = 0 ∧ s.power.wakeHeld = none ∧ s.power.wakeAt = 0 := ⟨{ up with power := { up.power with entering := true } }, by decide +kernel⟩
theorem test_ModeEventsComplete_7 : ∃ (s : State), s.power.waking = true ∧ s.boot.inkBasic = false ∧ s.boot.stage = .waking := ⟨waking, by decide +kernel⟩
theorem test_ModeEventsComplete_8 : ∃ (bad : List Nat) (s : State), s.power.waking = true ∧ s.boot.inkBasic = true ∧ s.stem.ssi % 8 = 0 := ⟨[], modBoot (fun b => { b with inkBasic := true }) waking, by decide +kernel⟩
theorem test_ModeEventsComplete_9 : ∃ (s : State), s.power.mode = .standby ∧ s.power.wakeAt ≠ 0 ∧ s.power.wakeAt ≤ s.stem.ssi := ⟨{ up with power := { up.power with mode := .standby, wakeAt := 8 } }, by decide +kernel⟩
theorem test_ModeEventsComplete_10 : ∃ (s : State), s.boot.autosave ≠ 0 ∧ s.boot.autoMs + 1000 * s.boot.autosave ≤ s.stem.ms ∧ s.boot.stage = .ready ∧ s.power.mode ≠ .standby ∧ resumeStale s = true := ⟨{ later 600000 up with boot := { up.boot with autosave := 60, autoRec := { serif := [(0, {})] } } }, by decide +kernel⟩

theorem test_ResetPinsComplete_1 : ∃ (s : State), True := ⟨up, by decide +kernel⟩
theorem test_ResetPinsComplete_2 : ∃ (s : State), s.power.mode = .held ∧ s.life.jtag ≠ 2 := ⟨held, by decide +kernel⟩
theorem test_ResetPinsComplete_3 : ∃ (s : State), s.power.mode = .held ∧ s.life.jtag ≠ 2 := ⟨held, by decide +kernel⟩
theorem test_ResetPinsComplete_4 : ∃ (s : State), s.stem.xoIn = true := ⟨{ up with stem := { up.stem with xoIn := true } }, by decide +kernel⟩
theorem test_ResetPinsComplete_5 : ∃ (s : State), s.stem.xoIn = false ∧ s.power.mode = .held := ⟨{ held with stem := { held.stem with xoIn := false } }, by decide +kernel⟩
theorem test_ResetPinsComplete_6 : ∃ (s : State), s.stem.xoIn = false ∧ s.power.mode ≠ .held := ⟨{ up with stem := { up.stem with xoIn := false }, power := { up.power with mode := .booting } }, by decide +kernel⟩

theorem test_BootEventsComplete_1 : ∃ (readOk : Bool) (n : Nat) (l : List Nat) (s : State), s.power.mode = .booting ∧ s.stem.xoIn = true ∧ s.boot.stage = .rom ∧ zeroising s = false ∧ slotsLeft s = n :: l := ⟨true, 0, [1], rom, by decide +kernel⟩
theorem test_BootEventsComplete_2 : ∃ (s : State), s.boot.stage = .waitHost ∧ s.boot.source = 1 ∧ s.boot.tried = [] ∧ s.boot.waitMs + 2000 ≤ s.stem.ms := ⟨later 3000 { rom with boot := { rom.boot with stage := .waitHost, source := 1 } }, by decide +kernel⟩
theorem test_BootEventsComplete_3 : ∃ (s : State), s.boot.stage = .fwInit ∧ s.boot.running = false ∧ s.boot.waitMs + 2000 ≤ s.stem.ms := ⟨later 3000 { rom with boot := { rom.boot with stage := .fwInit } }, by decide +kernel⟩
theorem test_BootEventsComplete_4 : ∃ (s : State), s.boot.stage = .fwInit ∧ s.boot.running = false ∧ s.boot.fallback = false := ⟨{ rom with boot := { rom.boot with stage := .fwInit } }, by decide +kernel⟩
theorem test_BootEventsComplete_5 : ∃ (s : State), s.boot.stage = .fwInit ∧ s.boot.running = false ∧ s.boot.fallback = true := ⟨{ rom with boot := { rom.boot with stage := .fwInit, fallback := true } }, by decide +kernel⟩
theorem test_BootEventsComplete_6 : ∃ (s : State), s.boot.stage = .fwInit ∧ s.boot.running = true := ⟨{ rom with boot := { rom.boot with stage := .fwInit, running := true } }, by decide +kernel⟩
theorem test_BootEventsComplete_7 : ∃ (s : State), s.boot.stage = .restoring ∧ s.power.mode = .booting ∧ s.stem.stemLock = true ∧ isPartner s = false ∧ s.ms.cfg.autoJoin = false ∧ s.resume = none ∧ s.stem.ssi % 8 = 0 := ⟨{ rom with boot := { rom.boot with stage := .restoring, running := true }, stem := { rom.stem with stemLock := true } }, by decide +kernel⟩
theorem test_BootEventsComplete_8 : ∃ (s : State), firmwareRuns s = true := ⟨{ up with boot := { up.boot with wdtArmed := true } }, by decide +kernel⟩
theorem test_BootEventsComplete_9 : ∃ (s : State), scribeRuns s = true := ⟨{ up with boot := { up.boot with wdtArmed := true } }, by decide +kernel⟩
theorem test_BootEventsComplete_10 : ∃ (s : State), s.boot.stage = .scribeRestart ∧ s.boot.resumeStage = some .ready := ⟨{ up with boot := { up.boot with stage := .scribeRestart, resumeStage := some .ready } }, by decide +kernel⟩
theorem test_BootEventsComplete_11 : ∃ (s : State), s.boot.stage = .scribeRestart ∧ s.boot.resumeStage = some .waking := ⟨{ up with boot := { up.boot with stage := .scribeRestart, resumeStage := some .waking } }, by decide +kernel⟩
theorem test_BootEventsComplete_12 : ∃ (s : State), zeroising s = true ∧ s.power.mode = .booting ∧ s.stem.xoIn = true ∧ s.boot.stage = .rom := ⟨{ rom with life := { rom.life with retPending := true, state := 2 } }, by decide +kernel⟩

theorem test_HushInputsComplete_1 : ∃ (chB alarm : Bool) (q : HushCh) (s : State), aonLive s = true ∧ chB = false ∧ q = { pin := alarm != s.hush.cfg.polA, last := alarm, run := 4, deb := alarm } := ⟨false, true, { pin := true, last := true, run := 4, deb := true }, up, by decide +kernel⟩
theorem test_HushInputsComplete_2 : ∃ (chB alarm : Bool) (q : HushCh) (s : State), aonLive s = true ∧ chB = true ∧ q = { pin := alarm != s.hush.cfg.polB, last := alarm, run := 4, deb := alarm } := ⟨true, true, { pin := true, last := true, run := 4, deb := true }, up, by decide +kernel⟩
theorem test_HushInputsComplete_3 : ∃ (s : State), aonLive s = true ∧ s.hush.a.deb ≠ s.hush.b.deb ∧ s.hush.fault = false := ⟨{ up with hush := { up.hush with a := { up.hush.a with deb := true }, b := { up.hush.b with deb := false } } }, by decide +kernel⟩
theorem test_HushInputsComplete_4 : ∃ (s : State), aonLive s = true ∧ s.hush.a.deb = false ∧ s.hush.b.deb = false ∧ s.hush.fault = false ∧ s.hush.asserted = true := ⟨{ up with hush := { up.hush with a := { up.hush.a with deb := false }, b := { up.hush.b with deb := false }, fault := false, asserted := true } }, by decide +kernel⟩
theorem test_HushInputsComplete_5 : ∃ (s : State), aonLive s = true ∧ s.hush.fault = false := ⟨{ up with hush := { up.hush with fault := false } }, by decide +kernel⟩
theorem test_HushInputsComplete_6 : ∃ (s : State), (aonLive s = false ∨ s.hush.fault = true) := ⟨held, by decide +kernel⟩
theorem test_HushInputsComplete_7 : ∃ (s : State), expertMode s = true := ⟨up, by decide +kernel⟩

theorem test_JtagAndDuctusEventsComplete_1 : ∃ (s : State), s.life.jtag ≠ 2 := ⟨up, by decide +kernel⟩
theorem test_JtagAndDuctusEventsComplete_2 : ∃ (cells : List (Pin × PinDrive)) (e : JtagInstr) (s : State), s.life.jtag ≠ 2 ∧ (e = .extest ∨ e = .clamp) := ⟨[], .extest, up, by decide +kernel⟩
theorem test_JtagAndDuctusEventsComplete_3 : ∃ (cells : List (Pin × PinDrive)) (s : State), s.life.jtag ≠ 2 := ⟨[], up, by decide +kernel⟩
theorem test_JtagAndDuctusEventsComplete_4 : ∃ (cells : List (Pin × PinDrive)) (s : State), s.life.jtag ≠ 2 := ⟨[], up, by decide +kernel⟩
theorem test_JtagAndDuctusEventsComplete_5 : ∃ (load : JtagLoad) (s : State), s.life.jtag = 2 := ⟨⟨.extest, []⟩, { up with life := { up.life with jtag := 2 } }, by decide +kernel⟩
theorem test_JtagAndDuctusEventsComplete_6 : ∃ (s : State), (s.life.state = 0 ∨ s.life.state = 3) := ⟨{ up with life := { up.life with state := 3 } }, by decide +kernel⟩
theorem test_JtagAndDuctusEventsComplete_7 : ∃ (s : State), s.life.state ≠ 0 ∧ s.life.state ≠ 3 := ⟨{ up with life := { up.life with state := 1 } }, by decide +kernel⟩
theorem test_JtagAndDuctusEventsComplete_8 : ∃ (w : Word) (s : State), s.power.mode = .commission ∧ fld w.toNat 0 2 ≠ 3 ∧ swBusy s = false ∧ fld w.toNat 0 2 ≠ s.dx.sw := ⟨1, { up with dx := { up.dx with sw := 0 } }, by decide +kernel⟩
theorem test_JtagAndDuctusEventsComplete_9 : ∃ (w : Word) (s : State), s.power.mode = .maintenance := ⟨1, { up with power := { up.power with mode := .maintenance } }, by decide +kernel⟩
theorem test_JtagAndDuctusEventsComplete_10 : ∃ (w : Word) (s : State), s.power.mode = .commission ∧ (fld w.toNat 0 2 = 3 ∨ swBusy s = true) := ⟨3, up, by decide +kernel⟩
theorem test_JtagAndDuctusEventsComplete_11 : ∃ (v : Nat) (s : State), expertMode s = true ∧ v = 8 * (armedPeak s).2.1 := ⟨8 * (armedPeak up).2.1, up, by decide +kernel⟩
theorem test_JtagAndDuctusEventsComplete_12 : ∃ (t k : Nat) (rest : List Nat) (s : State), s.dx.open_ = k :: rest ∧ s.dx.level = 0 ∧ t ≤ budget s ∧ s.stem.ssi < 8 * (k + 2 + s.dx.sw) := ⟨5, 6000, [], { up with dx := { up.dx with open_ := [6000] } }, by decide +kernel⟩
theorem test_JtagAndDuctusEventsComplete_13 : ∃ (t k : Nat) (rest : List Nat) (s : State), s.dx.open_ = k :: rest := ⟨5, 6000, [], { up with dx := { up.dx with open_ := [6000] } }, by decide +kernel⟩
theorem test_JtagAndDuctusEventsComplete_14 : ∃ (t k : Nat) (rest : List Nat) (s : State), s.dx.open_ = k :: rest := ⟨5, 6000, [], { up with dx := { up.dx with open_ := [6000] } }, by decide +kernel⟩
theorem test_JtagAndDuctusEventsComplete_15 : ∃ (s : State), 4 ≤ s.dx.stall := ⟨{ up with dx := { up.dx with stall := 4 } }, by decide +kernel⟩

theorem test_RouteEventsComplete_1 : ∃ (n : Nat) (w : Word) (s : State), expertMode s = true ∧ n < ligSize s.variant ∧ serifAbsent s.variant n = false := ⟨600, 5, up, by decide +kernel⟩
theorem test_RouteEventsComplete_2 : ∃ (n : Nat) (w : Word) (s : State), expertMode s = true ∧ n < ligSize s.variant ∧ serifAbsent s.variant n = false ∧ sgn 16 (fld w.toNat 0 16) ≠ gainOff := ⟨600, 5, up, by decide +kernel⟩
theorem test_RouteEventsComplete_3 : ∃ (n : Nat) (w : Word) (s : State), expertMode s = true ∧ n < ligSize s.variant ∧ serifAbsent s.variant n = false := ⟨600, 5, up, by decide +kernel⟩
theorem test_RouteEventsComplete_4 : ∃ (n : Nat) (w : Word) (s : State), expertMode s = true ∧ n < ligSize s.variant ∧ serifAbsent s.variant n = false ∧ hairOk s n (sinkOf s n).next = false := ⟨600, 0, modSink 600 (fun k => { k with next := 0x6000 }) up, by decide +kernel⟩
theorem test_RouteEventsComplete_5 : ∃ (n : Nat) (w : Word) (a : Nat) (s : State), expertMode s = true ∧ n < ligSize s.variant ∧ serifAbsent s.variant n = false ∧ hairOk s n (sinkOf s n).next = true ∧ a = (sinkOf s n).arm % 2 ^ 32 + w.toNat * 2 ^ 32 ∧ s.stem.ssi < a ∧ routeBusy s a n = false := ⟨600, 1, 2 ^ 32, up, by decide +kernel⟩
theorem test_RouteEventsComplete_6 : ∃ (n : Nat) (k : Sink) (s : State), s.lig.sinks = [(n, k)] ∧ k.fadeLen ≠ 0 ∧ k.fadeLen ≤ k.fadePos ∧ k.moving = none ∧ k.held = none ∧ k.cmd = none := ⟨3, { fadeLen := 5, fadePos := 5 }, { up with lig := { up.lig with sinks := [(3, { fadeLen := 5, fadePos := 5 })] } }, by decide +kernel⟩
theorem test_RouteEventsComplete_7 : ∃ (n : Nat) (s : State), fallbackDue s n = true := ⟨600, fellBack, by decide +kernel⟩
theorem test_RouteEventsComplete_8 : ∃ (n c : Nat) (s : State), returnCause s n = some c := ⟨600, 1, goneBack, by decide +kernel⟩
theorem test_RouteEventsComplete_9 : ∃ (k : Nat) (i : Inst) (s : State), s.prog.insts = [(k, i)] ∧ i.held = [] := ⟨7, { prog := 0 }, { up with prog := { up.prog with insts := [(7, { prog := 0 })] } }, by decide +kernel⟩

theorem test_SerifEventsComplete_1 : ∃ (n : Nat) (c : SerCfg) (s : State), expertMode s = true ∧ portAbsent s n = false ∧ hushPort s n = false ∧ (serPort s n).held = some c ∧ serCfgOk s.stem.mult (cleanCfg c) = true ∧ (serShared (cleanCfg c) && !hasTwin s.variant) = false := ⟨0, slaveCfg, modPort 0 (fun p => { p with held := some slaveCfg }) up, by decide +kernel⟩
theorem test_SerifEventsComplete_2 : ∃ (n : Nat) (c : SerCfg) (s : State), expertMode s = true ∧ portAbsent s n = false ∧ hushPort s n = false ∧ (serPort s n).held = some c ∧ serCfgOk s.stem.mult (cleanCfg c) = false := ⟨0, badCfg, modPort 0 (fun p => { p with held := some badCfg }) up, by decide +kernel⟩
theorem test_SerifEventsComplete_3 : ∃ (n : Nat) (p : SerPort) (s : State), portAbsent s n = false ∧ serPort s n = p ∧ p.due = none ∧ serShared p.cfg = true ∧ p.gate = true ∧ p.driving = false ∧ p.state ≠ 0 := ⟨0, sharedPort, modPort 0 (fun _ => sharedPort) up, by decide +kernel⟩
theorem test_SerifEventsComplete_4 : ∃ (n : Nat) (s : State), portAbsent s n = false ∧ (serPort s n).due = none ∧ serShared (serPort s n).cfg = false := ⟨0, up, by decide +kernel⟩
theorem test_SerifEventsComplete_5 : ∃ (n len bits : Nat) (s : State), portAbsent s n = false ∧ (serPort s n).state ≠ 0 ∧ (serPort s n).due = none ∧ serMaster (serPort s n).cfg = true ∧ serShared (serPort s n).cfg = false := ⟨0, 64, 5, modPort 0 (fun p => { p with cfg := masterCfg, state := 2 }) up, by decide +kernel⟩
theorem test_SerifEventsComplete_6 : ∃ (n len bits : Nat) (s : State), portAbsent s n = false ∧ (serPort s n).state ≠ 0 ∧ (serPort s n).due = none ∧ serMaster (serPort s n).cfg = false ∧ serShared (serPort s n).cfg = false ∧ len = frameLen (serPort s n).cfg := ⟨0, frameLen slaveCfg, 5, modPort 0 (fun p => { p with cfg := slaveCfg, state := 2 }) up, by decide +kernel⟩
theorem test_SerifEventsComplete_7 : ∃ (n : Nat) (rate : Int) (s : State), portAbsent s n = false ∧ serMaster (serPort s n).cfg = false ∧ ((serPort s n).state = 1 ∨ (serPort s n).state = 2) ∧ 10000 < rate.natAbs := ⟨0, 10001, modPort 0 (fun p => { p with cfg := slaveCfg, state := 2 }) up, by decide +kernel⟩
theorem test_SerifEventsComplete_8 : ∃ (n : Nat) (rate : Int) (s : State), portAbsent s n = false ∧ serMaster (serPort s n).cfg = false ∧ ((serPort s n).state = 1 ∨ (serPort s n).state = 2) ∧ rate.natAbs ≤ 10000 := ⟨0, 10000, modPort 0 (fun p => { p with cfg := slaveCfg, state := 2 }) up, by decide +kernel⟩
theorem test_SerifEventsComplete_9 : ∃ (n : Nat) (s : State), portAbsent s n = false ∧ serMaster (serPort s n).cfg = false ∧ (serPort s n).state ≠ 0 ∧ (serPort s n).state ≠ 3 := ⟨0, modPort 0 (fun p => { p with cfg := slaveCfg, state := 2 }) up, by decide +kernel⟩
theorem test_SerifEventsComplete_10 : ∃ (n : Nat) (s : State), portAbsent s n = false ∧ serMaster (serPort s n).cfg = false ∧ ((serPort s n).state = 1 ∨ (serPort s n).state = 2 ∨ (serPort s n).state = 4) := ⟨0, modPort 0 (fun p => { p with cfg := slaveCfg, state := 2 }) up, by decide +kernel⟩
theorem test_SerifEventsComplete_11 : ∃ (n : Nat) (s : State), portAbsent s n = false ∧ (serPort s n).state = 1 ∧ serMaster (serPort s n).cfg = true ∧ s.stem.ssi % 8 = 0 := ⟨0, modPort 0 (fun p => { p with cfg := masterCfg, state := 1 }) up, by decide +kernel⟩
theorem test_SerifEventsComplete_12 : ∃ (n : Nat) (s : State), portAbsent s n = false ∧ (serPort s n).state = 1 ∧ serMaster (serPort s n).cfg = false ∧ (serPort s n).measured = true ∧ buffersFull (serPort s n) = true := ⟨0, modPort 0 (fun _ => fullPort) up, by decide +kernel⟩

theorem test_SheenEventsComplete_1 : ∃ (w : Word) (s : State), expertMode s = true := ⟨5, up, by decide +kernel⟩
theorem test_SheenEventsComplete_2 : ∃ (w : Word) (s : State), expertMode s = true := ⟨5, up, by decide +kernel⟩
theorem test_SheenEventsComplete_3 : ∃ (n : Nat) (s : State), expertMode s = true := ⟨5, up, by decide +kernel⟩
theorem test_SheenEventsComplete_4 : ∃ (n : Nat) (s : State), expertMode s = true := ⟨5, up, by decide +kernel⟩
theorem test_SheenEventsComplete_5 : ∃ (s : State), expertMode s = true := ⟨up, by decide +kernel⟩
theorem test_SheenEventsComplete_6 : ∃ (n : Nat) (r : ReportSet) (s : State), s.sheen.sets = [(n, r)] ∧ r.started = true ∧ r.close ≤ s.stem.ssi := ⟨1, { rset with started := true }, { up with sheen := { up.sheen with sets := [(1, { rset with started := true })] } }, by decide +kernel⟩
theorem test_SheenEventsComplete_7 : ∃ (c : Closing) (s : State), s.sheen.closing.find? (recordDue s) = some c ∧ mapGet s.sheen.sets c.set_ = none := ⟨closing1, { up with sheen := { up.sheen with closing := [closing1] } }, by decide +kernel⟩
theorem test_SheenEventsComplete_8 : ∃ (c : Closing) (r : ReportSet) (s : State), s.sheen.closing.find? (recordDue s) = some c ∧ mapGet s.sheen.sets c.set_ = some r ∧ r.readyMs ≠ 0 ∧ s.stem.ms + 1 < r.readyMs + 50 := ⟨closing1, { rset with readyMs := 10000 }, { up with sheen := { up.sheen with closing := [closing1], sets := [(1, { rset with readyMs := 10000 })] } }, by decide +kernel⟩

theorem test_MemorySystemComplete_1 : ∃ (s : State), expertMode s = true := ⟨up, by decide +kernel⟩
theorem test_MemorySystemComplete_2 : ∃ (q : FeedReq) (r : FeedRun) (s : State), q.master < 10 ∧ q.len ≠ 0 ∧ r = feedParts q (q.len + 1) q.addr q.len { st := countWait q s } ∧ r.resp = 0 ∧ r.lost = 0 := ⟨{ master := 0, write := false, addr := 0x14000000, len := 8 }, feedParts { master := 0, write := false, addr := 0x14000000, len := 8 } 9 0x14000000 8 { st := countWait { master := 0, write := false, addr := 0x14000000, len := 8 } up }, up, by (repeat' apply And.intro) <;> first | decide +kernel | rfl⟩
theorem test_MemorySystemComplete_3 : ∃ (q : FeedReq) (r : FeedRun) (s : State), q.master < 10 ∧ q.len ≠ 0 ∧ r = feedParts q (q.len + 1) q.addr q.len { st := countWait q s } ∧ r.resp ≠ 0 ∧ r.lost = 0 := ⟨{ master := 0, write := false, addr := 0xF0000000, len := 8 }, feedParts { master := 0, write := false, addr := 0xF0000000, len := 8 } 9 0xF0000000 8 { st := countWait { master := 0, write := false, addr := 0xF0000000, len := 8 } up }, up, by (repeat' apply And.intro) <;> first | decide +kernel | rfl⟩
theorem test_MemorySystemComplete_4 : ∃ (q : FeedAtomic) (g : Region) (s : State), q.master < 10 ∧ q.kind ≤ 2 ∧ regionOf s q.addr = some g ∧ permitted s q.master true g q.addr = true ∧ (1 ≤ feedPort g q.addr ∧ feedPort g q.addr ≤ 4) ∧ q.addr % 8 = 0 := ⟨{ master := 0, kind := 0, addr := 0x14000000, a := 0 }, .exch, up, by decide +kernel⟩
theorem test_MemorySystemComplete_5 : ∃ (q : FeedAtomic) (s : State), q.master < 10 ∧ q.kind ≤ 2 ∧ regionOf s q.addr = none := ⟨{ master := 0, kind := 0, addr := 0xF0000000, a := 0 }, up, by decide +kernel⟩
theorem test_MemorySystemComplete_6 : ∃ (n : Nat) (l : List (Bytes × Bool)) (s : State), cartPresent s.variant n = true ∧ l ≠ [] ∧ (cartAt s n).words.length + l.length ≤ cartDepth n ∧ n ≠ 16 := ⟨0, [([1,2,3,4,5,6,7,8], false)], up, by decide +kernel⟩
theorem test_MemorySystemComplete_7 : ∃ (n : Nat) (l : List (Bytes × Bool)) (s : State), cartPresent s.variant n = true ∧ l ≠ [] ∧ cartDepth n < (cartAt s n).words.length + l.length ∧ n < 10 := ⟨0, List.replicate (cartDepth 0 + 1) ([1], false), up, by decide +kernel⟩
theorem test_MemorySystemComplete_8 : ∃ (n : Nat) (single : Bool) (w : CartWord) (rest : List CartWord) (s : State), cartPresent s.variant n = true ∧ (cartAt s n).words = w :: rest ∧ w.p = false ∧ (cartAt s n).discard = false := ⟨0, false, {}, [], modCart 0 (fun c => { c with words := [{}] }) up, by decide +kernel⟩
theorem test_MemorySystemComplete_9 : ∃ (w : CartWord) (t : Nat) (s : State), s.feed.order = some (w, t) ∧ t + 5 ≤ s.stem.ms ∧ (cartAt s 16).words.length < 16 := ⟨{}, 0, { up with feed := { up.feed with order := some ({}, 0) } }, by decide +kernel⟩

theorem test_SealEventsComplete_1 : ∃ (c : Nat) (s : State), expertMode s = true ∧ (1 ≤ c ∧ c ≤ 2) := ⟨1, up, by decide +kernel⟩
theorem test_SealEventsComplete_2 : ∃ (s : State), expertMode s = true := ⟨up, by decide +kernel⟩
theorem test_SealEventsComplete_3 : ∃ (c : Nat) (s : State), expertMode s = true ∧ (c = 1 ∨ c = 2) ∧ (sealCh s c).busy = false ∧ s.sl.queue.any (fun j => j.chan = c) = false := ⟨1, up, by decide +kernel⟩
theorem test_SealEventsComplete_4 : ∃ (c : Nat) (s : State), expertMode s = true ∧ (c = 1 ∨ c = 2) ∧ (sealCh s c).busy = true := ⟨1, modCh 1 (fun q => { q with busy := true }) up, by decide +kernel⟩
theorem test_SealEventsComplete_5 : ∃ (c : Nat) (s : State), expertMode s = true ∧ (c = 1 ∨ c = 2) ∧ (sealCh s c).busy = true ∧ s.sl.queue = [] := ⟨1, modCh 1 (fun q => { q with busy := true }) up, by decide +kernel⟩
theorem test_SealEventsComplete_6 : ∃ (c : Nat) (bad : Option (Nat × Nat)) (j : SealJob) (s : State), (sealCh s c).busy = true ∧ s.sl.queue.find? (fun j => j.chan = c) = some j := ⟨1, none, job, { modCh 1 (fun q => { q with busy := true }) up with sl := { (modCh 1 (fun q => { q with busy := true }) up).sl with queue := [job] } }, by decide +kernel⟩
theorem test_SealEventsComplete_7 : ∃ (c : Nat) (bad : Option (Nat × Nat)) (s : State), (sealCh s c).busy = true ∧ s.sl.queue.find? (fun j => j.chan = c) = none := ⟨1, none, modCh 1 (fun q => { q with busy := true }) up, by decide +kernel⟩
theorem test_SealEventsComplete_8 : ∃ (ssi : Nat) (miss : Bool) (d : Nat) (l : List (Tab Sample)) (s : State), s.sl.ready = some (ssi, miss, l) ∧ d = digestOf (presentSinks s.variant) l := ⟨8, false, digestOf (presentSinks up.variant) [], [], { up with sl := { up.sl with ready := some (8, false, []) } }, by decide +kernel⟩

theorem test_CopybookEventsComplete_1 : ∃ (m : Nat) (s : State), s.power.mode = .maintenance ∧ m = s.cb.sel % 65536 ∧ m ≠ 0 ∧ m % 2 = 0 ∧ fld s.cb.sel 16 1 = 0 ∧ s.cb.busy = false := ⟨2, { maint with cb := { maint.cb with sel := 2 } }, by decide +kernel⟩
theorem test_CopybookEventsComplete_2 : ∃ (s : State), s.power.mode = .commission := ⟨up, by decide +kernel⟩
theorem test_CopybookEventsComplete_3 : ∃ (s : State), expertMode s = true ∧ s.cb.busy = true := ⟨{ maint with cb := { maint.cb with busy := true } }, by decide +kernel⟩
theorem test_CopybookEventsComplete_4 : ∃ (s : State), expertMode s = true := ⟨up, by decide +kernel⟩
theorem test_CopybookEventsComplete_5 : ∃ (outs : List CbOutcome) (s : State), s.cb.busy = true ∧ s.cb.aborting = true := ⟨[], { maint with cb := { maint.cb with busy := true, aborting := true } }, by decide +kernel⟩
theorem test_CopybookEventsComplete_6 : ∃ (s : State), expertMode s = true := ⟨up, by decide +kernel⟩
theorem test_CopybookEventsComplete_7 : ∃ (s : State), s.vl.lastMs + 600000 ≤ s.stem.ms ∧ s.power.mode ≠ .held ∧ s.vl.worn = false ∧ s.vl.writing = none := ⟨later 600000 up, by decide +kernel⟩
theorem test_CopybookEventsComplete_8 : ∃ (w : VlWrite) (s : State), s.vl.writing = some w := ⟨{ slot := 3, flags := 0 }, { up with vl := { up.vl with writing := some { slot := 3, flags := 0 } } }, by decide +kernel⟩
theorem test_CopybookEventsComplete_9 : ∃ (w : VlWrite) (s : State), s.vl.writing = some w := ⟨{ slot := 3, flags := 0 }, { up with vl := { up.vl with writing := some { slot := 3, flags := 0 } } }, by decide +kernel⟩

theorem test_NetFramesComplete_1 : ∃ (f : Frame) (s : State), f.port < netPorts s.variant ∧ (netPort s f.port).link = true ∧ f.fcs = false := ⟨{ port := 0, fcs := false }, linked, by decide +kernel⟩
theorem test_NetFramesComplete_2 : ∃ (f : Frame) (s : State), f.port < netPorts s.variant ∧ (netPort s f.port).link = true ∧ f.fcs = true ∧ f.ether = 0x8808 := ⟨{ port := 0, ether := 0x8808 }, linked, by decide +kernel⟩
theorem test_NetFramesComplete_3 : ∃ (f : Frame) (s : State), f.port < netPorts s.variant ∧ (netPort s f.port).link = true ∧ f.fcs = true ∧ f.ether ≠ 0x8808 ∧ wakePacket s f = false := ⟨{ port := 0 }, linked, by decide +kernel⟩
theorem test_NetFramesComplete_4 : ∃ (m : PtpMsg) (s : State), m.port < netPorts s.variant ∧ (netPort s m.port).link = true ∧ (ptpPort s m.port).cfg.role ≠ 0 ∧ m.domain = (ptpPort s m.port).cfg.domain ∧ m.iface = (ptpPort s m.port).cfg.iface ∧ m.kind = 1 := ⟨{ port := 0, kind := 1, domain := 0 }, ptp, by decide +kernel⟩
theorem test_NetFramesComplete_5 : ∃ (m : PtpMsg) (s : State), m.port < netPorts s.variant ∧ (netPort s m.port).link = true ∧ (ptpPort s m.port).cfg.role ≠ 0 ∧ m.domain = (ptpPort s m.port).cfg.domain ∧ m.iface = (ptpPort s m.port).cfg.iface ∧ m.kind = 0 ∧ (ptpPort s m.port).state = 2 := ⟨{ port := 0, kind := 0, domain := 0 }, ptp, by decide +kernel⟩
theorem test_NetFramesComplete_6 : ∃ (n : Nat) (s : State), n < netPorts s.variant ∧ (netPort s n).link = true ∧ (ptpPort s n).state = 3 ∧ (ptpPort s n).cfg.oneStep = true := ⟨0, modPtp 0 (fun q => { q with state := 3, cfg := { q.cfg with oneStep := true } }) ptp, by decide +kernel⟩
theorem test_NetFramesComplete_7 : ∃ (n : Nat) (s : State), n < netPorts s.variant ∧ (netPort s n).link = true ∧ (ptpPort s n).state = 3 ∧ (ptpPort s n).cfg.oneStep = false := ⟨0, modPtp 0 (fun q => { q with state := 3, cfg := { q.cfg with oneStep := false } }) ptp, by decide +kernel⟩
theorem test_NetFramesComplete_8 : ∃ (n : Nat) (s : State), n < netPorts s.variant := ⟨0, up, by decide +kernel⟩
theorem test_NetFramesComplete_9 : ∃ (n : Nat) (s : State), n < netPorts s.variant := ⟨0, linked, by decide +kernel⟩
theorem test_NetFramesComplete_10 : ∃ (n : Nat) (s : State), n < netPorts s.variant ∧ (ptpPort s n).cfg.role = 1 ∧ (ptpPort s n).state = 2 ∧ announceLate s n = true := ⟨0, later 60000 ptp, by decide +kernel⟩
theorem test_NetFramesComplete_11 : ∃ (n : Nat) (s : State), n < netPorts s.variant ∧ (ptpPort s n).cfg.role = 3 ∧ (ptpPort s n).state = 2 ∧ announceLate s n = true := ⟨0, later 60000 (modPtp 0 (fun q => { q with cfg := { q.cfg with role := 3 } }) ptp), by decide +kernel⟩
theorem test_NetFramesComplete_12 : ∃ (n p a mac : Nat) (s : State), enOf (txStream s n).entry = true ∧ txUnicast (txStream s n).entry = true ∧ (txStream s n).arp = false ∧ (netPort s (portOf (txStream s n).entry)).link = true ∧ p = portOf (txStream s n).entry ∧ a = u8 (txStream s n).entry 4 := ⟨0, 0, 0, 5, modTx 0 (fun q => { q with entry := [0, 0, 9, 0] }) linked, by decide +kernel⟩
theorem test_NetFramesComplete_13 : ∃ (n p a : Nat) (s : State), enOf (txStream s n).entry = true ∧ txUnicast (txStream s n).entry = true ∧ (txStream s n).arp = false ∧ (netPort s (portOf (txStream s n).entry)).link = true ∧ p = portOf (txStream s n).entry ∧ a = u8 (txStream s n).entry 4 := ⟨0, 0, 0, modTx 0 (fun q => { q with entry := [0, 0, 9, 0] }) linked, by decide +kernel⟩

theorem test_StreamEventsComplete_1 : ∃ (p : MediaPacket) (s : State), s.power.mode ≠ .standby ∧ p.stream < streamsOf s.variant ∧ p.port < netPorts s.variant ∧ (netPort s p.port).link = true ∧ streamHeard p s = true ∧ s.stem.aligned = false := ⟨packet, { hearing with stem := { hearing.stem with aligned := false } }, by decide +kernel⟩
theorem test_StreamEventsComplete_2 : ∃ (p : MediaPacket) (s : State), s.power.mode ≠ .standby ∧ p.stream < streamsOf s.variant ∧ p.port < netPorts s.variant ∧ (netPort s p.port).link = true ∧ streamHeard p s = true ∧ s.stem.aligned = true := ⟨packet, hearing, by decide +kernel⟩
theorem test_StreamEventsComplete_3 : ∃ (n : Nat) (s : State), enOf (rxStream s n).entry = true ∧ (rxStream s n).buf.seen1 + 16 * sppAt s.stem.mult (rxStream s n).entry ≤ s.stem.ssi := ⟨0, hearing, by decide +kernel⟩
theorem test_StreamEventsComplete_4 : ∃ (n : Nat) (s : State), enOf (rxStream s n).entry = true ∧ (rxStream s n).buf.seen2 + 16 * sppAt s.stem.mult (rxStream s n).entry ≤ s.stem.ssi := ⟨0, hearing, by decide +kernel⟩
theorem test_StreamEventsComplete_5 : ∃ (n t : Nat) (s : State), (rxStream s n).badMs = some t ∧ enOf (rxStream s n).entry = true ∧ t + 100 ≤ s.stem.ms := ⟨0, 5, modRx 0 (fun q => { q with badMs := some 5 }) hearing, by decide +kernel⟩
theorem test_StreamEventsComplete_6 : ∃ (n : Nat) (s : State), (rxStream s n).running = true ∧ u16 (rxStream s n).entry 46 ≤ (rxStream s n).repeats := ⟨0, modRx 0 (fun q => { q with running := true }) hearing, by decide +kernel⟩
theorem test_StreamEventsComplete_7 : ∃ (n u : Nat) (l : List (List Sample)) (s : State), (txStream s n).due = some (u, l) ∧ (txStream (settleTx n s) n).state = 2 := ⟨0, 0, [], sender, by decide +kernel⟩
theorem test_StreamEventsComplete_8 : ∃ (n u : Nat) (l : List (List Sample)) (s : State), (txStream s n).due = some (u, l) ∧ (txStream (settleTx n s) n).state ≠ 2 := ⟨0, 0, [], modTx 0 (fun q => { q with due := some (0, []) }) up, by decide +kernel⟩
theorem test_StreamEventsComplete_9 : ∃ (w : Word) (s : State), expertMode s = true ∧ bit w.toNat 31 = true ∧ fld w.toNat 0 13 < streamsOf s.variant ∧ bit w.toNat 16 = false ∧ succeeded (issueInternal 0x0410 cmdNetRxSet (windowCtx (fld w.toNat 0 13) ((rxStream s (fld w.toNat 0 13)).window.getD (rxStream s (fld w.toNat 0 13)).entry)) s).1 = true := ⟨0x80000000, modRx 0 (fun q => { q with window := some rxEntry }) up, by decide +kernel⟩
theorem test_StreamEventsComplete_10 : ∃ (tx : Bool) (e : Is05Params) (mode ns : Nat) (s : State), s.quill.nmos.en = true ∧ s.boot.netUp = true ∧ s.boot.stage = .ready ∧ s.quill.nmos.write = false := ⟨false, { entry := [] }, 0, 0, nmos, by decide +kernel⟩
theorem test_StreamEventsComplete_11 : ∃ (e : Is05Params) (d : Sdp) (ns mode : Nat) (s : State), s.quill.nmos.en = true ∧ s.boot.netUp = true ∧ s.boot.stage = .ready ∧ s.quill.nmos.write = true ∧ e.sdp = some d ∧ sdpRateOk s d = false := ⟨{ entry := [], sdp := some badSdp }, badSdp, 0, 0, { nmos with quill := { nmos.quill with nmos := { nmos.quill.nmos with write := true } } }, by decide +kernel⟩
theorem test_StreamEventsComplete_12 : ∃ (entry : Bytes) (x : Ctx) (s : State), s.quill.nmos.en = true ∧ s.boot.netUp = true ∧ s.boot.stage = .ready ∧ s.quill.nmos.write = true ∧ x = { client := 0xFD, seq := s.ink.order % 65536, role := 3, p := nmosEntry false (padTo 64 entry) s } ∧ succeeded (issueInternal 0x0410 cmdNetRxSet x s).1 = true := ⟨rxEntry, { client := 0xFD, seq := 0, role := 3, p := nmosEntry false (padTo 64 rxEntry) nmos }, { nmos with quill := { nmos.quill with nmos := { nmos.quill.nmos with write := true } } }, by decide +kernel⟩
theorem test_StreamEventsComplete_13 : ∃ (s : State), s.quill.nmos.en = true ∧ s.boot.netUp = true := ⟨nmos, by decide +kernel⟩

theorem test_CueInputsComplete_1 : ∃ (p : SacnPacket) (s : State), cueLive s = true ∧ bit s.prog.cue.cfg.sacnPorts p.port = true ∧ p.port < netPorts s.variant ∧ (universesOf s.prog.cue.map).contains p.univ = true ∧ (p.start ≠ 0 ∨ p.preview = true) := ⟨{ port := 0, univ := 1, cid := 5, seq := 0, start := 1 }, cueState, by decide +kernel⟩
theorem test_CueInputsComplete_2 : ∃ (p : SacnPacket) (s : State), cueLive s = false := ⟨{ port := 0, univ := 1, cid := 5, seq := 0 }, held, by decide +kernel⟩
theorem test_CueInputsComplete_3 : ∃ (p : SacnPacket) (s : State), cueLive s = true ∧ bit s.prog.cue.cfg.sacnPorts p.port = true ∧ p.port < netPorts s.variant ∧ (universesOf s.prog.cue.map).contains p.univ = true ∧ p.start = 0 ∧ p.preview = false ∧ p.terminated = false ∧ (tabGet {} s.prog.cue.universes p.univ).sources = [] ∧ (tabGet {} s.prog.cue.universes p.univ).started = false := ⟨{ port := 0, univ := 1, cid := 5, seq := 0, slots := [7] }, cueState, by decide +kernel⟩
theorem test_CueInputsComplete_4 : ∃ (univ cid : Nat) (s : State), (tabGet {} s.prog.cue.universes univ).sources.any (fun x => x.cid = cid && x.ms + 2500 ≤ s.stem.ms) = true := ⟨1, 5, { up with prog := { up.prog with cue := { up.prog.cue with universes := [(1, { sources := [{ cid := 5, prio := 1, seq := 0, ms := 0, order := 1 }] })] } } }, by decide +kernel⟩
theorem test_CueInputsComplete_5 : ∃ (net port : Nat) (data : Bytes) (s : State), cueLive s = true ∧ net < netPorts s.variant ∧ s.prog.cue.cfg.oscPort ≠ 0 ∧ port = s.prog.cue.cfg.oscPort ∧ s.prog.cue.map = [] := ⟨0, 9000, [], { up with prog := { up.prog with cue := { up.prog.cue with cfg := { up.prog.cue.cfg with oscPort := 9000 } } } }, by decide +kernel⟩
theorem test_CueInputsComplete_6 : ∃ (f : LtcFrame) (start : Nat) (s : State), f.valid = false ∧ s.host.ltc.state = 0 := ⟨{ valid := false, time := 0 }, 0, { up with host := { up.host with ltc := { up.host.ltc with state := 0 } } }, by decide +kernel⟩
theorem test_CueInputsComplete_7 : ∃ (f : LtcFrame) (start : Nat) (s : State), f.valid = false ∧ s.host.ltc.state = 1 := ⟨{ valid := false, time := 0 }, 0, { up with host := { up.host with ltc := { up.host.ltc with state := 1 } } }, by decide +kernel⟩
theorem test_CueInputsComplete_8 : ∃ (s : State), s.host.ltc.state ≠ 0 := ⟨{ up with host := { up.host with ltc := { up.host.ltc with state := 2 } } }, by decide +kernel⟩
theorem test_CueInputsComplete_9 : ∃ (n k : Nat) (e : CueEntry) (go : Nat) (s : State), s.prog.cue.map.find? (fun e => e.1 = n && e.2.source = 3) = some (n, e) ∧ s.prog.cue.cfg.tcSource = 2 ∧ s.stem.aligned = true ∧ cueLive s = true ∧ k = tcIndex s.prog.cue.cfg.tcRate e.tc ∧ go = (frameStart s s.prog.cue.cfg.tcRate k + 86400 * fsOp s - sinceMidnight s s.prog.cue.cfg.tzOfs) % (86400 * fsOp s) ∧ frameStart s s.prog.cue.cfg.tcRate 2 ≤ go ∧ go < frameStart s s.prog.cue.cfg.tcRate 3 := ⟨1, tcIndex tcState.prog.cue.cfg.tcRate 0, { source := 3, action := 0, scene := 1, tc := 0 }, (frameStart tcState tcState.prog.cue.cfg.tcRate (tcIndex tcState.prog.cue.cfg.tcRate 0) + 86400 * fsOp tcState - sinceMidnight tcState tcState.prog.cue.cfg.tzOfs) % (86400 * fsOp tcState), tcState, by decide +kernel⟩
theorem test_CueInputsComplete_10 : ∃ (k : Nat) (cfg : LtcCfg) (s : State), ltcRuns s = true ∧ s.stem.stemLock = true ∧ k = ltcDayFrame s ∧ cfg = s.host.ltc.next.getD s.host.ltc.cfg := ⟨ltcDayFrame ltcOn, ltcOn.host.ltc.next.getD ltcOn.host.ltc.cfg, ltcOn, by decide +kernel⟩

theorem test_TwinFramesComplete_1 : ∃ (h : TwinHead) (nonce : Nat) (peer : TwinPeer) (s : State), FrameIn h s ∧ s.twin.linkUp = true := ⟨head, 5, {}, twinUp, by decide +kernel⟩
theorem test_TwinFramesComplete_2 : ∃ (h : TwinHead) (nonce : Nat) (peer : TwinPeer) (s : State), isPartner s = true ∧ frameOk h s = false := ⟨{ head with crcOk := false }, 5, {}, twinUp, by decide +kernel⟩
theorem test_TwinFramesComplete_3 : ∃ (f : TwinStatus) (s : State), FrameIn f.head s ∧ s.twin.linkUp = true ∧ s.twin.state = 4 ∧ s.twin.handover = none := ⟨{ head := head, period := 0, digest := 0, state := 2, claim := 0 }, { twinUp with twin := { twinUp.twin with state := 4 } }, by decide +kernel⟩
theorem test_TwinFramesComplete_4 : ∃ (e : TwinEntry) (s : State), FrameIn e.head s ∧ s.twin.linkUp = true ∧ s.twin.state = 2 ∧ e.jsn = s.twin.jsn + 1 ∧ s.stem.ssi + 16 ≤ e.applySsi := ⟨{ head := head, jsn := 1, applySsi := 96000, client := 0, opcode := 0x0101 }, twinUp, by decide +kernel⟩
theorem test_TwinFramesComplete_5 : ∃ (e : TwinEntry) (s : State), FrameIn e.head s ∧ s.twin.linkUp = true ∧ s.twin.state = 2 ∧ s.twin.jsn + 1 < e.jsn := ⟨{ head := head, jsn := 7, applySsi := 96000, client := 0, opcode := 0x0101 }, twinUp, by decide +kernel⟩
theorem test_TwinFramesComplete_6 : ∃ (h : TwinHead) (jsn : Nat) (s : State), FrameIn h s ∧ s.twin.linkUp = true := ⟨head, 1, twinUp, by decide +kernel⟩
theorem test_TwinFramesComplete_7 : ∃ (h : TwinHead) (cause stop : Nat) (s : State), FrameIn h s ∧ s.twin.linkUp = true ∧ s.twin.state = 2 ∧ s.twin.handover = none := ⟨head, 1, 96000, twinUp, by decide +kernel⟩
theorem test_TwinFramesComplete_8 : ∃ (h : TwinHead) (point claim : Nat) (s : State), FrameIn h s ∧ s.twin.linkUp = true ∧ s.twin.state = 2 ∧ s.twin.handover = none := ⟨head, 96000, 3, twinUp, by decide +kernel⟩
theorem test_TwinFramesComplete_9 : ∃ (h : TwinHead) (period result : Nat) (s : State), FrameIn h s ∧ s.twin.linkUp = true ∧ s.twin.state = 2 ∧ result = 0 := ⟨head, 5, 0, twinUp, by decide +kernel⟩
theorem test_TwinFramesComplete_10 : ∃ (h : TwinHead) (at_ total : Nat) (data : Bytes) (s : State), FrameIn h s ∧ s.twin.linkUp = true ∧ s.twin.state = 3 ∧ s.twin.snapReq = true ∧ s.twin.snap = none ∧ data.length < total := ⟨head, 5, 10, [1], { twinUp with twin := { twinUp.twin with state := 3, snapReq := true } }, by decide +kernel⟩
theorem test_TwinFramesComplete_11 : ∃ (h : TwinHead) (at_ total : Nat) (data : Bytes) (s : State), FrameIn h s ∧ s.twin.linkUp = true ∧ s.twin.state = 3 ∧ s.twin.snapReq = false ∧ s.twin.snap = none := ⟨head, 5, 10, [1], { twinUp with twin := { twinUp.twin with state := 3, snapReq := false } }, by decide +kernel⟩
theorem test_TwinFramesComplete_12 : ∃ (passed : Bool) (c : TwinCheck) (s : State), s.twin.check = some c ∧ c.own = none := ⟨true, { period := 5 }, { twinUp with twin := { twinUp.twin with check := some { period := 5 } } }, by decide +kernel⟩
theorem test_TwinFramesComplete_13 : ∃ (s : State), isPartner s = true ∧ s.twin.state = 1 ∧ s.twin.linkUp = true := ⟨{ twinUp with twin := { twinUp.twin with state := 1 } }, by decide +kernel⟩

theorem test_TwinTimersComplete_1 : ∃ (cause ns : Nat) (s : State), (1 ≤ cause ∧ cause ≤ 6) ∧ isPartner s = true ∧ (s.twin.state = 2 ∨ s.twin.state = 3) := ⟨1, 0, twinUp, by decide +kernel⟩
theorem test_TwinTimersComplete_2 : ∃ (cause ns : Nat) (s : State), (1 ≤ cause ∧ cause ≤ 6) ∧ isPartner s = true ∧ s.twin.state = 1 ∧ s.twin.claim ≠ 0 ∧ partnerWarm s = true := ⟨1, 0, { twinUp with twin := { twinUp.twin with state := 1, claim := 1, heard := true, pState := 2 } }, by decide +kernel⟩
theorem test_TwinTimersComplete_3 : ∃ (h : Handover) (s : State), s.twin.handover = some h ∧ h.began = false ∧ h.point ≤ s.stem.ssi ∧ h.timed = false ∧ h.incoming = true := ⟨inHand, { twinUp with twin := { twinUp.twin with handover := some inHand } }, by decide +kernel⟩
theorem test_TwinTimersComplete_4 : ∃ (h : Handover) (s : State), s.twin.handover = some h ∧ h.began = false ∧ h.point ≤ s.stem.ssi ∧ h.timed = false ∧ h.incoming = false := ⟨{ inHand with incoming := false }, { twinUp with twin := { twinUp.twin with handover := some { inHand with incoming := false } } }, by decide +kernel⟩
theorem test_TwinTimersComplete_5 : ∃ (h : Handover) (s : State), s.twin.handover = some h ∧ h.began = true ∧ h.point + 8 ≤ s.stem.ssi ∧ h.incoming = true := ⟨{ inHand with began := true }, { twinUp with twin := { twinUp.twin with handover := some { inHand with began := true } } }, by decide +kernel⟩
theorem test_TwinTimersComplete_6 : ∃ (h : Handover) (s : State), s.twin.handover = some h ∧ h.began = true ∧ h.point + 8 ≤ s.stem.ssi ∧ h.incoming = false := ⟨{ inHand with began := true, incoming := false }, { twinUp with twin := { twinUp.twin with handover := some { inHand with began := true, incoming := false } } }, by decide +kernel⟩
theorem test_TwinTimersComplete_7 : ∃ (s : State), isPartner s = true ∧ s.twin.linkUp = true ∧ 2 ≤ s.twin.silent ∧ s.twin.state = 2 := ⟨{ twinUp with twin := { twinUp.twin with silent := 2 } }, by decide +kernel⟩
theorem test_TwinTimersComplete_8 : ∃ (s : State), isPartner s = true ∧ (s.twin.state = 2 ∨ s.twin.state = 3) ∧ s.twin.pState = 1 ∧ 2 ≤ s.twin.silent ∧ 2 ≤ s.twin.noEdge ∧ s.stem.ssi % 8 = 0 := ⟨{ twinUp with twin := { twinUp.twin with silent := 2, noEdge := 2, pState := 1 } }, by decide +kernel⟩
theorem test_TwinTimersComplete_9 : ∃ (s : State), isPartner s = true ∧ s.twin.forming = true ∧ s.twin.state = 3 ∧ s.twin.formMs + 100 * s.twin.cfg.wait ≤ s.stem.ms ∧ s.twin.heard = false ∧ s.twin.linkUp = false ∧ s.twin.claimInOk = false := ⟨later 60000 { twinUp with twin := { twinUp.twin with forming := true, state := 3, linkUp := false, heard := false, claimInOk := false } }, by decide +kernel⟩
theorem test_TwinTimersComplete_10 : ∃ (s : State), isPartner s = true ∧ s.twin.forming = true ∧ s.twin.state = 3 ∧ s.twin.formMs + 100 * s.twin.cfg.wait ≤ s.stem.ms ∧ s.twin.linkUp = true ∧ s.twin.pState = 1 := ⟨later 60000 { twinUp with twin := { twinUp.twin with forming := true, state := 3, pState := 1 } }, by decide +kernel⟩
theorem test_TwinTimersComplete_11 : ∃ (s : State), isPartner s = true ∧ s.twin.formCause ≠ 0 ∧ s.twin.linkUp = true ∧ s.twin.retryMs + 1000 ≤ s.stem.ms := ⟨later 60000 { twinUp with twin := { twinUp.twin with formCause := 1 } }, by decide +kernel⟩
theorem test_TwinTimersComplete_12 : ∃ (s : State), isPartner s = true ∧ s.twin.state = 4 ∧ causeCleared s = true := ⟨{ twinUp with twin := { twinUp.twin with state := 4, cause := 1 } }, by decide +kernel⟩

theorem test_ManuscriptMessagesComplete_1 : ∃ (member key msId ip : Nat) (s : State), s.ms.cfg.msId ≠ 0 ∧ msId = s.ms.cfg.msId ∧ s.ms.state ≠ 0 ∧ actsForPair s = true ∧ key ≠ 0 ∧ s.ms.roster.any (fun e => e.2 = (member, key)) = true := ⟨2, 77, 9, 0, roster, by decide +kernel⟩
theorem test_ManuscriptMessagesComplete_2 : ∃ (h : MsHello) (s : State), hasPeer s h.sender = true ∧ actsForPair s = true ∧ s.ms.state = 2 ∧ h.asks = false := ⟨{ sender := 2 }, memberState, by decide +kernel⟩
theorem test_ManuscriptMessagesComplete_3 : ∃ (h : MsHello) (s : State), hasPeer s h.sender = false := ⟨{ sender := 5 }, memberState, by decide +kernel⟩
theorem test_ManuscriptMessagesComplete_4 : ∃ (via view : Nat) (members : List Nat) (s : State), s.ms.cfg.msId ≠ 0 ∧ actsForPair s = true ∧ s.ms.state = 2 ∧ members.contains (msMe s) = true ∧ s.ms.view < view := ⟨2, 99, [msMe memberState, 2], memberState, by decide +kernel⟩
theorem test_ManuscriptMessagesComplete_5 : ∃ (via : Nat) (p : MsPrepare) (s : State), msReady s = true ∧ s.ms.joinView ≤ p.view ∧ p.origin ≠ msMe s ∧ flourishOf s p.origin p.number = none := ⟨2, { origin := 2, number := 7, view := 1000, scene := 1, apply := 96000 }, memberState, by decide +kernel⟩
theorem test_ManuscriptMessagesComplete_6 : ∃ (via origin number count st refuser : Nat) (f : Flourish) (s : State), msReady s = true ∧ flourishOf s origin number = some f ∧ f.votes.contains via = false ∧ f.phase = 0 ∧ st = 0 := ⟨2, 1, 7, 1, 0, 0, fl 1, withFl (fl 1), by decide +kernel⟩
theorem test_ManuscriptMessagesComplete_7 : ∃ (via origin number : Nat) (f : Flourish) (s : State), msReady s = true ∧ flourishOf s origin number = some f ∧ f.origin ≠ msMe s ∧ f.ack = none ∧ f.missed = false ∧ commitLate s f = false := ⟨2, 2, 7, fl 2, withFl (fl 2), by decide +kernel⟩
theorem test_ManuscriptMessagesComplete_8 : ∃ (via origin number a : Nat) (f : Flourish) (s : State), msReady s = true ∧ flourishOf s origin number = some f ∧ f.origin ≠ msMe s ∧ f.ack = some a := ⟨2, 2, 7, 0, { fl 2 with ack := some 0 }, withFl { fl 2 with ack := some 0 }, by decide +kernel⟩
theorem test_ManuscriptMessagesComplete_9 : ∃ (via origin number st : Nat) (f : Flourish) (s : State), msReady s = true ∧ flourishOf s origin number = some f ∧ f.origin ≠ msMe s ∧ f.phase = 2 := ⟨2, 2, 7, 0x1A, { fl 2 with phase := 2 }, withFl { fl 2 with phase := 2 }, by decide +kernel⟩
theorem test_ManuscriptMessagesComplete_10 : ∃ (via origin number st : Nat) (f : Flourish) (s : State), msReady s = true ∧ flourishOf s origin number = some f ∧ f.origin ≠ msMe s ∧ f.phase = 0 := ⟨2, 2, 7, 0x1A, fl 2, withFl (fl 2), by decide +kernel⟩
theorem test_ManuscriptMessagesComplete_11 : ∃ (via member origin number : Nat) (f : Flourish) (s : State), msReady s = true ∧ flourishOf s origin number = some f ∧ f.origin = msMe s ∧ f.acked.contains member = false ∧ f.lateBy.contains member = false := ⟨2, 2, 1, 7, fl 1, withFl (fl 1), by decide +kernel⟩
theorem test_ManuscriptMessagesComplete_12 : ∃ (member : Nat) (s : State), True := ⟨2, memberState, by decide +kernel⟩

theorem test_ManuscriptTimersComplete_1 : ∃ (s : State), msReady s = true ∧ s.ms.beatMs + 500 ≤ s.stem.ms := ⟨later 600 memberState, by decide +kernel⟩
theorem test_ManuscriptTimersComplete_2 : ∃ (member : Nat) (p : Peer) (s : State), s.ms.peers.find? (fun p => p.member = member) = some p ∧ p.lastMs + 3000 ≤ s.stem.ms ∧ actsForPair s = true ∧ s.ms.state ≠ 2 := ⟨2, { member := 2 }, { memberState with ms := { memberState.ms with state := 1, peers := [{ member := 2 }] } }, by decide +kernel⟩
theorem test_ManuscriptTimersComplete_3 : ∃ (number : Nat) (f : Flourish) (s : State), flourishOf s (msMe s) number = some f ∧ f.phase = 0 ∧ f.apply ≤ s.stem.ssi + msLead s / 2 ∧ bit f.flags 3 = true ∧ f.refusal = none := ⟨7, { fl 1 with apply := 48000, flags := 8 }, withFl { fl 1 with apply := 48000, flags := 8 }, by decide +kernel⟩
theorem test_ManuscriptTimersComplete_4 : ∃ (number : Nat) (f : Flourish) (s : State), flourishOf s (msMe s) number = some f ∧ f.phase = 0 ∧ f.apply ≤ s.stem.ssi + msLead s / 2 ∧ bit f.flags 3 = false := ⟨7, { fl 1 with apply := 48000 }, withFl { fl 1 with apply := 48000 }, by decide +kernel⟩
theorem test_ManuscriptTimersComplete_5 : ∃ (number : Nat) (f : Flourish) (s : State), flourishOf s (msMe s) number = some f ∧ f.phase = 1 ∧ commitLate s f = false ∧ f.sentMs + 2 ≤ s.stem.ms := ⟨7, { fl 1 with phase := 1, acked := [1] }, withFl { fl 1 with phase := 1, acked := [1] }, by decide +kernel⟩
theorem test_ManuscriptTimersComplete_6 : ∃ (s : State), s.ms.state = 3 ∧ s.ms.retryMs + 1000 ≤ s.stem.ms ∧ actsForPair s = true := ⟨later 5000 { memberState with ms := { memberState.ms with state := 3 } }, by decide +kernel⟩

theorem test_RetouchEventsComplete_1 : ∃ (n : Nat) (x : State) (s : State), (nibState s n = 1 ∨ nibState s n = 2 ∨ nibState s n = 3) ∧ blotterRuns s = true ∧ effLevel s = 0 ∧ mayTest s n = true ∧ x = noteTest n s ∧ (nibRec s n).inject = 0 ∧ (nibRec s n).retest = false ∧ (nibRec s n).step ≠ 127 := ⟨0, noteTest 0 up, up, by decide +kernel⟩
theorem test_RetouchEventsComplete_2 : ∃ (n : Nat) (x : State) (s : State), (nibState s n = 1 ∨ nibState s n = 2 ∨ nibState s n = 3) ∧ blotterRuns s = true ∧ effLevel s = 0 ∧ mayTest s n = true ∧ x = noteTest n s ∧ (nibRec s n).inject = 0 ∧ (nibRec s n).retest = false := ⟨0, noteTest 0 up, up, by decide +kernel⟩
theorem test_RetouchEventsComplete_3 : ∃ (n : Nat) (s : State), nibState s n ≠ 0 := ⟨0, up, by decide +kernel⟩
theorem test_RetouchEventsComplete_4 : ∃ (n word key : Nat) (s : State), nibState s n ≠ 0 := ⟨0, 0, 0, up, by decide +kernel⟩
theorem test_RetouchEventsComplete_5 : ∃ (n word key : Nat) (s : State), nibState s n ≠ 0 := ⟨0, 0, 0, up, by decide +kernel⟩
theorem test_RetouchEventsComplete_6 : ∃ (n : Nat) (m : Migration) (s : State), s.rt.migs.find? (fun m => m.src = n && m.mode = 0 && !m.copied) = some m ∧ m.q + 2 ≤ s.stem.ssi / 8 ∧ s.dx.open_ = [] ∧ copyBlocked s n (s.stem.ssi / 8) = false := ⟨3, mig, { up with rt := { up.rt with migs := [mig] } }, by decide +kernel⟩
theorem test_RetouchEventsComplete_7 : ∃ (n : Nat) (same : Bool) (m : Migration) (s : State), s.rt.migs.find? (fun m => m.src = n && m.copied) = some m ∧ m.swapSsi ≤ s.stem.ssi ∧ m.dst ≠ 144 := ⟨3, true, { mig with copied := true }, { up with rt := { up.rt with migs := [{ mig with copied := true }] } }, by decide +kernel⟩
theorem test_RetouchEventsComplete_8 : ∃ (n : Nat) (s : State), nibState s n = 4 ∧ s.rt.readmit ≤ (nibRec s n).run ∧ (nibRec s n).quarMs + 60000 ≤ s.stem.ms := ⟨3, later 60000 (modNib 3 (fun r => { r with run := 1000 }) { up with dx := { up.dx with nibs := [(3, 4)] } }), by decide +kernel⟩
theorem test_RetouchEventsComplete_9 : ∃ (n : Nat) (s : State), nibState s n ≠ 0 ∧ nibState s n ≠ 5 ∧ blotterRuns s = true ∧ (nibRec s n).late = false ∧ (nibRec s n).passMs + coverBound s n ≤ s.stem.ms := ⟨0, later 600000 up, by decide +kernel⟩
theorem test_RetouchEventsComplete_10 : ∃ (s : State), True := ⟨up, by decide +kernel⟩
theorem test_RetouchEventsComplete_11 : ∃ (s : State), True := ⟨up, by decide +kernel⟩

theorem test_TicksAndTimesComplete_1 : ∃ (a b : Bool) (pins : Nat) (s : State), s.power.mode = .held := ⟨true, true, 0, held, by decide +kernel⟩
theorem test_TicksAndTimesComplete_2 : ∃ (a b : Bool) (pins : Nat) (x : State) (s : State), s.power.mode ≠ .held ∧ x = blTick (aonPart a b (takePins pins (advanceMs s))) ∧ x.stem.ms % 1000 ≠ 0 ∧ x.stem.ms % 60000 ≠ 0 ∧ x.stem.xoIn = false := ⟨true, true, 0, blTick (aonPart true true (takePins 0 (advanceMs noXo))), noXo, by decide +kernel⟩
theorem test_TicksAndTimesComplete_3 : ∃ (x : State) (s : State), gridRuns s = true ∧ x = drivePulses (captureSinks (sampleOutputs (hushForced s) (takeMeters (hushForced s) (computeSample (hushForced s) (runSinks (hushForced s) (releaseSources (takeInputs (sampleInputs s)))))))) ∧ x.stem.ssi % 8 ≠ 4 := ⟨drivePulses (captureSinks (sampleOutputs (hushForced grid) (takeMeters (hushForced grid) (computeSample (hushForced grid) (runSinks (hushForced grid) (releaseSources (takeInputs (sampleInputs grid)))))))), grid, by decide +kernel⟩
theorem test_TicksAndTimesComplete_4 : ∃ (edge : Bool) (s : State), gridRuns s = true ∧ s.stem.ssi % 8 = 0 := ⟨true, grid, by decide +kernel⟩
theorem test_TicksAndTimesComplete_5 : ∃ (s : State), dueActions s = [] ∧ s.ms.flourishes = [] ∧ s.twin.handover = none ∧ s.sheen.note = none := ⟨up, by decide +kernel⟩
theorem test_TicksAndTimesComplete_6 : ∃ (a : Armed) (s : State), dueActions s = [a] ∧ s.ms.flourishes = [] := ⟨armedNow, { up with ink := { up.ink with armed := [armedNow] } }, by decide +kernel⟩
theorem test_TicksAndTimesComplete_7 : ∃ (l : List (Nat × Nat)) (s : State), True := ⟨[(0, 1)], up, by decide +kernel⟩
theorem test_TicksAndTimesComplete_8 : ∃ (client seq : Nat) (a : Armed) (s : State), recallOf s client seq = some a ∧ a.late = true ∧ s.stem.ssi % 8 = 0 ∧ a.applySsi ≤ s.stem.ssi := ⟨0, 3, recallNow, { up with ink := { up.ink with armed := [recallNow] } }, by decide +kernel⟩
theorem test_TicksAndTimesComplete_9 : ∃ (client seq : Nat) (e : Running) (r : Reply) (x : CacheEntry) (s : State), runningAt s client seq = some e ∧ e.result = some r ∧ e.events = [] ∧ (well s client).cache.find? (fun x => x.seq = r.seq && x.reply = none) = some x := ⟨0, 5, runNow, { opcode := 0x0101, seq := 5, status := .ok }, { seq := 5, crc := 9, reply := none }, modWell 0 (fun w => { w with cache := [{ seq := 5, crc := 9, reply := none }] }) { up with ink := { up.ink with running := [runNow] } }, by decide +kernel⟩

end Sys2Proof.Tests
end

/-! The frame of every command, and from it that a step takes the front command and keeps the variant (R1, R176). -/

namespace Sys2Proof.Machine

/-- Zeroisation replaces the units that the user's settings reach by cold ones, and keeps the queue and the variant all the same (R610). -/
theorem zeroise_rest (P : Parts) (hdraws : P.draws = true) (hstem : P.stem = true) (hbl : P.bl = true) (hboot : P.boot = true) (hpower : P.power = true)
    (hink : P.ink = true) (hhost : P.host = true) (htwin : P.twin = true) (hhush : P.hush = true) (hserif : P.serif = true) (hquill : P.quill = true)
    (hms : P.ms = true) (hrt : P.rt = true) (hlife : P.life = true) (hdx : P.dx = true) (hprog : P.prog = true) (hlig : P.lig = true)
    (hsheen : P.sheen = true) (hvl : P.vl = true) (hresume : P.resume = true) (s : State) : (zeroise s).rest P = s.rest P := by
  unfold zeroise
  split
  · rfl
  · simp [hdraws, hstem, hbl, hboot, hpower, hink, hhost, htwin, hhush, hserif, hquill, hms, hrt, hlife, hdx, hprog, hlig, hsheen, hvl, hresume]

/-- A command that an unknown opcode asks for does nothing but answer BAD_OPCODE. -/
theorem badOpcode_keeps (P : Parts) : Cmd.Keeps P { lens := fun _ _ => true, body := fun _ t => fail .badOpcode t } :=
  ⟨fun _ _ => ⟨rfl, fun _ => rfl⟩, fun _ _ => trivial⟩

/-- A request with an opcode of no row changes what serving a request changes, and nothing else. -/
theorem unknownOpcodeRequest_rest (op : Nat) (r : Request) (s t : State) (h : execUnknownOpcodeRequest op r s = .next t) :
    t.rest serving = s.rest serving := by
  unfold execUnknownOpcodeRequest at h
  split at h
  · rw [Host.Outcome.next.inj h]
  · exact serve_rest serving rfl rfl rfl rfl rfl rfl rfl _ _ _ _ _ (badOpcode_keeps serving) h

/-- Every command keeps the parts of the state that `mayChange` does not list for it: a Sprinile command because serving a request keeps what its
command keeps, any other because its meaning is an operation that keeps them. -/
theorem exec_rest (c : Instr) (s t : State) (h : exec c s = .next t) : t.rest (mayChange c) = s.rest (mayChange c) := by
  cases c
  case unknownOpcodeRequest op r => exact unknownOpcodeRequest_rest op r s t h
  case msJoin r =>
    exact (serve_rest _ rfl rfl rfl rfl rfl rfl rfl _ _ _ _ _ (cmdMsJoin_keeps _ rfl rfl rfl) h).trans (msBegin_rest _ rfl s)
  case msFlourish r =>
    refine (serve_rest _ rfl rfl rfl rfl rfl rfl rfl _ _ _ _ _ ?_ h).trans (msBegin_rest _ rfl s)
    dsimp only [mayChange, serving]
    simp
  case expRegWrite r =>
    exact serve_rest _ rfl rfl rfl rfl rfl rfl rfl _ _ _ _ _
      (cmdRegWrite_keeps _ rfl rfl rfl rfl rfl rfl rfl rfl rfl rfl rfl rfl rfl rfl rfl rfl rfl rfl rfl) h
  -- the other Sprinile commands: serving a request keeps what its command keeps
  case sysIdentityGet | sysCapsGet | sysRoleSet | sysGrantGet | sysGrantSet | sysClockGet | sysRateSet | sysSsiRealign | sysBootInfo | sysRestart |
      sysFwWrite | sysFwSelect | sysFwCommit | sysResumeSet | sysResumeSave | sysInkGet | sysInkClose | sysSubscribe | sysWarnGet | sysArmedGet |
      sysArmedCancel | sysMemStatusGet | sysCartStatusGet | lcStatusGet | lcNonceGet | lcProvision | lcDeploy | lcReturn | lcDebugUnlock | lcAttest |
      sysBoardGet | sysBoardSet | sysGpioConfig | sysGpioGet | sysGpioSet | sysLtcConfig | sysLtcStatusGet | sysLinkGet | blStatusGet | blRefConfig |
      blSelect | blSteer | blPhaseStep | blOutConfig | blPolicySet | blRefClear | modeGet | modeSet | modeWakeConfig | netPortConfig |
      netPortStatusGet | netPtpConfig | netPtpStatusGet | netQuillConfig | netRxSet | netRxGet | netTxSet | netTxGet | netStatusGet | netNmosConfig |
      serConfig | serConfigGet | serStatusGet | serCountersGet | ligRouteSet | ligRouteGet | ligSinkConfig | ligGainSet | ligFallback | ligPatchSet |
      ligStatusGet | instCreate | instDelete | instSet | instGet | instList | instRename | progList | instCoefSet | instCoefGet | dxLoadGet |
      dxNibGet | dxConfig | sceneStore | sceneRecall | sceneDelete | sceneList | sceneExport | sceneImport | sceneSafeSet | sceneSafeGet | cueConfig |
      cueMapSet | cueMapGet | cueStatusGet | folioMap | folioRead | folioWrite | sheenConfig | sheenLoudReset | sheenSetDefine | sheenSetDelete |
      sheenSetRead | sheenStatusGet | sheenConfigGet | hushStatusGet | hushClear | hushConfig | hushConfigGet | twinStatusGet | twinConfig |
      twinPromote | twinResync | twinDissolve | msStatusGet | msConfig | msRosterSet | msLeave | msXbusSet | msMembersGet | sealRun | sealStatusGet |
      sealDigestGet | sealRegionRun | rtStatusGet | rtConfig | rtNibTest | rtMigrate | rtShedSet | rtShedGet | rtRepairGet | btStatusGet |
      rtRowRetire | btInject | cbList | cbRun | cbAbort | cbResultGet | vlStatusGet | vlRead | vlExport | vlSave | expRegRead =>
    refine serve_rest _ rfl rfl rfl rfl rfl rfl rfl _ _ _ _ _ ?_ h
    dsimp only [mayChange, serving]
    simp
  case zeroisation =>
    obtain rfl := Host.Outcome.next.inj h
    exact zeroise_rest _ rfl rfl rfl rfl rfl rfl rfl rfl rfl rfl rfl rfl rfl rfl rfl rfl rfl rfl rfl rfl s
  case barExpiry | refRevert =>
    obtain rfl := Host.Outcome.next.inj h
    dsimp only [mayChange]
    split <;> simp
  -- the register accesses, ticks, packets, pins and events: each is one operation, or nothing where its gate is shut
  all_goals
    obtain rfl := Host.Outcome.next.inj h
    dsimp only [mayChange, serving]
    simp

/-- No set of parts holds the variant. -/
@[simp] theorem rest_variant (P : Parts) (s : State) : (s.rest P).variant = s.variant := rfl

/-- No set of parts holds the queue. -/
@[simp] theorem rest_pending (P : Parts) (s : State) : (s.rest P).pending = s.pending := rfl

/-- States that agree outside a set of parts have one variant and one queue. -/
theorem variant_pending_of_rest_eq {P : Parts} {s t : State} (h : t.rest P = s.rest P) : t.variant = s.variant ∧ t.pending = s.pending := by
  rw [← rest_variant P t, ← rest_pending P t, h]
  exact ⟨rfl, rfl⟩

/-- What a step that answers a next state can do: nothing, on an empty queue, or run the command at the front with the queue's rest. -/
theorem step_next_cases {s t : State} (h : step s = .next t) :
    s.pending = [] ∧ t = s ∨ ∃ c rest, s.pending = c :: rest ∧ exec c { s with pending := rest } = .next t := by
  unfold step at h
  split at h
  next hp => exact .inl ⟨hp, (Host.Outcome.next.inj h).symm⟩
  next c rest hp => exact .inr ⟨c, rest, hp, h⟩

/-- Settles O3: a step idles or runs the front command on the state with the queue's rest, and no command changes the variant or the queue. -/
theorem stepKeepsTheVariantAndTakesTheFront : Obligations.StepKeepsTheVariantAndTakesTheFront := by
  intro s t h
  obtain ⟨hp, rfl⟩ | ⟨c, rest, hp, hc⟩ := step_next_cases h
  · exact ⟨rfl, by rw [hp, List.tail_nil]⟩
  · obtain ⟨hvariant, hpending⟩ := variant_pending_of_rest_eq (exec_rest c _ t hc)
    exact ⟨hvariant, by rw [hpending, hp, List.tail_cons]⟩

end Sys2Proof.Machine

/-! The accesses to the host register page (R4, R115, R161). -/

namespace Sys2Proof.Machine

/-- An access over a transport touches the host interfaces only, so not the boot. -/
@[simp] theorem access_boot (via : Via) (s : State) : (access via s).boot = s.boot :=
  congrArg (fun x => x.boot) (access_rest { host := true } rfl via s)

/-- A write that reaches the engine is carried out on BAR0. -/
theorem exec_registerWrite {via : Via} {off : Nat} {data : Bytes} {s : State} (h : reach via s = true) :
    exec (.registerWrite via off data) s = .next (barWrite via off data (access via s)) :=
  congrArg _ (if_pos h)

/-- A write of one aligned word of the page acts by its register's access code. -/
theorem barWrite_page {via : Via} {off : Nat} {data : Bytes} {s : State} (hoff : off < 0x100000) (hword : off % 4 = 0 ∧ data.length = 4) :
    barWrite via off data s = pageWrite via off (u32 data 0) s := by
  rw [barWrite, if_pos hoff, if_pos hword]

/-- A write of the page that is not one aligned word sets bit 0 of HOST_ERR. -/
theorem barWrite_page_of_not_word {via : Via} {off : Nat} {data : Bytes} {s : State} (hoff : off < 0x100000)
    (hword : off % 4 ≠ 0 ∨ data.length ≠ 4) : barWrite via off data s = setHostErr 0 s := by
  rw [barWrite, if_pos hoff, if_neg (by omega)]

/-- A write of the Inkwells that R656 accepts is carried out word by word. -/
theorem barWrite_inkwells {via : Via} {off : Nat} {data : Bytes} {s : State} (hlow : 0x100000 ≤ off) (hhigh : off < 0x500000)
    (hok : inkAccess via true off data.length = true) :
    barWrite via off data s = inkWrite via ((off - 0x100000) / 65536) data.length (off % 65536) data s := by
  rw [barWrite, if_neg (by omega), if_pos ⟨hhigh, hok⟩]

/-- GO in WAIT_HOST tries the host image. -/
theorem bootGo_waitHost {s : State} (h : s.boot.stage = .waitHost) : bootGo s = trySource 2 true s := if_pos h

/-- A read of WAKE_CAUSE that reaches the engine returns the register, with the effects of the read. -/
theorem exec_wakeCauseRead {via : Via} {s : State} (h : reach via s = true) :
    exec (.wakeCauseRead via) s = .next (regRead (wakeCauseWord s) (readWakeCause via (access via s))) :=
  congrArg _ (if_pos h)

/-- Settles O31: each access is carried out on the state that the access itself leaves, by the branch of `barWrite`, `bootGo` or `readWakeCause` that
its premises select. -/
theorem hostRegisterAccessesComplete : Obligations.HostRegisterAccessesComplete := by
  refine ⟨?word, ?size, ?inkwells, ?go, ?hspi, ?pcie⟩
  case word =>
    intro via off data s hreach hoff halign hlen
    rw [exec_registerWrite hreach, barWrite_page hoff ⟨halign, hlen⟩]
  case size =>
    intro via off data s hreach hoff hword
    rw [exec_registerWrite hreach, barWrite_page_of_not_word hoff hword]
  case inkwells =>
    intro via off data s hreach hlow hhigh hok
    rw [exec_registerWrite hreach, barWrite_inkwells hlow hhigh hok]
  case go =>
    intro via s hreach hstage
    have hgo : exec (.bootCtrlGo via) s = .next (bootGo (access via s)) := congrArg _ (if_pos hreach)
    rw [hgo, bootGo_waitHost (by rw [access_boot, hstage])]
  case hspi =>
    intro s hreach
    exact exec_wakeCauseRead hreach
  case pcie =>
    intro s hreach
    exact exec_wakeCauseRead hreach

end Sys2Proof.Machine

/-! The registers and the records of Sheen (R520, R521, R526, R527). -/

namespace Sys2Proof.Machine

/-- What is found at a number where a value was inserted. -/
@[simp] theorem mapGet_tabInsert {α : Type} (t : List (Nat × α)) (k : Nat) (v : α) : mapGet (tabInsert k v t) k = some v := by
  induction t with
  | nil => simp [mapGet, tabInsert]
  | cons e t ih =>
    obtain ⟨a, w⟩ := e
    unfold tabInsert
    split
    · simp [mapGet]
    split
    · simp [mapGet]
    next _ hne =>
      rw [← ih]
      simp [mapGet, Ne.symm hne]

/-- What a change of a set leaves at its number. -/
theorem mapGet_modSet {n : Nat} {r : ReportSet} {f : ReportSet → ReportSet} {s : State} (h : mapGet s.sheen.sets n = some r) :
    mapGet (modSet n f s).sheen.sets n = some (f r) := by
  simp [modSet, h]

/-- A change of a set changes no interval that waits to be written. -/
@[simp] theorem modSet_closing (n : Nat) (f : ReportSet → ReportSet) (s : State) : (modSet n f s).sheen.closing = s.sheen.closing := by
  unfold modSet
  split <;> rfl

/-- A change of a set changes no count of records. -/
@[simp] theorem modSet_records (n : Nat) (f : ReportSet → ReportSet) (s : State) : (modSet n f s).sheen.records = s.sheen.records := by
  unfold modSet
  split <;> rfl

/-- A change of a set changes nothing outside Sheen: not the time base. -/
@[simp] theorem modSet_stem (n : Nat) (f : ReportSet → ReportSet) (s : State) : (modSet n f s).stem = s.stem :=
  congrArg (fun x => x.stem) (modSet_rest { sheen := true } rfl n f s)

/-- Nor the Inkwells. -/
@[simp] theorem modSet_ink (n : Nat) (f : ReportSet → ReportSet) (s : State) : (modSet n f s).ink = s.ink :=
  congrArg (fun x => x.ink) (modSet_rest { sheen := true } rfl n f s)

/-- A set whose SHEEN_READY was raised less than 50 ms ago waits (R525). -/
theorem announceSet_waits {n f : Nat} {r : ReportSet} {s : State} (h : mapGet s.sheen.sets n = some r) (hdue : r.due = some f)
    (hready : r.readyMs ≠ 0) (hsoon : s.stem.ms + 1 < r.readyMs + 50) : announceSet n s = s := by
  simp only [announceSet, h, hdue]
  exact if_pos ⟨hready, hsoon⟩

/-- Where one set is defined, its interval closes when it has started and its end is reached (R520). -/
theorem closeDue_single {n u : Nat} {r : ReportSet} {s : State} (hsets : s.sheen.sets = [(n, r)]) (hstarted : r.started = true) (hclose : r.close ≤ u) :
    closeDue u s =
      modSet n (fun q => { q with partOpen := false, close := u / setLength s r.interval * setLength s r.interval + setLength s r.interval })
        (emitRecord n r u r.partOpen s) := by
  have hget : mapGet s.sheen.sets n = some r := by simp [hsets, mapGet]
  simp only [closeDue, hsets, List.foldl_cons, List.foldl_nil]
  rw [← hsets, hget]
  exact if_pos ⟨hstarted, hclose⟩

/-- A record that is due and whose set is gone is dropped (R521). -/
theorem writeRecord_of_set_gone {c : Closing} {s : State} (hdue : s.sheen.closing.find? (recordDue s) = some c)
    (hgone : mapGet s.sheen.sets c.set_ = none) : writeRecord s = { s with sheen := { s.sheen with closing := s.sheen.closing.erase c } } := by
  simp only [writeRecord, hdue, hgone]

/-- A record that is due is written to its set and counted, and the set is then announced (R521, R525). -/
theorem writeRecord_announces {c : Closing} {r : ReportSet} {s : State} (hdue : s.sheen.closing.find? (recordDue s) = some c)
    (hset : mapGet s.sheen.sets c.set_ = some r) :
    ∃ (u : State) (q : ReportSet) (f : Nat), writeRecord s = announceSet c.set_ u ∧
      (mapGet u.sheen.sets c.set_ = some q ∧ q.due = some f ∧ q.readyMs = r.readyMs) ∧
      u.stem = s.stem ∧ u.ink = s.ink ∧ u.sheen.closing = s.sheen.closing.erase c ∧ u.sheen.records = (s.sheen.records + 1) % 2 ^ 32 := by
  simp only [writeRecord, hdue, hset]
  refine ⟨_, _, _, rfl, ⟨mapGet_modSet hset, rfl, rfl⟩, ?_, ?_, ?_, ?_⟩
  · exact modSet_stem _ _ _
  · exact modSet_ink _ _ _
  · exact modSet_closing _ _ _
  · rw [modSet_records]

/-- A record that is due is written and counted, and raises no event while its set's last SHEEN_READY is less than 50 ms old (R521, R525). -/
theorem writeRecord_unannounced {c : Closing} {r : ReportSet} {s : State} (hdue : s.sheen.closing.find? (recordDue s) = some c)
    (hset : mapGet s.sheen.sets c.set_ = some r) (hready : r.readyMs ≠ 0) (hsoon : s.stem.ms + 1 < r.readyMs + 50) :
    (writeRecord s).sheen.closing = s.sheen.closing.erase c ∧ (writeRecord s).sheen.records = (s.sheen.records + 1) % 2 ^ 32 ∧
      (writeRecord s).ink = s.ink := by
  obtain ⟨u, q, f, hwrite, ⟨hq, hf, hms⟩, hstem, hink, hclosing, hrecords⟩ := writeRecord_announces hdue hset
  rw [hwrite, announceSet_waits hq hf (by rwa [hms]) (by rwa [hstem, hms])]
  exact ⟨hclosing, hrecords, hink⟩

/-- Settles O47: each register access is its operation once the expert registers are open, and the interval and the record are those that the
lemmas on `closeDue` and `writeRecord` name. -/
theorem sheenEventsComplete : Obligations.SheenEventsComplete := by
  refine ⟨?ball0, ?ball1, ?srcPeak, ?snkPeak, ?epoch, ?close, ?gone, ?written⟩
  case ball0 => exact fun w s h => congrArg Host.Outcome.next (if_pos h)
  case ball1 => exact fun w s h => congrArg Host.Outcome.next (if_pos h)
  case srcPeak => exact fun n s h => congrArg Host.Outcome.next (if_pos h)
  case snkPeak => exact fun n s h => congrArg Host.Outcome.next (if_pos h)
  case epoch => exact fun s h => congrArg Host.Outcome.next (if_pos h)
  case close => exact fun n r s hsets hstarted hclose => congrArg Host.Outcome.next (closeDue_single hsets hstarted hclose)
  case gone => exact fun c s hdue hgone => congrArg Host.Outcome.next (writeRecord_of_set_gone hdue hgone)
  case written => exact fun c r s hdue hset hready hsoon => ⟨writeRecord s, rfl, writeRecord_unannounced hdue hset hready hsoon⟩

end Sys2Proof.Machine

/-! ### The gate of the expert registers -/

namespace Sys2Proof.Machine

/-- A row behind a gate that is open has the outcome of its operation. -/
theorem next_of_open {b : Bool} {s t u : State} (h : b = true) (e : t = u) :
    (Host.Outcome.next (if b = true then t else s) : Host.Outcome State Fault Refusal) = .next u := by
  rw [if_pos h, e]

/-- A row behind a gate that is shut changes nothing. -/
theorem next_of_shut {b : Bool} {s t : State} (h : b = false) :
    (Host.Outcome.next (if b = true then t else s) : Host.Outcome State Fault Refusal) = .next s := by
  rw [if_neg (by simp [h])]

end Sys2Proof.Machine

/-! ### What a frame says of one unit -/

namespace Sys2Proof.Machine

section
variable {P : Parts} {s t : State}

/-- States that agree outside parts without Stem have one Stem. -/
theorem stem_of_rest_eq (hP : P.stem = false) (h : t.rest P = s.rest P) : t.stem = s.stem := by
  simpa [State.rest, hP] using congrArg State.stem h

/-- States that agree outside parts without the power unit have one power unit. -/
theorem power_of_rest_eq (hP : P.power = false) (h : t.rest P = s.rest P) : t.power = s.power := by
  simpa [State.rest, hP] using congrArg State.power h

/-- States that agree outside parts without the boot have one boot. -/
theorem boot_of_rest_eq (hP : P.boot = false) (h : t.rest P = s.rest P) : t.boot = s.boot := by
  simpa [State.rest, hP] using congrArg State.boot h

/-- States that agree outside parts without Ductus have one Ductus. -/
theorem dx_of_rest_eq (hP : P.dx = false) (h : t.rest P = s.rest P) : t.dx = s.dx := by
  simpa [State.rest, hP] using congrArg State.dx h

/-- States that agree outside parts without Copybook have one Copybook. -/
theorem cb_of_rest_eq (hP : P.cb = false) (h : t.rest P = s.rest P) : t.cb = s.cb := by
  simpa [State.rest, hP] using congrArg State.cb h

end

end Sys2Proof.Machine

/-! The registers of Baseline (R30, R96). -/

namespace Sys2Proof.Machine

/-- BL_SELECT takes a mode and a reference that BL.SELECT would take. -/
theorem blSelectWrite_taken {w : Nat} {s : State} (hmode : fld w 0 2 ≠ 3) (hrange : ¬ (24 < fld w 2 5 ∧ fld w 0 2 = 1))
    (hok : selectRefused (fld w 0 2) (fld w 2 5) s = none) :
    blSelectWrite w s = { s with bl := { s.bl with selWant := some (fld w 0 2, fld w 2 5) } } := by
  refine if_neg ?_
  rintro (h | h | h)
  · exact hmode h
  · exact hrange h
  · simp [hok] at h

/-- BL_SELECT sets SEL_REJ for SELMODE 3 and for a selection that BL.SELECT would refuse. -/
theorem blSelectWrite_refused {w : Nat} {s : State}
    (h : fld w 0 2 = 3 ∨ (selectRefused (fld w 0 2) (fld w 2 5) s).isSome = true) : blSelectWrite w s = blEvent 7 s :=
  if_pos (h.imp_right .inr)

/-- BL_STEP keeps a step that BL.PHASE_STEP would take. -/
theorem blStepWrite_taken {w : Nat} {s : State} (hok : stepRefused (sgn 32 w) s = none) :
    blStepWrite w s = { s with bl := { s.bl with stepPend := some { step := sgn 32 w, atSsi := nextBoundary s } } } := by
  simp only [blStepWrite, hok]

/-- BL_STEP sets its event bit for a step that BL.PHASE_STEP would refuse. -/
theorem blStepWrite_refused {w : Nat} {s : State} (h : (stepRefused (sgn 32 w) s).isSome = true) : blStepWrite w s = blEvent 6 s := by
  obtain ⟨st, hst⟩ := Option.isSome_iff_exists.1 h
  simp only [blStepWrite, hst]

/-- Settles O37: behind the gate of the expert registers each write is the case of its register's operation. -/
theorem baselineRegistersComplete : Obligations.BaselineRegistersComplete := by
  refine ⟨?select, ?selectRejected, ?step, ?stepRejected, ?steerFree, ?steerHeld, ?selectShut, ?stepShut, ?steerShut⟩
  case select => exact fun w s hopen hmode hrange hok => next_of_open hopen (blSelectWrite_taken hmode hrange hok)
  case selectRejected => exact fun w s hopen h => next_of_open hopen (blSelectWrite_refused h)
  case step => exact fun w s hopen hok => next_of_open hopen (blStepWrite_taken hok)
  case stepRejected => exact fun w s hopen h => next_of_open hopen (blStepWrite_refused h)
  case steerFree => exact fun w s hopen hfree => next_of_open hopen (if_pos hfree)
  case steerHeld => exact fun w s hopen hnot => next_of_open hopen (if_neg hnot)
  case selectShut => exact fun w s hshut => next_of_shut hshut
  case stepShut => exact fun w s hshut => next_of_shut hshut
  case steerShut => exact fun w s hshut => next_of_shut hshut

end Sys2Proof.Machine

/-! The loop of Baseline (R72, R76 to R78) and the clocks of Stem (R44, R46, R47, R51, R55, R249, R725). -/

namespace Sys2Proof.Machine

/-- The jam is armed, Baseline follows PTP, and no alignment has begun. -/
def FirstLockOpen (s : State) : Prop :=
  s.stem.jamArmed = true ∧ s.bl.sel < 4 ∧ following s = true ∧ s.bl.aligning = false ∧ s.bl.thetaStep = false ∧ s.bl.jamDue = false

/-- In a full mode the first lock to PTP aligns the samples (R77). -/
theorem firstLock_aligns {theta delta : Int} {s : State} (h : FirstLockOpen s) (hfull : fullMode s.power.mode = true) :
    firstLock theta delta s = setFollowFreq { s with bl := { s.bl with aligning := true, theta := thetaReduced s theta, ptpDelta := delta } } := by
  obtain ⟨hjam, hsel, hfollow, halign, hstep, hdue⟩ := h
  rw [firstLock, if_neg (by simp [hjam, hfollow, halign, hstep, hdue, hsel]), if_pos hfull]

/-- In another mode it steps theta (R77). -/
theorem firstLock_steps {theta delta : Int} {s : State} (h : FirstLockOpen s) (hfull : fullMode s.power.mode = false) :
    firstLock theta delta s = { s with bl := { s.bl with thetaStep := true, theta := thetaReduced s theta, ptpDelta := delta } } := by
  obtain ⟨hjam, hsel, hfollow, halign, hstep, hdue⟩ := h
  rw [firstLock, if_neg (by simp [hjam, hfollow, halign, hstep, hdue, hsel]), if_neg (by simp [hfull])]

/-- While CLK_CTRL is open a new rate or family begins a change (R46, R725). -/
theorem clkApply_begins {s : State} (hopen : clkCtrlOpen s = true) (hrate : s.stem.cfgRate ≠ 3)
    (hnew : s.stem.cfgFamily ≠ s.stem.family ∨ rateMult s.stem.cfgRate ≠ s.stem.mult) :
    clkApply s =
      stopPorts { s with stem := { s.stem with change := some { family := s.stem.cfgFamily, mult := rateMult s.stem.cfgRate } } } := by
  refine if_neg ?_
  rintro (h | h | ⟨hfamily, hmult⟩)
  · exact h hopen
  · exact hrate h
  · exact hnew.elim (absurd hfamily) (absurd hmult)

/-- While CLK_CTRL is shut nothing changes (R725). -/
theorem clkApply_shut {s : State} (h : clkCtrlOpen s = false) : clkApply s = s := if_pos (.inl (by simp [h]))

/-- Stem locks with the family and the multiplier of NVS, and SSI from the AON clock on the grid of 8, or zero where AON has no time (R44). -/
theorem stemLocks_locks {s : State} (hlock : s.stem.stemLock = false) (hboot : s.power.mode = .booting) (hxo : s.stem.xoIn = true)
    (hports : s.hush.cfg.ports = []) :
    (stemLocks s).stem.stemLock = true ∧ (stemLocks s).stem.family = s.stem.nvsFamily ∧ (stemLocks s).stem.mult = s.stem.nvsMult ∧
      (s.stem.aonSet = false → (stemLocks s).stem.ssi = 0) ∧ (stemLocks s).stem.ssi % 8 = 0 ∧
      (stemLocks s).ink = s.ink ∧ (stemLocks s).prog = s.prog := by
  simp only [stemLocks]
  rw [if_neg (by simp [hlock, hboot, hxo])]
  rw [hports, List.filter_nil, List.foldl_nil]
  refine ⟨rfl, rfl, rfl, fun h => if_neg (by simp [h]), ?_, rfl, rfl⟩
  split
  · exact Nat.mul_mod_left _ 8
  · rfl

/-- The announcement of a shift changes nothing of Stem. -/
@[simp] theorem announceShift_stem (delta : Int) (cause : Nat) (s : State) : (announceShift delta cause s).stem = s.stem :=
  stem_of_rest_eq (P := { ink := true, host := true }) rfl (announceShift_rest _ rfl rfl delta cause s)

/-- A shift of SSI moves SSI and keeps by how much; it changes nothing else of Stem. -/
@[simp] theorem shiftSsi_stem (new : Nat) (f : Nat → Nat) (cause : Nat) (s : State) :
    (shiftSsi new f cause s).stem = { s.stem with ssi := new, jamDelta := (new : Int) - s.stem.ssi } := by
  rw [shiftSsi, vellumCount_stem, announceShift_stem]
  rfl

/-- Placing the work afresh changes nothing of Stem. -/
@[simp] theorem placeAfresh_stem (s : State) : (placeAfresh s).stem = s.stem :=
  stem_of_rest_eq (P := { prog := true }) rfl (placeAfresh_rest _ rfl s)

/-- Telling Sheen's epoch changes nothing of Stem. -/
@[simp] theorem tellEpoch_stem (s : State) : (tellEpoch s).stem = s.stem :=
  stem_of_rest_eq (P := { ink := true, host := true, sheen := true }) rfl (tellEpoch_rest _ rfl rfl rfl s)

/-- Opening Sheen's epoch changes nothing of Stem. -/
@[simp] theorem openEpoch_stem (cause : Nat) (reset : List Nat) (s : State) : (openEpoch cause reset s).stem = s.stem :=
  stem_of_rest_eq (P := { sheen := true }) rfl (openEpoch_rest _ rfl cause reset s)

/-- Restarting the meters changes nothing of Stem. -/
@[simp] theorem restartMeters_stem (s : State) : (restartMeters s).stem = s.stem :=
  stem_of_rest_eq (P := { sheen := true }) rfl (restartMeters_rest _ rfl s)

/-- Nor does restarting the groups. -/
@[simp] theorem restartGroups_stem (l : List Nat) (s : State) : (restartGroups l s).stem = s.stem :=
  stem_of_rest_eq (P := { sheen := true }) rfl (restartGroups_rest _ rfl l s)

/-- Shedding work changes nothing of Stem. -/
@[simp] theorem foldl_shedInst_stem (l : List Nat) (s : State) : (l.foldl (fun t k => shedInst k t) s).stem = s.stem :=
  stem_of_rest_eq (P := { prog := true }) rfl (foldl_rest _ _ l s fun t k => shedInst_rest _ rfl k t)

/-- Starting the ports changes nothing of Stem. -/
@[simp] theorem startPorts_stem (s : State) : (startPorts s).stem = s.stem :=
  stem_of_rest_eq (P := { ink := true, host := true, serif := true }) rfl (startPorts_rest _ rfl rfl rfl s)

/-- The end of a change of rate gives Stem the new family and multiplier and arms the jam; all it does to the other units leaves Stem
alone (R51). -/
theorem stemRelock_ends_change {c : RateChange} {s : State} (hchange : s.stem.change = some c) (hhalted : c.halted = true)
    (hgrid : s.stem.ssi % 8 = 0) :
    (stemRelock s).stem.change = none ∧ (stemRelock s).stem.family = c.family ∧ (stemRelock s).stem.mult = c.mult ∧
      (stemRelock s).stem.jamArmed = true := by
  unfold stemRelock
  split
  next hnone => simp [hchange] at hnone
  next c' hsome =>
  obtain rfl : c = c' := Option.some.inj (hchange.symm.trans hsome)
  rw [if_neg (by simp [hgrid, hhalted])]
  extract_lets _ _ _ _ _ _ _ s1 s2 s3 s4
  have h1 : s1.stem.change = none ∧ s1.stem.family = c.family ∧ s1.stem.mult = c.mult ∧ s1.stem.jamArmed = true := by
    rw [show s1.stem = { (shiftSsi _ _ 1 _).stem with aligned := false, jamArmed := true } from rfl, shiftSsi_stem]
    exact ⟨rfl, rfl, rfl, rfl⟩
  have h2 : s2.stem = s1.stem := by
    rw [placeAfresh_stem, tellEpoch_stem, restartMeters_stem, restartGroups_stem, openEpoch_stem]
  have h3 : s3.stem = s2.stem := by
    simp only [s3]
    split
    · exact foldl_shedInst_stem _ s2
    · rfl
  have h4 : s4.stem = s1.stem := by rw [startPorts_stem, h3, h2]
  rw [← h4] at h1
  split
  · exact h1
  · exact h1

/-- Settles O39: each row is the case of its operation; the two locks of Stem are read off the state that the other units' work leaves. -/
theorem loopAndClockEventsComplete : Obligations.LoopAndClockEventsComplete := by
  refine ⟨?aligns, ?steps, ?aligned, ?slewed, ?ramped, ?rate, ?rateShut, ?realign, ?realignShut, ?ssiLo, ?lockZero, ?lockAon, ?relock⟩
  case aligns =>
    exact fun theta delta s hjam hsel hfollow halign hstep hdue hfull =>
      congrArg Host.Outcome.next (firstLock_aligns ⟨hjam, hsel, hfollow, halign, hstep, hdue⟩ hfull)
  case steps =>
    exact fun theta delta s hjam hsel hfollow halign hstep hdue hfull =>
      congrArg Host.Outcome.next (firstLock_steps ⟨hjam, hsel, hfollow, halign, hstep, hdue⟩ hfull)
  case aligned => exact fun s halign htheta => congrArg Host.Outcome.next (if_pos ⟨halign, htheta⟩)
  case slewed => exact fun s hslew => congrArg Host.Outcome.next (if_pos hslew)
  case ramped => exact fun s hfree hramp => congrArg Host.Outcome.next (if_pos ⟨hfree, hramp⟩)
  case rate => exact fun s hopen hrate hnew => congrArg Host.Outcome.next (clkApply_begins hopen hrate hnew)
  case rateShut => exact fun s hshut => congrArg Host.Outcome.next (clkApply_shut hshut)
  case realign => exact fun s hopen => next_of_open hopen rfl
  case realignShut => exact fun s hshut => next_of_shut hshut
  case ssiLo => exact fun s hopen => next_of_open hopen rfl
  case lockZero =>
    intro s hlock hboot hxo haon hports
    obtain ⟨hlocked, hfamily, hmult, hzero, -, hink, hprog⟩ := stemLocks_locks hlock hboot hxo hports
    exact ⟨stemLocks s, rfl, hlocked, hzero haon, hfamily, hmult, hink, hprog⟩
  case lockAon =>
    intro s hlock hboot hxo _ hports
    obtain ⟨hlocked, -, -, -, hgrid, hink, hprog⟩ := stemLocks_locks hlock hboot hxo hports
    exact ⟨stemLocks s, rfl, hlocked, hgrid, hink, hprog⟩
  case relock =>
    exact fun c s hchange hhalted hgrid => ⟨stemRelock s, rfl, stemRelock_ends_change hchange hhalted hgrid⟩

end Sys2Proof.Machine

/-! Mode requests, standby, wakes and the autosave (R127, R138, R147, R156 to R158, R164, R165, R169). -/

namespace Sys2Proof.Machine

/-- A mode request that the engine would carry out waits for the next boundary (R147). -/
theorem modeReqWrite_goes {w : Nat} {l : List Nat} {s : State} (hgo : bit w 8 = true) (hout : modeOutcome (fld w 0 3) false s = .go l) :
    modeReqWrite w s = pendMode (fld w 0 3) (nextBoundary s) none s := by
  simp only [modeReqWrite, hout]
  rw [if_neg (not_not.2 hgo)]

/-- A mode request that the engine would refuse sets its event bit (R147). -/
theorem modeReqWrite_refused {w : Nat} {st : Status} {s : State} (hgo : bit w 8 = true)
    (hout : modeOutcome (fld w 0 3) false s = .refuse st) :
    modeReqWrite w s = modPower (fun p => { p with events := setBit p.events 0 }) s := by
  simp only [modeReqWrite, hout]
  rw [if_neg (not_not.2 hgo)]

/-- A deferred standby of an engine on its own can be decided at this boundary (R164). -/
def StandbyDecides (c : Nat × Nat) (s : State) : Prop :=
  s.power.stbyDefer = some c ∧ s.power.waking = false ∧ s.stem.ssi % 8 = 0 ∧ s.power.mode ≠ .standby ∧ isPartner s = false ∧ isMember s = false

/-- A deferred standby begins where Hush is not asserted (R164). -/
theorem deferredStandby_begins {c : Nat × Nat} {s : State} (h : StandbyDecides c s) (hhush : hushOn s = false) :
    deferredStandby s = beginEntry (modPower (fun p => { p with stbyDefer := none }) s) := by
  obtain ⟨hdefer, hwaking, hgrid, hmode, hpartner, hmember⟩ := h
  simp only [deferredStandby, hdefer, hpartner, hmember, hhush]
  exact if_neg (by simp [hwaking, hgrid, hmode])

/-- It is refused with HUSH_ACTIVE where Hush is asserted (R164, R165). -/
theorem deferredStandby_refused {c : Nat × Nat} {s : State} (h : StandbyDecides c s) (hhush : hushOn s = true) :
    deferredStandby s = modPower (fun p => { p with events := setBit p.events 2 })
      (modeRefused c.1 2 .hushActive (modPower (fun p => { p with stbyDefer := none }) s)) := by
  obtain ⟨hdefer, hwaking, hgrid, hmode, hpartner, hmember⟩ := h
  simp only [deferredStandby, hdefer, hpartner, hmember, hhush]
  exact if_neg (by simp [hwaking, hgrid, hmode])

/-- The fades of a mode change leave the mode and the wake timer alone. -/
theorem startModeFade_keeps (up genUp twin : Bool) (s : State) :
    (startModeFade up genUp twin s).power.mode = s.power.mode ∧ (startModeFade up genUp twin s).power.wakeAt = s.power.wakeAt := by
  unfold startModeFade
  dsimp only
  split_ifs <;> exact ⟨rfl, rfl⟩

/-- Discarding the armed actions changes nothing of the power unit. -/
@[simp] theorem discardArmed_power (s : State) : (discardArmed s).power = s.power :=
  power_of_rest_eq (P := { ink := true, host := true }) rfl (discardArmed_rest _ rfl rfl s)

/-- A mode that is entered is the mode, and the wake timer runs on (R138). -/
theorem enterMode_sets (m : Mode) (cause : Nat) (s : State) :
    (enterMode m cause s).power.mode = m ∧ (enterMode m cause s).power.wakeAt = s.power.wakeAt := by
  unfold enterMode
  split
  next h => exact ⟨h, rfl⟩
  · extract_lets old s0 s1 up s2 s3 s4
    have h1 : s1.power.mode = m ∧ s1.power.wakeAt = s.power.wakeAt := by
      simp only [s1, s0, settleOuts]
      split_ifs <;> exact ⟨rfl, rfl⟩
    have h2 : s2.power.mode = s1.power.mode ∧ s2.power.wakeAt = s1.power.wakeAt := startModeFade_keeps _ _ _ s1
    have h3 : s3.power = s2.power := by
      simp only [s3]
      split
      · exact vellumCount_power 28 s2
      · rfl
    have h4 : s4.power = s2.power := by rw [signalBoth_power, raiseAt_power, h3]
    split
    · rw [discardArmed_power, h4, h2.1, h2.2]
      exact h1
    · rw [h4, h2.1, h2.2]
      exact h1

/-- A reply changes nothing of the boot. -/
@[simp] theorem writeReply_boot (n : Nat) (r : Reply) (s : State) : (writeReply n r s).boot = s.boot :=
  boot_of_rest_eq (P := { ink := true, host := true }) rfl (writeReply_rest _ rfl rfl n r s)

/-- Operations that each leave INK_BASIC alone leave it alone together. -/
theorem foldl_inkBasic {α : Type} (g : State → α → State) (l : List α) (s : State) (h : ∀ t a, (g t a).boot.inkBasic = t.boot.inkBasic) :
    (l.foldl g s).boot.inkBasic = s.boot.inkBasic := by
  induction l generalizing s with
  | nil => rfl
  | cons a l ih => rw [List.foldl_cons, ih, h]

/-- The hardware's answer to a request that waits leaves INK_BASIC alone. -/
theorem answerOne_inkBasic (n : Nat) (s : State) : (answerOne n s).boot.inkBasic = s.boot.inkBasic := by
  unfold answerOne
  split
  · rfl
  · rw [replyNotReady, writeReply_boot]
    rfl

/-- So do its answers to all the requests of an Inkwell. -/
theorem answerAll_inkBasic (n : Nat) (s : State) : (answerAll n s).boot.inkBasic = s.boot.inkBasic := by
  rw [answerAll]
  exact foldl_inkBasic _ _ s fun t _ => answerOne_inkBasic n t

/-- So do its answers to all the requests that wait. -/
theorem answerEvery_inkBasic (s : State) : (answerEvery s).boot.inkBasic = s.boot.inkBasic := by
  rw [answerEvery]
  exact foldl_inkBasic _ _ s fun t n => answerAll_inkBasic n t

/-- A stage that is entered is the stage, and nothing else of the boot changes. -/
@[simp] theorem toStage_boot (g : Stage) (s : State) : (toStage g s).boot = { s.boot with stage := g } := by
  unfold toStage setStage
  split
  next h => rw [← h]
  · rw [signalBoth_boot]

/-- A change of stage changes nothing of the power unit. -/
@[simp] theorem toStage_power (g : Stage) (s : State) : (toStage g s).power = s.power :=
  power_of_rest_eq (P := { boot := true, host := true }) rfl (toStage_rest _ rfl rfl g s)

/-- Nor do the hardware's answers. -/
@[simp] theorem answerEvery_power (s : State) : (answerEvery s).power = s.power :=
  power_of_rest_eq (P := { draws := true, boot := true, ink := true, host := true }) rfl (answerEvery_rest _ rfl rfl rfl rfl s)

/-- The state that standby enters its mode from: the record is written, the sessions have ended, the save has begun and the stores are
without power (R156). -/
def standbyDown (s : State) : State :=
  powerDown (vellumWrite 2 [] (vellumCount 12 (endSessions (writeResume { s with quill := { s.quill with txOff := true } }))))

/-- The way down to standby is other units' and leaves the power unit alone. -/
theorem standbyDown_power (s : State) : (standbyDown s).power = s.power :=
  power_of_rest_eq
    (P := { bl := true, boot := true, ink := true, host := true, serif := true, quill := true, feed := true, dx := true, vl := true,
            sl := true, resume := true, mem := true }) rfl (by simp [standbyDown])

/-- With no wake held, standby that is reached enters its mode, ends its entry and leaves the wake timer to fire. -/
theorem standbyReached_eq {s : State} (hcan : canStandby s = true) (hheld : s.power.wakeHeld = none) :
    ∃ f : Power → Power, (∀ p, (f p).mode = p.mode ∧ (f p).wakeAt = p.wakeAt ∧ (f p).entering = false) ∧
      standbyReached s = timerFires (toStage .standby (answerEvery (modBoot (fun b => { b with inkBasic := false })
        (modPower f (enterMode .standby 0 (standbyDown s)))))) := by
  refine ⟨fun p => { p with entering := false, enterFrom := s.power.mode, causes := 0, first := 7, hostRead := false, wakeMs := 0,
                            wakeHeld := none, stbyEntries := p.stbyEntries + 1,
                            refLost := decide (s.bl.state = .holdover ∨ s.bl.state = .free) }, fun p => ⟨rfl, rfl, rfl⟩, ?_⟩
  unfold standbyReached
  rw [if_neg (not_not.2 hcan), hheld]
  rfl

/-- The wake timer that is not set does not fire. -/
theorem timerFires_of_not_set {s : State} (h : s.power.wakeAt = 0) : timerFires s = s := if_neg fun hset => hset.2.1 h

/-- A state in STANDBY with no wake timer stays so when its stage is told. -/
theorem standbyStage_ends {u : State} (hmode : u.power.mode = .standby) (hentering : u.power.entering = false) (htimer : u.power.wakeAt = 0)
    (hbasic : u.boot.inkBasic = false) :
    (timerFires (toStage .standby u)).power.mode = .standby ∧ (timerFires (toStage .standby u)).power.entering = false ∧
      (timerFires (toStage .standby u)).boot.inkBasic = false := by
  rw [timerFires_of_not_set (by rw [toStage_power, htimer]), toStage_power, toStage_boot]
  exact ⟨hmode, hentering, hbasic⟩

/-- Standby that is reached with no wake held and no wake timer is STANDBY, and basic commands are no longer served (R156). -/
theorem standbyReached_ends {s : State} (hcan : canStandby s = true) (hheld : s.power.wakeHeld = none) (htimer : s.power.wakeAt = 0) :
    (standbyReached s).power.mode = .standby ∧ (standbyReached s).power.entering = false ∧ (standbyReached s).boot.inkBasic = false := by
  obtain ⟨f, hf, heq⟩ := standbyReached_eq hcan hheld
  obtain ⟨hmode, hwakeAt⟩ := enterMode_sets .standby 0 (standbyDown s)
  obtain ⟨hfmode, hfwakeAt, hfentering⟩ := hf (enterMode .standby 0 (standbyDown s)).power
  rw [heq]
  refine standbyStage_ends ?_ ?_ ?_ ?_
  · rw [answerEvery_power, modBoot_power, modPower_power, hfmode, hmode]
  · rw [answerEvery_power, modBoot_power, modPower_power, hfentering]
  · rw [answerEvery_power, modBoot_power, modPower_power, hfwakeAt, hwakeAt, standbyDown_power, htimer]
  · rw [answerEvery_inkBasic, modBoot_boot]

/-- A wake that completes ends in a restart of the autosave and the stage READY (R158). -/
theorem wakeDone_eq {bad : List Nat} {s : State} (hcan : canWake s = true) : ∃ u, wakeDone bad s = toStage .ready (startAutosave u) :=
  ⟨_, if_neg (not_not.2 hcan)⟩

/-- A wake that completes is READY, and the autosave counts from it (R127, R158). -/
theorem wakeDone_ends {bad : List Nat} {s : State} (hcan : canWake s = true) :
    (wakeDone bad s).boot.stage = .ready ∧ (wakeDone bad s).boot.autoMs = s.stem.ms := by
  obtain ⟨u, hu⟩ := wakeDone_eq (bad := bad) hcan
  have hwake : (wakeDone bad s).stem = s.stem :=
    stem_of_rest_eq
      (P := { bl := true, boot := true, power := true, ink := true, host := true, serif := true, quill := true, rt := true, dx := true,
              prog := true, lig := true, vl := true, entry := true }) rfl (by simp)
  have hlast : (toStage .ready (startAutosave u)).stem = u.stem :=
    stem_of_rest_eq (P := { boot := true, host := true }) rfl (by simp)
  rw [hu] at hwake ⊢
  rw [toStage_boot, ← hwake, hlast]
  exact ⟨rfl, rfl⟩

/-- On the grid a step of the mode is taken at once. -/
theorem stepOrWait_now {p : ModeStep} {s : State} (h : s.stem.ssi % 8 = 0) : stepOrWait p s = runStep s p := if_pos h

/-- An autosave that is due on a changed state writes the record and counts anew (R127). -/
theorem autosaveEnds_writes {s : State} (hon : s.boot.autosave ≠ 0) (hdue : s.boot.autoMs + 1000 * s.boot.autosave ≤ s.stem.ms)
    (hready : s.boot.stage = .ready) (hmode : s.power.mode ≠ .standby) (hstale : resumeStale s = true) :
    autosaveEnds s = writeResume (startAutosave s) := by
  rw [autosaveEnds, if_neg (by simp [hon, hready, hmode]; omega), if_pos hstale]

/-- Settles O40: each row is the case of its operation; STANDBY and READY are read off the state that the other units' work leaves. -/
theorem modeEventsComplete : Obligations.ModeEventsComplete := by
  refine ⟨?request, ?requestRefused, ?wakeAt, ?defer, ?deferRefused, ?standby, ?inkwells, ?wake, ?timer, ?autosave⟩
  case request => exact fun w l s hopen hgo hout => next_of_open hopen (modeReqWrite_goes hgo hout)
  case requestRefused => exact fun w st s hopen hgo hout => next_of_open hopen (modeReqWrite_refused hgo hout)
  case wakeAt => exact fun w s hopen => next_of_open hopen rfl
  case defer =>
    exact fun c s hdefer hwaking hgrid hmode hpartner hmember hhush =>
      congrArg Host.Outcome.next (deferredStandby_begins ⟨hdefer, hwaking, hgrid, hmode, hpartner, hmember⟩ hhush)
  case deferRefused =>
    exact fun c s hdefer hwaking hgrid hmode hpartner hmember hhush =>
      congrArg Host.Outcome.next (deferredStandby_refused ⟨hdefer, hwaking, hgrid, hmode, hpartner, hmember⟩ hhush)
  case standby =>
    intro s hentering hfade hgen hgrid hheld htimer
    have hcan : canStandby s = true := by simp [canStandby, hentering, hfade, hgen]
    exact ⟨standbyReached s, congrArg Host.Outcome.next (stepOrWait_now hgrid), standbyReached_ends hcan hheld htimer⟩
  case inkwells =>
    exact fun s hwaking hbasic hstage => congrArg Host.Outcome.next (if_neg (by simp [hwaking, hbasic, hstage]))
  case wake =>
    intro bad s hwaking hbasic hgrid
    have hcan : canWake s = true := by simp [canWake, hwaking, hbasic]
    exact ⟨wakeDone bad s, congrArg Host.Outcome.next (stepOrWait_now hgrid), wakeDone_ends hcan⟩
  case timer => exact fun s hmode hset hdue => congrArg Host.Outcome.next (if_pos ⟨hmode, hset, hdue⟩)
  case autosave =>
    exact fun s hon hdue hready hmode hstale => congrArg Host.Outcome.next (autosaveEnds_writes hon hdue hready hmode hstale)

end Sys2Proof.Machine

/-! The inputs, the fault and the release of Hush (R368, R370 to R373, R728). -/

namespace Sys2Proof.Machine

/-- The inputs are judged with channel A as it has been debounced. -/
theorem channelDebounced_a (alarm : Bool) (s : State) :
    channelDebounced false alarm s = hushJudge s.hush.a.deb s.hush.b.deb
      { s with hush := { s.hush with a := { pin := alarm != s.hush.cfg.polA, last := alarm, run := 4, deb := alarm } } } := rfl

/-- The inputs are judged with channel B as it has been debounced. -/
theorem channelDebounced_b (alarm : Bool) (s : State) :
    channelDebounced true alarm s = hushJudge s.hush.a.deb s.hush.b.deb
      { s with hush := { s.hush with b := { pin := alarm != s.hush.cfg.polB, last := alarm, run := 4, deb := alarm } } } := rfl

/-- A disagreement without a fault is judged on its last tick (R370). -/
theorem disagreementRuns_judges {s : State} (hdiffer : s.hush.a.deb ≠ s.hush.b.deb) (hfault : s.hush.fault = false) :
    disagreementRuns s = hushJudge s.hush.a.deb s.hush.b.deb { s with hush := { s.hush with disc := s.hush.cfg.tDisc - 1 } } := by
  refine if_neg ?_
  rintro (h | h)
  · exact hdiffer h
  · simp [hfault] at h

/-- A release is judged on its last tick, with both channels out of alarm (R372). -/
theorem releaseHolds_judges {s : State} (ha : s.hush.a.deb = false) (hb : s.hush.b.deb = false) (hfault : s.hush.fault = false)
    (hasserted : s.hush.asserted = true) :
    releaseHolds s = hushJudge false false { s with hush := { s.hush with quiet := true, hold := s.hush.cfg.release - 1 } } :=
  if_neg (by simp [ha, hb, hfault, hasserted])

/-- HUSH_OUT toggles while AON runs without a fault (R368). -/
theorem toggleHushOut_toggles {s : State} (hlive : aonLive s = true) (hfault : s.hush.fault = false) :
    toggleHushOut s = { s with hush := { s.hush with out := !s.hush.out } } := by
  simp [toggleHushOut, modHush, hlive, hfault]

/-- HUSH_OUT is low before AON runs and with a fault (R368). -/
theorem toggleHushOut_low {s : State} (h : aonLive s = false ∨ s.hush.fault = true) :
    toggleHushOut s = { s with hush := { s.hush with out := false } } := by
  obtain h | h := h <;> simp [toggleHushOut, modHush, h]

/-- Settles O43: on a live AON each row judges the inputs in the state that its operation leaves, and HUSH_OUT follows the fault. -/
theorem hushInputsComplete : Obligations.HushInputsComplete := by
  refine ⟨?channelA, ?channelB, ?fault, ?release, ?toggle, ?low, ?lastSsi⟩
  case channelA =>
    rintro chB alarm q s hlive rfl rfl
    exact next_of_open hlive (channelDebounced_a alarm s)
  case channelB =>
    rintro chB alarm q s hlive rfl rfl
    exact next_of_open hlive (channelDebounced_b alarm s)
  case fault => exact fun s hlive hdiffer hfault => next_of_open hlive (disagreementRuns_judges hdiffer hfault)
  case release => exact fun s hlive ha hb hfault hasserted => next_of_open hlive (releaseHolds_judges ha hb hfault hasserted)
  case toggle => exact fun s hlive hfault => congrArg Host.Outcome.next (toggleHushOut_toggles hlive hfault)
  case low => exact fun s h => congrArg Host.Outcome.next (toggleHushOut_low h)
  case lastSsi => exact fun s hopen => next_of_open hopen rfl

end Sys2Proof.Machine

/-! The JTAG port (R105, R109, R613, R614), the registers of Ductus and its class-A groups (R260, R263, R267 to R269). -/

namespace Sys2Proof.Machine

/-- Under the internal scan a boundary instruction changes nothing. -/
theorem jtagBoundary_of_scan {i : JtagInstr} {cells : List (Pin × PinDrive)} {s : State} (h : s.life.jtag = 2) :
    jtagBoundary i cells s = s := by
  simp [jtagBoundary, modLife, h]

/-- EXTEST and CLAMP enter boundary mode with the cells loaded. -/
theorem jtagBoundary_enters {i : JtagInstr} {cells : List (Pin × PinDrive)} {s : State} (h : s.life.jtag ≠ 2)
    (hi : i = .extest ∨ i = .clamp) :
    jtagBoundary i cells s = { s with life := { s.life with jtag := 1, boundary := cells } } := by
  obtain rfl | rfl := hi <;> simp [jtagBoundary, modLife, h]

/-- HIGHZ enters boundary mode with no cell driven. -/
theorem jtagBoundary_highz {cells : List (Pin × PinDrive)} {s : State} (h : s.life.jtag ≠ 2) :
    jtagBoundary .highz cells s = { s with life := { s.life with jtag := 1, boundary := [] } } := by
  simp [jtagBoundary, modLife, h]

/-- Any other instruction leaves boundary mode. -/
theorem jtagBoundary_other {cells : List (Pin × PinDrive)} {s : State} (h : s.life.jtag ≠ 2) :
    jtagBoundary .other cells s = { s with life := { s.life with jtag := 0, boundary := [] } } := by
  simp [jtagBoundary, modLife, h]

/-- TRST_N ends boundary mode and resets the TAP. -/
theorem jtagReset_of_boundary {s : State} (h : s.life.jtag ≠ 2) :
    jtagReset s = { s with life := { s.life with jtag := 0, boundary := [], tap := 0 } } := by
  rw [jtagReset, jtagBoundary_other h]
  rfl

/-- The internal scan opens in BLANK and RETURNED, and holds the engine. -/
theorem jtagScan_holds {s : State} (h : s.life.state = 0 ∨ s.life.state = 3) :
    jtagScan s = { s with power := { s.power with mode := .held }, hush := { s.hush with out := false },
                          life := { s.life with jtag := 2, boundary := [] } } :=
  if_pos (by simpa [scanOpen] using h)

/-- In every other state of life the internal scan leaves the TAP alone selected. -/
theorem jtagScan_shut {s : State} (hblank : s.life.state ≠ 0) (hreturned : s.life.state ≠ 3) :
    jtagScan s = { s with life := { s.life with tap := 1 } } :=
  if_neg (by simp [scanOpen, hblank, hreturned])

/-- DX_CTRL takes another number of periods of software delay in COMMISSION. -/
theorem dxCtrlWrite_taken {w : Nat} {s : State} (hmode : s.power.mode = .commission) (hrange : fld w 0 2 ≠ 3) (hfree : swBusy s = false)
    (hnew : fld w 0 2 ≠ s.dx.sw) : dxCtrlWrite w s = { s with dx := { s.dx with swDue := some (fld w 0 2, none) } } := by
  rw [dxCtrlWrite, if_neg (by simp [hmode, hrange, hfree]), if_neg hnew]

/-- DX_CTRL sets its event bit outside COMMISSION, for the value 3 and while the engine is a partner or a member. -/
theorem dxCtrlWrite_refused {w : Nat} {s : State} (h : s.power.mode ≠ .commission ∨ fld w 0 2 = 3 ∨ swBusy s = true) :
    dxCtrlWrite w s = dxEvent 5 s := if_pos h

/-- The catch-up level as it is told is the level in effect, and nothing else of Ductus changes. -/
@[simp] theorem catchup_dx (cause carry : Nat) (s : State) : (catchup cause carry s).dx = { s.dx with eff := effLevel s } := by
  rw [catchup]
  split
  next h => rw [h]
  · rw [raise_dx]

/-- A group that ends within its budget and before its release, with no level of catch-up, is noted and nothing else happens (R260). -/
theorem classADone_on_time {t k : Nat} {rest : List Nat} {s : State} (hopen : s.dx.open_ = k :: rest) (hlevel : s.dx.level = 0)
    (htime : t ≤ budget s) (hrelease : s.stem.ssi < 8 * (k + 2 + s.dx.sw)) :
    classADone t s = { s with dx := { s.dx with
      open_ := rest, progress := true, lastDone := t, wdtLast := 8 * (k + 2 + s.dx.sw),
      done := (s.stem.ms, t) :: s.dx.done.filter (fun e => s.stem.ms < e.1 + 1000), carryMax := max s.dx.carryMax (t - budget s) } } := by
  have hlate : ¬ budget s < t := by omega
  have hmissed : ¬ 8 * (k + 2 + s.dx.sw) ≤ s.stem.ssi := by omega
  simp [classADone, hopen, hlate, hmissed, hlevel]

/-- However late a group ends, its period is taken off the open ones and its time is kept (R260). -/
theorem classADone_takes {t k : Nat} {rest : List Nat} {s : State} (hopen : s.dx.open_ = k :: rest) :
    (classADone t s).dx.open_ = rest ∧ (classADone t s).dx.progress = true ∧ (classADone t s).dx.lastDone = t := by
  simp only [classADone, hopen]
  split_ifs <;> simp [dxEvent, vellumBin]

/-- A group that ends in part is progress, while a period is open (R263). -/
theorem classACompletes_part {t k : Nat} {rest : List Nat} {s : State} (hopen : s.dx.open_ = k :: rest) :
    classACompletes false t s = { s with dx := { s.dx with progress := true } } := by
  simp [classACompletes, hopen]

/-- A cause to give up changes nothing of Ductus. -/
@[simp] theorem signalGiveUp_dx (cause : Nat) (s : State) : (signalGiveUp cause s).dx = s.dx :=
  dx_of_rest_eq (P := { ink := true, host := true, twin := true, vl := true }) rfl (signalGiveUp_rest _ rfl rfl rfl rfl cause s)

/-- Nor of the boot. -/
@[simp] theorem signalGiveUp_boot (cause : Nat) (s : State) : (signalGiveUp cause s).boot = s.boot :=
  boot_of_rest_eq (P := { ink := true, host := true, twin := true, vl := true }) rfl (signalGiveUp_rest _ rfl rfl rfl rfl cause s)

/-- Telling the level of catch-up changes nothing of the boot. -/
@[simp] theorem catchup_boot (cause carry : Nat) (s : State) : (catchup cause carry s).boot = s.boot :=
  boot_of_rest_eq (P := { ink := true, host := true, dx := true }) rfl (catchup_rest _ rfl rfl rfl cause carry s)

/-- The watchdog that trips halts the class-A work, empties the open periods and counts itself (R263). -/
theorem ductusWdt_trips {s : State} (h : 4 ≤ s.dx.stall) :
    (ductusWdt s).dx.halted = true ∧ (ductusWdt s).dx.open_ = [] ∧ (ductusWdt s).dx.stall = 0 ∧ (ductusWdt s).dx.wdt = s.dx.wdt + 1 ∧
      (ductusWdt s).boot.resetCause = setBit s.boot.resetCause 6 := by
  have htrip : ¬ s.dx.stall < 4 := by omega
  simp [ductusWdt, htrip, dxEvent]

/-- Settles O44: each row of the port and of Ductus is the case of its operation that its premises select. -/
theorem jtagAndDuctusEventsComplete : Obligations.JtagAndDuctusEventsComplete := by
  refine ⟨?trst, ?enters, ?highz, ?other, ?scanned, ?scan, ?scanShut, ?ctrl, ?ctrlMode, ?ctrlRejected, ?armedSsi, ?onTime, ?takes, ?part, ?wdt⟩
  case trst => exact fun s h => congrArg Host.Outcome.next (jtagReset_of_boundary h)
  case enters => exact fun cells e s h he => congrArg Host.Outcome.next (jtagBoundary_enters h he)
  case highz => exact fun cells s h => congrArg Host.Outcome.next (jtagBoundary_highz h)
  case other => exact fun cells s h => congrArg Host.Outcome.next (jtagBoundary_other h)
  case scanned => exact fun load s h => congrArg Host.Outcome.next (jtagBoundary_of_scan h)
  case scan => exact fun s h => congrArg Host.Outcome.next (jtagScan_holds h)
  case scanShut => exact fun s hblank hreturned => congrArg Host.Outcome.next (jtagScan_shut hblank hreturned)
  case ctrl =>
    exact fun w s hmode hrange hfree hnew => next_of_open (by simp [expertMode, hmode]) (dxCtrlWrite_taken hmode hrange hfree hnew)
  case ctrlMode =>
    exact fun w s hmode => next_of_open (by simp [expertMode, hmode]) (dxCtrlWrite_refused (.inl (by simp [hmode])))
  case ctrlRejected =>
    exact fun w s hmode h => next_of_open (by simp [expertMode, hmode]) (dxCtrlWrite_refused (.inr h))
  case armedSsi =>
    rintro v s hopen rfl
    exact next_of_open hopen rfl
  case onTime => exact fun t k rest s hopen hlevel htime hrelease => congrArg Host.Outcome.next (classADone_on_time hopen hlevel htime hrelease)
  case takes => exact fun t k rest s hopen => ⟨classADone t s, rfl, classADone_takes hopen⟩
  case part => exact fun t k rest s hopen => congrArg Host.Outcome.next (classACompletes_part hopen)
  case wdt => exact fun s h => ⟨ductusWdt s, rfl, ductusWdt_trips h⟩

end Sys2Proof.Machine

/-! The events of the Serif ports (R397, R400, R401, R403 to R405, R409). -/

namespace Sys2Proof.Machine

/-- A held configuration that is correct becomes the port's (R409). -/
theorem portApply_taken {n : Nat} {c : SerCfg} {s : State} (habsent : portAbsent s n = false) (hhush : hushPort s n = false)
    (hheld : (serPort s n).held = some c) (hok : serCfgOk s.stem.mult (cleanCfg c) = true)
    (hshared : (serShared (cleanCfg c) && !hasTwin s.variant) = false) : portApply n s = setPortCfg n (cleanCfg c) s := by
  simp only [portApply, hheld]
  rw [if_neg (by simp [habsent, hhush]), if_pos ⟨hok, by simpa using hshared⟩]

/-- A held configuration that is not correct is dropped, and the port's event bit says so (R409). -/
theorem portApply_refused {n : Nat} {c : SerCfg} {s : State} (habsent : portAbsent s n = false) (hhush : hushPort s n = false)
    (hheld : (serPort s n).held = some c) (hbad : serCfgOk s.stem.mult (cleanCfg c) = false) :
    portApply n s = modPort n (fun q => { q with held := none, events := setBit q.events 0 }) s := by
  simp only [portApply, hheld]
  rw [if_neg (by simp [habsent, hhush]), if_neg (by simp [hbad])]

/-- At a frame reference with no configuration due, a shared port whose gate is open begins to drive (R404, R405). -/
theorem frameReference_drives {n : Nat} {s : State} (hdue : (serPort s n).due = none) (hshared : serShared (serPort s n).cfg = true)
    (hgate : (serPort s n).gate = true) (hdriving : (serPort s n).driving = false) (hstate : (serPort s n).state ≠ 0) :
    frameReference n s = modPort n (fun q => { q with driving := true, handover := q.handover + 1 }) s := by
  simp only [frameReference, hdue]
  rw [if_pos ⟨hshared, hgate, by simp [hdriving], hstate⟩]

/-- At a frame reference with no configuration due, nothing happens to a port that is not shared (R404). -/
theorem frameReference_unshared {n : Nat} {s : State} (hdue : (serPort s n).due = none) (hshared : serShared (serPort s n).cfg = false) :
    frameReference n s = s := by
  simp only [frameReference, hdue]
  rw [if_neg (by simp [hshared])]

/-- A master that is not shared takes the frame's samples (R397). -/
theorem frameRx_master {n len bits : Nat} {s : State} (habsent : portAbsent s n = false) (hstate : (serPort s n).state ≠ 0)
    (hdue : (serPort s n).due = none) (hmaster : serMaster (serPort s n).cfg = true) (hshared : serShared (serPort s n).cfg = false) :
    frameRx n len bits s = modPort n (fun p => { p with rxBuf := [frameSamples (serPort s n).cfg bits] }) s := by
  rw [frameRx, if_neg (by simp [habsent, hstate]), frameReference_unshared hdue hshared, if_neg hstate, if_pos hmaster]

/-- A slave that is not shared takes a frame of the right length as a good one (R397). -/
theorem frameRx_slave {n len bits : Nat} {s : State} (habsent : portAbsent s n = false) (hstate : (serPort s n).state ≠ 0)
    (hdue : (serPort s n).due = none) (hslave : serMaster (serPort s n).cfg = false) (hshared : serShared (serPort s n).cfg = false)
    (hlen : len = frameLen (serPort s n).cfg) : frameRx n len bits s = announceSlip n 0 (goodFrame n bits s) := by
  rw [frameRx, if_neg (by simp [habsent, hstate]), frameReference_unshared hdue hshared, if_neg hstate, if_neg (by simp [hslave]), if_pos hlen]

/-- A slave that starts or runs falls to the rate mismatch beyond 100 ppm, and its reference is disqualified (R400). -/
theorem rateMeasured_mismatch {n : Nat} {rate : Int} {s : State} (habsent : portAbsent s n = false)
    (hslave : serMaster (serPort s n).cfg = false) (hstate : (serPort s n).state = 1 ∨ (serPort s n).state = 2) (hrate : 10000 < rate.natAbs) :
    rateMeasured n rate s = causeArises (8 + n) 9 (vellumCount 68 (portState n 4
      (modPort n (fun q => { q with mismatch := q.mismatch + 1, rxBuf := [], txBuf := [] })
        (modPort n (fun q => { q with calm := 0, measured := false }) (modPort n (fun q => { q with rate := rate }) s))))) := by
  rw [rateMeasured, if_neg (by simp [habsent, hslave]; omega), if_pos hrate, if_neg (by omega)]

/-- A slave that starts or runs keeps a rate within 100 ppm, and runs once its buffers are full (R400, R403). -/
theorem rateMeasured_within {n : Nat} {rate : Int} {s : State} (habsent : portAbsent s n = false)
    (hslave : serMaster (serPort s n).cfg = false) (hstate : (serPort s n).state = 1 ∨ (serPort s n).state = 2) (hrate : rate.natAbs ≤ 10000) :
    rateMeasured n rate s =
      portRunning n (modPort n (fun q => { q with measured := true }) (modPort n (fun q => { q with rate := rate }) s)) := by
  rw [rateMeasured, if_neg (by simp [habsent, hslave]; omega), if_neg (by omega), if_neg (by omega)]

/-- A slave without a clock leaves its state for NO_CLOCK, and its reference is disqualified (R401). -/
theorem portNoClock_falls {n : Nat} {s : State} (habsent : portAbsent s n = false) (hslave : serMaster (serPort s n).cfg = false)
    (hon : (serPort s n).state ≠ 0) (hclock : (serPort s n).state ≠ 3) :
    portNoClock n s = causeArises (8 + n) 2 (portState n 3 (modPort n (fun q => { q with noClock := q.noClock + 1 }) s)) :=
  if_neg (by simp [habsent, hslave, hon, hclock])

/-- A slave that starts, runs or mismatches enters the frame error (R401). -/
theorem portFrameError_enters {n : Nat} {s : State} (habsent : portAbsent s n = false) (hslave : serMaster (serPort s n).cfg = false)
    (hstate : (serPort s n).state = 1 ∨ (serPort s n).state = 2 ∨ (serPort s n).state = 4) : portFrameError n s = enterFrameError n s :=
  if_neg (by simp [habsent, hslave]; omega)

/-- A master that starts runs from a boundary on (R403). -/
theorem portRunning_master {n : Nat} {s : State} (hstate : (serPort s n).state = 1) (hmaster : serMaster (serPort s n).cfg = true)
    (hgrid : s.stem.ssi % 8 = 0) : portRunning n s = portState n 2 s := by
  rw [portRunning, if_neg (not_not.2 hstate), if_pos hmaster, if_pos hgrid]

/-- A slave that starts runs once its rate is measured and its buffers are full (R403). -/
theorem portRunning_slave {n : Nat} {s : State} (hstate : (serPort s n).state = 1) (hslave : serMaster (serPort s n).cfg = false)
    (hmeasured : (serPort s n).measured = true) (hfull : buffersFull (serPort s n) = true) : portRunning n s = portState n 2 s := by
  rw [portRunning, if_neg (not_not.2 hstate), if_neg (by simp [hslave]), if_pos ⟨hmeasured, hfull⟩]

/-- A row of a port that is present has the outcome of its operation. -/
theorem next_of_present {n : Nat} {s t u : State} (h : portAbsent s n = false) (e : t = u) :
    (Host.Outcome.next (if portAbsent s n = true then s else t) : Host.Outcome State Fault Refusal) = .next u := by
  rw [if_neg (by simp [h]), e]

/-- Settles O46: each row is the case of its port's operation that the port's state, kind and configuration select. -/
theorem serifEventsComplete : Obligations.SerifEventsComplete := by
  refine ⟨?apply, ?applyRejected, ?drives, ?unshared, ?master, ?slave, ?mismatch, ?within, ?noClock, ?frameError, ?masterRuns, ?slaveRuns⟩
  case apply =>
    exact fun n c s hopen habsent hhush hheld hok hshared => next_of_open hopen (portApply_taken habsent hhush hheld hok hshared)
  case applyRejected =>
    exact fun n c s hopen habsent hhush hheld hbad => next_of_open hopen (portApply_refused habsent hhush hheld hbad)
  case drives =>
    rintro n p s habsent rfl hdue hshared hgate hdriving hstate
    exact next_of_present habsent (frameReference_drives hdue hshared hgate hdriving hstate)
  case unshared => exact fun n s habsent hdue hshared => next_of_present habsent (frameReference_unshared hdue hshared)
  case master =>
    exact fun n len bits s habsent hstate hdue hmaster hshared =>
      congrArg Host.Outcome.next (frameRx_master habsent hstate hdue hmaster hshared)
  case slave =>
    exact fun n len bits s habsent hstate hdue hslave hshared hlen =>
      congrArg Host.Outcome.next (frameRx_slave habsent hstate hdue hslave hshared hlen)
  case mismatch =>
    exact fun n rate s habsent hslave hstate hrate => congrArg Host.Outcome.next (rateMeasured_mismatch habsent hslave hstate hrate)
  case within =>
    exact fun n rate s habsent hslave hstate hrate => congrArg Host.Outcome.next (rateMeasured_within habsent hslave hstate hrate)
  case noClock => exact fun n s habsent hslave hon hclock => congrArg Host.Outcome.next (portNoClock_falls habsent hslave hon hclock)
  case frameError => exact fun n s habsent hslave hstate => congrArg Host.Outcome.next (portFrameError_enters habsent hslave hstate)
  case masterRuns => exact fun n s habsent hstate hmaster hgrid => next_of_present habsent (portRunning_master hstate hmaster hgrid)
  case slaveRuns =>
    exact fun n s habsent hstate hslave hmeasured hfull => next_of_present habsent (portRunning_slave hstate hslave hmeasured hfull)

end Sys2Proof.Machine

/-! Feed, the Cartridges and the order to AON (R552, R554, R555, R557, R559). -/

namespace Sys2Proof.Machine

/-- An access that meets no error records its response (R554). -/
theorem feedAccess_answered {q : FeedReq} {r : FeedRun} {s : State} (hmaster : q.master < 10) (hlen : q.len ≠ 0)
    (hr : r = feedParts q (q.len + 1) q.addr q.len { st := countWait q s }) (hresp : r.resp = 0) (hlost : r.lost = 0) :
    feedAccess q s = modFeed (fun f => { f with resp := r.resp, data := r.data }) (noteScrub q r.st) := by
  rw [feedAccess, if_neg (by omega)]
  simp only [← hr, if_pos hresp, if_pos hlost]

/-- An access that meets an error is answered with its first one and records it (R554, R555). -/
theorem feedAccess_failed {q : FeedReq} {r : FeedRun} {s : State} (hmaster : q.master < 10) (hlen : q.len ≠ 0)
    (hr : r = feedParts q (q.len + 1) q.addr q.len { st := countWait q s }) (hresp : r.resp ≠ 0) (hlost : r.lost = 0) :
    feedAccess q s =
      modFeed (fun f => { f with resp := r.resp, data := r.data }) (noteScrub q (respond r.resp q.master r.addr r.st)) := by
  rw [feedAccess, if_neg (by omega)]
  simp only [← hr, if_neg hresp, if_pos hlost]

/-- An atomic operation that its region permits acts on its one word (R555). -/
theorem feedAtomic_acts {q : FeedAtomic} {g : Region} {s : State} (hmaster : q.master < 10) (hkind : q.kind ≤ 2)
    (hregion : regionOf s q.addr = some g) (hpermit : permitted s q.master true g q.addr = true)
    (hport : 1 ≤ feedPort g q.addr ∧ feedPort g q.addr ≤ 4) (halign : q.addr % 8 = 0) : feedAtomic q s = atomicWord q g s := by
  simp only [feedAtomic, hregion]
  rw [if_neg (by omega), if_neg (not_not.2 hpermit), if_neg (not_not.2 hport), if_neg (not_not.2 halign)]

/-- An atomic operation at an address of no region is answered by a decode error (R555). -/
theorem feedAtomic_of_no_region {q : FeedAtomic} {s : State} (hmaster : q.master < 10) (hkind : q.kind ≤ 2)
    (hregion : regionOf s q.addr = none) :
    feedAtomic q s = modFeed (fun f => { f with resp := 1, data := [] }) (respond 1 q.master q.addr s) := by
  simp only [feedAtomic, hregion]
  rw [if_neg (by omega)]

/-- A Cartridge with room takes the words of a packet (R552). -/
theorem cartWrite_taken {n : Nat} {l : List (Bytes × Bool)} {s : State} (hpresent : cartPresent s.variant n = true) (hl : l ≠ [])
    (hroom : (cartAt s n).words.length + l.length ≤ cartDepth n) (hn : n ≠ 16) :
    cartWrite n l s = modCart n (fun c => { c with words := c.words ++ packetWords l }) s := by
  rw [cartWrite, if_neg (by simp [hpresent, hl]), if_neg (by omega), if_neg hn]

/-- A Cartridge of a port or of the twin without room counts a drop and reports it (R552, R557). -/
theorem cartWrite_dropped {n : Nat} {l : List (Bytes × Bool)} {s : State} (hpresent : cartPresent s.variant n = true) (hl : l ≠ [])
    (hfull : cartDepth n < (cartAt s n).words.length + l.length) (hn : n < 10) :
    cartWrite n l s =
      memFault 3 n 0xFF 0 1 (vellumCount 48 (modCart n (fun c => { c with drop := (c.drop + 1) % 2 ^ 32 }) s)) := by
  rw [cartWrite, if_neg (by simp [hpresent, hl]), if_pos hfull, if_pos hn]

/-- A read takes the first word of a Cartridge that is not discarding a poisoned packet (R552). -/
theorem cartRead_good {n : Nat} {single : Bool} {w : CartWord} {rest : List CartWord} {s : State}
    (hpresent : cartPresent s.variant n = true) (hwords : (cartAt s n).words = w :: rest) (hp : w.p = false)
    (hdiscard : (cartAt s n).discard = false) :
    cartRead n single false s = cartGood n (modCart n (fun c => { c with
      words := rest, out := { w with v := true, p := false }, ce := if single then (c.ce + 1) % 2 ^ 32 else c.ce,
      poison := c.poison, discard := false }) s) := by
  simp only [cartRead, hwords]
  rw [if_neg (not_not.2 hpresent)]
  simp [hp, hdiscard]

/-- The order to AON that has not been taken for 5 ms is sent again (R559). -/
theorem orderResend_sends {w : CartWord} {t : Nat} {s : State} (horder : s.feed.order = some (w, t)) (hdue : t + 5 ≤ s.stem.ms)
    (hroom : (cartAt s 16).words.length < 16) :
    orderResend s = modFeed (fun f => { f with order := some (w, s.stem.ms) })
      (modCart 16 (fun c => { c with words := c.words ++ [w] }) s) := by
  simp only [orderResend, horder]
  rw [if_neg (by omega)]

/-- Settles O48: each row is the case of its operation that the request and the Cartridge select. -/
theorem memorySystemComplete : Obligations.MemorySystemComplete := by
  refine ⟨?lastAddr, ?answered, ?failed, ?atomic, ?noRegion, ?write, ?drop, ?read, ?resend⟩
  case lastAddr => exact fun s hopen => next_of_open hopen rfl
  case answered =>
    exact fun q r s hmaster hlen hr hresp hlost => congrArg Host.Outcome.next (feedAccess_answered hmaster hlen hr hresp hlost)
  case failed =>
    exact fun q r s hmaster hlen hr hresp hlost => congrArg Host.Outcome.next (feedAccess_failed hmaster hlen hr hresp hlost)
  case atomic =>
    exact fun q g s hmaster hkind hregion hpermit hport halign =>
      congrArg Host.Outcome.next (feedAtomic_acts hmaster hkind hregion hpermit hport halign)
  case noRegion => exact fun q s hmaster hkind hregion => congrArg Host.Outcome.next (feedAtomic_of_no_region hmaster hkind hregion)
  case write => exact fun n l s hpresent hl hroom hn => congrArg Host.Outcome.next (cartWrite_taken hpresent hl hroom hn)
  case drop => exact fun n l s hpresent hl hfull hn => congrArg Host.Outcome.next (cartWrite_dropped hpresent hl hfull hn)
  case read =>
    exact fun n single w rest s hpresent hwords hp hdiscard => congrArg Host.Outcome.next (cartRead_good hpresent hwords hp hdiscard)
  case resend => exact fun w t s horder hdue hroom => congrArg Host.Outcome.next (orderResend_sends horder hdue hroom)

end Sys2Proof.Machine

/-! The Seal channels and the digest of the sinks (R484, R573). -/

namespace Sys2Proof.Machine

/-- A read of the low word of a channel's count of bytes latches the high word. -/
theorem sealBytesRead_latches {c : Nat} {s : State} (h : 1 ≤ c ∧ c ≤ 2) :
    sealBytesRead c s = regRead ((sealCh s c).bytes % 2 ^ 32) (modCh c (fun q => { q with bytesHi := q.bytes / 2 ^ 32 % 2 ^ 32 }) s) :=
  if_pos h

/-- A free channel with no job of its own starts (R573). -/
theorem sealGo_starts {c : Nat} {s : State} (hc : c = 1 ∨ c = 2) (hfree : (sealCh s c).busy = false)
    (hqueue : s.sl.queue.any (fun j => j.chan = c) = false) :
    sealGo c s = modCh c (fun q => { q with busy := true, done := false, err := 0 }) s := by
  rw [sealGo, if_neg (by omega), if_neg (by simp only [hfree, hqueue]; simp)]

/-- A busy channel does not start again, and sets its event bit (R573). -/
theorem sealGo_busy {c : Nat} {s : State} (hc : c = 1 ∨ c = 2) (hbusy : (sealCh s c).busy = true) :
    sealGo c s = modCh c (fun q => { q with events := setBit q.events 0 }) s := by
  rw [sealGo, if_neg (by omega), if_pos (.inl hbusy)]

/-- An abort ends a busy channel with error 5, and the next job begins (R573). -/
theorem sealAbort_ends {c : Nat} {s : State} (hc : c = 1 ∨ c = 2) (hbusy : (sealCh s c).busy = true) (hqueue : s.sl.queue = []) :
    sealAbort c s = sealNext (sealEnd c 5 (sealCh s c).bytes (zeros 32) (zeros 40) none s) := by
  have hsame : modSl (fun q => { q with queue := q.queue.filter (fun k => k.chan ≠ c) }) s = s := by
    rw [modSl, hqueue, List.filter_nil, ← hqueue]
  simp only [sealAbort, hsame, hqueue, List.find?_nil]
  rw [if_neg (by simp [hbusy]; omega)]

/-- A job that is done ends with its result. -/
theorem sealJobDone_of_job {c : Nat} {bad : Option (Nat × Nat)} {j : SealJob} {s : State} (hbusy : (sealCh s c).busy = true)
    (hjob : s.sl.queue.find? (fun j => j.chan = c) = some j) : sealJobDone c bad s = sealJobEnds c j bad s := by
  rw [sealJobDone, if_neg (not_not.2 hbusy), hjob]

/-- A list that is done, of no job in the queue, ends with its result. -/
theorem sealJobDone_of_list {c : Nat} {bad : Option (Nat × Nat)} {s : State} (hbusy : (sealCh s c).busy = true)
    (hjob : s.sl.queue.find? (fun j => j.chan = c) = none) : sealJobDone c bad s = sealListEnds c bad s := by
  rw [sealJobDone, if_neg (not_not.2 hbusy), hjob]

/-- What a channel reads after a change that leaves it other than a fresh one. -/
theorem sealCh_modCh {c : Nat} {f : SealCh → SealCh} {s : State} (h : f (sealCh s c) ≠ {}) : sealCh (modCh c f s) c = f (sealCh s c) := by
  simp only [sealCh, modCh, modSl, tabMod, tabPut] at h ⊢
  rw [if_neg h, tabGet_insert, if_pos rfl]

/-- The digest of the sinks that is ready is kept, and channel 3 is done with it as its result (R484). -/
theorem digestReady_keeps {ssi : Nat} {miss : Bool} {l : List (Tab Sample)} {s : State} (h : s.sl.ready = some (ssi, miss, l)) :
    (digestReady s).sl.ready = none ∧ (digestReady s).sl.digest = digestOf (presentSinks s.variant) l ∧
      (digestReady s).sl.digestSsi = ssi ∧ (sealCh (digestReady s) 3).busy = false ∧
      (sealCh (digestReady s) 3).result = le 8 (digestOf (presentSinks s.variant) l) := by
  simp only [digestReady, h]
  rw [sealCh_modCh fun hfresh => Bool.noConfusion (congrArg SealCh.done hfresh)]
  exact ⟨rfl, rfl, rfl, rfl, rfl⟩

/-- Settles O49: each row is the case of its channel's operation that the channel and the queue select. -/
theorem sealEventsComplete : Obligations.SealEventsComplete := by
  refine ⟨?bytes, ?digestSsi, ?go, ?goBusy, ?abort, ?job, ?list, ?digest⟩
  case bytes => exact fun c s hopen hc => next_of_open hopen (sealBytesRead_latches hc)
  case digestSsi => exact fun s hopen => next_of_open hopen rfl
  case go => exact fun c s hopen hc hfree hqueue => next_of_open hopen (sealGo_starts hc hfree hqueue)
  case goBusy => exact fun c s hopen hc hbusy => next_of_open hopen (sealGo_busy hc hbusy)
  case abort => exact fun c s hopen hc hbusy hqueue => next_of_open hopen (sealAbort_ends hc hbusy hqueue)
  case job => exact fun c bad j s hbusy hjob => congrArg Host.Outcome.next (sealJobDone_of_job hbusy hjob)
  case list => exact fun c bad s hbusy hjob => congrArg Host.Outcome.next (sealJobDone_of_list hbusy hjob)
  case digest =>
    rintro ssi miss d l s hready rfl
    exact ⟨digestReady s, rfl, digestReady_keeps hready⟩

end Sys2Proof.Machine

/-! Copybook and the writes of Vellum (R618 to R622, R626 to R628, R636, R638, R639, R647). -/

namespace Sys2Proof.Machine

/-- CB_CTRL starts the selected tests in MAINTENANCE (R618, R626). -/
theorem cbGo_starts {s : State} (hmode : s.power.mode = .maintenance) (hsome : s.cb.sel % 65536 ≠ 0) (heven : s.cb.sel % 65536 % 2 = 0)
    (hrun : fld s.cb.sel 16 1 = 0) (hfree : s.cb.busy = false) : cbGo s = cbStart 0 (s.cb.sel % 65536) s := by
  simp only [cbGo, hrun]
  exact if_neg (by simp [hmode, hsome, heven, hfree])

/-- CB_CTRL sets REJ outside MAINTENANCE (R626). -/
theorem cbGo_rejected {s : State} (hmode : s.power.mode ≠ .maintenance) : cbGo s = modCb (fun c => { c with rej := true }) s :=
  if_pos (.inl hmode)

/-- A reload of the engine's settings after the tests changes nothing of Copybook. -/
@[simp] theorem cbReload_cb (s : State) : (cbReload s).cb = s.cb :=
  cb_of_rest_eq
    (P := { bl := true, power := true, ink := true, host := true, twin := true, serif := true, quill := true, ms := true, rt := true,
            dx := true, prog := true, lig := true, sheen := true }) rfl (by simp)

/-- A run that was to be aborted is over, and its time is kept (R627). -/
theorem cbDone_aborting {outs : List CbOutcome} {s : State} (hbusy : s.cb.busy = true) (hab : s.cb.aborting = true) :
    (cbDone outs s).cb.busy = false ∧ (cbDone outs s).cb.aborting = false ∧ (cbDone outs s).cb.elapsed = s.stem.ms - s.cb.startMs := by
  unfold cbDone
  extract_lets c runs got done r1 results records failed state s1 s2 s3
  have hover : ¬ (¬ c.busy = true ∨ ¬ c.aborting = true ∧ done ≠ runs) := by simp [c, hbusy, hab]
  have h2 : s2.cb = s1.cb := by
    have hlog : s2.cb = (vellumAdd 76 failed.length (vellumCount 75 s1)).cb :=
      cb_of_rest_eq (P := { vl := true }) rfl (foldl_rest _ _ failed _ fun t e => vellumLog_rest _ rfl 12 e.1 c.runNo e.2.fails t)
    rw [hlog, vellumAdd_cb, vellumCount_cb]
  have h3 : s3.cb = s1.cb := by
    rw [← h2]
    simp only [s3]
    split
    · rw [cbReload_cb]
    · rfl
  rw [if_neg hover, raise_cb, h3]
  exact ⟨rfl, rfl, rfl⟩

/-- A periodic save begins a write while no other is in progress (R636). -/
theorem vellumWrite_begins {flags : Nat} {cmds : List (Nat × Nat)} {s : State} (hworn : s.vl.worn = false) (hidle : s.vl.writing = none) :
    vellumWrite flags cmds s = beginWrite flags cmds s := by
  rw [vellumWrite, if_neg (by simp [hworn]), hidle]

/-- A slot that read back well is the newest (R638, R639). -/
theorem writeDone_good {w : VlWrite} {s : State} (h : s.vl.writing = some w) : writeDone true s = slotStored w s := by
  simp [writeDone, h]

/-- A slot that did not is retired (R639). -/
theorem writeDone_bad {w : VlWrite} {s : State} (h : s.vl.writing = some w) : writeDone false s = slotRetired w s := by
  simp [writeDone, h]

/-- Settles O50: each row is the case of its operation; an aborted run's end is read off the state that the reports leave. -/
theorem copybookEventsComplete : Obligations.CopybookEventsComplete := by
  refine ⟨?go, ?rejected, ?abort, ?fifo, ?done, ?aonSeconds, ?periodic, ?stored, ?retired⟩
  case go =>
    rintro m s hmode rfl hsome heven hrun hfree
    exact next_of_open (by simp [expertMode, hmode]) (cbGo_starts hmode hsome heven hrun hfree)
  case rejected =>
    exact fun s hmode => next_of_open (by simp [expertMode, hmode]) (cbGo_rejected (by simp [hmode]))
  case abort => exact fun s hopen hbusy => next_of_open hopen (if_pos hbusy)
  case fifo => exact fun s hopen => next_of_open hopen rfl
  case done => exact fun outs s hbusy hab => ⟨cbDone outs s, rfl, cbDone_aborting hbusy hab⟩
  case aonSeconds => exact fun s hopen => next_of_open hopen rfl
  case periodic =>
    exact fun s hdue hheld hworn hidle =>
      congrArg Host.Outcome.next ((if_pos ⟨by simpa [periodicDue] using hdue, hheld⟩).trans (vellumWrite_begins hworn hidle))
  case stored => exact fun w s h => congrArg Host.Outcome.next (writeDone_good h)
  case retired => exact fun w s h => congrArg Host.Outcome.next (writeDone_bad h)

end Sys2Proof.Machine

/-! Media streams and NMOS (R421, R423, R427, R429, R431, R435, R445, R446). -/

namespace Sys2Proof.Machine

/-- The port and the stream of a packet are the engine's, its link is up, and a receiver listens (R421). -/
def PacketHeard (p : MediaPacket) (s : State) : Prop :=
  s.power.mode ≠ .standby ∧ p.stream < streamsOf s.variant ∧ p.port < netPorts s.variant ∧ (netPort s p.port).link = true ∧ streamHeard p s = true

/-- A packet that is heard passes the first gate of `mediaPacket`. -/
theorem mediaPacket_of_heard {p : MediaPacket} {s : State} (h : PacketHeard p s) :
    mediaPacket p s =
      if ¬ s.stem.aligned then modNet p.port (fun q => { q with unaligned := q.unaligned + 1 }) s else packetNow p (packetNext p s) := by
  obtain ⟨hmode, hstream, hport, hlink, hheard⟩ := h
  exact if_neg (by simp [hmode, hstream, hport, hlink, hheard])

/-- Before the alignment a packet that is heard is only counted (R50). -/
theorem mediaPacket_unaligned {p : MediaPacket} {s : State} (h : PacketHeard p s) (hal : s.stem.aligned = false) :
    mediaPacket p s = modNet p.port (fun q => { q with unaligned := q.unaligned + 1 }) s := by
  rw [mediaPacket_of_heard h, if_pos (by simp [hal])]

/-- After it the packet is taken into its buffers (R423). -/
theorem mediaPacket_aligned {p : MediaPacket} {s : State} (h : PacketHeard p s) (hal : s.stem.aligned = true) :
    mediaPacket p s = packetNow p (packetNext p s) := by
  rw [mediaPacket_of_heard h, if_neg (not_not.2 hal)]

/-- An offset that has been off for 100 ms is an error of the receiver (R429). -/
theorem offsetError_settles {n t : Nat} {s : State} (hbad : (rxStream s n).badMs = some t) (hen : enOf (rxStream s n).entry = true)
    (hdue : t + 100 ≤ s.stem.ms) : offsetError n s = settleRx n (modRx n (fun q => { q with offsetErr := true }) s) := by
  simp only [offsetError, hbad]
  rw [if_pos ⟨hen, hdue⟩]

/-- A packet that is due from a stream that sends goes out (R435). -/
theorem txPacket_sends {n u : Nat} {l : List (List Sample)} {s : State} (hdue : (txStream s n).due = some (u, l))
    (hstate : (txStream (settleTx n s) n).state = 2) : txPacket n s = sendPacket n u l (settleTx n s) := by
  simp only [txPacket, hdue]
  rw [if_pos hstate]

/-- A packet that is due from a stream that does not send is gated (R435). -/
theorem txPacket_gated {n u : Nat} {l : List (List Sample)} {s : State} (hdue : (txStream s n).due = some (u, l))
    (hstate : (txStream (settleTx n s) n).state ≠ 2) :
    txPacket n s = modTx n (fun q => { q with due := none, gated := q.gated + 1 }) (settleTx n s) := by
  simp only [txPacket, hdue]
  rw [if_neg hstate]

/-- A receive window that NET.RX_SET takes is applied as NET.RX_SET and is then empty. -/
theorem qlApply_rx {w : Nat} {x : Ctx} {s : State} (hgo : bit w 31 = true) (hstream : fld w 0 13 < streamsOf s.variant)
    (hrx : bit w 16 = false)
    (hx : x = windowCtx (fld w 0 13) ((rxStream s (fld w 0 13)).window.getD (rxStream s (fld w 0 13)).entry))
    (hok : succeeded (issueInternal 0x0410 cmdNetRxSet x s).1 = true) :
    qlApply w s = modRx (fld w 0 13) (fun q => { q with window := none }) (issueInternal 0x0410 cmdNetRxSet x s).2 := by
  rw [windowCtx] at hx
  rw [qlApply, if_neg (by simp [hgo, hstream])]
  simp only [hrx, Bool.false_eq_true, if_false, ← hx, hok, if_true]

/-- NMOS serves: it is enabled, the network is up and the engine is ready. -/
def NmosServes (s : State) : Prop := s.quill.nmos.en = true ∧ s.boot.netUp = true ∧ s.boot.stage = .ready

/-- An activation without the right to write is answered with 403 (R446). -/
theorem is05_forbidden {tx : Bool} {entry : Bytes} {sdp : Option Sdp} {mode ns : Nat} {s : State} (h : NmosServes s)
    (hwrite : s.quill.nmos.write = false) : is05 tx entry sdp mode ns s = modQuill (fun q => { q with http := 403 }) s := by
  obtain ⟨hen, hup, hready⟩ := h
  exact (if_neg (by simp [hen, hup, hready])).trans (if_pos (by simp [hwrite]))

/-- A transport file of another rate is answered with 400 (R446). -/
theorem is05_bad_rate {entry : Bytes} {d : Sdp} {mode ns : Nat} {s : State} (h : NmosServes s) (hwrite : s.quill.nmos.write = true)
    (hrate : sdpRateOk s d = false) :
    is05 false entry (some d) mode ns s = modQuill (fun q => { q with http := 400, debug := some .badParam }) s := by
  obtain ⟨hen, hup, hready⟩ := h
  exact (if_neg (by simp [hen, hup, hready])).trans ((if_neg (by simp [hwrite])).trans (if_pos (by simp [hrate])))

/-- An immediate activation of a receiver without a transport file is issued as NET.RX_SET and answered with its status (R446). -/
theorem is05_carried_out {entry : Bytes} {x : Ctx} {s : State} (h : NmosServes s) (hwrite : s.quill.nmos.write = true)
    (hx : x = { client := 0xFD, seq := s.ink.order % 65536, role := 3, p := nmosEntry false (padTo 64 entry) s }) :
    is05 false entry none 0 0 s = modQuill (fun q => { q with http := httpOf (issueInternal 0x0410 cmdNetRxSet x s).1,
                                                              debug := some (issueInternal 0x0410 cmdNetRxSet x s).1 })
      (issueInternal 0x0410 cmdNetRxSet x s).2 := by
  obtain ⟨hen, hup, hready⟩ := h
  rw [is05, if_neg (by simp [hen, hup, hready]), if_neg (by simp [hwrite]), if_neg (by simp), hx]
  rfl

/-- Settles O52: each row is the case of its operation that the stream, the window or NMOS selects. -/
theorem streamEventsComplete : Obligations.StreamEventsComplete := by
  refine ⟨?unaligned, ?taken, ?leg1, ?leg2, ?offset, ?repeats, ?sent, ?gated, ?window, ?forbidden, ?badRate, ?activated, ?heartbeat⟩
  case unaligned =>
    exact fun p s hmode hstream hport hlink hheard hal =>
      congrArg Host.Outcome.next (mediaPacket_unaligned ⟨hmode, hstream, hport, hlink, hheard⟩ hal)
  case taken =>
    exact fun p s hmode hstream hport hlink hheard hal =>
      congrArg Host.Outcome.next (mediaPacket_aligned ⟨hmode, hstream, hport, hlink, hheard⟩ hal)
  case leg1 => exact fun n s hen hseen => congrArg Host.Outcome.next (if_pos ⟨hen, .inl rfl, hseen⟩)
  case leg2 => exact fun n s hen hseen => congrArg Host.Outcome.next (if_pos ⟨hen, .inr rfl, hseen⟩)
  case offset => exact fun n t s hbad hen hdue => congrArg Host.Outcome.next (offsetError_settles hbad hen hdue)
  case repeats => exact fun n s hrunning hlimit => congrArg Host.Outcome.next (if_pos ⟨hrunning, hlimit⟩)
  case sent => exact fun n u l s hdue hstate => congrArg Host.Outcome.next (txPacket_sends hdue hstate)
  case gated => exact fun n u l s hdue hstate => congrArg Host.Outcome.next (txPacket_gated hdue hstate)
  case window => exact fun w s hopen hgo hstream hrx hok => next_of_open hopen (qlApply_rx hgo hstream hrx rfl hok)
  case forbidden =>
    exact fun tx e mode ns s hen hup hready hwrite => congrArg Host.Outcome.next (is05_forbidden ⟨hen, hup, hready⟩ hwrite)
  case badRate =>
    rintro ⟨entry, sdp⟩ d ns mode s hen hup hready hwrite rfl hrate
    exact congrArg Host.Outcome.next (is05_bad_rate ⟨hen, hup, hready⟩ hwrite hrate)
  case activated =>
    exact fun entry x s hen hup hready hwrite hx _ => congrArg Host.Outcome.next (is05_carried_out ⟨hen, hup, hready⟩ hwrite hx)
  case heartbeat => exact fun s hen hup => congrArg Host.Outcome.next (if_pos ⟨hen, hup⟩)

end Sys2Proof.Machine

/-! The millisecond, the sample, the period and the timed work (R20, R40, R42, R100, R179, R341, R369, R463). -/

namespace Sys2Proof.Machine

/-- A millisecond outside HELD at which no second and no minute is full, and without XO_IN, samples the pins, moves Baseline and runs the
timers (R42). -/
theorem aonTick_runs {a b : Bool} {pins : Nat} {s x : State} (hmode : s.power.mode ≠ .held)
    (hx : x = blTick (aonPart a b (takePins pins (advanceMs s)))) (hsecond : x.stem.ms % 1000 ≠ 0) (hminute : x.stem.ms % 60000 ≠ 0)
    (hxo : x.stem.xoIn = false) : aonTick a b pins s = tickTimers x := by
  rw [aonTick, if_neg hmode]
  simp only [← hx, if_neg hsecond, if_neg hminute, hxo, Bool.false_eq_true, false_and, if_false]

/-- A sample of the running grid that is not the twin's turn takes its inputs, computes, drives its outputs and counts SSI (R20). -/
theorem sampleTick_counts {s x : State} (hgrid : gridRuns s = true)
    (hx : x = drivePulses (captureSinks (sampleOutputs (hushForced s) (takeMeters (hushForced s) (computeSample (hushForced s)
      (runSinks (hushForced s) (releaseSources (takeInputs (sampleInputs s)))))))))
    (hturn : x.stem.ssi % 8 ≠ 4) : sampleTick s = { x with stem := { x.stem with ssi := x.stem.ssi + 1 } } := by
  rw [sampleTick, if_neg (not_not.2 hgrid)]
  simp only [← hx, if_neg hturn]

/-- A boundary of the running grid applies what is due before it computes (R40). -/
theorem periodBoundary_runs {edge : Bool} {s : State} (hgrid : gridRuns s = true) (h8 : s.stem.ssi % 8 = 0) :
    periodBoundary edge s = boundaryLast edge (boundaryReports (boundaryCompute (boundaryFirst s))) :=
  if_neg (by simp [hgrid, h8])

/-- Without a flourish none has been missed. -/
theorem commitMissed_of_no_flourish {s : State} (h : s.ms.flourishes = []) : commitMissed s = s := by
  rw [commitMissed, h]
  rfl

/-- Without a flourish none is told. -/
theorem tellFlourishes_of_no_flourish {s : State} (h : s.ms.flourishes = []) : tellFlourishes s = s := by
  rw [tellFlourishes, h]
  rfl

/-- Without a note Sheen's epoch is not told. -/
theorem tellEpoch_of_no_note {s : State} (h : s.sheen.note = none) : tellEpoch s = s := by
  rw [tellEpoch, h]

/-- Without a handover none is carried out. -/
theorem handoverPoint_of_no_handover {s : State} (h : s.twin.handover = none) : handoverPoint s = s := by
  rw [handoverPoint, h]

/-- With nothing due and nothing to tell, the timed work changes nothing. -/
theorem applyTimed_of_nothing_due {s : State} (hdue : dueActions s = []) (hms : s.ms.flourishes = []) (htwin : s.twin.handover = none)
    (hnote : s.sheen.note = none) : applyTimed s = s := by
  simp only [applyTimed, commitMissed_of_no_flourish hms, hdue, mergeRoutes, List.foldl_nil]
  rw [tellEpoch_of_no_note hnote, tellFlourishes_of_no_flourish hms, handoverPoint_of_no_handover htwin]

/-- One action that is due is applied, with no routes of later ones to merge (R179). -/
theorem applyTimed_single {a : Armed} {s : State} (hdue : dueActions s = [a]) (hms : s.ms.flourishes = []) :
    applyTimed s = handoverPoint (tellFlourishes (tellEpoch (applyOne s { a with turn := { a.turn with merged := [] } }))) := by
  simp only [applyTimed, commitMissed_of_no_flourish hms, hdue, mergeRoutes, List.foldl_cons, List.foldl_nil, List.filter_nil,
    List.flatMap_nil]

/-- A recall that was late is applied at a boundary from its time on (R341). -/
theorem lateRecall_applies {client seq : Nat} {a : Armed} {s : State} (ha : recallOf s client seq = some a) (hlate : a.late = true)
    (h8 : s.stem.ssi % 8 = 0) (htime : a.applySsi ≤ s.stem.ssi) :
    lateRecall client seq s = tellEpoch (recallTurns a true (forget a s)) := by
  rw [lateRecall, ha]
  exact if_pos ⟨hlate, h8, htime⟩

/-- The reply of a command that was running fills its place in the cache. -/
theorem replyRunning_cached {n : Nat} {warns : List Warning} {r : Reply} {x : CacheEntry} {s : State}
    (h : (well s n).cache.find? (fun x => x.seq = r.seq && x.reply = none) = some x) :
    replyRunning n warns r s = deliverReply n x.crc warns r s := by
  rw [replyRunning, h]

/-- A command whose result is known leaves the running ones, is answered, and frees its sheet. -/
theorem completeRunning_answers {n q : Nat} {e : Running} {r : Reply} {x : CacheEntry} {s : State} (he : runningAt s n q = some e)
    (hr : e.result = some r) (hevents : e.events = [])
    (hcache : (well s n).cache.find? (fun x => x.seq = r.seq && x.reply = none) = some x) :
    completeRunning n q s = releaseSheet n e.sheet (deliverReply n x.crc e.warns r
      { s with ink := { s.ink with running := s.ink.running.filter (fun x => ¬ (x.client = n ∧ x.seq = q)) } }) := by
  simp only [completeRunning, he, hr, hevents, List.foldl_nil]
  exact congrArg (releaseSheet n e.sheet) (replyRunning_cached hcache)

/-- Settles O59: each row is the case of its operation that the mode, the grid and the work that is due select. -/
theorem ticksAndTimesComplete : Obligations.TicksAndTimesComplete := by
  refine ⟨?held, ?tick, ?sample, ?boundary, ?nothing, ?single, ?deadline, ?late, ?completes⟩
  case held => exact fun a b pins s hheld => congrArg Host.Outcome.next (if_pos hheld)
  case tick =>
    exact fun a b pins x s hmode hx hsecond hminute hxo => congrArg Host.Outcome.next (aonTick_runs hmode hx hsecond hminute hxo)
  case sample => exact fun x s hgrid hx hturn => congrArg Host.Outcome.next (sampleTick_counts hgrid hx hturn)
  case boundary => exact fun edge s hgrid h8 => congrArg Host.Outcome.next (periodBoundary_runs hgrid h8)
  case nothing =>
    exact fun s hdue hms htwin hnote =>
      ⟨s, congrArg Host.Outcome.next (applyTimed_of_nothing_due hdue hms htwin hnote), rfl, rfl, rfl⟩
  case single => exact fun a s hdue hms => congrArg Host.Outcome.next (applyTimed_single hdue hms)
  case deadline => exact fun l s => rfl
  case late => exact fun client seq a s ha hlate h8 htime => congrArg Host.Outcome.next (lateRecall_applies ha hlate h8 htime)
  case completes =>
    exact fun client seq e r x s he hr hevents hcache => congrArg Host.Outcome.next (completeRunning_answers he hr hevents hcache)

end Sys2Proof.Machine

/-! The reset and power pins (R39, R99 to R101, R105). -/

namespace Sys2Proof.Machine

/-- FREE steering is at zero after a reset, whether Baseline starts in FREE or on the stored frequency (R72). -/
@[simp] theorem coldBaseline_steer (ms : Nat) (b : Baseline) : (coldBaseline ms b).steer = 0 := by
  unfold coldBaseline
  dsimp only
  split
  · rfl
  · split <;> rfl

/-- Noting that the reference is lost leaves the mode alone. -/
@[simp] theorem markRefLost_mode (s : State) : (markRefLost s).power.mode = s.power.mode := by
  unfold markRefLost
  split <;> rfl

/-- Entering FREE leaves the mode alone. -/
@[simp] theorem enterFree_mode (cause : Nat) (s : State) : (enterFree cause s).power.mode = s.power.mode := by
  rw [enterFree, markRefLost_mode, raise_power, power_of_rest_eq (P := { vl := true }) rfl (holdoverEnds_rest _ rfl _ _)]

/-- Entering HOLDOVER leaves the mode alone. -/
@[simp] theorem enterHoldover_mode (s : State) : (enterHoldover s).power.mode = s.power.mode := by
  rw [enterHoldover, markRefLost_mode, power_of_rest_eq (P := { bl := true }) rfl (blEvent_rest _ rfl _ _), raise_power, vellumCount_power]

/-- Baseline's start leaves the mode alone. -/
@[simp] theorem startBaseline_mode (s : State) : (startBaseline s).power.mode = s.power.mode := by
  unfold startBaseline
  split
  · exact enterHoldover_mode s
  · exact enterFree_mode 4 s

/-- The boot ROM begins at a source of its own, or waits for the host image (R110). -/
theorem chooseSource_stage (s : State) : (chooseSource s).boot.stage = .rom ∨ (chooseSource s).boot.stage = .waitHost := by
  rw [chooseSource, toStage_boot]
  dsimp only
  split
  · exact .inr rfl
  · exact .inl rfl

/-- The begin of the boot changes nothing of Stem. -/
@[simp] theorem beginBoot_stem (s : State) : (beginBoot s).stem = s.stem :=
  stem_of_rest_eq (P := { bl := true, boot := true, power := true, ink := true, host := true, vl := true }) rfl
    (beginBoot_rest _ rfl rfl rfl rfl rfl rfl s)

/-- The begin of the boot leaves the mode alone. -/
@[simp] theorem beginBoot_mode (s : State) : (beginBoot s).power.mode = s.power.mode := by
  rw [beginBoot, power_of_rest_eq (P := { boot := true, host := true }) rfl (chooseSource_rest _ rfl rfl _),
    power_of_rest_eq (P := { host := true }) rfl (readBoard_rest _ rfl _), startBaseline_mode, modBoot_power]

/-- The boot begins with the choice of a source. -/
theorem beginBoot_stage (s : State) : (beginBoot s).boot.stage = .rom ∨ (beginBoot s).boot.stage = .waitHost :=
  chooseSource_stage _

/-- POR_N low holds the engine with nothing armed, no instance, FREE steering at zero and the twin on its stored settings (R100, R101, R105). -/
theorem porReset_clears (s : State) :
    (porReset s).power.mode = .held ∧ (porReset s).ink.armed = [] ∧ (porReset s).prog.insts = [] ∧ (porReset s).bl.steer = 0 ∧
      (porReset s).twin.cfg = s.twin.nvs :=
  ⟨rfl, rfl, rfl, coldBaseline_steer _ _, rfl⟩

/-- Vellum's load at POR_N changes Vellum only, so neither Stem nor the power unit. -/
theorem loadVellum_keeps (s : State) : (loadVellum s).stem = s.stem ∧ (loadVellum s).power = s.power :=
  ⟨stem_of_rest_eq (P := { vl := true }) rfl (loadVellum_rest _ rfl s), power_of_rest_eq (P := { vl := true }) rfl (loadVellum_rest _ rfl s)⟩

/-- Nor does the load of the Hush record. -/
theorem loadHushRecord_keeps (s : State) : (loadHushRecord s).stem = s.stem ∧ (loadHushRecord s).power = s.power :=
  have h := loadHushRecord_rest { bl := true, ink := true, host := true, twin := true, hush := true, serif := true } rfl rfl rfl rfl rfl rfl s
  ⟨stem_of_rest_eq rfl h, power_of_rest_eq rfl h⟩

/-- Nor does a latched HUSH_FAULT. -/
theorem latchFault_keeps (cause : Nat) (s : State) : (latchFault cause s).stem = s.stem ∧ (latchFault cause s).power = s.power :=
  have h := latchFault_rest { ink := true, host := true, hush := true, vl := true } rfl rfl rfl rfl cause s
  ⟨stem_of_rest_eq rfl h, power_of_rest_eq rfl h⟩

/-- A release of POR_N out of HELD puts the engine into BOOT with AON on XO_IN, or on its own clock without it; with XO_IN the boot begins
from there (R99). -/
theorem porRelease_starts {s : State} (xo : Bool) (hheld : s.power.mode = .held) (hjtag : s.life.jtag ≠ 2) :
    ∃ t, porRelease xo s = (if xo then beginBoot t else t) ∧ t.power.mode = .booting ∧ t.stem.xoIn = xo ∧ t.stem.aonInt = !xo := by
  unfold porRelease
  rw [if_neg (by simp [hheld, hjtag])]
  extract_lets m s1 s2 s3
  have hclock : s2.stem = { s.stem with xoIn := xo, xoOk := xo, aonInt := !xo } :=
    (loadHushRecord_keeps _).1.trans (loadVellum_keeps _).1
  have hmode : s2.power.mode = .booting := congrArg Power.mode (loadHushRecord_keeps _).2
  have hfault : s3.stem = s2.stem ∧ s3.power = s2.power := by
    simp only [s3]
    split
    · exact latchFault_keeps 2 s2
    · exact ⟨rfl, rfl⟩
  obtain ⟨hstem, hpower⟩ := hfault
  exact ⟨s3, rfl, by rw [hpower, hmode], by rw [hstem, hclock], by rw [hstem, hclock]⟩

/-- A loss of XO_IN leaves AON on its own clock, and Stem without lock (R39, R105). -/
theorem xoStops_clock {s : State} (h : s.stem.xoIn = true) :
    (xoStops s).stem.xoIn = false ∧ (xoStops s).stem.aonInt = true ∧ (xoStops s).stem.stemLock = false := by
  unfold xoStops
  rw [if_neg (not_not.2 h)]
  split <;> exact ⟨rfl, rfl, rfl⟩

/-- The return of XO_IN to an engine that is HELD changes Stem only: the boot waits for POR_N. -/
theorem xoReturns_held {s : State} (h : s.stem.xoIn = false) (hheld : s.power.mode = .held) :
    xoReturns s = { s with stem := { s.stem with xoIn := true, xoOk := true, aonInt := false } } := by
  rw [xoReturns, if_neg (by simp [h])]
  exact if_pos hheld

/-- Otherwise the boot begins on the clock that has returned (R39). -/
theorem xoReturns_boots {s : State} (h : s.stem.xoIn = false) (hmode : s.power.mode ≠ .held) :
    xoReturns s = beginBoot { s with stem := { s.stem with xoIn := true, xoOk := true, aonInt := false } } := by
  rw [xoReturns, if_neg (by simp [h])]
  exact if_neg hmode

/-- Settles O41: POR_N's assertion is a cold state, and its release and the return of XO_IN begin the boot on a state whose clock they set. -/
theorem resetPinsComplete : Obligations.ResetPinsComplete := by
  refine ⟨?assert, ?releaseNoXo, ?releaseXo, ?loss, ?returnHeld, ?returnBoots⟩
  case assert => exact fun s => ⟨porReset s, rfl, porReset_clears s⟩
  case releaseNoXo =>
    intro s hheld hjtag
    obtain ⟨t, ht, hmode, hxo, haon⟩ := porRelease_starts false hheld hjtag
    exact ⟨t, congrArg Host.Outcome.next ht, hmode, hxo, haon⟩
  case releaseXo =>
    intro s hheld hjtag
    obtain ⟨t, ht, hmode, hxo, -⟩ := porRelease_starts true hheld hjtag
    exact ⟨beginBoot t, congrArg Host.Outcome.next ht, (beginBoot_mode t).trans hmode, by rw [beginBoot_stem, hxo], beginBoot_stage t⟩
  case loss => exact fun s h => ⟨xoStops s, rfl, xoStops_clock h⟩
  case returnHeld => exact fun s h hheld => congrArg Host.Outcome.next (xoReturns_held h hheld)
  case returnBoots =>
    exact fun s h hmode => ⟨_, congrArg Host.Outcome.next (xoReturns_boots h hmode), by rw [beginBoot_stem], beginBoot_stage _⟩

end Sys2Proof.Machine

/-! The state after reset (R72, R170, R222, R223). -/

namespace Sys2Proof.Machine

/-- After reset no Inkwell but the two permanent ones is bound (R170). -/
theorem well_reset_unbound {n : Nat} (h : 2 ≤ n) : (well State.reset n).bind = .unbound := by
  have h0 : n ≠ 0 := by omega
  have h1 : n ≠ 1 := by omega
  rw [well, if_neg h0, if_neg h1]
  rfl

/-- Settles O7: no table of the reset state lists an entry, so the fields and the Inkwells read their defaults. -/
theorem resetState : Obligations.ResetState :=
  ⟨⟨rfl, rfl, rfl, rfl, rfl⟩, ⟨rfl, rfl⟩, fun _ => well_reset_unbound⟩

end Sys2Proof.Machine

/-! The references of Baseline (R57 to R63, R66, R68 to R71, R74, R75, R726). -/

namespace Sys2Proof.Machine

/-- Candidate `n` of a present unit has a priority, no bar and no qualification, and its QUAL_T has run (R58). -/
def QualifiesNow (s : State) (n : Nat) : Prop :=
  n ≤ 23 ∧ refAbsent s n = false ∧ (refCfg s n).prio ≠ 0 ∧ (refSt s n).bar = false ∧ (refSt s n).qual = false ∧
    (refSt s n).qualMs + max 1 (min (refCfg s n).qualT 60) * 1000 ≤ s.stem.ms

/-- A candidate whose criteria have held for QUAL_T qualifies where neither its frequency nor its build-out is too far off (R58, R75). -/
theorem candidateQualified_qualifies {n : Nat} {build fofs : Int} {s : State} (hmet : criteriaMet s n = true) (h : QualifiesNow s n)
    (hfofs : fofs.natAbs ≤ 15000) (hnear : tooFar (modRef n (fun r => { r with buildout := build, fofs := fofs }) s) n = false) :
    candidateQualified n build fofs s =
      modRef n (fun r => { r with qual := true, cause := 0, qualMs := s.stem.ms, hits := 0, hitDue := false })
        (modRef n (fun r => { r with buildout := build, fofs := fofs }) s) := by
  obtain ⟨hn, hpresent, hprio, hbar, hqual, htime⟩ := h
  simp only [candidateQualified]
  rw [if_neg (not_not.2 hmet), if_neg (by simp [hpresent, hprio, hbar, hqual]; omega), if_neg (by omega), if_neg (by simp [hnear])]

/-- A cause other than TIME_DISAGREE restarts the QUAL_T of a candidate that is not qualified and sets no event bit (R58, R59). -/
theorem causeArises_unqualified {n cause : Nat} {s : State} (hqual : (refSt s n).qual = false) (hcause : cause ≠ 8) :
    causeArises n cause s =
      modRef n (fun r => { r with los := r.los || decide (cause = 2), qualMs := s.stem.ms, cause := causeKept s r (refCfg s n).prio cause }) s := by
  rw [causeArises, if_neg (by simp [hqual])]
  dsimp only
  rw [if_neg (fun h => hcause h.1)]

/-- A bar that has run for BAR_TIME ends, and QUAL_T starts again (R61). -/
theorem execBarExpiry_ends {n t : Nat} {s : State} (hbar : (refSt s n).bar = true) (huntil : (refSt s n).barUntil = some t)
    (htime : t ≤ s.stem.ms) :
    execBarExpiry n s = .next (modRef n (fun r => { r with bar := false, barUntil := none, qualMs := s.stem.ms }) s) := by
  rw [execBarExpiry, huntil]
  exact congrArg Host.Outcome.next (if_pos ⟨hbar, htime⟩)

/-- At a boundary an automatic selection returns to the best reference once WTR has run for it (R62, R63). -/
theorem execRefRevert_returns {b : Nat} {s : State} (hbest : bestRef s = some b)
    (h : s.stem.ssi % 8 = 0 ∧ s.bl.selmode = 0 ∧ following s = true ∧ s.bl.sel ≠ 24 ∧ revertDue s b = true) :
    execRefRevert s = .next (switchTo b 0xFE s) := by
  rw [execRefRevert, hbest]
  exact congrArg Host.Outcome.next (if_pos h)

/-- An edge of candidate `n` is measured: its unit is present and powered, and Copybook does not test Baseline (R617). -/
def EdgeSeen (s : State) (n : Nat) : Prop :=
  n ≤ 23 ∧ refAbsent s n = false ∧ refPowered s n = true ∧ baselineTested s = false

/-- An edge within the frequency limit is taken down for its candidate; the loop measures it where the candidate is followed and not
measured at the boundary, and no build-out beyond BO_MAX counts for the followed one (R75, R726). -/
theorem refEdge_taken {n : Nat} {dev fofs build : Int} {s s1 : State} (h : EdgeSeen s n) (hfofs : fofs.natAbs ≤ 15000)
    (hs1 : s1 = modRef n (fun r => { r with dev := dev, fofs := fofs, buildout := build, los := false }) s)
    (hnear : tooFar s1 n = false ∨ (following s = true ∧ s.bl.sel = n)) :
    refEdge n dev fofs build s =
      if following s = true ∧ s.bl.sel = n ∧ ¬ measuredAtBoundary n = true then measure n dev s1 else s1 := by
  obtain ⟨hn, hpresent, hpowered, htested⟩ := h
  have hfollow : following s1 = following s := by rw [hs1]; rfl
  have hsel : s1.bl.sel = s.bl.sel := by rw [hs1]; rfl
  have hkept : ¬ (tooFar s1 n = true ∧ ¬ (following s = true ∧ s.bl.sel = n)) :=
    fun ⟨hfar, hother⟩ => hother (hnear.resolve_left (by simp [hfar]))
  simp only [refEdge, ← hs1]
  rw [if_neg (by simp [hpresent, hpowered, htested, hn]), if_neg (show ¬ 15000 < fofs.natAbs by omega), hfollow, hsel, if_neg hkept, hfollow, hsel]

/-- The loop is ready to lock: it has been within the threshold for 2 s, and no alignment to PTP is under way or outstanding (R66, R77). -/
def LocksNow (s : State) (err : Int) (m : Nat) : Prop :=
  s.bl.state = .acquiring ∧ err.natAbs ≤ lockThreshold s.bl.sel ∧ s.bl.inMs = some m ∧ m + 2000 ≤ s.stem.ms ∧ s.bl.aligning = false ∧
    s.bl.thetaStep = false ∧ (s.stem.jamArmed = false ∨ 4 ≤ s.bl.sel ∨ s.bl.jamDue = true)

/-- Outside STANDBY a lock is an event and no wake cause (R66, R152). -/
theorem enterLocked_locks {err : Int} {m : Nat} {s : State} (h : LocksNow s err m) (hmode : s.power.mode ≠ .standby) :
    enterLocked err s =
      blEvent 3 (raise 0x0204 (le 1 s.bl.sel ++ zeros 3 ++ leI 4 (sat32 (errBound { s.bl with state := .locked } err)))
        { s with bl := { s.bl with state := .locked, phaseErr := errBound { s.bl with state := .locked } err, lockMs := s.stem.ms,
                                   hist := [] } }) := by
  obtain ⟨hstate, herr, hin, htime, halign, hstep, hjam⟩ := h
  have hopen : ¬ (s.bl.state ≠ .acquiring ∨ lockThreshold s.bl.sel < err.natAbs ∨ s.bl.inMs = none ∨ s.stem.ms < s.bl.inMs.getD 0 + 2000 ∨
      s.bl.aligning = true ∨ s.bl.thetaStep = true ∨ (s.stem.jamArmed = true ∧ s.bl.sel < 4 ∧ ¬ s.bl.jamDue = true)) := by
    simp only [hstate, hin, halign, hstep, Option.getD_some]
    rintro (h | h | h | h | h | h | ⟨harmed, hsel, hdue⟩)
    · exact h rfl
    · omega
    · cases h
    · omega
    · cases h
    · cases h
    · rcases hjam with hfree | hother | hdone
      · simp [hfree] at harmed
      · omega
      · exact hdue hdone
  rw [enterLocked, if_neg hopen]
  exact if_neg fun hstandby => hmode hstandby.1

/-- HOLDOVER that has run for its limit ends in FREE, is counted and logged, and gives up the claim (R69, R70). -/
theorem holdoverExpired_expires {s : State} (hstate : s.bl.state = .holdover) (hwait : s.bl.hoWait = false) (hlimit : s.bl.policy.hoLimit ≠ 0)
    (htime : s.bl.hoMs + s.bl.policy.hoLimit * 1000 ≤ s.stem.ms) :
    holdoverExpired s =
      vellumLog 8 0 0 ((s.stem.ms - s.bl.hoMs) / 1000) (vellumCount 19 (signalGiveUp 5 (enterFree 1 (blEvent 2
        (raise 0x0206 (leI 4 s.bl.hoFreq ++ le 4 ((s.stem.ms - s.bl.hoMs) / 1000)) s))))) :=
  if_neg (by simp [hstate, hwait, hlimit]; omega)

/-- Settles O38: each row is the case of its operation that the candidate's status and the loop's state select. -/
theorem referenceEventsComplete : Obligations.ReferenceEventsComplete := by
  refine ⟨?qualifies, ?disqualified, ?causeKept, ?barEnds, ?reverts, ?measured, ?noted, ?locks, ?hoValid, ?hoSaved, ?hoExpires⟩
  case qualifies =>
    exact fun n build fofs s hmet hn hpresent hprio hbar hqual htime hfofs hnear =>
      congrArg Host.Outcome.next (candidateQualified_qualifies hmet ⟨hn, hpresent, hprio, hbar, hqual, htime⟩ hfofs hnear)
  case disqualified =>
    exact fun n cause s hn hpresent hcause hqual =>
      congrArg Host.Outcome.next ((if_pos ⟨hn, by simp [hpresent], hcause⟩).trans (if_pos hqual))
  case causeKept =>
    exact fun n cause s hn hpresent hcause hother hqual =>
      congrArg Host.Outcome.next ((if_pos ⟨hn, by simp [hpresent], hcause⟩).trans (causeArises_unqualified hqual hother))
  case barEnds => exact fun n t s hbar huntil htime => execBarExpiry_ends hbar huntil htime
  case reverts => exact fun b s hbest hauto hfollow hsel hdue hgrid => execRefRevert_returns hbest ⟨hgrid, hauto, hfollow, hsel, hdue⟩
  case measured =>
    exact fun n dev fofs build s h4 hn hpresent hpowered htested hfofs hfollow hsel hedge =>
      congrArg Host.Outcome.next ((if_pos h4).trans ((refEdge_taken ⟨hn, hpresent, hpowered, htested⟩ hfofs rfl (.inr ⟨hfollow, hsel⟩)).trans
        (if_pos ⟨hfollow, hsel, by simp [hedge]⟩)))
  case noted =>
    intro n dev fofs build s h4 hn hpresent hpowered htested hfofs hnear hother
    have hidle : ¬ (following s = true ∧ s.bl.sel = n ∧ ¬ measuredAtBoundary n = true) := fun ⟨hfollow, hsel, _⟩ =>
      hother.elim (by simp [hfollow]) (absurd hsel)
    exact congrArg Host.Outcome.next ((if_pos h4).trans ((refEdge_taken ⟨hn, hpresent, hpowered, htested⟩ hfofs rfl (.inl hnear)).trans
      (if_neg hidle)))
  case locks =>
    exact fun err m s hstate herr hin htime halign hstep hjam hmode =>
      congrArg Host.Outcome.next (enterLocked_locks ⟨hstate, herr, hin, htime, halign, hstep, hjam⟩ hmode)
  case hoValid => exact fun s hlocked htime => congrArg Host.Outcome.next (if_pos ⟨hlocked, htime⟩)
  case hoSaved => exact fun s hvalid htime => congrArg Host.Outcome.next (if_pos ⟨hvalid, htime⟩)
  case hoExpires =>
    intro sec s hstate hwait hlimit htime hsec
    subst hsec
    exact congrArg Host.Outcome.next (holdoverExpired_expires hstate hwait hlimit htime)

end Sys2Proof.Machine

/-! The boot, the restarts of Scribe and zeroisation (R106, R110, R112, R113, R122, R128, R133, R384, R610, R729). -/

namespace Sys2Proof.Machine

/-- The boot ROM reads a source: XO_IN runs in BOOT, with no zeroisation to do (R110, R610). -/
theorem bootSourceRead_tries {readOk : Bool} {n : Nat} {l : List Nat} {s : State} (hmode : s.power.mode = .booting) (hxo : s.stem.xoIn = true)
    (hstage : s.boot.stage = .rom) (hzero : zeroising s = false) (hslots : slotsLeft s = n :: l) :
    bootSourceRead readOk s = trySource n readOk s := by
  rw [bootSourceRead, if_neg (by simp [hmode, hxo, hstage, hzero]), hslots]

/-- The boot watchdog gives up the source of an image that has not signalled within 2 s (R112). -/
theorem bootWatchdog_gives_up {s : State} (hstage : s.boot.stage = .fwInit) (hrunning : s.boot.running = false)
    (htime : s.boot.waitMs + 2000 ≤ s.stem.ms) :
    bootWatchdog s = sourceFails s.boot.slot 6 (modBoot (fun b => { b with resetCause := setBit b.resetCause 7 }) s) :=
  if_neg (by simp [hstage, hrunning]; omega)

/-- The running signal arms Scribe's watchdog, and an image that is a fallback is counted (R112, R635, R729). -/
theorem fwRunning_runs {s : State} (hstage : s.boot.stage = .fwInit) (hrunning : s.boot.running = false) :
    fwRunning s =
      if s.boot.fallback = true then vellumCount 11 (modBoot (fun b => { b with running := true, wdtArmed := true }) s)
      else modBoot (fun b => { b with running := true, wdtArmed := true }) s :=
  if_neg (by simp [hstage, hrunning])

/-- The end of a Scribe restart returns to READY or to the wake that it interrupted, and shows what Hush has latched (R384, R729). -/
theorem scribeDone_resumes {g : Stage} {s : State} (hstage : s.boot.stage = .scribeRestart) (hresume : s.boot.resumeStage = some g)
    (hg : g = .ready ∨ g = .waking) :
    scribeDone s = showHidden (toStage g (modBoot (fun b => { b with resumeStage := none, inkBasic := g ≠ .waking }) s)) := by
  rw [scribeDone, if_neg (not_not.2 hstage), hresume]
  rcases hg with rfl | rfl <;> rfl

/-- The start of the Serif ports changes nothing of the boot. -/
@[simp] theorem startPorts_boot (s : State) : (startPorts s).boot = s.boot :=
  boot_of_rest_eq (P := { ink := true, host := true, serif := true }) rfl (startPorts_rest _ rfl rfl rfl s)

/-- What the engine does once READY is told, on the state that has entered its mode: the time to READY is kept and placed, the autosave
starts, and RESUME_FAIL says that there was no record (R127, R128). -/
def readyTold (ready : Nat) (s : State) : State :=
  announceUnwarned (resumeFails 0 0 (vellumBin 7 (min 15 (ready / 100))
    (startAutosave (modBoot (fun b => { b with readyMs := ready }) (toStage .ready s)))))

/-- READY is its stage and its time; it changes no mode. -/
theorem readyTold_ends (ready : Nat) (s : State) :
    (readyTold ready s).power = s.power ∧ (readyTold ready s).boot.stage = .ready ∧ (readyTold ready s).boot.readyMs = ready := by
  have hpower : (readyTold ready s).power = s.power :=
    power_of_rest_eq (P := { boot := true, ink := true, host := true, vl := true }) rfl (by simp [readyTold])
  have hboot : (readyTold ready s).boot =
      (startAutosave (modBoot (fun b => { b with readyMs := ready }) (toStage .ready s))).boot :=
    boot_of_rest_eq (P := { ink := true, host := true, vl := true }) rfl (by simp [readyTold])
  have hstage : (toStage .ready s).boot.stage = .ready := by rw [toStage_boot]
  exact ⟨hpower, by rw [hboot]; exact hstage, by rw [hboot]; rfl⟩

/-- An engine on its own with no record to resume starts its ports and becomes ready in COMMISSION (R119, R128). -/
theorem becomeReady_alone {s : State} (hready : canReady s = true) (hpartner : isPartner s = false) (hjoin : s.ms.cfg.autoJoin = false)
    (hresume : s.resume = none) : becomeReady s = readyTold (s.stem.ms - s.boot.bootMs) (enterMode .commission 1 (startPorts s)) := by
  rw [becomeReady, if_neg (not_not.2 hready)]
  simp [hresume, hpartner, hjoin, readyTold]

section
variable {P : Parts} {s t : State}

/-- States that agree outside parts without the life cycle have one life cycle. -/
theorem life_of_rest_eq (hP : P.life = false) (h : t.rest P = s.rest P) : t.life = s.life := by
  simpa [State.rest, hP] using congrArg State.life h

/-- States that agree outside parts without Hush have one Hush. -/
theorem hush_of_rest_eq (hP : P.hush = false) (h : t.rest P = s.rest P) : t.hush = s.hush := by
  simpa [State.rest, hP] using congrArg State.hush h

/-- States that agree outside parts without the resume record have one resume record. -/
theorem resume_of_rest_eq (hP : P.resume = false) (h : t.rest P = s.rest P) : t.resume = s.resume := by
  simpa [State.rest, hP] using congrArg State.resume h

end

/-- Zeroisation ends in the count of the transition and the choice of a source, on a state without identity, Hush record and record to
resume (R610). -/
theorem zeroise_eq {s : State} (hzero : zeroising s = true) (hmode : s.power.mode = .booting) (hxo : s.stem.xoIn = true)
    (hstage : s.boot.stage = .rom) :
    ∃ u : State, zeroise s = chooseSource (countTransition s.life.state 3 u) ∧ u.life.state = 3 ∧ u.life.idKey = none ∧
      u.hush.record = [] ∧ u.resume = none :=
  ⟨_, if_neg (by simp [hzero, hmode, hxo, hstage]), rfl, rfl, rfl, rfl⟩

/-- The count of a transition and the choice of a source leave the life cycle, Hush and the record to resume alone. -/
theorem chooseSource_countTransition_keeps (old new : Nat) (s : State) :
    (chooseSource (countTransition old new s)).life = s.life ∧ (chooseSource (countTransition old new s)).hush = s.hush ∧
      (chooseSource (countTransition old new s)).resume = s.resume := by
  have h : (chooseSource (countTransition old new s)).rest { boot := true, host := true, vl := true } =
      s.rest { boot := true, host := true, vl := true } := by rw [chooseSource_rest _ rfl rfl, countTransition_rest _ rfl]
  exact ⟨life_of_rest_eq rfl h, hush_of_rest_eq rfl h, resume_of_rest_eq rfl h⟩

/-- Settles O42: each row is the case of its operation that the stage selects; READY and RETURNED are read off the state that the other
units' work leaves. -/
theorem bootEventsComplete : Obligations.BootEventsComplete := by
  refine ⟨?read, ?hostWait, ?watchdog, ?runs, ?runsFallback, ?serves, ?ready, ?scribeWatchdog, ?lockstep, ?doneReady, ?doneWaking, ?zeroised⟩
  case read =>
    exact fun readOk n l s hmode hxo hstage hzero hslots =>
      congrArg Host.Outcome.next (bootSourceRead_tries hmode hxo hstage hzero hslots)
  case hostWait => exact fun s hstage hsource htried htime => congrArg Host.Outcome.next (if_pos ⟨hstage, hsource, htried, htime⟩)
  case watchdog => exact fun s hstage hrunning htime => congrArg Host.Outcome.next (bootWatchdog_gives_up hstage hrunning htime)
  case runs =>
    exact fun s hstage hrunning hfirst => congrArg Host.Outcome.next ((fwRunning_runs hstage hrunning).trans (if_neg (by simp [hfirst])))
  case runsFallback =>
    exact fun s hstage hrunning hfallback => congrArg Host.Outcome.next ((fwRunning_runs hstage hrunning).trans (if_pos hfallback))
  case serves => exact fun s hstage hrunning => congrArg Host.Outcome.next (if_neg (by simp [hstage, hrunning]))
  case ready =>
    intro s hstage hmode hlock hpartner hjoin hresume hgrid
    have hready : canReady s = true := by simp [canReady, hstage, hmode, hlock]
    obtain ⟨hpower, hstage', htime⟩ := readyTold_ends (s.stem.ms - s.boot.bootMs) (enterMode .commission 1 (startPorts s))
    refine ⟨_, congrArg Host.Outcome.next ((stepOrWait_now hgrid).trans (becomeReady_alone hready hpartner hjoin hresume)), ?_, hstage', htime⟩
    rw [hpower]
    exact (enterMode_sets .commission 1 (startPorts s)).1
  case scribeWatchdog => exact fun s hruns => next_of_open hruns rfl
  case lockstep => exact fun s hruns => next_of_open hruns rfl
  case doneReady => exact fun s hstage hresume => congrArg Host.Outcome.next (scribeDone_resumes hstage hresume (.inl rfl))
  case doneWaking => exact fun s hstage hresume => congrArg Host.Outcome.next (scribeDone_resumes hstage hresume (.inr rfl))
  case zeroised =>
    intro s hzero hmode hxo hstage
    obtain ⟨u, hu, hreturned, hkey, hrecord, hresume⟩ := zeroise_eq hzero hmode hxo hstage
    obtain ⟨hlife, hhush, hrest⟩ := chooseSource_countTransition_keeps s.life.state 3 u
    exact ⟨_, congrArg Host.Outcome.next hu, by rw [hlife, hreturned], by rw [hlife, hkey], by rw [hhush, hrecord], by rw [hrest, hresume]⟩

end Sys2Proof.Machine

/-! The frames, the PTP messages and the links of Quill (R58, R415 to R418, R436). -/

namespace Sys2Proof.Machine

/-- Network port `n` exists on the variant and its link is up. -/
def PortLinked (s : State) (n : Nat) : Prop := n < netPorts s.variant ∧ (netPort s n).link = true

/-- A frame with a bad FCS is counted and dropped (R415). -/
theorem frameRxNet_bad {f : Frame} {s : State} (h : PortLinked s f.port) (hfcs : f.fcs = false) :
    frameRxNet f s = modNet f.port (fun q => { q with fcsErr := q.fcsErr + 1 }) s := by
  obtain ⟨hport, hlink⟩ := h
  rw [frameRxNet, if_neg (by simp [hlink, hport]), if_pos (by simp [hfcs])]

/-- A frame with a good FCS is counted, and is a PAUSE frame, a wake packet, or one for admission (R153, R415). -/
theorem frameRxNet_good {f : Frame} {s s1 : State} (h : PortLinked s f.port) (hfcs : f.fcs = true)
    (hs1 : s1 = modNet f.port (fun q => { newSecond s q with rxFrames := q.rxFrames + 1 }) s) :
    frameRxNet f s =
      if f.ether = 0x8808 then modNet f.port (fun q => { q with pause := q.pause + 1 }) s1
      else if wakePacket s f = true then latchCause 2 s1 else admitFrame f s1 := by
  obtain ⟨hport, hlink⟩ := h
  rw [frameRxNet, if_neg (by simp [hlink, hport]), if_neg (by simp [hfcs]), hs1]

/-- A PTP message is the port's own: its link is up, it runs PTP, and domain and interface agree (R416). -/
def PtpHeard (s : State) (m : PtpMsg) : Prop :=
  PortLinked s m.port ∧ (ptpPort s m.port).cfg.role ≠ 0 ∧ m.domain = (ptpPort s m.port).cfg.domain ∧ m.iface = (ptpPort s m.port).cfg.iface

/-- An Announce of the port's own is taken (R417). -/
theorem ptpMessage_announce {m : PtpMsg} {s : State} (h : PtpHeard s m) (hkind : m.kind = 1) :
    ptpMessage m s = takeAnnounce m.port m.data s := by
  obtain ⟨⟨hport, hlink⟩, hrole, hdomain, hiface⟩ := h
  simp only [ptpMessage]
  rw [if_neg (by simp [hport, hlink, hrole, hdomain, hiface]), if_pos hkind]

/-- A Sync of the port's own is taken while the port follows (R416). -/
theorem ptpMessage_sync {m : PtpMsg} {s : State} (h : PtpHeard s m) (hkind : m.kind = 0) (hfollower : (ptpPort s m.port).state = 2) :
    ptpMessage m s = takeSync m s := by
  obtain ⟨⟨hport, hlink⟩, hrole, hdomain, hiface⟩ := h
  simp only [ptpMessage]
  rw [if_neg (by simp [hport, hlink, hrole, hdomain, hiface]), if_neg (by simp [hkind]), if_pos ⟨hkind, hfollower⟩]

/-- A leading port sends Sync with its time; beside it one further frame is counted, or two where the port is not one-step (R418). -/
theorem ptpSyncTx_sends {n : Nat} {s : State} (h : PortLinked s n) (hleader : (ptpPort s n).state = 3) :
    ptpSyncTx n s = sendNet n (ptpPort s n).cfg.iface 0 true (.ptpSync (gridPs s))
      (modNet n (fun q => { q with txFrames := q.txFrames + ((if (ptpPort s n).cfg.oneStep = true then 2 else 3) - 1) })
        (modPtp n (fun q => { q with syncTx := q.syncTx + 1, sent := announced s n, sentPs := gridPs s }) s)) := by
  obtain ⟨hport, hlink⟩ := h
  exact if_neg (by simp [hport, hlink, hleader])

/-- A link change of a port of the variant is the change of its link. -/
theorem netLink_present {n : Nat} {up : Bool} {s : State} (hport : n < netPorts s.variant) :
    netLink n up s = if up = true then linkUp n s else linkDown n s :=
  if_neg (by omega)

/-- A follower that hears no Announce in time leaves its state: an AUTO port leads and a FOLLOWER port listens again (R58, R417). -/
theorem announceTimeout_leaves {n : Nat} {s : State} (hport : n < netPorts s.variant)
    (hrole : (ptpPort s n).cfg.role = 1 ∨ (ptpPort s n).cfg.role = 3) (hfollower : (ptpPort s n).state = 2) (hlate : announceLate s n = true) :
    announceTimeout n s =
      leaveFollower n (if (ptpPort s n).cfg.role = 3 then 3 else 1) 2 (modPtp n (fun q => { q with timeouts := q.timeouts + 1 }) s) :=
  if_neg (by simp [hfollower, hlate]; omega)

/-- A unicast transmit stream waits for the MAC of its destination on a port whose link is up (R436). -/
def AwaitsArp (s : State) (n : Nat) : Prop :=
  enOf (txStream s n).entry = true ∧ txUnicast (txStream s n).entry = true ∧ (txStream s n).arp = false ∧
    (netPort s (portOf (txStream s n).entry)).link = true

/-- The retry of ARP asks again for the next hop, and an answer is learnt and resolves the stream (R436). -/
theorem arpRetry_asks {n p hop : Nat} {answer : Option Nat} {s u : State} (h : AwaitsArp s n) (hp : p = portOf (txStream s n).entry)
    (hhop : hop = nextHop s p (u8 (txStream s n).entry 4) (u32 (txStream s n).entry 12))
    (hu : u = sendNet p (u8 (txStream s n).entry 4) 2 false (.arpRequest hop) s) :
    arpRetry n answer s =
      match answer with
      | some mac => settleTx n (modTx n (fun q => { q with arp := true }) (learnArp p hop mac u))
      | none => settleTx n u := by
  obtain ⟨hen, hunicast, harp, hlink⟩ := h
  subst hu hhop hp
  exact if_neg (by simp [hen, hunicast, harp, hlink])

/-- Settles O51: each row is the case of its operation on a port whose link, role and state are as the row says. -/
theorem netFramesComplete : Obligations.NetFramesComplete := by
  refine ⟨?badFcs, ?pause, ?admitted, ?announce, ?sync, ?oneStep, ?twoStep, ?linkUp, ?linkDown, ?timeout, ?timeoutAuto, ?arpAnswered, ?arpAsked⟩
  case badFcs => exact fun f s hport hlink hfcs => congrArg Host.Outcome.next (frameRxNet_bad ⟨hport, hlink⟩ hfcs)
  case pause =>
    exact fun f s hport hlink hfcs hpause => congrArg Host.Outcome.next ((frameRxNet_good ⟨hport, hlink⟩ hfcs rfl).trans (if_pos hpause))
  case admitted =>
    exact fun f s hport hlink hfcs hother hwake =>
      congrArg Host.Outcome.next ((frameRxNet_good ⟨hport, hlink⟩ hfcs rfl).trans ((if_neg hother).trans (if_neg (by simp [hwake]))))
  case announce =>
    exact fun m s hport hlink hrole hdomain hiface hkind =>
      congrArg Host.Outcome.next (ptpMessage_announce ⟨⟨hport, hlink⟩, hrole, hdomain, hiface⟩ hkind)
  case sync =>
    exact fun m s hport hlink hrole hdomain hiface hkind hfollower =>
      congrArg Host.Outcome.next (ptpMessage_sync ⟨⟨hport, hlink⟩, hrole, hdomain, hiface⟩ hkind hfollower)
  case oneStep =>
    intro n s hport hlink hleader hstep
    have h := ptpSyncTx_sends ⟨hport, hlink⟩ hleader
    rw [if_pos hstep] at h
    exact congrArg Host.Outcome.next h
  case twoStep =>
    intro n s hport hlink hleader hstep
    have h := ptpSyncTx_sends ⟨hport, hlink⟩ hleader
    rw [if_neg (by simp [hstep])] at h
    exact congrArg Host.Outcome.next h
  case linkUp => exact fun n s hport => congrArg Host.Outcome.next (netLink_present hport)
  case linkDown => exact fun n s hport => congrArg Host.Outcome.next (netLink_present hport)
  case timeout =>
    intro n s hport hrole hfollower hlate
    have h := announceTimeout_leaves hport (.inl hrole) hfollower hlate
    rw [if_neg (by simp [hrole])] at h
    exact congrArg Host.Outcome.next h
  case timeoutAuto =>
    intro n s hport hrole hfollower hlate
    have h := announceTimeout_leaves hport (.inr hrole) hfollower hlate
    rw [if_pos hrole] at h
    exact congrArg Host.Outcome.next h
  case arpAnswered =>
    intro n p a mac s hen hunicast harp hlink hp ha
    subst ha
    exact congrArg Host.Outcome.next (arpRetry_asks (answer := some mac) ⟨hen, hunicast, harp, hlink⟩ hp rfl rfl)
  case arpAsked =>
    intro n p a s hen hunicast harp hlink hp ha
    subst ha
    exact congrArg Host.Outcome.next (arpRetry_asks (answer := none) ⟨hen, hunicast, harp, hlink⟩ hp rfl rfl)

end Sys2Proof.Machine

/-! Requests that are not served: by the binding, the mode, the ring, the turn and the boot (R120 to R122, R125, R171, R174, R199). -/

namespace Sys2Proof.Machine

/-- A Sprinile row of one of the 64 clients is the serving of its request. -/
theorem exec_sprinile_client {e : CmdRow} (he : e ∈ sprinileRows) {r : Request} (s : State) (hclient : r.client < 64) :
    exec (e.row r) s = .next (serveState e.op e.cmd r s) := by
  rw [sprinile_serve e he, serve_client _ _ _ _ hclient]

/-- On an unbound Inkwell, and in HELD, a request changes nothing (R171). -/
theorem serveState_shut {op : Nat} {c : Cmd} {r : Request} {s : State} (h : (well s r.client).bind = .unbound ∨ s.power.mode = .held) :
    serveState op c r s = s := if_pos h

/-- A request that no slot of the ring may take is not taken (R174, R199). -/
theorem serveState_no_room {op : Nat} {c : Cmd} {r : Request} {s : State} (hbound : (well s r.client).bind ≠ .unbound)
    (hmode : s.power.mode ≠ .held) (hroom : ringable s r.client = false) :
    serveState op c r s = if (well s r.client).bind = .net then s else inkErr r.client 0 s := by
  unfold serveState
  rw [if_neg (by simp [hbound, hmode]), if_pos (by simp [hroom])]

/-- A request out of turn is put in the ring and waits (R125). -/
theorem serveState_out_of_turn {op : Nat} {c : Cmd} {r : Request} {s : State} (hbound : (well s r.client).bind ≠ .unbound)
    (hmode : s.power.mode ≠ .held) (hroom : ringable s r.client = true) (hscribe : s.boot.inkBasic = true)
    (hturn : itsTurn s r.client = false) : serveState op c r s = ringNow op r s := by
  unfold serveState
  rw [if_neg (by simp [hbound, hmode]), if_neg (by simp [hroom]), if_pos ⟨hscribe, by simp [hturn]⟩]

/-- Settles O9: each premise selects one of the first three branches of serving a request. -/
theorem unboundAndHeldServeNothing : Obligations.UnboundAndHeldServeNothing := by
  refine ⟨?unbound, ?held, ?room, ?turn⟩
  case unbound =>
    intro e he r s hclient hbind
    rw [exec_sprinile_client he s hclient, serveState_shut (.inl hbind)]
  case held =>
    intro e he r s hclient hheld
    rw [exec_sprinile_client he s hclient, serveState_shut (.inr hheld)]
  case room =>
    intro e he r s hclient hbound hmode hroom
    rw [exec_sprinile_client he s hclient, serveState_no_room hbound hmode hroom]
  case turn =>
    intro e he r s hclient hbound hmode hroom hscribe hturn
    rw [exec_sprinile_client he s hclient, serveState_out_of_turn hbound hmode hroom hscribe hturn]

/-- Taking a request draws no free value. -/
@[simp] theorem takenState_draws (op : Nat) (r : Request) (s : State) : (takenState op r s).draws = s.draws :=
  congrArg (fun x => x.draws) (takenState_rest { ink := true } rfl op r s)

/-- Taking a request changes nothing of the boot. -/
@[simp] theorem takenState_boot (op : Nat) (r : Request) (s : State) : (takenState op r s).boot = s.boot :=
  boot_of_rest_eq (P := { ink := true }) rfl (takenState_rest _ rfl op r s)

/-- Ringing a request for its client leaves the sheets with their holders. -/
@[simp] theorem ringNow_holders (op : Nat) (r : Request) (s : State) : (ringNow op r s).ink.holders = s.ink.holders := by
  simp only [ringNow]
  split <;> rfl

/-- So does the advance of Scribe's pass. -/
@[simp] theorem takeTurn_holders (n : Nat) (s : State) : (takeTurn n s).ink.holders = s.ink.holders := by
  simp only [takeTurn]
  split <;> rfl

/-- So does taking a request (R121). -/
@[simp] theorem takenState_holders (op : Nat) (r : Request) (s : State) : (takenState op r s).ink.holders = s.ink.holders := by
  change (if s.boot.inkBasic = true then takeTurn r.client (ringNow op r s) else ringNow op r s).ink.holders = s.ink.holders
  split <;> simp

/-- So does writing a reply. -/
@[simp] theorem writeReply_holders (n : Nat) (q : Reply) (s : State) : (writeReply n q s).ink.holders = s.ink.holders := by
  simp only [writeReply]
  split
  · split
    · rw [signalInk_ink]
      rfl
    · rfl
  · rfl

/-- RETRY_MS of a NOT_READY reply is at least 10 (R120). -/
theorem ten_le_retryEstimate (s : State) : 10 ≤ retryEstimate s := Nat.le_max_left _ _

/-- The NOT_READY reply to a request that was taken: written with RETRY_MS on the state of the taken request, with one free value drawn. -/
theorem replyNotReady_takenState (op : Nat) (r : Request) (s : State) :
    replyNotReady r.client op r.seq (takenState op r s) =
      writeReply r.client { opcode := op, seq := r.seq, status := .notReady, data := le 2 (retryEstimate (takenState op r s)) }
        { takenState op r s with draws := s.draws + 1, boot := { s.boot with retryMs := retryEstimate (takenState op r s) } } := by
  simp only [replyNotReady, takenState_draws, takenState_boot]

/-- Before the firmware serves commands no opcode is served (R120). -/
theorem admitted_of_not_inkBasic {op : Nat} {s : State} (h : s.boot.inkBasic = false) : admitted op s = false := by
  simp [admitted, h]

/-- Settles O10: a taken request that is not served is answered by `replyNotReady`, which writes RETRY_MS, and neither step moves a sheet. -/
theorem earlyRequestsAreNotReady : Obligations.EarlyRequestsAreNotReady := by
  refine ⟨?answered, ?closed⟩
  case answered =>
    intro e he r s htaken hearly
    have hexec : exec (e.row r) s = .next (replyNotReady r.client e.op r.seq (takenState e.op r s)) := by
      rw [exec_sprinile_client he s htaken.1, serveState_early _ _ _ _ htaken hearly]
    refine ⟨retryEstimate (takenState e.op r s), _, ten_le_retryEstimate _, hexec, replyNotReady_takenState _ _ _, ?_, ?_, ?_⟩
    · rw [replyNotReady_takenState, writeReply_boot]
    · rw [replyNotReady_takenState, writeReply_holders]
      exact takenState_holders _ _ _
    · rw [replyNotReady_rest _ rfl rfl rfl rfl, takenState_rest _ rfl]
  case closed => exact fun op s h => admitted_of_not_inkBasic h

end Sys2Proof.Machine

/-! The write of RESET_CAUSE (R134). -/

namespace Sys2Proof.Machine

/-- An access over a transport touches the host interfaces only, so not the Inkwells. -/
@[simp] theorem access_ink (via : Via) (s : State) : (access via s).ink = s.ink :=
  congrArg (fun x => x.ink) (access_rest { host := true } rfl via s)

/-- An Inkwell is read from the Inkwells alone. -/
theorem well_of_ink_eq {s t : State} (h : t.ink = s.ink) (n : Nat) : well t n = well s n := by
  rw [well, well, h]

/-- An access over a transport leaves every Inkwell as it is. -/
@[simp] theorem well_access (via : Via) (s : State) (n : Nat) : well (access via s) n = well s n := well_of_ink_eq (access_ink via s) n

/-- The client whose role decides a register write of a transport: client 0 over PCIe, client 1 over HSPI (R657). -/
def hostClient : Via → Nat
  | .pcie => 0
  | .hspi => 1

/-- RESET_CAUSE as its write acts: where the transport's client holds ADMIN the bits written as one are cleared, and nothing changes where not. -/
theorem resetCauseWrite_eq (via : Via) (w : Nat) (s : State) :
    resetCauseWrite via w s =
      if (well s (hostClient via)).role = 5 then modBoot (fun b => { b with resetCause := w1c b.resetCause (w % 512) }) s else s := by
  cases via <;> rfl

/-- A write of RESET_CAUSE that reaches the engine is carried out on the state that the access leaves. -/
theorem exec_resetCauseWrite {via : Via} {w : Word} {s : State} (h : reach via s = true) :
    exec (.resetCauseWrite via w) s = .next (resetCauseWrite via w.toNat (access via s)) := congrArg _ (if_pos h)

/-- Settles O26: the role of the transport's client, which the access leaves alone, selects the branch of the write. -/
theorem resetCauseNeedsAdmin : Obligations.ResetCauseNeedsAdmin := by
  refine ⟨?admin, ?other⟩
  case admin =>
    intro via w s hreach hrole
    have hadmin : (well (access via s) (hostClient via)).role = 5 := by rw [well_access]; exact hrole
    rw [exec_resetCauseWrite hreach, resetCauseWrite_eq, if_pos hadmin]
  case other =>
    intro via w s hreach hrole
    have hother : (well (access via s) (hostClient via)).role ≠ 5 := by rw [well_access]; exact hrole
    rw [exec_resetCauseWrite hreach, resetCauseWrite_eq, if_neg hother]

end Sys2Proof.Machine

/-! The I2C target, GPIO, the power-fail warning, AVSBus and the temperature (R102, R104, R667, R669, R671 to R674). -/

namespace Sys2Proof.Machine

/-- A write of BMC_CTRL over I2C writes PWR_WARN (R667). -/
theorem i2cWrite_bmcCtrl {data : Bytes} {s : State} (hup : i2cUp s = true) (hdata : data ≠ []) :
    i2cWrite 0x28 data s = bmcWrite (bit (u8 data 0) 0) s := if_neg (by simp [hup, hdata])

/-- An I2C read drives the bytes from the pointer onwards and changes the host interfaces alone (R667). -/
theorem i2cRead_up {ptr n : Nat} {s : State} (hup : i2cUp s = true) :
    (i2cRead ptr n s).host.i2cOut = i2cBytes s ptr n ∧ (i2cRead ptr n s).power = s.power ∧ (i2cRead ptr n s).ink = s.ink := by
  rw [i2cRead, if_neg (by simp [hup])]
  exact ⟨rfl, rfl, rfl⟩

/-- A change of level at an input pin with EVENT is counted among the edges and announced (R673). -/
theorem gpioEdge_event {pin : Nat} {level : Bool} {s : State} (hpin : pin < 16) (hedge : bit s.host.pins pin ≠ level)
    (hfunc : (gpioPin s pin).func = 0) (hevent : (gpioPin s pin).event = true) :
    gpioEdge pin level s = announceGpio (modHost (fun h => { h with gpioAcc := setBit h.gpioAcc pin })
      (modHost (fun h => { h with pins := putBit h.pins pin level }) s)) := by
  rw [gpioEdge, if_neg (by simp [hpin, hedge])]
  exact if_pos ⟨hfunc, hevent⟩

/-- At any other pin a change of level is the level alone. -/
theorem gpioEdge_silent {pin : Nat} {level : Bool} {s : State} (hpin : pin < 16) (hedge : bit s.host.pins pin ≠ level)
    (hsilent : (gpioPin s pin).func ≠ 0 ∨ (gpioPin s pin).event = false) :
    gpioEdge pin level s = modHost (fun h => { h with pins := putBit h.pins pin level }) s := by
  rw [gpioEdge, if_neg (by simp [hpin, hedge])]
  exact if_neg fun h => hsilent.elim (· h.1) (by simp [h.2])

/-- AVSBus asks for steps: AVS_EN is set and the engine is not held. -/
def AvsRuns (s : State) : Prop := avsEn s = true ∧ s.power.mode ≠ .held

/-- Below its target the set point rises by at most 10 mV (R671). -/
theorem avsStep_up {ack : Bool} {mv : Nat} {s : State} (h : AvsRuns s) (hlow : s.host.avs.setMv < avsWant s) :
    avsStep ack mv s = avsRequest (min (avsWant s) (s.host.avs.setMv + 10)) ack mv s := by
  obtain ⟨hen, hmode⟩ := h
  have hne : s.host.avs.setMv ≠ avsWant s := by omega
  have hno : ¬ avsWant s < s.host.avs.setMv := by omega
  simp only [avsStep]
  rw [if_neg (by simp [hen, hmode, hne, hno]), if_pos hlow]

/-- Above its target the set point falls by at most 10 mV, while no fault stands (R671, R672). -/
theorem avsStep_down {ack : Bool} {mv : Nat} {s : State} (h : AvsRuns s) (hhigh : avsWant s < s.host.avs.setMv) (hgood : s.host.avs.fault = false) :
    avsStep ack mv s = avsRequest (max (avsWant s) (s.host.avs.setMv - 10)) ack mv s := by
  obtain ⟨hen, hmode⟩ := h
  have hne : s.host.avs.setMv ≠ avsWant s := by omega
  simp only [avsStep]
  rw [if_neg (by simp [hen, hmode, hne, hgood]), if_neg (by omega)]

/-- The pin that asserts alone raises the warning (R102). -/
theorem takeFailPin_asserts {s : State} (hmode : s.power.mode ≠ .held) (hpin : (failPin s).isSome = true) (hquiet : s.boot.pwrFail = false) :
    takeFailPin true s = warningAsserts (modHost (fun h => { h with pwrLow := true }) s) := by
  have hlow : (true && (failPin s).isSome) = true := by simp [hpin]
  rw [takeFailPin, hlow]
  simp [judgeWarning, hmode, hquiet]

/-- The warning ends with the pin where PWR_WARN does not hold it (R104). -/
theorem takeFailPin_deasserts {s : State} (hmode : s.power.mode ≠ .held) (hwarn : s.host.bmcWarn = false) (hstands : s.boot.pwrFail = true) :
    takeFailPin false s =
      { modHost (fun h => { h with pwrLow := false }) s with boot := { s.boot with pwrFail := false } } := by
  have hhigh : (false && (failPin s).isSome) = false := rfl
  rw [takeFailPin, hhigh]
  simp [judgeWarning, hmode, hwarn, hstands]

/-- Settles O34: each row is the case of its operation that its premises select. -/
theorem boardPinsComplete : Obligations.BoardPinsComplete := by
  refine ⟨?i2cWrite, ?i2cRead, ?bmcCtrl, ?edgeEvent, ?edgeSilent, ?stepUp, ?stepDown, ?retry, ?temp, ?asserted, ?deasserted, ?filterLow, ?filterHigh⟩
  case i2cWrite => exact fun data s hup hdata => congrArg Host.Outcome.next (i2cWrite_bmcCtrl hup hdata)
  case i2cRead =>
    rintro ptr n x s hup rfl
    exact ⟨i2cRead ptr n s, rfl, i2cRead_up hup⟩
  case bmcCtrl => exact fun on s hup => next_of_open hup rfl
  case edgeEvent =>
    intro pin level s hmode hpin hedge hfunc hevent
    exact congrArg Host.Outcome.next ((if_neg hmode).trans (gpioEdge_event hpin hedge hfunc hevent))
  case edgeSilent =>
    intro pin level s hmode hpin hedge hsilent
    exact congrArg Host.Outcome.next ((if_neg hmode).trans (gpioEdge_silent hpin hedge hsilent))
  case stepUp => exact fun ack mv s hen hmode hlow => congrArg Host.Outcome.next (avsStep_up ⟨hen, hmode⟩ hlow)
  case stepDown => exact fun ack mv s hen hmode hhigh hgood => congrArg Host.Outcome.next (avsStep_down ⟨hen, hmode⟩ hhigh hgood)
  case retry => exact fun ack mv s hen hmode hfault hdue => congrArg Host.Outcome.next (if_pos ⟨hfault, hen, hmode, hdue⟩)
  case temp => exact fun temp s hmode => congrArg Host.Outcome.next (if_neg hmode)
  case asserted => exact fun s hmode _ hpin hquiet => congrArg Host.Outcome.next (takeFailPin_asserts hmode hpin hquiet)
  case deasserted => exact fun s hmode hwarn hstands => congrArg Host.Outcome.next (takeFailPin_deasserts hmode hwarn hstands)
  case filterLow => exact fun s hlow => congrArg Host.Outcome.next (if_pos hlow)
  case filterHigh => exact fun s hlow hhigh => congrArg Host.Outcome.next ((if_neg (by omega)).trans (if_pos hhigh))

end Sys2Proof.Machine

/-! The events of the PCIe endpoint (R105, R108, R152, R161, R651, R653, R654, R666, R731). -/

namespace Sys2Proof.Machine

/-- PERST# resets the endpoint and is counted, in the endpoint and by Vellum (R105). -/
theorem perstAssert_resets {s : State} (hmode : s.power.mode ≠ .held) (hperst : s.host.pcie.perst = false) :
    perstAssert s = modPcie (fun p => { p with persts := p.persts + 1 }) (vellumCount 10 (perstReset true s)) :=
  if_neg (by simp [hmode, hperst])

/-- The link trains at a speed and a width that the board allows (R666). -/
theorem linkTrained_trains {gen lanes : Nat} {s : State} (hmode : s.power.mode ≠ .held) (hclock : s.stem.xoIn = true)
    (hgen : 1 ≤ gen ∧ gen ≤ u8 (boardBytes s) 12) (hlanes : (lanes = 1 ∨ lanes = 2 ∨ lanes = 4) ∧ lanes ≤ u8 (boardBytes s) 13) :
    linkTrained gen lanes s = settleWakePin (flushVectors
      (modPcie (fun p => { p with perst := false, trained := true, linkL0 := true, inL1 := false, gen := gen, lanes := lanes }) s)) :=
  if_neg (by simp [hmode, hclock, hgen, hlanes])

/-- A link that is lost without PERST# resets the endpoint and is counted as a surprise (R654). -/
theorem linkDropped_resets {s : State} (htrained : s.host.pcie.trained = true) :
    linkDropped s = modPcie (fun p => { p with surprise := p.surprise + 1 }) (vellumCount 10 (perstReset false s)) :=
  if_neg (by simp [htrained])

/-- The first enabling of MSI-X after PERST# makes the Inkwells with unread work pending, and sends what is open (R108, R731). -/
theorem msixEnable_first {fnMask : Bool} {a : State} (htrained : a.host.pcie.trained = true) (hperst : a.host.pcie.perst = false)
    (hstale : a.host.pcie.stale = true) :
    msixEnable true fnMask a = flushVectors { a with host := { a.host with pcie :=
      { a.host.pcie with msixEn := true, fnMask := fnMask, pending := unreadWork a, stale := false } } } := by
  simp [msixEnable, htrained, hperst, hstale]

/-- Any later write of MSI-X enabling sets the two bits, and sends what is open (R731). -/
theorem msixEnable_later {on fnMask : Bool} {a : State} (htrained : a.host.pcie.trained = true) (hperst : a.host.pcie.perst = false)
    (hstale : a.host.pcie.stale = false) :
    msixEnable on fnMask a = flushVectors { a with host := { a.host with pcie := { a.host.pcie with msixEn := on, fnMask := fnMask } } } := by
  simp [msixEnable, htrained, hperst, hstale]

/-- Settles O35: each row is the case of its operation that its premises select. -/
theorem pcieEventsComplete : Obligations.PcieEventsComplete := by
  refine ⟨?perst, ?trained, ?dropped, ?d3, ?d0, ?pme, ?l1, ?msixFirst, ?msixLater⟩
  case perst => exact fun s hmode hperst => congrArg Host.Outcome.next (perstAssert_resets hmode hperst)
  case trained =>
    exact fun gen lanes s hmode hclock hgen hwidth hboard => congrArg Host.Outcome.next (linkTrained_trains hmode hclock hgen ⟨hwidth, hboard⟩)
  case dropped => exact fun s htrained => congrArg Host.Outcome.next (linkDropped_resets htrained)
  case d3 => exact fun s htrained hd0 => congrArg Host.Outcome.next (if_pos ⟨htrained, hd0⟩)
  case d0 => exact fun s htrained hd3 => congrArg Host.Outcome.next (if_pos ⟨htrained, hd3⟩)
  case pme => exact fun on s htrained => next_of_open htrained rfl
  case l1 => exact fun s htrained hl0 => congrArg Host.Outcome.next (if_pos ⟨htrained, hl0⟩)
  case msixFirst =>
    rintro fnMask a s rfl htrained hperst hstale
    exact congrArg Host.Outcome.next (msixEnable_first htrained hperst hstale)
  case msixLater =>
    rintro on fnMask a s rfl htrained hperst hstale
    exact congrArg Host.Outcome.next (msixEnable_later htrained hperst hstale)

end Sys2Proof.Machine

/-! The network sessions (R123, R124, R170, R182, R190, R198 to R203, R205, R221, R222). -/

namespace Sys2Proof.Machine

/-- An Inkwell with a standing connection is read back as it was written: at reset no Inkwell has one. -/
theorem well_setWell_of_connected {n : Nat} {w : Inkwell} (s : State) (h : w.connected = true) : well (setWell n w s) n = w := by
  have hnew : w ≠ if n = 0 then { bind := .pcie, role := 5 } else if n = 1 then { bind := .hspi, role := 3 } else {} := by
    rintro rfl
    split_ifs at h
  rw [well, setWell, tabPut, if_neg hnew, tabGet_insert, if_pos rfl]

/-- The end of a handshake leaves every Inkwell as it is (R124). -/
@[simp] theorem well_tlsDone (s : State) (n : Nat) : well (tlsDone s) n = well s n := by
  simp only [tlsDone]
  split <;> rfl

/-- A control message leaves every Inkwell as it is. -/
@[simp] theorem well_sendControl (b : Bytes) (s : State) (n : Nat) : well (sendControl b s) n = well s n := rfl

/-- An attempt that finds fewer than 8 handshakes starts one, in which the engine presents its certificate (R124, R604). -/
theorem tlsConnect_starts {s : State} (hopen : tlsOpen s = true) (hroom : s.ink.tls < 8) :
    tlsConnect s = { s with ink := { s.ink with tls := s.ink.tls + 1, presented := some (commonName s, tlsKey s) } } := by
  simp only [tlsConnect]
  rw [if_neg (by simp [hopen]), if_pos hroom]

/-- An attempt that finds 8 handshakes waits (R124). -/
theorem tlsConnect_waits {s : State} (hopen : tlsOpen s = true) (hfull : 8 ≤ s.ink.tls) (hroom : s.ink.tlsQueue < 64) :
    tlsConnect s = { s with ink := { s.ink with tlsQueue := s.ink.tlsQueue + 1 } } := by
  simp only [tlsConnect]
  rw [if_neg (by simp [hopen]), if_neg (by omega), if_pos hroom]

/-- An attempt that finds 64 waiting is refused and counted (R124). -/
theorem tlsConnect_refused {s : State} (hopen : tlsOpen s = true) (hfull : 8 ≤ s.ink.tls) (hqueue : 64 ≤ s.ink.tlsQueue) :
    tlsConnect s = { s with ink := { s.ink with tlsRefused := s.ink.tlsRefused + 1 } } := by
  simp only [tlsConnect]
  rw [if_neg (by simp [hopen]), if_neg (by omega), if_neg (by omega)]

/-- A handshake has ended on a connection that is served. -/
def Connected (s : State) : Prop := tlsOpen s = true ∧ s.ink.tls ≠ 0

/-- An OPEN with a grant takes the Inkwell found, with its role and a token, and is answered OPENED (R200, R222). -/
theorem sessionOpen_opens {key n : Nat} {s : State} (h : Connected s) (hgrant : keyGrant s key ≠ 0) (hwell : sessionWell (tlsDone s) = some n) :
    sessionOpen key s = sendControl (le 1 2 ++ le 1 n ++ zeros 2 ++ le 8 (Config.token (tlsDone s).draws % 2 ^ 64))
      (setWell n { bind := .net, role := keyGrant s key, token := Config.token (tlsDone s).draws % 2 ^ 64, keyHash := key, connected := true,
                   lastMs := s.stem.ms } { tlsDone s with draws := (tlsDone s).draws + 1 }) := by
  obtain ⟨hopen, htls⟩ := h
  simp only [sessionOpen]
  rw [if_neg (by simp [htls, hopen]), if_neg hgrant, hwell]

/-- An OPEN without a grant is refused with ROLE (R222). -/
theorem sessionOpen_no_grant {key : Nat} {s : State} (h : Connected s) (hgrant : keyGrant s key = 0) :
    sessionOpen key s = refuseSession .role (tlsDone s) := by
  obtain ⟨hopen, htls⟩ := h
  simp only [sessionOpen]
  rw [if_neg (by simp [htls, hopen]), if_pos hgrant]

/-- A RESUME takes its dropped session with a new token (R202). -/
theorem sessionResume_resumes {key tok last n : Nat} {s : State} (h : Connected s) (hgrant : keyGrant s key ≠ 0)
    (hwell : resumable (tlsDone s) tok key = some n) :
    (well (sessionResume key tok last s) n).connected = true ∧ (well (sessionResume key tok last s) n).dropped = false ∧
      (well (sessionResume key tok last s) n).token = Config.token (tlsDone s).draws % 2 ^ 64 ∧
      (well (sessionResume key tok last s) n).resumes = (well s n).resumes + 1 := by
  obtain ⟨hopen, htls⟩ := h
  simp only [sessionResume]
  rw [if_neg (by simp [htls, hopen]), if_neg hgrant, hwell]
  simp [well_setWell_of_connected]

/-- A RESUME that names no dropped session of its key is refused with SEQ_CONFLICT (R202). -/
theorem sessionResume_unknown {key tok last : Nat} {s : State} (h : Connected s) (hgrant : keyGrant s key ≠ 0)
    (hwell : resumable (tlsDone s) tok key = none) : sessionResume key tok last s = refuseSession .seqConflict (tlsDone s) := by
  obtain ⟨hopen, htls⟩ := h
  simp only [sessionResume]
  rw [if_neg (by simp [htls, hopen]), if_neg hgrant, hwell]

/-- Closing an Inkwell from 2 on frees its sheets, unbinds it and ends its commands in execution without a reply (R205). -/
theorem closeInk_session {n : Nat} {s : State} (hn : 2 ≤ n) : closeInk n s = dropRunning n (setWell n {} (freeAllSheets n s)) :=
  if_neg (by omega)

/-- A live session has a standing connection. -/
theorem connected_of_live {n : Nat} {s : State} (h : live n s = true) : (well s n).connected = true := by
  simp only [live, Bool.and_eq_true] at h
  exact h.2

/-- A message of a live session changes the time of the last message in its Inkwell. -/
theorem well_heard {n : Nat} {s : State} (h : live n s = true) : well (heard n s) n = { well s n with lastMs := s.stem.ms } :=
  well_setWell_of_connected s (connected_of_live h)

/-- A request frame that fits waits for Scribe, unanswered, and is a message of its session (R198, R199, R201). -/
theorem sessionFrame_waits {n size len : Nat} {hd : Head} {s : State} (hlive : live n s = true) (hroom : (well s n).unanswered < 16)
    (hscribe : s.boot.inkBasic = true) (hsize : size = 32 + len + hd.sheetLen) (hsheet : hd.sheet = 0) :
    sessionFrame n size len hd s = setWell n
      { well s n with waiting := (well s n).waiting ++ [{ hd with misfit := false }], unanswered := (well s n).unanswered + 1,
                      reqProd := ((well s n).reqProd + 1) % 65536, lastMs := s.stem.ms } (heard n s) := by
  have hfull : ¬ 16 ≤ (well s n).unanswered := by omega
  simp only [sessionFrame]
  rw [if_neg (by simp [hlive, hfull]), if_neg (by simp [hscribe]), well_heard hlive]
  simp [hsize, hsheet]

/-- A session whose connection closed, or that was silent for 15 s, is dropped (R201). -/
theorem sessionDrop_drops {n : Nat} {closed : Bool} {s : State} (hlive : live n s = true)
    (hend : closed = true ∨ (well s n).lastMs + 15000 ≤ s.stem.ms) :
    sessionDrop n closed s = modWell n (fun w => { w with connected := false, dropped := true, dropMs := s.stem.ms, unanswered := 0 }) s :=
  if_pos ⟨hlive, hend⟩

/-- A bad frame is counted and drops its session (R198). -/
theorem sessionBadFrame_drops {n : Nat} {s : State} (hlive : live n s = true) :
    sessionBadFrame n s = modWell n (fun w => { w with connected := false, dropped := true, dropMs := s.stem.ms, unanswered := 0 })
      { s with ink := { s.ink with badFrames := s.ink.badFrames + 1 } } :=
  (if_pos hlive).trans (sessionDrop_drops (closed := true) hlive (.inl rfl))

/-- The oldest reply of a session, when it has no sheet, leaves the ring as its frame and one request fewer is unanswered (R199). -/
theorem replySent_inline {n : Nat} {r : Reply} {rest : List Reply} {s : State} (hlive : live n s = true)
    (hreplies : (well s n).replies = r :: rest) (hsheet : r.sheetLen = 0) :
    replySent n s = modWell n (fun w => { w with replies := rest, repCons := (w.repCons + 1) % 65536, unanswered := w.unanswered - 1,
                                                 out := [replyFrame r []] }) s := by
  simp [replySent, hlive, hreplies, hsheet]

/-- Settles O36: each row is the case of its operation that its premises select. -/
theorem sessionsComplete : Obligations.SessionsComplete := by
  refine ⟨?starts, ?waits, ?refused, ?opens, ?noGrant, ?resumes, ?unknown, ?keepalive, ?closes, ?frame, ?badFrame, ?replySent, ?drops, ?expires⟩
  case starts => exact fun s hopen hroom => congrArg Host.Outcome.next ((if_pos (.inl rfl)).trans (tlsConnect_starts hopen hroom))
  case waits => exact fun s hopen hfull hroom => congrArg Host.Outcome.next ((if_pos (.inl rfl)).trans (tlsConnect_waits hopen hfull hroom))
  case refused =>
    intro cert s hopen hfull hqueue
    have hnone : ¬ (tlsOpen s = true ∧ (s.ink.tls < 8 ∨ s.ink.tlsQueue < 64)) := by omega
    exact congrArg Host.Outcome.next ((if_pos (.inr hnone)).trans (tlsConnect_refused hopen hfull hqueue))
  case opens => exact fun key n s hopen htls hgrant hwell => congrArg Host.Outcome.next (sessionOpen_opens ⟨hopen, htls⟩ hgrant hwell)
  case noGrant => exact fun key s hopen htls hgrant => congrArg Host.Outcome.next (sessionOpen_no_grant ⟨hopen, htls⟩ hgrant)
  case resumes =>
    exact fun key tok last n s hopen htls hgrant hwell => ⟨sessionResume key tok last s, rfl, sessionResume_resumes ⟨hopen, htls⟩ hgrant hwell⟩
  case unknown =>
    exact fun key tok last s hopen htls hgrant hwell => congrArg Host.Outcome.next (sessionResume_unknown ⟨hopen, htls⟩ hgrant hwell)
  case keepalive => exact fun n s hlive => next_of_open hlive rfl
  case closes => exact fun n s hlive hn => next_of_open hlive (closeInk_session hn)
  case frame =>
    intro n size len hd s hlive hroom hscribe hsize hsheet
    refine ⟨_, congrArg Host.Outcome.next (sessionFrame_waits hlive hroom hscribe hsize hsheet), ?_⟩
    rw [well_setWell_of_connected]
    · exact ⟨rfl, rfl, rfl⟩
    · exact connected_of_live hlive
  case badFrame => exact fun n s hlive => congrArg Host.Outcome.next (sessionBadFrame_drops hlive)
  case replySent => exact fun n r rest s hlive hreplies hsheet => congrArg Host.Outcome.next (replySent_inline hlive hreplies hsheet)
  case drops => exact fun n closed s hlive hend => congrArg Host.Outcome.next (sessionDrop_drops hlive hend)
  case expires =>
    exact fun n s hn hsession hbind hdropped hdue =>
      congrArg Host.Outcome.next ((if_pos ⟨hn, hbind, hdropped, hdue⟩).trans (closeInk_session hsession))

end Sys2Proof.Machine

/-! The queue of commands (R176). -/

namespace Sys2Proof.Machine

/-- Settles O1: the queue's front is what a step matches on. -/
theorem stepRunsFrontCommand : Obligations.StepRunsFrontCommand := fun _ _ _ => rfl

/-- Settles O2: of an empty queue a step takes nothing. -/
theorem emptyQueueIdles : Obligations.EmptyQueueIdles := by
  intro s hempty
  rw [step, hempty]

end Sys2Proof.Machine

/-! Requests that Scribe refuses or does not execute (R170, R190, R191, R210). -/

namespace Sys2Proof.Machine

/-- A request of a client that no Inkwell has is a fault (R170). -/
theorem serve_no_client {op : Nat} {c : Cmd} {r : Request} {s : State} (h : 64 ≤ r.client) : serve op c r s = .fault .noClient :=
  if_neg (by omega)

/-- Settles O8: a Sprinile row is the serving of its request, which asks only whether the client exists. -/
theorem requestsOfNoClientFault : Obligations.RequestsOfNoClientFault := by
  refine ⟨?beyond, ?client⟩
  case beyond =>
    intro e he r s hbeyond
    rw [sprinile_serve e he, serve_no_client hbeyond]
  case client => exact fun e he r s hclient => ⟨_, exec_sprinile_client he s hclient⟩

/-- What Scribe does with a request that the sequence rule executes. -/
def executed (op : Nat) (c : Cmd) (r : Request) (s : State) : State :=
  execute op (taken c r s) r (context op r s) (requestCheck op r s) (sheetUsable op r s) (sheetFound op r s) (sheetHandle op r s) (claimed op r s)

/-- What the verdict of the sequence rule makes of a request: it is executed, or answered and its sheet freed (R190, R191). -/
def judged (op : Nat) (c : Cmd) (r : Request) (s : State) : SeqVerdict → State
  | .execute => executed op c r s
  | .resend q => releaseSheet r.client (sheetHandle op r s) (writeReply r.client (resent (sheetHandle op r s) q) (claimed op r s))
  | .running => releaseSheet r.client (sheetHandle op r s)
      (writeReply r.client { opcode := op, seq := r.seq, status := .duplicate, dup := true } (claimed op r s))
  | .conflict => releaseSheet r.client (sheetHandle op r s)
      (writeReply r.client { opcode := op, seq := r.seq, status := .seqConflict } (claimed op r s))

/-- A Sprinile row whose request reaches the sequence rule is what the rule's verdict makes of it. -/
theorem exec_of_verdict {e : CmdRow} (he : e ∈ sprinileRows) {r : Request} {s : State} {v : SeqVerdict} (hreach : Reaches e.op r s)
    (hverdict : verdict e.op r s = v) : exec (e.row r) s = .next (judged e.op e.cmd r s v) := by
  rw [exec_sprinile_client he s hreach.1.1, serveState_reaches _ _ _ _ hreach, hverdict]
  cases v <;> rfl

/-- A frame whose bytes find no sheet is refused with POOL_EMPTY (R187). -/
theorem executed_no_sheet {op : Nat} {c : Cmd} {r : Request} {s : State} (hsheet : sheetFound op r s = false) :
    executed op c r s = refused op r .poolEmpty [] s :=
  if_pos (by simp [hsheet])

/-- A command that fails, and that keeps nothing of its change, is refused with its status and data (R210). -/
theorem executed_failed {op : Nat} {c : Cmd} {r : Request} {s : State} (hsheet : sheetFound op r s = true) (hchecks : checks op c r s = none)
    (hfail : succeeded (effect op c r s).status = false) (hkeep : (effect op c r s).keep = false) :
    executed op c r s = refused op r (effect op c r s).status (effect op c r s).data s := by
  have heffect : effect op c r s = perform op (taken c r s) (context op r s)
      (modWell r.client (fun w => { w with lastSeq := (r.seq + 65535) % 65536, fresh := false }) (claimed op r s)) := rfl
  unfold checks checked at hchecks
  simp only [executed, execute, hsheet, hchecks, ← heffect, hfail, hkeep]
  rfl

/-- A refusal changes the Inkwells, their signals, the counts of Feed and the counter of free values, through the sheet that it claims, and
nothing else (R210). -/
theorem refused_rest (P : Parts) (hdraws : P.draws = true) (hink : P.ink = true) (hhost : P.host = true) (hfeed : P.feed = true)
    (hsheets : P.sheets = true) (op : Nat) (r : Request) (st : Status) (d : Bytes) (s : State) : (refused op r st d s).rest P = s.rest P := by
  rw [refused, releaseSheet_rest P hink, deliverReply_rest P hink hhost, advanceSeq_rest P hink, checked, modWell_rest P hink, claimed,
    claimSheet_rest P hdraws hink hhost hfeed hsheets, takenState_rest P hink]

/-- Settles O11: each refusal is one branch of the execution, and each ends in the same `refused`. -/
theorem refusedRequestsChangeNothing : Obligations.RefusedRequestsChangeNothing := by
  refine ⟨?checkFails, ?noSheet, ?commandFails, ?frame⟩
  case checkFails =>
    intro e he r s st d hreach hverdict hsheet hchecks
    exact (exec_of_verdict he hreach hverdict).trans (congrArg _ (execute_refused _ _ _ _ st d hsheet hchecks))
  case noSheet =>
    intro e he r s hreach hverdict hsheet
    exact (exec_of_verdict he hreach hverdict).trans (congrArg _ (executed_no_sheet hsheet))
  case commandFails =>
    intro e he r s hreach hverdict hsheet hchecks hfail hkeep
    exact (exec_of_verdict he hreach hverdict).trans (congrArg _ (executed_failed hsheet hchecks hfail hkeep))
  case frame => exact refused_rest _ rfl rfl rfl rfl rfl

/-- Writing a reply to a bound Inkwell appends it to the ring and counts it, and signals the transport (R191). -/
theorem writeReply_bound {n : Nat} {q : Reply} {s : State} (hn : n < 64) (hbound : (well s n).bind ≠ .unbound) :
    ∃ h, writeReply n q s = { setWell n { well s n with
      replies := (well s n).replies ++ [q]
      repSlots := tabPut none (well s n).repSlots ((well s n).repProd % 16) (some q)
      repProd := ((well s n).repProd + 1) % 65536
      dups := (well s n).dups + (if q.dup then 1 else 0)
      conflicts := (well s n).conflicts + (if q.status = .seqConflict then 1 else 0)
      notReady := (well s n).notReady + (if q.status = .notReady then 1 else 0) } s with host := h } := by
  simp only [add_ite, add_zero]
  unfold writeReply
  rw [if_pos (by simp [hn, hbound])]
  dsimp only
  split
  · exact signalInk_eq n 0 _
  · exact ⟨s.host, rfl⟩

/-- Settles O12: the three verdicts that execute nothing answer the request and free its sheet. -/
theorem resentRequestsAreNotExecuted : Obligations.ResentRequestsAreNotExecuted := by
  refine ⟨?resend, ?running, ?conflict, ?reply⟩
  case resend => exact fun e he r s q hreach hverdict => exec_of_verdict he hreach hverdict
  case running => exact fun e he r s hreach hverdict => exec_of_verdict he hreach hverdict
  case conflict => exact fun e he r s hreach hverdict => exec_of_verdict he hreach hverdict
  case reply => exact fun n q s hn hbound => writeReply_bound hn hbound

end Sys2Proof.Machine

/-! Requests that are accepted (R190, R210, R714). -/

namespace Sys2Proof.Machine

/-- The Sprinile commands are those of the families. -/
theorem mem_sprinileRows {e : CmdRow} : e ∈ sprinileRows ↔
    e ∈ sysRows ∨ e ∈ blRows ∨ e ∈ modeRows ∨ e ∈ netRows ∨ e ∈ serRows ∨ e ∈ ligRows ∨ e ∈ instRows ∨ e ∈ sceneRows ∨ e ∈ sheenRows ∨
      e ∈ hushRows ∨ e ∈ twinRows ∨ e ∈ msRows ∨ e ∈ sealRows ∨ e ∈ rtRows ∨ e ∈ vlRows ∨ e ∈ expRows := by
  simp only [sprinileRows, List.mem_append, or_assoc]

/-- An accepted request of a Sprinile command completes (R190, R210). -/
theorem exec_accepted {e : CmdRow} (he : e ∈ sprinileRows) {r : Request} {s : State} (h : Accepted e.op e.cmd r s) :
    exec (e.row r) s = .next (served e.op e.cmd r s) := by
  rw [sprinile_serve e he, serve_accepted _ _ _ _ h]

/-- Settles O14: the rows of SYS and LC are Sprinile rows. -/
theorem systemCommandsComplete : Obligations.SystemCommandsComplete :=
  fun _ he _ _ h => exec_accepted (by simp [mem_sprinileRows, he]) h

/-- Settles O15: the rows of BL and MODE are Sprinile rows. -/
theorem clockAndModeCommandsComplete : Obligations.ClockAndModeCommandsComplete := by
  refine ⟨?bl, ?mode⟩
  all_goals exact fun _ he _ _ h => exec_accepted (by simp [mem_sprinileRows, he]) h

/-- Settles O16: the rows of NET and SER are Sprinile rows. -/
theorem networkCommandsComplete : Obligations.NetworkCommandsComplete := by
  refine ⟨?net, ?ser⟩
  all_goals exact fun _ he _ _ h => exec_accepted (by simp [mem_sprinileRows, he]) h

/-- Settles O17: the rows of LIG, INST, PROG and DX are Sprinile rows. -/
theorem ligatureCommandsComplete : Obligations.LigatureCommandsComplete := by
  refine ⟨?lig, ?inst⟩
  all_goals exact fun _ he _ _ h => exec_accepted (by simp [mem_sprinileRows, he]) h

/-- Settles O18: the rows of SCENE, CUE and FOLIO are Sprinile rows. -/
theorem sceneCommandsComplete : Obligations.SceneCommandsComplete :=
  fun _ he _ _ h => exec_accepted (by simp [mem_sprinileRows, he]) h

/-- Settles O19: the rows of SHEEN, HUSH and TWIN are Sprinile rows. -/
theorem monitorCommandsComplete : Obligations.MonitorCommandsComplete := by
  refine ⟨?sheen, ?hush, ?twin⟩
  all_goals exact fun _ he _ _ h => exec_accepted (by simp [mem_sprinileRows, he]) h

/-- Settles O20: the rows of MS are Sprinile rows; MS.JOIN and MS.FLOURISH are served in the state in which their message has begun. -/
theorem manuscriptCommandsComplete : Obligations.ManuscriptCommandsComplete := by
  refine ⟨?rows, ?join, ?flourish⟩
  case rows => exact fun _ he _ _ h => exec_accepted (by simp [mem_sprinileRows, he]) h
  case join => exact fun r s h => serve_accepted 0x0C04 cmdMsJoin r (msBegin s) h
  case flourish => exact fun r s h => serve_accepted 0x0C06 cmdMsFlourish r (msBegin s) h

/-- Settles O21: the rows of SEAL, RT, BT, CB, VL and EXP are Sprinile rows. -/
theorem maintenanceCommandsComplete : Obligations.MaintenanceCommandsComplete := by
  refine ⟨?sl, ?rt, ?vl, ?exp⟩
  all_goals exact fun _ he _ _ h => exec_accepted (by simp [mem_sprinileRows, he]) h

end Sys2Proof.Machine

/-! The registers of the Inkwells over a host transport (R174, R178, R206). -/

namespace Sys2Proof.Machine

/-- Leaving L1 moves the link, not the reach of the transport. -/
@[simp] theorem reach_access (via : Via) (s : State) : reach via (access via s) = reach via s := by
  cases via with
  | pcie =>
    simp only [access, leaveL1]
    split <;> rfl
  | hspi => rfl

/-- An access binds and unbinds no Inkwell. -/
@[simp] theorem boundTo_access (via w : Via) (n : Nat) (s : State) : boundTo w n (access via s) = boundTo w n s := by
  rw [boundTo, boundTo, well_access]

/-- So it opens none. -/
@[simp] theorem openable_access (via : Via) (n : Nat) (s : State) : openable n (access via s) = openable n s := by
  rw [openable, openable, well_access]

/-- The transport reaches the engine and owns the Inkwell. -/
def Owns (via : Via) (n : Nat) (s : State) : Prop := reach via s = true ∧ boundTo via n s = true

/-- A transport owns an Inkwell after its access as before. -/
theorem owns_access {via : Via} {n : Nat} {s : State} (hreach : reach via s = true) (hbound : boundTo via n s = true) :
    Owns via n (access via s) := ⟨by rw [reach_access, hreach], by rw [boundTo_access, hbound]⟩

/-- A doorbell is accepted in its range (R174). -/
theorem doorbell_accepted {via : Via} {n v : Nat} {heads : List Head} {s : State} (h : Owns via n s) (hv : v < 65536)
    (hrange : doorbellOk (well s n) v = true) : doorbell via n v heads s = acceptDoorbell n v heads s := by
  obtain ⟨hreach, hbound⟩ := h
  rw [doorbell, if_neg (by simp [hreach]), if_pos hbound, Nat.mod_eq_of_lt hv, if_pos hrange]

/-- A doorbell out of its range sets DB_RANGE (R174). -/
theorem doorbell_refused {via : Via} {n v : Nat} {heads : List Head} {s : State} (h : Owns via n s) (hv : v < 65536)
    (hrange : doorbellOk (well s n) v = false) : doorbell via n v heads s = inkErr n 0 s := by
  obtain ⟨hreach, hbound⟩ := h
  rw [doorbell, if_neg (by simp [hreach]), if_pos hbound, Nat.mod_eq_of_lt hv, if_neg (by simp [hrange])]

/-- An Inkwell that is open to the transports is unbound. -/
theorem unbound_of_openable {n : Nat} {s : State} (h : openable n s = true) : (well s n).bind = .unbound := by
  simp only [openable, Bool.and_eq_true, decide_eq_true_eq] at h
  exact h.2

/-- A doorbell of an Inkwell that is open to the transports sets bit 1 of INK_ERR: the Inkwell is bound to none (R171). -/
theorem doorbell_openable {via : Via} {n v : Nat} {heads : List Head} {s : State} (hreach : reach via s = true) (hopen : openable n s = true) :
    doorbell via n v heads s = inkErr n 1 s := by
  have hbound : boundTo via n s = false := by cases via <;> simp [boundTo, bindOf, unbound_of_openable hopen]
  rw [doorbell, if_neg (by simp [hreach]), if_neg (by simp [hbound]), if_pos hopen]

/-- A value with a bit set is not zero. -/
theorem setBit_ne_zero (v i : Nat) : setBit v i ≠ 0 := by
  have hone : 1 <<< i ≠ 0 := by simp [Nat.one_shiftLeft]
  intro h
  exact hone (Nat.or_eq_zero_iff.1 h).2

/-- An Inkwell with an error is read back as it was written: at reset none has one. -/
theorem well_setWell_of_err {n : Nat} {w : Inkwell} (s : State) (h : w.err ≠ 0) : well (setWell n w s) n = w := by
  have hnew : w ≠ if n = 0 then { bind := .pcie, role := 5 } else if n = 1 then { bind := .hspi, role := 3 } else {} := by
    rintro rfl
    split_ifs at h <;> exact h rfl
  rw [well, setWell, tabPut, if_neg hnew, tabGet_insert, if_pos rfl]

/-- A bit of INK_ERR that is set is an update of its Inkwell, with a signal to its transport (R196). -/
theorem inkErr_ink (n i : Nat) (s : State) : (inkErr n i s).ink = (setWell n { well s n with err := setBit (well s n).err i } s).ink := by
  unfold inkErr
  dsimp only
  split
  · exact signalVec_ink _ _
  · rfl
  · rfl

/-- The Inkwell then has that bit set and is as it was otherwise (R196). -/
theorem well_inkErr (n i : Nat) (s : State) : well (inkErr n i s) n = { well s n with err := setBit (well s n).err i } := by
  rw [well_of_ink_eq (inkErr_ink n i s), well_setWell_of_err _ (setBit_ne_zero _ _)]

/-- Settles O22: an owned Inkwell's doorbell is judged by `doorbellOk`, on the Inkwell as the access found it. -/
theorem doorbellRange : Obligations.DoorbellRange := by
  refine ⟨?accepted, ?refused, ?error⟩
  case accepted =>
    rintro via n v heads s hreach hbound hv hlow hhigh hcons t rfl
    have hrange : doorbellOk (well (access via s) n) v = true := by simp [doorbellOk, hlow, hhigh, hcons]
    refine congrArg Host.Outcome.next ((doorbell_accepted (owns_access hreach hbound) hv hrange).trans ?_)
    simp only [acceptDoorbell, access_boot, well_access, Nat.mod_eq_of_lt hv]
  case refused =>
    intro via n v heads s hreach hbound hv hout
    have hrange : doorbellOk (well (access via s) n) v = false := by
      rw [well_access, ← Bool.not_eq_true, doorbellOk]
      simp only [Bool.and_eq_true, decide_eq_true_eq]
      omega
    exact congrArg Host.Outcome.next (doorbell_refused (owns_access hreach hbound) hv hrange)
  case error => exact fun n i s _ => well_inkErr n i s

/-- REP_CONS moves over unread replies, and any other write sets CONS_RANGE (R178). -/
theorem repConsWrite_owned {via : Via} {n v : Nat} {s : State} (h : Owns via n s) :
    repConsWrite via n v s =
      if (v % 65536 + 65536 - (well s n).repCons) % 65536 ≤ (well s n).replies.length then
        setWell n { well s n with repCons := v % 65536,
                                  replies := (well s n).replies.drop ((v % 65536 + 65536 - (well s n).repCons) % 65536) } s
      else inkErr n 2 s :=
  if_neg (not_not.2 h)

/-- EVT_CONS moves over unread events, and any other write sets CONS_RANGE (R178). -/
theorem evtConsWrite_owned {via : Via} {n v : Nat} {s : State} (h : Owns via n s) :
    evtConsWrite via n v s =
      if (v % 65536 + 65536 - (well s n).evtCons) % 65536 ≤ (well s n).events.length then
        setWell n { well s n with evtCons := v % 65536,
                                  events := (well s n).events.drop ((v % 65536 + 65536 - (well s n).evtCons) % 65536) } s
      else inkErr n 2 s :=
  if_neg (not_not.2 h)

/-- Settles O23: on an owned Inkwell the number of unread records decides, as the access found it. -/
theorem consumerIndexes : Obligations.ConsumerIndexes := by
  refine ⟨?replies, ?repliesRange, ?events, ?eventsRange⟩
  case replies =>
    rintro via n v k s hreach hbound rfl hunread
    refine congrArg Host.Outcome.next ((repConsWrite_owned (owns_access hreach hbound)).trans ?_)
    rw [well_access, if_pos hunread]
  case repliesRange =>
    intro via n v s hreach hbound hfar
    refine congrArg Host.Outcome.next ((repConsWrite_owned (owns_access hreach hbound)).trans ?_)
    rw [well_access, if_neg (by omega)]
  case events =>
    rintro via n v k s hreach hbound rfl hunread
    refine congrArg Host.Outcome.next ((evtConsWrite_owned (owns_access hreach hbound)).trans ?_)
    rw [well_access, if_pos hunread]
  case eventsRange =>
    intro via n v s hreach hbound hfar
    refine congrArg Host.Outcome.next ((evtConsWrite_owned (owns_access hreach hbound)).trans ?_)
    rw [well_access, if_neg (by omega)]

/-- Settles O24: each row is the gate of its operation, open or shut, on the state that the access leaves. -/
theorem inkwellControl : Obligations.InkwellControl := by
  refine ⟨?opens, ?closes, ?resyncs, ?openShut, ?closeShut, ?resyncShut⟩
  case opens =>
    intro via n s hreach hopen
    refine congrArg Host.Outcome.next ((if_pos (by simp [hreach, hopen])).trans ?_)
    rw [access_ink, well_access]
  case closes =>
    intro via n s hreach hbound hn
    exact congrArg Host.Outcome.next ((if_pos (by simp [hreach, hbound, hn])).trans (closeInk_session hn))
  case resyncs => exact fun via n s hreach hbound => congrArg Host.Outcome.next (if_pos (owns_access hreach hbound))
  case openShut =>
    intro via n s _ hshut
    have hnot : openable n s = false := by
      obtain hbound | hlow := hshut
      · simp [openable, hbound]
      · simp [openable, Nat.not_le.2 hlow]
    exact congrArg Host.Outcome.next (if_neg (by simp [hnot]))
  case closeShut =>
    intro via n s _ hshut
    refine congrArg Host.Outcome.next (if_neg ?_)
    rintro ⟨-, hbound, hn⟩
    obtain hfree | hlow := hshut
    · simp [hfree] at hbound
    · omega
  case resyncShut => exact fun via n s _ hbound => congrArg Host.Outcome.next (if_neg (by simp [hbound]))

end Sys2Proof.Machine

/-! The sheet pool and its window (R184 to R186, R207). -/

namespace Sys2Proof.Machine

/-- One read of SHEET_ALLOC alone in its cycle is no contest: an owner's read allocates (R186). -/
theorem sheetAlloc_owned {via : Via} {n : Nat} {s : State} (h : Owns via n s) : sheetAlloc [(via, n)] s = allocFor n s := by
  obtain ⟨hreach, hbound⟩ := h
  simp [sheetAlloc, hreach, hbound, contestOrder, insertByDistance]

/-- Another's read returns EMPTY (R207). -/
theorem sheetAlloc_foreign {via : Via} {n : Nat} {s : State} (hreach : reach via s = true) (hbound : boundTo via n s = false) :
    sheetAlloc [(via, n)] s = setAllocRead n 0x8000 s := by
  simp [sheetAlloc, hreach, hbound, contestOrder]

/-- SHEET_FREE by the owner of the Inkwell frees the sheet where the client holds it, and sets bit 3 of INK_ERR where not (R184). -/
theorem sheetFree_owned {via : Via} {n h : Nat} {s : State} (hown : Owns via n s) :
    sheetFree via n h s = if holderOf s (h % 2048) = .client n then freeSheet n (h % 2048) s else inkErr n 3 s :=
  if_neg (not_not.2 hown)

/-- Settles O25: the gate of each register is shut for a transport that does not own the Inkwell. -/
theorem foreignSheetAccesses : Obligations.ForeignSheetAccesses := by
  refine ⟨?alloc, ?free⟩
  case alloc =>
    intro via n s hreach hbound
    exact congrArg Host.Outcome.next
      (sheetAlloc_foreign (s := access via s) (by rw [reach_access, hreach]) (by rw [boundTo_access, hbound]))
  case free => exact fun via n h s _ hbound => congrArg Host.Outcome.next (if_pos (by simp [hbound]))

/-- The holders of the sheets are read from the Inkwells alone. -/
@[simp] theorem holderOf_access (via : Via) (s : State) (h : Nat) : holderOf (access via s) h = holderOf s h := by
  rw [holderOf, holderOf, access_ink]

/-- An access moves no sheet, and changes no Inkwell's transport. -/
@[simp] theorem localHolder_access (via : Via) (s : State) (h : Nat) : localHolder (access via s) h = localHolder s h := by
  simp only [localHolder, holderOf_access, well_access]

/-- An access neither holds the memories nor frees them. -/
@[simp] theorem memoriesHeld_access (via : Via) (s : State) : memoriesHeld (access via s) = memoriesHeld s := by
  have hrest := access_rest { host := true } rfl via s
  rw [memoriesHeld, memoriesHeld, power_of_rest_eq rfl hrest, stem_of_rest_eq rfl hrest]

/-- An access leaves the boot where it is. -/
@[simp] theorem romRuns_access (via : Via) (s : State) : romRuns (access via s) = romRuns s := by
  rw [romRuns, romRuns, access_boot]

/-- A write to the window that reaches the engine is carried out. -/
theorem exec_bar2Write {via : Via} {off : Nat} {data : Bytes} {s : State} (h : reach via s = true) :
    exec (.bar2Write via off data) s = .next (windowWrite via off data (access via s)) :=
  congrArg _ (if_pos h)

/-- The Feed master as which a transport's window writes are made. -/
def windowMaster : Via → Nat
  | .pcie => 4
  | .hspi => 5

/-- Of no bytes nothing is written. -/
@[simp] theorem writeWindowSheet_nil (via : Via) (off : Nat) (s : State) : writeWindowSheet via off [] s = s := if_pos (.inl rfl)

/-- A write that lies in the window reaches a sheet that a local client holds, and sets WR_REJ for another (R185). -/
theorem writeWindowSheet_inside {via : Via} {off : Nat} {data : Bytes} {s : State} (hoff : off < 0x800000) (hdata : data ≠ []) :
    writeWindowSheet via off data s =
      if localHolder s (off / 4096) = true then poolWrite (windowMaster via) off data s
      else { s with ink := { s.ink with wrRej := true } } := by
  refine (if_neg ?_).trans rfl
  simp only [List.isEmpty_iff, hdata, false_or]
  omega

/-- Once the boot ROM has ended, a write within one sheet of the window is judged by that sheet alone (R185). -/
theorem windowWrite_sheet {via : Via} {off : Nat} {data : Bytes} {s : State} (hheld : memoriesHeld s = false) (hrom : romRuns s = false)
    (hoff : off < 0x800000) (hlen : off % 4096 + data.length ≤ 4096) (hdata : data ≠ []) :
    windowWrite via off data s =
      if localHolder s (off / 4096) = true then poolWrite (windowMaster via) off data s
      else { s with ink := { s.ink with wrRej := true } } := by
  have hone : data.length ≤ 4096 - off % 4096 := by omega
  simp only [windowWrite]
  rw [if_neg (by simp [hheld]), if_neg (by simp [hrom]), List.take_of_length_le hone, List.drop_of_length_le hone, writeWindowSheet_nil,
    writeWindowSheet_inside hoff hdata]

/-- While the boot ROM runs, the window's first bytes are the load area (R114). -/
theorem windowWrite_loadArea {via : Via} {off : Nat} {data : Bytes} {s : State} (hheld : memoriesHeld s = false) (hrom : romRuns s = true)
    (hoff : off < 0x801000) :
    windowWrite via off data s = { s with boot := { s.boot with loadArea := memPut 0 s.boot.loadArea off (data.take (0x801000 - off)) } } := by
  rw [windowWrite, if_neg (by simp [hheld]), if_pos ⟨hrom, hoff⟩]

/-- Settles O32: each access is the case of its operation that its premises select, on the state that the access leaves. -/
theorem sheetPoolAccessesComplete : Obligations.SheetPoolAccessesComplete := by
  refine ⟨?alloc, ?free, ?freeRefused, ?write, ?writeRejected, ?load, ?unbound⟩
  case alloc => exact fun via n s hreach hbound => congrArg Host.Outcome.next (sheetAlloc_owned (owns_access hreach hbound))
  case free =>
    intro via n h s hreach hbound hheld
    exact congrArg Host.Outcome.next ((sheetFree_owned (owns_access hreach hbound)).trans (if_pos (by rw [holderOf_access, hheld])))
  case freeRefused =>
    intro via n h s hreach hbound hheld
    exact congrArg Host.Outcome.next ((sheetFree_owned (owns_access hreach hbound)).trans (if_neg (by rwa [holderOf_access])))
  case write =>
    intro via off data s hreach hheld hrom hoff hlen hdata hlocal
    rw [exec_bar2Write hreach, windowWrite_sheet (by simpa) (by simpa) hoff hlen hdata]
    exact congrArg Host.Outcome.next (if_pos (by simpa))
  case writeRejected =>
    intro via off data s hreach hheld hrom hoff hlen hdata hlocal
    rw [exec_bar2Write hreach, windowWrite_sheet (by simpa) (by simpa) hoff hlen hdata, if_neg (by simpa), access_ink]
  case load =>
    intro via off data s hreach hheld hrom hoff
    rw [exec_bar2Write hreach, windowWrite_loadArea (by simpa) (by simpa) hoff, access_boot]
  case unbound =>
    intro via n v heads s hreach hopen
    exact congrArg Host.Outcome.next (doorbell_openable (by rw [reach_access, hreach]) (by rw [openable_access, hopen]))

end Sys2Proof.Machine

/-! What every command keeps (R210, R535, R629). -/

namespace Sys2Proof.Machine

/-- Settles O4: serving a request keeps what its command keeps, and any other row is an operation that keeps the parts not listed for it. -/
theorem everyCommandKeepsTheRest : Obligations.EveryCommandKeepsTheRest := exec_rest

end Sys2Proof.Machine

/-! Requests with an opcode of no row of the table (R210, R714). -/

namespace Sys2Proof.Machine

/-- A request that reaches the sequence rule and is next in order is executed (R190). -/
theorem serve_executed {op : Nat} {c : Cmd} {r : Request} {s : State} (hreach : Reaches op r s) (hverdict : verdict op r s = .execute) :
    serve op c r s = .next (executed op c r s) := by
  rw [serve_client _ _ _ _ hreach.1.1, serveState_reaches _ _ _ _ hreach, hverdict]
  rfl

/-- Serving a request whose opcode is of no row is serving the command that only answers BAD_OPCODE. -/
theorem exec_unknownOpcodeRequest {op : Nat} (r : Request) (s : State) (hrow : (opRow op).isSome = false) :
    exec (.unknownOpcodeRequest op r) s = serve op { lens := fun _ _ => true, body := fun _ t => fail .badOpcode t } r s :=
  if_neg (by simp [hrow])

/-- The header is checked first, and the opcode next: an opcode of no row passes no further, whatever the command (R210). -/
theorem check_of_no_row {op : Nat} {c : Cmd} {r : Request} {x : Ctx} {sheetOk : Bool} {s : State} (hrow : (opRow op).isSome = false) :
    check op c r x sheetOk s =
      some (if 224 < r.length ∨ 4096 < r.sheetLen ∨ r.rsv12 ≠ 0 ∨ r.rsv24 ≠ 0 ∨ r.flags / 8 ≠ 0 then .badLength else .badOpcode, []) := by
  have hnone : opRow op = none := Option.not_isSome_iff_eq_none.mp (by simp [hrow])
  unfold check
  rw [hnone]
  exact (apply_ite (fun st => some (st, [])) _ _ _).symm

/-- Settles O13: the checks of an opcode of no row end at the header or at the opcode, and the request is refused with what they answer. -/
theorem unknownOpcodesAreRefused : Obligations.UnknownOpcodesAreRefused := by
  intro op r s hrow hreach hverdict hsheet
  rw [exec_unknownOpcodeRequest r s hrow, serve_executed hreach hverdict]
  exact congrArg _ (execute_refused _ _ _ _ _ _ hsheet (check_of_no_row hrow))

end Sys2Proof.Machine

/-! The grants, and the ADMIN that must remain (R228). -/

namespace Sys2Proof.Machine

/-- A command that is not armed in a way of its own, and whose execution at once fails, fails when it is timed as well: nothing is armed (R28). -/
theorem perform_of_body_fails {op : Nat} {c : Cmd} {x : Ctx} {s : State} {st : Status} (harm : c.arm = none)
    (hbody : c.body { x with timed := false } s = fail st s) (hst : succeeded st = false) : perform op c x s = fail st s := by
  unfold perform
  split
  next htimed =>
    rw [harm]
    dsimp only
    rw [hbody, armAction, if_neg (by simp [fail, hst])]
  next huntimed =>
    have hx : { x with timed := false } = x := by rw [← Bool.eq_false_of_not_eq_true huntimed]
    rwa [hx] at hbody

/-- A frame that does not fit changes a command's lengths, not what it does. -/
@[simp] theorem taken_body (c : Cmd) (r : Request) (s : State) : (taken c r s).body = c.body := by
  unfold taken fitted
  split <;> rfl

/-- Nor how it is armed. -/
@[simp] theorem taken_arm (c : Cmd) (r : Request) (s : State) : (taken c r s).arm = c.arm := by
  unfold taken fitted
  split <;> rfl

/-- SYS.GRANT_SET does nothing where the grants that it would leave have no ADMIN (R228). -/
theorem grantSet_body_no_admin {x : Ctx} {s t : State}
    (hwrite : grantWrite (u8 x.p 0) (u8 x.p 1) (if u8 x.p 0 = 0 then u8 x.p 4 else ofLe (slice x.p 4 32)) s = some t)
    (hadmin : someAdmin t = false) : cmdGrantSet.body x s = fail .badParam s := by
  simp [cmdGrantSet, hwrite, hadmin]

/-- What R222 calls the grants: the roles of the host entries, the certificate entries, and ANON_ROLE. -/
def grants (s : State) : List Nat × List (Nat × Nat) × Nat := (s.ink.hostGrants, s.ink.certs, s.ink.anonRole)

/-- Operations that leave the Inkwells alone leave the grants alone. -/
theorem grants_of_ink_eq {s t : State} (h : t.ink = s.ink) : grants t = grants s := by
  simp only [grants, h]

-- Each operation that a refusal is made of leaves the grants alone.

@[simp] theorem grants_setWell (n : Nat) (w : Inkwell) (s : State) : grants (setWell n w s) = grants s := rfl

@[simp] theorem grants_modWell (n : Nat) (f : Inkwell → Inkwell) (s : State) : grants (modWell n f s) = grants s := rfl

@[simp] theorem grants_setHolder (h : Nat) (p : Holder) (s : State) : grants (setHolder h p s) = grants s := rfl

@[simp] theorem grants_countEcc (m a : Nat) (s : State) : grants (countEcc m a s) = grants s := rfl

@[simp] theorem grants_draws (d : Nat) (s : State) : grants { s with draws := d } = grants s := rfl

@[simp] theorem grants_signalInk (n ring : Nat) (s : State) : grants (signalInk n ring s) = grants s :=
  grants_of_ink_eq (signalInk_ink n ring s)

@[simp] theorem grants_signalBoth (v : Nat) (s : State) : grants (signalBoth v s) = grants s := grants_of_ink_eq (signalBoth_ink v s)

@[simp] theorem grants_advanceSeq (n q : Nat) (s : State) : grants (advanceSeq n q s) = grants s := rfl

@[simp] theorem grants_freeSheet (n h : Nat) (s : State) : grants (freeSheet n h s) = grants s := by
  unfold freeSheet
  dsimp only
  split <;> rfl

@[simp] theorem grants_releaseSheet (n : Nat) (h : Option Nat) (s : State) : grants (releaseSheet n h s) = grants s := by
  unfold releaseSheet
  split
  · split
    · exact grants_freeSheet _ _ _
    · rfl
  · rfl

@[simp] theorem grants_poolWrite (m off : Nat) (b : Bytes) (s : State) : grants (poolWrite m off b s) = grants s := by
  unfold poolWrite
  dsimp only
  split <;> rfl

@[simp] theorem grants_writeSheet (h : Nat) (b : Bytes) (s : State) : grants (writeSheet h b s) = grants s := grants_poolWrite _ _ _ _

@[simp] theorem grants_allocSheet (n : Nat) (p : Holder) (s : State) : grants (allocSheet n p s).2 = grants s := by
  unfold allocSheet
  dsimp only
  split
  · split <;> simp
  · split <;> rfl

@[simp] theorem grants_writeReply (n : Nat) (q : Reply) (s : State) : grants (writeReply n q s) = grants s := by
  unfold writeReply
  dsimp only
  split
  · split <;> simp
  · rfl

@[simp] theorem grants_deliverReply (n : Nat) (crc : Word) (warns : List Warning) (q : Reply) (s : State) :
    grants (deliverReply n crc warns q s) = grants s := by
  unfold deliverReply
  split <;> simp

/-- The sheet of a request passes to Scribe without a change of the grants: allocated for a session's frame, or the client's own. -/
@[simp] theorem grants_claimSheet (r : Request) (s : State) : grants (claimSheet r s).2.2.2 = grants s := by
  have halloc := grants_allocSheet r.client (.scribe r.client) s
  unfold claimSheet
  split
  · rfl
  · split
    · split
      next heq => simpa [heq] using halloc
      next heq => simpa [heq] using halloc
    · split
      · dsimp only
        split <;> simp
      · rfl

@[simp] theorem grants_ringNow (op : Nat) (r : Request) (s : State) : grants (ringNow op r s) = grants s := by
  unfold ringNow
  dsimp only
  split <;> rfl

@[simp] theorem grants_takeTurn (n : Nat) (s : State) : grants (takeTurn n s) = grants s := by
  unfold takeTurn
  dsimp only
  split <;> rfl

@[simp] theorem grants_takenState (op : Nat) (r : Request) (s : State) : grants (takenState op r s) = grants s := by
  unfold takenState takeSlot
  dsimp only
  split <;> simp

/-- A refused request leaves the grants as they are (R210). -/
@[simp] theorem grants_refused (op : Nat) (r : Request) (st : Status) (d : Bytes) (s : State) : grants (refused op r st d s) = grants s := by
  simp [refused, checked, claimed]

/-- Settles O29: the effect of a SYS.GRANT_SET that would leave no ADMIN is a failure with BAD_PARAM, and a refusal moves no grant. -/
theorem someAdminRemains : Obligations.SomeAdminRemains := by
  refine ⟨?refusal, ?grantsStay⟩
  case refusal =>
    intro r s t hreach hverdict hsheet hchecks hwrite hadmin
    have heffect : effect 0x0112 cmdGrantSet r s = fail .badParam (checked 0x0112 r s) :=
      perform_of_body_fails (taken_arm ..) (by rw [taken_body]; exact grantSet_body_no_admin hwrite hadmin) rfl
    have hexec : exec (.sysGrantSet r) s = .next (executed 0x0112 cmdGrantSet r s) := serve_executed hreach hverdict
    rw [hexec, executed_failed hsheet hchecks (by rw [heffect]; rfl) (by rw [heffect]; rfl), heffect]
    rfl
  case grantsStay =>
    intro r s
    simpa only [grants, Prod.mk.injEq] using grants_refused 0x0112 r .badParam [] s

end Sys2Proof.Machine

/-! The Nibs' tests and faults, migrations, readmission, coverage and the repairs (R255, R260, R578, R579, R583, R591, R593, R595, R599, R600). -/

namespace Sys2Proof.Machine

/-- What Retouch holds of a Nib after a change that leaves it other than a fresh one. -/
theorem nibRec_modNib {n : Nat} {f : NibRec → NibRec} {s : State} (h : f (nibRec s n) ≠ {}) : nibRec (modNib n f s) n = f (nibRec s n) := by
  simp only [nibRec, modNib, modRt, tabMod, tabPut] at h ⊢
  rw [if_neg h, tabGet_insert, if_pos rfl]

/-- That a Nib has had its dispatch of the period is nothing of its record. -/
@[simp] theorem nibRec_noteTest (n k : Nat) (s : State) : nibRec (noteTest n s) k = nibRec s k := by
  unfold noteTest
  split <;> rfl

/-- Blotter tests Nib `n`, which is neither absent nor quarantined nor retired, and no catch-up holds class C work back (R255, R260, R576). -/
def TestRuns (n : Nat) (s : State) : Prop :=
  (nibState s n = 1 ∨ nibState s n = 2 ∨ nibState s n = 3) ∧ blotterRuns s = true ∧ effLevel s = 0 ∧ mayTest s n = true

/-- A matching signature of a Nib under no suspicion takes the pass to its next dispatch, before the last one (R579). -/
theorem dispatchDone_good {n : Nat} {s : State} (hruns : TestRuns n s) (hinject : (nibRec s n).inject = 0)
    (hretest : (nibRec s n).retest = false) (hstep : (nibRec s n).step ≠ 127) :
    dispatchDone n true s = modNib n (fun q => { q with step := q.step + 1 }) (noteTest n s) := by
  obtain ⟨hstate, hblotter, hlevel, hmay⟩ := hruns
  have hnext : (nibRec (modNib n (fun q => { q with step := q.step + 1 }) (noteTest n s)) n).step ≠ 128 := by
    rw [nibRec_modNib fun hfresh => Nat.succ_ne_zero _ (congrArg NibRec.step hfresh), nibRec_noteTest]
    exact fun hlast => hstep (Nat.succ.inj hlast)
  simp only [dispatchDone, nibRec_noteTest, hinject]
  rw [if_neg (by simp [hblotter, hlevel, hmay]; omega), if_neg (by omega)]
  simp [hretest, hnext]

/-- A mismatching signature of a Nib under no suspicion is a fault of class 1, and the dispatch runs again (R579). -/
theorem dispatchDone_bad {n : Nat} {s : State} (hruns : TestRuns n s) (hinject : (nibRec s n).inject = 0)
    (hretest : (nibRec s n).retest = false) :
    dispatchDone n false s = countFault n 1 false (modNib n (fun q => { q with cls := 1, retest := true, failed := some (q.failed.getD q.step) })
      (modRt (fun q => { q with fails := q.fails + 1 }) (noteTest n s))) := by
  obtain ⟨hstate, hblotter, hlevel, hmay⟩ := hruns
  simp only [dispatchDone, nibRec_noteTest, hinject]
  rw [if_neg (by simp [hblotter, hlevel, hmay]; omega), if_neg (by omega)]
  simp [hretest]

/-- A warm migration whose wait is over copies the instances to its target, which enters WARMUP (R583). -/
theorem migrationCopy_copies {n : Nat} {m : Migration} {s : State}
    (hmig : s.rt.migs.find? (fun m => m.src = n && m.mode = 0 && !m.copied) = some m) (hwait : m.q + 2 ≤ s.stem.ssi / 8)
    (hopen : s.dx.open_ = []) (hfree : copyBlocked s n (s.stem.ssi / 8) = false) :
    migrationCopy n s = setNib m.dst 3 m.cause (modRt (fun r => { r with migs := r.migs.map (fun x =>
      if x.src = n then { x with copied := true, swapSsi := 8 * (s.stem.ssi / 8 + r.warmup) } else x) }) s) := by
  simp only [migrationCopy, hmig]
  exact if_neg (by simp [hopen, hfree, hwait])

/-- A migration that has copied and has a target swaps once its sample is reached (R583). -/
theorem migrationSwap_swaps {n : Nat} {same : Bool} {m : Migration} {s : State}
    (hmig : s.rt.migs.find? (fun m => m.src = n && m.copied) = some m) (hdue : m.swapSsi ≤ s.stem.ssi) (htarget : m.dst ≠ 144) :
    migrationSwap n same s = swapTo m same (modRt (fun r => { r with migs := r.migs.filter (fun x => x.src ≠ n) }) s) := by
  simp only [migrationSwap, hmig]
  rw [if_neg (Nat.not_lt.2 hdue), if_neg htarget]

/-- An uncorrectable error in a Nib store is a HARD fault of the Nib (R579, R591). -/
theorem nibUe_store {n word key : Nat} {s : State} (hpresent : nibState s n ≠ 0) :
    nibUe n 0 word key s = nibFault n 4 false (vellumLog 5 (0x100 + n) (8 * word) 1 (vellumCount 45 s)) :=
  if_neg hpresent

/-- An uncorrectable error in a program image or folio retires the row of the barrel memory, and may give up (R579, R591). -/
theorem nibUe_folio {n word key : Nat} {s : State} (hpresent : nibState s n ≠ 0) :
    nibUe n 1 word key s = signalGiveUp 3 (memoryRow (0x40 + n / 16) (word / 128) 0 (vellumCount 49
      (modRt (fun r => { r with folioUe := r.folioUe + 1 }) (vellumLog 5 (0x40 + n / 16) (8 * word) 1 (vellumCount 45 s))))) :=
  if_neg hpresent

/-- A Nib that has run clean for READMIT passes and 60 s in QUARANTINE becomes a spare (R595). -/
theorem nibReadmit_admits {n : Nat} {s : State} (hstate : nibState s n = 4) (hrun : s.rt.readmit ≤ (nibRec s n).run)
    (hquar : (nibRec s n).quarMs + 60000 ≤ s.stem.ms) : nibReadmit n s = setNib n 2 2 s :=
  if_neg (by simp [hstate, hrun, hquar])

/-- A Nib that passes its bound without a full pass is told, once (R599). -/
theorem coverage_tells {n : Nat} {s : State} (hpresent : nibState s n ≠ 0) (hserves : nibState s n ≠ 5) (hblotter : blotterRuns s = true)
    (hfirst : (nibRec s n).late = false) (hbound : (nibRec s n).passMs + coverBound s n ≤ s.stem.ms) :
    coverage n s = raise 0x0E06 (le 2 n ++ zeros 2 ++ le 4 ((s.stem.ms - (nibRec s n).passMs) / 1000))
      (vellumCount 41 (modNib n (fun q => { q with late := true }) s)) :=
  if_neg (by simp [hpresent, hserves, hblotter, hfirst, hbound])

/-- Settles O58: each row is the case of its operation that the Nib's state and record, or its migration, select. -/
theorem retouchEventsComplete : Obligations.RetouchEventsComplete := by
  refine ⟨?good, ?bad, ?timeout, ?store, ?folio, ?copy, ?swap, ?readmit, ?coverage, fun _ => rfl, fun _ => rfl⟩
  case good =>
    rintro n x s hstate hblotter hlevel hmay rfl hinject hretest hstep
    exact congrArg Host.Outcome.next (dispatchDone_good ⟨hstate, hblotter, hlevel, hmay⟩ hinject hretest hstep)
  case bad =>
    rintro n x s hstate hblotter hlevel hmay rfl hinject hretest
    exact congrArg Host.Outcome.next (dispatchDone_bad ⟨hstate, hblotter, hlevel, hmay⟩ hinject hretest)
  case timeout => exact fun n s hpresent => congrArg Host.Outcome.next (if_neg hpresent)
  case store => exact fun n word key s hpresent => congrArg Host.Outcome.next (nibUe_store hpresent)
  case folio => exact fun n word key s hpresent => congrArg Host.Outcome.next (nibUe_folio hpresent)
  case copy =>
    exact fun n m s hmig hwait hopen hfree => congrArg Host.Outcome.next (migrationCopy_copies hmig hwait hopen hfree)
  case swap =>
    exact fun n same m s hmig hdue htarget => congrArg Host.Outcome.next (migrationSwap_swaps hmig hdue htarget)
  case readmit => exact fun n s hstate hrun hquar => congrArg Host.Outcome.next (nibReadmit_admits hstate hrun hquar)
  case coverage =>
    exact fun n s hpresent hserves hblotter hfirst hbound =>
      congrArg Host.Outcome.next (coverage_tells hpresent hserves hblotter hfirst hbound)

end Sys2Proof.Machine

/-! Ligature's registers, the ends of its fades and its backups (R315, R316, R350, R353, R357, R358, R366, R735). -/

namespace Sys2Proof.Machine

/-- A write of one of Ligature's registers has the outcome of its operation where the expert registers are open. -/
theorem next_of_expertMode {s t u : State} (h : expertMode s = true) (e : t = u) :
    (Host.Outcome.next (if s.power.mode = .commission ∨ s.power.mode = .maintenance then t else s) : Host.Outcome State Fault Refusal) =
      .next u := by
  rw [if_pos (by simpa [expertMode] using h), e]

section
variable {n w : Nat} {s : State} (hsize : n < ligSize s.variant) (hserif : serifAbsent s.variant n = false)
include hsize hserif

/-- Settings written to a sink that the variant has wait for the boundary (R735). -/
theorem dueCfg_present (f : SinkCfg → SinkCfg) :
    dueCfg n f s = modSink n (fun k => { k with cfgDue := some (f (k.cfgDue.getD k.cfg)) }) s :=
  if_neg (by simp [hsize, hserif])

/-- A gain other than off is kept within its limits (R735). -/
theorem gainWrite_clamped (hgain : sgn 16 (fld w 0 16) ≠ gainOff) :
    gainWrite n w s = modSink n (fun k => { k with cfgDue := some { (k.cfgDue.getD k.cfg) with
      gain := clampI (-14400) 1200 (sgn 16 (fld w 0 16)), shape := min 2 (fld w 16 2) } }) s := by
  rw [gainWrite, dueCfg_present hsize hserif]
  simp only [if_neg hgain]

/-- A word that breaks R350 is not armed: LG_NEXT shows LIVE again (R366). -/
theorem armSink_illegal (hhair : hairOk s n (sinkOf s n).next = false) :
    armSink n w s = modSink n (fun k => { k with next := k.live })
      (modSink n (fun k => { k with arm := (sinkOf s n).arm % 2 ^ 32 + w * 2 ^ 32 }) s) := by
  rw [armSink, if_neg (by simp [hsize, hserif]), if_pos (.inl (by simp [hhair]))]

/-- A legal word whose SSI is still to come, with no other change pending, is scheduled for that SSI as a turn without a reply (R366). -/
theorem armSink_schedules {a : Nat} (hhair : hairOk s n (sinkOf s n).next = true) (ha : a = (sinkOf s n).arm % 2 ^ 32 + w * 2 ^ 32)
    (hahead : s.stem.ssi < a) (hfree : routeBusy s a n = false) :
    (armSink n w s).ink = { s.ink with order := s.ink.order + 1, sched := s.ink.sched ++
      [{ client := 0xFF, seq := 0, opcode := 0, applySsi := a, order := s.ink.order,
         turn := { routes := [(n, (sinkOf s n).next)], silent := true } }] } := by
  subst ha
  simp only [armSink, if_neg (not_le.2 hahead)]
  rw [if_neg (by simp [hsize, hserif]), if_neg (not_or.2 ⟨not_not.2 hhair, Bool.eq_false_iff.1 hfree⟩)]
  rfl

end

/-- The one sink whose crossfade has ended, with nothing that waited for the end, has no crossfade any more (R353). -/
theorem endRouteFades_single {n : Nat} {k : Sink} {s : State} (hsinks : s.lig.sinks = [(n, k)]) (hlen : k.fadeLen ≠ 0)
    (hended : k.fadeLen ≤ k.fadePos) (hmoving : k.moving = none) (hheld : k.held = none) (hcmd : k.cmd = none) :
    endRouteFades s = modSink n (fun k => { k with fadeLen := 0, fadePos := 0, held := none, cmd := none }) s := by
  have hsink : sinkOf s n = k := by simp [sinkOf, hsinks, tabGet]
  have hstill : moveDone n s = s := by simp only [moveDone, hsink, hmoving]
  simp only [endRouteFades, hsinks, List.foldl_cons, List.foldl_nil, hsink, hstill, hheld, hcmd]
  rw [if_pos ⟨hlen, hended⟩]

/-- A lone stroke program with no change held drops the stage crossfades that have ended and the coefficients they faded from (R316). -/
theorem endFades_single {k : Nat} {i : Inst} {s : State} (hinsts : s.prog.insts = [(k, i)]) (hheld : i.held = []) :
    endFades s = putInst k { i with
      fades := i.fades.filter (fun f => s.stem.ssi < f.stop), held := [],
      olds := i.olds.filter (fun o => !((i.fades.filter (fun f => f.stop ≤ s.stem.ssi)).map (·.stage)).contains o.1) } s := by
  have hinst : mapGet s.prog.insts k = some i := by simp [hinsts, mapGet]
  rw [endFades, hinsts, List.foldl_cons, List.foldl_nil]
  simp only [hinst, hheld, List.filter_nil, List.foldl_nil]

/-- Settles O45: behind the gate of the expert registers each write is the case of its register's operation, and each fade or move that is due is
carried out. -/
theorem routeEventsComplete : Obligations.RouteEventsComplete := by
  refine ⟨?cfg, ?gain, ?shade, ?illegal, ?armed, ?routeFade, ?fallback, ?back, ?stageFade⟩
  case cfg => exact fun n w s hopen hsize hserif => next_of_expertMode hopen (dueCfg_present hsize hserif _)
  case gain => exact fun n w s hopen hsize hserif hgain => next_of_expertMode hopen (gainWrite_clamped hsize hserif hgain)
  case shade => exact fun n w s hopen hsize hserif => next_of_expertMode hopen (dueCfg_present hsize hserif _)
  case illegal => exact fun n w s hopen hsize hserif hhair => next_of_expertMode hopen (armSink_illegal hsize hserif hhair)
  case armed =>
    intro n w a s hopen hsize hserif hhair ha hahead hfree
    have hink := armSink_schedules hsize hserif hhair ha hahead hfree
    exact ⟨_, next_of_expertMode hopen rfl, by rw [hink], by rw [hink]⟩
  case routeFade =>
    exact fun n k s hsinks hlen hended hmoving hheld hcmd =>
      congrArg Host.Outcome.next (endRouteFades_single hsinks hlen hended hmoving hheld hcmd)
  case fallback => exact fun n s hdue => congrArg Host.Outcome.next (if_pos hdue)
  case back =>
    intro n c s hcause
    have hback : backupReturn n s = toPrimary n c s := by rw [backupReturn, hcause]
    exact congrArg Host.Outcome.next hback
  case stageFade => exact fun k i s hinsts hheld => congrArg Host.Outcome.next (endFades_single hinsts hheld)

end Sys2Proof.Machine

/-! The inputs of the cues: sACN, OSC and timecode, and LTC out (R330 to R334, R675, R676). -/

namespace Sys2Proof.Machine

/-! ### sACN -/

/-- A packet of a universe of the cue map, on a port that listens for sACN while the cues are live (R330). -/
def SacnHeard (p : SacnPacket) (s : State) : Prop :=
  cueLive s = true ∧ bit s.prog.cue.cfg.sacnPorts p.port = true ∧ p.port < netPorts s.variant ∧ (universesOf s.prog.cue.map).contains p.univ = true

/-- A packet that is heard passes the first gate of `sacnPacket`. -/
theorem SacnHeard.gate {p : SacnPacket} {s : State} (h : SacnHeard p s) :
    ¬ (¬ cueLive s ∨ ¬ bit s.prog.cue.cfg.sacnPorts p.port ∨ netPorts s.variant ≤ p.port ∨ ¬ (universesOf s.prog.cue.map).contains p.univ) := by
  obtain ⟨hlive, hport, hhas, huniv⟩ := h
  rintro (h | h | h | h)
  · exact h hlive
  · exact h hport
  · omega
  · exact h huniv

/-- A packet with another start code, or of Preview, is counted and discarded (R330). -/
theorem sacnPacket_discarded {p : SacnPacket} {s : State} (hheard : SacnHeard p s) (h : p.start ≠ 0 ∨ p.preview = true) :
    sacnPacket p s = modCueCount 1 (fun c => { c with received := c.received + 1, discarded := c.discarded + 1 }) s := by
  rw [sacnPacket, if_neg hheard.gate, if_pos h]

/-- While the cues are not live no packet is taken (R330). -/
theorem sacnPacket_not_live {p : SacnPacket} {s : State} (h : cueLive s = false) : sacnPacket p s = s := by
  rw [sacnPacket, if_pos (.inl (by simp [h]))]

/-- A universe with one source, not started, follows that source from empty starting values (R330). -/
theorem reselect_single {u : Universe} {x : SacnSource} (hstarted : u.started = false) :
    reselect { u with sources := [x] } = { sources := [x], follow := x.cid, started := false, slots := [] } := by
  simp [reselect, bestSource, hstarted]

/-- The first source of a universe, by the packet that makes it known at `ms`. -/
def firstSource (p : SacnPacket) (ms : Nat) : SacnSource := { cid := p.cid, prio := p.prio, seq := p.seq, ms := ms, order := 1 }

/-- A universe that the packet of its first source has started. -/
def startedUniverse (p : SacnPacket) (ms : Nat) : Universe :=
  { sources := [firstSource p ms], follow := p.cid, started := true, slots := putSlots [] p.slots }

/-- A universe that has been started has a source, so the table lists it. -/
theorem startedUniverse_ne_default (p : SacnPacket) (ms : Nat) : startedUniverse p ms ≠ {} := by
  simp [startedUniverse]

/-- The first packet of a universe is counted, and gives the values that the universe starts from (R330, R333). -/
theorem sacnPacket_starts {p : SacnPacket} {s : State} (hheard : SacnHeard p s) (hcode : p.start = 0) (hpreview : p.preview = false)
    (hgoes : p.terminated = false) (hnone : (tabGet {} s.prog.cue.universes p.univ).sources = [])
    (hstarted : (tabGet {} s.prog.cue.universes p.univ).started = false) :
    sacnPacket p s = modCue (fun c => { c with universes := tabPut {} c.universes p.univ (startedUniverse p s.stem.ms) })
      (modCueCount 1 (fun c => { c with received := c.received + 1 }) s) := by
  rw [sacnPacket, if_neg hheard.gate, if_neg (by simp [hcode, hpreview])]
  have hselect := reselect_single (x := firstSource p s.stem.ms) hstarted
  simp only [firstSource] at hselect
  simp [hnone, sacnPacket.go, hgoes, hselect, startedUniverse, firstSource]

/-- What a table holds at a key that has been given other than the default. -/
theorem mapGet_tabPut {α : Type} [DecidableEq α] {d v : α} (t : Tab α) (k : Nat) (h : v ≠ d) : mapGet (tabPut d t k v) k = some v := by
  rw [tabPut, if_neg h, mapGet_tabInsert]

/-! ### OSC -/

/-- A packet whose messages match no cue is counted and discarded (R331). -/
theorem oscMessage_unmatched {net port : Nat} {data : Bytes} {s : State} (hlive : cueLive s = true) (hnet : net < netPorts s.variant)
    (hon : s.prog.cue.cfg.oscPort ≠ 0) (hport : port = s.prog.cue.cfg.oscPort)
    (hlost : ∀ m ∈ oscMessages (data.length + 1) [data], oscHits s m.1 = []) :
    oscMessage net port data s = (oscMessages (data.length + 1) [data]).foldl (fun t m => oscAct m t)
      (modCueCount 2 (fun c => { c with received := c.received + 1, discarded := c.discarded + 1 }) s) := by
  have hall : (oscMessages (data.length + 1) [data]).all (fun m => (oscHits s m.1).isEmpty) = true :=
    List.all_eq_true.2 fun m hm => by rw [hlost m hm]; rfl
  rw [oscMessage, if_neg (by simp [hlive, hon, hport]; omega)]
  simp only [hall]
  rfl

/-- An empty cue map matches no address. -/
theorem oscHits_of_map_nil {s : State} (h : s.prog.cue.map = []) (addr : Bytes) : oscHits s addr = [] := by
  rw [oscHits, h, List.filter_nil]

/-! ### LTC in -/

/-- The state once a bad frame has been counted (R675). -/
def countBadLtc (s : State) : State :=
  { s with host := { s.host with ltc := { s.host.ltc with errors := (s.host.ltc.errors + 1) % 2 ^ 32, good := 0, bad := s.host.ltc.bad + 1 } } }

/-- A bad frame is counted; it starts the decoder, or ends its lock with the fourth in a row (R675). -/
theorem ltcFrame_bad {f : LtcFrame} {start : Nat} {s : State} (h : f.valid = false) :
    ltcFrame f start s =
      if s.host.ltc.state = 0 ∨ (s.host.ltc.state = 2 ∧ 4 ≤ s.host.ltc.bad + 1) then ltcState 1 (countBadLtc s) else countBadLtc s := by
  rw [ltcFrame, if_pos (by simp [h])]
  rfl

/-- The loss of LTC_IN ends the decoding, and is told (R675). -/
theorem ltcLost_tells {s : State} (h : s.host.ltc.state ≠ 0) :
    ltcLost s = raise 0x0109 (le 1 s.host.ltc.state ++ le 1 0 ++ le 1 s.host.ltc.rate)
      { s with host := { s.host with ltc := { s.host.ltc with good := 0, bad := 0, state := 0 } } } :=
  if_neg h

/-! ### Timecode -/

/-- The samples from the present one to the start of frame `k` of the local day (R332). -/
def samplesToFrame (s : State) (k : Nat) : Nat :=
  (frameStart s s.prog.cue.cfg.tcRate k + 86400 * fsOp s - sinceMidnight s s.prog.cue.cfg.tzOfs) % (86400 * fsOp s)

/-- A timecode cue from PTP whose frame starts between two and three frames ahead fires for the first sample of that frame (R332, R334). -/
theorem timecodeTrigger_fires {n : Nat} {e : CueEntry} {s : State}
    (hentry : s.prog.cue.map.find? (fun e => e.1 = n && e.2.source = 3) = some (n, e)) (hptp : s.prog.cue.cfg.tcSource = 2)
    (haligned : s.stem.aligned = true) (hlive : cueLive s = true)
    (hnear : frameStart s s.prog.cue.cfg.tcRate 2 ≤ samplesToFrame s (tcIndex s.prog.cue.cfg.tcRate e.tc))
    (hfar : samplesToFrame s (tcIndex s.prog.cue.cfg.tcRate e.tc) < frameStart s s.prog.cue.cfg.tcRate 3) :
    timecodeTrigger n (tcIndex s.prog.cue.cfg.tcRate e.tc) s =
      fireCue n e none (s.stem.ssi + samplesToFrame s (tcIndex s.prog.cue.cfg.tcRate e.tc))
        (modCueCount 3 (fun c => { c with received := c.received + 1 }) s) := by
  simp only [timecodeTrigger, hentry]
  rw [if_neg (by simp [hptp, haligned, hlive])]
  exact if_pos ⟨hnear, hfar⟩

/-! ### LTC out -/

/-- At the frame of the day that begins, a running LTC out takes the settings that wait and sends the frame's time (R676). -/
theorem ltcOutFrame_sends {s : State} {cfg : LtcCfg} (hruns : ltcRuns s = true) (hlock : s.stem.stemLock = true)
    (hcfg : cfg = s.host.ltc.next.getD s.host.ltc.cfg) :
    ∃ e : LtcSent, e.bits = ltcBits cfg (tcAddress cfg.rate (ltcDayFrame s)) ∧
      ltcOutFrame (ltcDayFrame s) s = { s with host := { s.host with ltc := { s.host.ltc with
        cfg := cfg, next := none, outTime := tcAddress cfg.rate (ltcDayFrame s), sent := (e :: s.host.ltc.sent).take 2 } } } := by
  subst hcfg
  rw [ltcOutFrame, if_neg (by simp [hruns, hlock])]
  exact ⟨_, rfl, rfl⟩

/-- Settles O53: each row is the case of its input that the packet, message, frame or time selects, on the state in which the message has begun. -/
theorem cueInputsComplete : Obligations.CueInputsComplete := by
  refine ⟨?discarded, ?notLive, ?starts, ?sourceLost, ?unmatched, ?badAtStart, ?badUnlocked, ?ltcLost, ?timecode, ?ltcOut⟩
  case discarded =>
    exact fun p s hlive hport hhas huniv h =>
      congrArg Host.Outcome.next (sacnPacket_discarded (s := msBegin s) ⟨hlive, hport, hhas, huniv⟩ h)
  case notLive => exact fun p s hlive => congrArg Host.Outcome.next (sacnPacket_not_live (s := msBegin s) hlive)
  case starts =>
    intro p s hlive hport hhas huniv hcode hpreview hgoes hnone hstarted
    have hstart := sacnPacket_starts (s := msBegin s) ⟨hlive, hport, hhas, huniv⟩ hcode hpreview hgoes hnone hstarted
    have hput := mapGet_tabPut s.prog.cue.universes p.univ (startedUniverse_ne_default p s.stem.ms)
    exact ⟨_, congrArg Host.Outcome.next hstart, startedUniverse p s.stem.ms, hput, rfl, rfl, rfl⟩
  case sourceLost => exact fun univ cid s hsilent => congrArg Host.Outcome.next (if_pos hsilent)
  case unmatched =>
    exact fun net port data s hlive hnet hon hport hmap =>
      congrArg Host.Outcome.next
        (oscMessage_unmatched (s := msBegin s) hlive hnet hon hport fun m _ => oscHits_of_map_nil hmap m.1)
  case badAtStart =>
    exact fun f start s hbad hstate => congrArg Host.Outcome.next ((ltcFrame_bad (s := msBegin s) hbad).trans (if_pos (.inl hstate)))
  case badUnlocked =>
    intro f start s hbad hstate
    have hlow : ¬ (s.host.ltc.state = 0 ∨ (s.host.ltc.state = 2 ∧ 4 ≤ s.host.ltc.bad + 1)) := by omega
    exact congrArg Host.Outcome.next ((ltcFrame_bad (s := msBegin s) hbad).trans (if_neg hlow))
  case ltcLost => exact fun s hstate => congrArg Host.Outcome.next (ltcLost_tells hstate)
  case timecode =>
    rintro n _ e _ s hentry hptp haligned hlive rfl rfl hnear hfar
    exact congrArg Host.Outcome.next (timecodeTrigger_fires (s := msBegin s) hentry hptp haligned hlive hnear hfar)
  case ltcOut =>
    rintro _ cfg s hruns hlock rfl hcfg
    obtain ⟨e, hbits, hsent⟩ := ltcOutFrame_sends hruns hlock hcfg
    exact ⟨_, congrArg Host.Outcome.next hsent, rfl, rfl, rfl, congrArg some hbits, rfl, rfl⟩

end Sys2Proof.Machine

/-! What no register write reaches: the blocks of RO words alone, and the life cycle (R389, R629, R646). -/

namespace Sys2Proof.Machine

/-- A write to the Vellum block is discarded (R646). -/
theorem writeReg_vellum (o w : Nat) (s : State) : writeReg 7 o w s = s := rfl

/-- A write to the Hush block is discarded (R389). -/
theorem writeReg_hush (o w : Nat) (s : State) : writeReg 10 o w s = s := rfl

/-- A write to the Life cycle and keys block is discarded (R629). -/
theorem writeReg_lifecycle (o w : Nat) (s : State) : writeReg 14 o w s = s := rfl

/-- The parts that register writes reach, over all blocks: the life cycle is none of them. -/
def registerParts : Parts :=
  { draws := true, stem := true, bl := true, boot := true, power := true, ink := true, host := true, twin := true, serif := true,
    quill := true, rt := true, feed := true, dx := true, prog := true, lig := true, vl := true, sl := true, cb := true, mem := true }

/-- A register write keeps everything outside `registerParts`. -/
theorem writeReg_registerParts (i o w : Nat) (s : State) : (writeReg i o w s).rest registerParts = s.rest registerParts :=
  writeReg_rest registerParts rfl rfl rfl rfl rfl rfl rfl rfl rfl rfl rfl rfl rfl rfl rfl rfl rfl rfl rfl i o w s

/-- No register write changes the life cycle (R629). -/
theorem writeReg_life (i o w : Nat) (s : State) : (writeReg i o w s).life = s.life :=
  life_of_rest_eq (P := registerParts) rfl (writeReg_registerParts i o w s)

/-- Settles O30: the three blocks have no write of their own, and the writes of the other blocks stay within parts without the life cycle. -/
theorem readOnlyBlocks : Obligations.ReadOnlyBlocks :=
  ⟨fun o w s => ⟨writeReg_hush o w s, writeReg_vellum o w s, writeReg_lifecycle o w s⟩, writeReg_life⟩

end Sys2Proof.Machine

/-! The messages of Manuscript: sessions and views, and what a member does with those of a Flourish (R451 to R456, R461 to R466). -/

namespace Sys2Proof.Machine

/-! ### What Manuscript's operations leave unchanged -/

/-- A READY member's state is 2, and of a pair it is the active unit (R452). -/
theorem msReady_iff {s : State} : msReady s = true ↔ s.ms.state = 2 ∧ actsForPair s = true := by
  simp [msReady]

/-- A message from a peer leaves the member ready or not. -/
@[simp] theorem msReady_heardFrom (m : Nat) (s : State) : msReady (heardFrom m s) = msReady s := rfl

/-- A message from a peer leaves the MEMBER_ID. -/
@[simp] theorem msMe_heardFrom (m : Nat) (s : State) : msMe (heardFrom m s) = msMe s := rfl

/-- A message from a peer leaves the Flourishes. -/
@[simp] theorem flourishOf_heardFrom (m : Nat) (s : State) (origin number : Nat) :
    flourishOf (heardFrom m s) origin number = flourishOf s origin number := rfl

/-- A message from a peer leaves the readiness deadline of a Flourish as far away as it was. -/
@[simp] theorem commitLate_heardFrom (m : Nat) (s : State) (f : Flourish) : commitLate (heardFrom m s) f = commitLate s f := rfl

/-- A sent message leaves the Flourishes. -/
@[simp] theorem flourishOf_msSend (dest msg : Nat) (body : Bytes) (s : State) (origin number : Nat) :
    flourishOf (msSend dest msg body s) origin number = flourishOf s origin number := rfl

/-- Sent messages leave the MEMBER_ID. -/
theorem msMe_foldl_msSendAs (view msg : Nat) (body : Bytes) (l : List Nat) (s : State) :
    msMe (l.foldl (fun t n => msSendAs view n msg body t) s) = msMe s := by
  induction l generalizing s with
  | nil => rfl
  | cons n l ih => exact ih _

/-- A flooded message leaves the MEMBER_ID. -/
@[simp] theorem msMe_msFloodAs (view : Nat) (via : Option Nat) (msg : Nat) (body : Bytes) (s : State) :
    msMe (msFloodAs view via msg body s) = msMe s :=
  msMe_foldl_msSendAs view msg body _ s

/-- A stored Flourish leaves the MEMBER_ID. -/
@[simp] theorem msMe_putFlourish (f : Flourish) (s : State) : msMe (putFlourish f s) = msMe s := rfl

/-- What is found under the commit number of the Flourish that has been put. -/
@[simp] theorem flourishOf_putFlourish_same (f : Flourish) (s : State) : flourishOf (putFlourish f s) f.origin f.number = some f := by
  have hgone : (s.ms.flourishes.filter (fun g => ¬ (g.origin = f.origin ∧ g.number = f.number))).find?
      (fun g => g.origin = f.origin && g.number = f.number) = none :=
    List.find?_eq_none.2 fun g hg => by simpa [imp_iff_not_or] using (List.mem_filter.1 hg).2
  rw [flourishOf, putFlourish, modMs_ms, List.find?_append, hgone]
  simp

/-- States that agree outside parts without Manuscript have one Manuscript. -/
theorem ms_of_rest_eq {P : Parts} {s t : State} (hP : P.ms = false) (h : t.rest P = s.rest P) : t.ms = s.ms := by
  simpa [State.rest, hP] using congrArg State.ms h

/-- Arming the turn of a Flourish leaves Manuscript. -/
@[simp] theorem armFlourish_ms (client seq origin number scene flags scope apply : Nat) (s : State) :
    (armFlourish client seq origin number scene flags scope apply s).2.ms = s.ms :=
  ms_of_rest_eq (P := { ink := true, prog := true }) rfl (armFlourish_rest _ rfl rfl client seq origin number scene flags scope apply s)

/-! ### Sessions and views -/

/-- A peer of the roster under its MEMBER_ID, with the same MS_ID, is greeted with HELLO (R451). -/
theorem peerConnect_accepts {member key msId ip : Nat} {s : State} (hset : s.ms.cfg.msId ≠ 0) (hid : msId = s.ms.cfg.msId)
    (hstate : s.ms.state ≠ 0) (hacts : actsForPair s = true) (hkey : key ≠ 0)
    (hroster : s.ms.roster.any (fun e => e.2 = (member, key)) = true) :
    peerConnect member key msId ip s = msSend member 1 (helloBody s) (modMs (fun m => { m with
      peers := m.peers.filter (fun q => q.member ≠ member) ++ [{ member := member, ip := ip, lastMs := s.stem.ms }] }) s) := by
  rw [peerConnect, if_neg (by simp [hset, hid, hstate, hacts, hkey, hroster, -List.any_eq_true])]

/-- HELLO without a session is discarded (R451). -/
theorem helloRx_no_session {h : MsHello} {s : State} (hpeer : hasPeer s h.sender = false) : helloRx h s = s := by
  rw [helloRx, if_pos (.inl (by simp [hpeer]))]

/-- A READY member shows its view to a peer whose HELLO does not ask to be included (R453). -/
theorem helloRx_shows_view {h : MsHello} {s : State} (hpeer : hasPeer s h.sender = true) (hready : msReady s = true) (hasks : h.asks = false) :
    helloRx h s = msSend h.sender 2 (viewBody s.ms.members) (heardFrom h.sender (modMs (fun m => { m with
      peers := m.peers.map (fun p => if p.member = h.sender then { p with hello := true } else p) }) s)) := by
  obtain ⟨hstate, hacts⟩ := msReady_iff.1 hready
  rw [helloRx, if_neg (by simp [hpeer, hacts])]
  dsimp only
  rw [if_neg (by simp [hstate]), if_neg (by simp [hstate]), if_neg (by simp [hasks])]

/-- A READY member adopts a later view that holds it (R454). -/
theorem viewRx_later {via view : Nat} {members : List Nat} {scene : Option (Nat × Nat × Nat)} {s : State} (hset : s.ms.cfg.msId ≠ 0)
    (hready : msReady s = true) (hmine : members.contains (msMe s) = true) (hlater : s.ms.view < view) :
    viewRx via view members scene s = adoptView (some via) view members s := by
  obtain ⟨hstate, hacts⟩ := msReady_iff.1 hready
  rw [viewRx, if_neg (by simp [hset, hacts]), if_neg (by simp [hstate]), if_neg (by simp [hstate]), if_pos hmine, if_pos hlater]

/-! ### PREPARE and VOTE -/

/-- Two records of one Flourish: one commit number, and one scene at one apply SSI. -/
structure SameTurn (g f : Flourish) : Prop where
  origin : g.origin = f.origin
  number : g.number = f.number
  scene  : g.scene = f.scene
  apply  : g.apply = f.apply

/-- This member's own vote is all that checking a new Flourish adds to it, and the Flourish is stored with it (R461). -/
theorem takeFlourish_puts (f : Flourish) (s : State) :
    ∃ g t, takeFlourish f s = putFlourish g t ∧ t.ms = s.ms ∧ SameTurn g f := by
  unfold takeFlourish
  dsimp only
  split
  · exact ⟨_, _, rfl, armFlourish_ms .., ⟨rfl, rfl, rfl, rfl⟩⟩
  · exact ⟨_, _, rfl, armFlourish_ms .., ⟨rfl, rfl, rfl, rfl⟩⟩

/-- A member other than the originator goes on with the votes or waits: the Flourish stays known with its turn (R461). -/
theorem settleVotes_keeps_turn {f : Flourish} {s : State} (hother : f.origin ≠ msMe s) (hknown : flourishOf s f.origin f.number = some f) :
    ∃ g, flourishOf (settleVotes f s) f.origin f.number = some g ∧ SameTurn g f := by
  have hsame : SameTurn f f := ⟨rfl, rfl, rfl, rfl⟩
  unfold settleVotes
  rw [if_neg hother]
  split
  · exact ⟨f, hknown, hsame⟩
  · split
    · exact ⟨f, hknown, hsame⟩
    · split
      · exact ⟨_, (flourishOf_msSend ..).trans (flourishOf_putFlourish_same { f with cast := true } s), ⟨rfl, rfl, rfl, rfl⟩⟩
      · exact ⟨f, hknown, hsame⟩

/-- The Flourish that PREPARE makes known to a member that had it by `via`. -/
def preparedFlourish (via : Nat) (p : MsPrepare) : Flourish :=
  { origin := p.origin, number := p.number, view := p.view, scene := p.scene, flags := p.flags, scope := p.scope, apply := p.apply,
    from_ := some via }

/-- A new PREPARE is passed on, and the Flourish is checked; its votes are settled as they then stand (R461). -/
theorem prepareRx_new {via : Nat} {p : MsPrepare} {s : State} (hready : msReady s = true) (hview : s.ms.joinView ≤ p.view)
    (hnew : flourishOf s p.origin p.number = none) :
    ∃ g t, prepareRx via p s = settleVotes g (putFlourish g t) ∧
      t.ms = (msFloodAs p.view (some via) 3 (prepareBody (preparedFlourish via p)) (heardFrom via s)).ms ∧
      SameTurn g (preparedFlourish via p) := by
  obtain ⟨g, t, htake, hms, hturn⟩ := takeFlourish_puts (preparedFlourish via p)
    (msFloodAs p.view (some via) 3 (prepareBody (preparedFlourish via p)) (heardFrom via s))
  have hstored : flourishOf (putFlourish g t) p.origin p.number = some g := by
    simpa only [hturn.origin, hturn.number, preparedFlourish] using flourishOf_putFlourish_same g t
  have hgate : ¬ (¬ msReady (heardFrom via s) = true ∨ p.view < (heardFrom via s).ms.joinView) := by
    rintro (h | h)
    · exact h hready
    · exact absurd h (Nat.not_lt.2 hview)
  refine ⟨g, t, ?_, hms, hturn⟩
  rw [prepareRx, if_neg hgate]
  simp only [flourishOf_heardFrom, hnew]
  rw [← preparedFlourish, htake, hstored]

/-- A member that PREPARE reaches from another one knows the Flourish from then on (R461). -/
theorem prepareRx_knows {via : Nat} {p : MsPrepare} {s : State} (hready : msReady s = true) (hview : s.ms.joinView ≤ p.view)
    (hother : p.origin ≠ msMe s) (hnew : flourishOf s p.origin p.number = none) :
    ∃ g, flourishOf (prepareRx via p s) p.origin p.number = some g ∧ g.apply = p.apply ∧ g.scene = p.scene := by
  obtain ⟨g, t, hprepare, hms, hturn⟩ := prepareRx_new (via := via) hready hview hnew
  have hme : msMe (putFlourish g t) = msMe s := by
    rw [msMe_putFlourish, msMe, hms]
    exact msMe_msFloodAs p.view (some via) 3 _ (heardFrom via s)
  obtain ⟨k, hknown, hk⟩ := settleVotes_keeps_turn (by rw [hme, hturn.origin]; exact hother) (flourishOf_putFlourish_same g t)
  rw [← hprepare, hturn.origin, hturn.number] at hknown
  exact ⟨k, hknown, hk.apply.trans hturn.apply, hk.scene.trans hturn.scene⟩

/-- A READY vote of a session that has not voted is counted, and the votes are settled (R461). -/
theorem voteRx_counts {via origin number count refuser : Nat} {f : Flourish} {s : State} (hready : msReady s = true)
    (hf : flourishOf s origin number = some f) (hfirst : f.votes.contains via = false) (hphase : f.phase = 0) :
    voteRx via origin number count 0 refuser s = settleVotes { f with votes := via :: f.votes, ready := f.ready + count }
      (putFlourish { f with votes := via :: f.votes, ready := f.ready + count } (heardFrom via s)) := by
  simp only [voteRx, flourishOf_heardFrom, hf, msReady_heardFrom]
  rw [if_neg (by simp [hready, hfirst, hphase, -List.contains_eq_mem])]
  rfl

/-! ### COMMIT, ABORT and ACK -/

/-- COMMIT in time is passed on, held and acknowledged (R461). -/
theorem commitRx_holds {via origin number : Nat} {f : Flourish} {s : State} (hready : msReady s = true)
    (hf : flourishOf s origin number = some f) (hother : f.origin ≠ msMe s) (hack : f.ack = none) (hmissed : f.missed = false)
    (hlate : commitLate s f = false) :
    commitRx via origin number s =
      msSend via 7 (numberBody f ++ le 2 0) (holdCommit f (msFlood (some via) 5 (numberBody f) (heardFrom via s))) := by
  simp only [commitRx, flourishOf_heardFrom, hf, msReady_heardFrom, msMe_heardFrom, commitLate_heardFrom, hack, hmissed, hlate]
  rw [if_neg (by simp [hready, hother])]
  rfl

/-- COMMIT that has been answered is answered again with the same status (R464). -/
theorem commitRx_again {via origin number a : Nat} {f : Flourish} {s : State} (hready : msReady s = true)
    (hf : flourishOf s origin number = some f) (hother : f.origin ≠ msMe s) (hack : f.ack = some a) :
    commitRx via origin number s = msSend via 7 (numberBody f ++ le 2 a) (heardFrom via s) := by
  simp only [commitRx, flourishOf_heardFrom, hf, msReady_heardFrom, msMe_heardFrom, hack]
  rw [if_neg (by simp [hready, hother])]

/-- ABORT of a Flourish that is aborted is only acknowledged again (R464). -/
theorem abortRx_again {via origin number st : Nat} {f : Flourish} {s : State} (hready : msReady s = true)
    (hf : flourishOf s origin number = some f) (hother : f.origin ≠ msMe s) (hphase : f.phase = 2) :
    abortRx via origin number st s = msSend via 7 (numberBody f ++ le 2 0) (heardFrom via s) := by
  simp only [abortRx, flourishOf_heardFrom, hf, msReady_heardFrom, msMe_heardFrom]
  rw [if_neg (by simp [hready, hother]), if_neg (by simp [hphase]), if_pos hphase]

/-- ABORT of a Flourish in preparation is passed on, drops the turn and is acknowledged (R461). -/
theorem abortRx_drops {via origin number st : Nat} {f : Flourish} {s : State} (hready : msReady s = true)
    (hf : flourishOf s origin number = some f) (hother : f.origin ≠ msMe s) (hphase : f.phase = 0) :
    abortRx via origin number st s = msSend via 7 (numberBody f ++ le 2 0) (modMs (fun m => { m with aborts := m.aborts + 1 })
      (putFlourish { f with phase := 2, ack := some 0 }
        (dropTurn origin number (msFlood (some via) 6 (numberBody f ++ le 2 st) (heardFrom via s))))) := by
  simp only [abortRx, flourishOf_heardFrom, hf, msReady_heardFrom, msMe_heardFrom]
  rw [if_neg (by simp [hready, hother]), if_neg (by simp [hphase]), if_neg (by simp [hphase])]

/-- The originator records a member's first acknowledgement (R461). -/
theorem ackRx_records {via member origin number : Nat} {f : Flourish} {s : State} (hready : msReady s = true)
    (hf : flourishOf s origin number = some f) (hown : f.origin = msMe s) (hacked : f.acked.contains member = false)
    (hlate : f.lateBy.contains member = false) :
    ackRx via member origin number 0 s = putFlourish { f with acked := f.acked ++ [member] } (heardFrom via s) := by
  simp only [ackRx, flourishOf_heardFrom, hf, msReady_heardFrom, msMe_heardFrom]
  rw [if_neg (not_not.2 hready), if_neg (not_not.2 hown), if_neg (by simp only [hacked, hlate]; decide)]
  rfl

/-- Settles O56: each row is the case of its message that the member's state and its record of the Flourish select, on the state in which the
message has begun. -/
theorem manuscriptMessagesComplete : Obligations.ManuscriptMessagesComplete := by
  refine ⟨?connect, ?hello, ?noSession, ?view, ?prepare, ?vote, ?commit, ?commitAgain, ?abortAgain, ?abort, ?ack, ?heartbeat⟩
  case connect =>
    exact fun member key msId ip s hset hid hstate hacts hkey hroster =>
      congrArg Host.Outcome.next (peerConnect_accepts (s := msBegin s) hset hid hstate hacts hkey hroster)
  case hello =>
    exact fun h s hpeer hacts hstate hasks =>
      congrArg Host.Outcome.next (helloRx_shows_view (s := msBegin s) hpeer (msReady_iff.2 ⟨hstate, hacts⟩) hasks)
  case noSession => exact fun h s hpeer => congrArg Host.Outcome.next (helloRx_no_session (s := msBegin s) hpeer)
  case view =>
    exact fun via view members s hset hacts hstate hmine hlater =>
      congrArg Host.Outcome.next
        (viewRx_later (s := heardFrom via (msBegin s)) hset (msReady_iff.2 ⟨hstate, hacts⟩) hmine hlater)
  case prepare =>
    exact fun via p s hready hview hother hnew => ⟨_, rfl, prepareRx_knows (s := msBegin s) hready hview hother hnew⟩
  case vote =>
    rintro via origin number count _ refuser f s hready hf hfirst hphase rfl
    exact congrArg Host.Outcome.next (voteRx_counts (s := msBegin s) hready hf hfirst hphase)
  case commit =>
    exact fun via origin number f s hready hf hother hack hmissed hlate =>
      congrArg Host.Outcome.next (commitRx_holds (s := msBegin s) hready hf hother hack hmissed hlate)
  case commitAgain =>
    exact fun via origin number a f s hready hf hother hack =>
      congrArg Host.Outcome.next (commitRx_again (s := msBegin s) hready hf hother hack)
  case abortAgain =>
    exact fun via origin number st f s hready hf hother hphase =>
      congrArg Host.Outcome.next (abortRx_again (s := msBegin s) hready hf hother hphase)
  case abort =>
    exact fun via origin number st f s hready hf hother hphase =>
      congrArg Host.Outcome.next (abortRx_drops (s := msBegin s) hready hf hother hphase)
  case ack =>
    exact fun via member origin number f s hready hf hown hacked hlate =>
      congrArg Host.Outcome.next (ackRx_records (s := msBegin s) hready hf hown hacked hlate)
  case heartbeat => exact fun member s => rfl

end Sys2Proof.Machine

/-! The timers of Manuscript: heartbeats, silent peers, the deadlines of a Flourish and rejoining (R455, R461, R462, R464, R473). -/

namespace Sys2Proof.Machine

/-- A READY member whose heartbeat is due floods its SSI (R455). -/
theorem msHeartbeat_sends {s : State} (hready : msReady s = true) (hdue : s.ms.beatMs + 500 ≤ s.stem.ms) :
    msHeartbeat s = msFlood none 8 (le 8 s.stem.ssi) (modMs (fun m => { m with beatMs := s.stem.ms }) s) :=
  if_pos ⟨hready, hdue⟩

/-- A member that is not READY only forgets the session of a peer silent for 3 s (R455). -/
theorem memberGone_outside_view {member : Nat} {p : Peer} {s : State} (hp : s.ms.peers.find? (fun p => p.member = member) = some p)
    (hsilent : p.lastMs + 3000 ≤ s.stem.ms) (hacts : actsForPair s = true) (hstate : s.ms.state ≠ 2) :
    memberGone member s = modMs (fun q => { q with peers := q.peers.filter (fun p => p.member ≠ member) }) s := by
  simp only [memberGone, hp]
  rw [if_neg (by simp [hacts, hsilent]), if_pos hstate]

/-- At its vote deadline a Flourish in preparation commits when it may be partial and nothing was refused, and aborts with LATE otherwise
(R461, R462). -/
theorem voteDeadline_decides {number : Nat} {f : Flourish} {s : State} (hf : flourishOf s (msMe s) number = some f) (hphase : f.phase = 0)
    (hdue : f.apply ≤ s.stem.ssi + msLead s / 2) :
    voteDeadline number s = if bit f.flags 3 ∧ f.refusal.isNone then commitFlourish f s else abortFlourish f 0x1A s := by
  simp only [voteDeadline, hf]
  rw [if_neg (by simp [hphase, hdue])]

/-- COMMIT goes again to the members that have not answered, until their readiness deadline (R464). -/
theorem commitResend_sends {number : Nat} {f : Flourish} {s : State} (hf : flourishOf s (msMe s) number = some f) (hphase : f.phase = 1)
    (hlate : commitLate s f = false) (hdue : f.sentMs + 2 ≤ s.stem.ms) :
    commitResend number s = putFlourish { f with sentMs := s.stem.ms }
      ((s.ms.members.filter (fun m => ¬ f.acked.contains m ∧ ¬ f.lateBy.contains m)).foldl (fun t m => msSend m 5 (numberBody f) t) s) := by
  simp only [commitResend, hf]
  rw [if_neg (by simp [hphase, hlate, hdue])]

/-- A LOST member whose retry is due counts it and asks every peer by HELLO (R473). -/
theorem msRejoin_asks {s : State} (hstate : s.ms.state = 3) (hdue : s.ms.retryMs + 1000 ≤ s.stem.ms) (hacts : actsForPair s = true) :
    msRejoin s = s.ms.peers.foldl (fun t p => msSend p.member 1 (helloBody t) t)
      (modMs (fun m => { m with retryMs := s.stem.ms, tries := m.tries + 1 }) s) :=
  if_pos ⟨hstate, hdue, hacts⟩

/-- Settles O57: each row is the case of its timer that is due, on the state in which the timer's messages have begun. -/
theorem manuscriptTimersComplete : Obligations.ManuscriptTimersComplete := by
  refine ⟨?heartbeat, ?gone, ?partialCommit, ?abort, ?resend, ?rejoin⟩
  case heartbeat => exact fun s hready hdue => congrArg Host.Outcome.next (msHeartbeat_sends (s := msBegin s) hready hdue)
  case gone =>
    exact fun member p s hp hsilent hacts hstate =>
      congrArg Host.Outcome.next (memberGone_outside_view (s := msBegin s) hp hsilent hacts hstate)
  case partialCommit =>
    intro number f s hf hphase hdue hpartial hnone
    have hdecides := voteDeadline_decides (s := msBegin s) hf hphase hdue
    exact congrArg Host.Outcome.next (hdecides.trans (if_pos ⟨hpartial, by rw [hnone]; rfl⟩))
  case abort =>
    intro number f s hf hphase hdue hwhole
    have hdecides := voteDeadline_decides (s := msBegin s) hf hphase hdue
    exact congrArg Host.Outcome.next (hdecides.trans (if_neg (by simp [hwhole])))
  case resend =>
    exact fun number f s hf hphase hlate hdue => congrArg Host.Outcome.next (commitResend_sends (s := msBegin s) hf hphase hlate hdue)
  case rejoin => exact fun s hstate hdue hacts => congrArg Host.Outcome.next (msRejoin_asks (s := msBegin s) hstate hdue hacts)

end Sys2Proof.Machine

/-! The canonical form of the memories: every operation that writes one keeps it, and every other leaves the memories as they are (R528). -/

namespace Sys2Proof.Machine

/-- Every part of the state but the memories. -/
def outside : Parts :=
  { draws := true, stem := true, bl := true, boot := true, power := true, ink := true, host := true, twin := true, hush := true, serif := true,
    quill := true, ms := true, rt := true, life := true, feed := true, dx := true, prog := true, lig := true, sheen := true, vl := true, sl := true,
    cb := true, resume := true, entry := true }

/-- States that agree outside parts that hold no memory have their memories in canonical form together. -/
theorem canonical_of_rest_eq {P : Parts} {s t : State} (hsheets : P.sheets = false) (hload : P.load = false) (hflash : P.flash = false)
    (hmem : P.mem = false) (h : t.rest P = s.rest P) (hs : MemoriesCanonical s) : MemoriesCanonical t := by
  have hfeed : t.feed.mems = s.feed.mems := by
    have := congrArg (fun x => x.feed.mems) h
    simp only [State.rest, hmem] at this
    cases hP : P.feed <;> simpa [hP] using this
  have hink : t.ink.sheetMem = s.ink.sheetMem := by
    have := congrArg (fun x => x.ink.sheetMem) h
    simp only [State.rest, hsheets] at this
    cases hP : P.ink <;> simpa [hP] using this
  have hboot : t.boot.loadArea = s.boot.loadArea ∧ t.boot.flash = s.boot.flash := by
    have h1 := congrArg (fun x => x.boot.loadArea) h
    have h2 := congrArg (fun x => x.boot.flash) h
    simp only [State.rest, hload, hflash] at h1 h2
    cases hP : P.boot <;> simp_all
  exact (canonical_congr hfeed hink hboot.1 hboot.2).2 hs

/-- An operation that changes nothing of the memories keeps them canonical. -/
theorem canonical_of_outside {s t : State} (h : t.rest outside = s.rest outside) (hs : MemoriesCanonical s) : MemoriesCanonical t :=
  canonical_of_rest_eq rfl rfl rfl rfl h hs

/-- The Nib stores are lost: an empty memory is canonical. -/
theorem loseStores_canonical {s : State} (h : MemoriesCanonical s) : MemoriesCanonical (loseStores s) := by
  obtain ⟨htcm, hres, hexch, hbarrel, -, hrest⟩ := h
  exact ⟨htcm, hres, hexch, hbarrel, rfl, hrest⟩

/-- Powering the units down loses the Nib stores alone of the memories (R145). -/
theorem powerDown_canonical {s : State} (h : MemoriesCanonical s) : MemoriesCanonical (powerDown s) :=
  loseStores_canonical (canonical_of_outside (by simp [outside]) h)

/-- Entering STANDBY writes no memory but by powering the units down (R145). -/
theorem standbyReached_canonical {s : State} (h : MemoriesCanonical s) : MemoriesCanonical (standbyReached s) := by
  unfold standbyReached
  extract_lets quill s1 s2 s3 free s4 s5
  split
  · exact h
  · have h2 : MemoriesCanonical s2 := canonical_of_outside (by simp [s2, s1, outside]) h
    have h5 : MemoriesCanonical s5 := canonical_of_outside (by simp [s5, s4, s3, outside]) (powerDown_canonical h2)
    split
    · exact canonical_of_outside (by simp [outside]) h5
    · exact canonical_of_outside (by simp [outside]) h5

/-- A restart of Scribe clears the TCM: an empty memory is canonical. -/
theorem scribeRestart_canonical (cause counter : Nat) {s : State} (h : MemoriesCanonical s) : MemoriesCanonical (scribeRestart cause counter s) := by
  unfold scribeRestart
  extract_lets st s1 ink feed
  obtain ⟨-, hrest⟩ : MemoriesCanonical s1 := canonical_of_outside (by simp [s1, outside]) h
  exact canonical_of_outside (s := { s1 with feed := { s1.feed with tcm := [] } }) (by simp [outside]; rfl) ⟨rfl, hrest⟩

/-- A reset empties every memory but the flash. -/
theorem coldState_canonical {s : State} (h : MemoriesCanonical s) : MemoriesCanonical (coldState s) := by
  obtain ⟨-, -, -, -, -, -, -, -, hflash⟩ := h
  exact ⟨rfl, rfl, rfl, rfl, rfl, rfl, rfl, rfl, hflash⟩

/-- POR_N leaves what every reset leaves (R105). -/
theorem porReset_canonical {s : State} (h : MemoriesCanonical s) : MemoriesCanonical (porReset s) :=
  coldState_canonical h

/-- So does the internal reset. -/
theorem internalReset_canonical (bit : Nat) {s : State} (h : MemoriesCanonical s) : MemoriesCanonical (internalReset bit s) :=
  canonical_of_outside (by simp [outside, internalReset]) (coldState_canonical h)

/-- A restart that waits is an internal reset, or nothing. -/
theorem reboot_canonical {s : State} (h : MemoriesCanonical s) : MemoriesCanonical (reboot s) := by
  unfold reboot
  split
  · exact canonical_of_outside (by simp [outside]) (internalReset_canonical 8 h)
  · exact h

/-- The loss of the crystal is an internal reset, or reaches no memory. -/
theorem xoStops_canonical {s : State} (h : MemoriesCanonical s) : MemoriesCanonical (xoStops s) := by
  unfold xoStops
  extract_lets gone
  split
  · exact h
  · split
    · exact h
    · exact internalReset_canonical (s := vellumLog 9 0 0 0 (vellumCount 4 s)) 1 (canonical_of_outside (by simp [outside]) h)

/-- A choice of states whose memories are canonical. -/
theorem canonical_ite {c : Prop} [Decidable c] {s t : State} (hs : MemoriesCanonical s) (ht : MemoriesCanonical t) :
    MemoriesCanonical (if c then s else t) := by
  split
  · exact hs
  · exact ht

/-- A memory that is cleared or left as it is stays canonical. -/
theorem tabWf_ite_nil {c : Prop} [Decidable c] {m : List Host.Cell} (h : tabWf (0 : Byte) m = true) :
    tabWf (0 : Byte) (if c then [] else m) = true := by
  split
  · rfl
  · exact h

/-- A Copybook run clears the memories that it tests. -/
theorem cbStart_canonical (mode mask : Nat) {s : State} (h : MemoriesCanonical s) : MemoriesCanonical (cbStart mode mask s) := by
  unfold cbStart
  extract_lets runs results s1 s2 s3 lost feed s4
  obtain ⟨htcm, hres, hexch, hbarrel, hstore, hxmi, hrest⟩ : MemoriesCanonical s3 :=
    canonical_of_outside (by simp [s3, s2, s1, outside]) h
  have h4 : MemoriesCanonical s4 :=
    ⟨htcm, hres, hexch, tabWf_ite_nil hbarrel, tabWf_ite_nil hstore, tabWf_ite_nil hxmi, hrest⟩
  split
  · exact h4
  · exact h4

/-- CB_CTRL.GO begins a run, or is rejected. -/
theorem cbGo_canonical {s : State} (h : MemoriesCanonical s) : MemoriesCanonical (cbGo s) := by
  unfold cbGo
  extract_lets mask mode
  split
  · exact h
  · exact cbStart_canonical _ _ h

/-- Of the steps at a boundary only the entry to STANDBY reaches a memory. -/
theorem runStep_canonical (a : ModeStep) {s : State} (h : MemoriesCanonical s) : MemoriesCanonical (runStep s a) := by
  cases a with
  | ready => exact canonical_of_outside (by simp [outside, runStep]) h
  | standby => exact standbyReached_canonical h
  | wake bad => exact canonical_of_outside (by simp [outside, runStep]) h

/-- A step acts now, waits, or is dropped. -/
theorem stepOrWait_canonical (p : ModeStep) {s : State} (h : MemoriesCanonical s) : MemoriesCanonical (stepOrWait p s) := by
  unfold stepOrWait
  split
  · exact runStep_canonical p h
  · exact canonical_of_outside (by simp [outside]) h

/-- The steps that have waited keep the memories canonical one by one. -/
theorem runSteps_canonical {s : State} (h : MemoriesCanonical s) : MemoriesCanonical (runSteps s) :=
  foldl_canonical _ (fun _ a => runStep_canonical a) _ _ h

/-- Of what comes first at a boundary only the waiting steps reach a memory. -/
theorem boundaryFirst_canonical {s : State} (h : MemoriesCanonical s) : MemoriesCanonical (boundaryFirst s) :=
  canonical_of_outside (s := runSteps (applyModes (applyTimed (blBoundary (ptpJam s))))) (by simp [outside, boundaryFirst])
    (runSteps_canonical (canonical_of_outside (by simp [outside]) h))

/-- Of what comes last at a boundary only a restart reaches a memory. -/
theorem boundaryLast_canonical (edge : Bool) {s : State} (h : MemoriesCanonical s) : MemoriesCanonical (boundaryLast edge s) :=
  reboot_canonical (canonical_of_outside (by simp [outside]) h)

/-- A period boundary keeps the memories canonical. -/
theorem periodBoundary_canonical (edge : Bool) {s : State} (h : MemoriesCanonical s) : MemoriesCanonical (periodBoundary edge s) := by
  unfold periodBoundary
  split
  · exact h
  · exact boundaryLast_canonical edge (canonical_of_outside (by simp [outside]) (boundaryFirst_canonical h))

/-- A write to the Copybook block begins a run at most. -/
theorem cbWrite_canonical (o w : Nat) {s : State} (h : MemoriesCanonical s) : MemoriesCanonical (cbWrite o w s) := by
  unfold cbWrite
  split
  · exact h
  · exact canonical_of_outside (by simp [outside]) (canonical_ite (c := bit w 0 = true) (cbGo_canonical h) h)
  · exact h

/-- Of the register blocks Copybook's alone reaches a memory. -/
theorem writeReg_canonical (i o w : Nat) {s : State} (h : MemoriesCanonical s) : MemoriesCanonical (writeReg i o w s) := by
  unfold writeReg
  split
  case h_7 => exact cbWrite_canonical o w h
  all_goals exact canonical_of_outside (by simp [outside]) h

/-- A burst of register writes keeps the memories canonical. -/
theorem writeRegs_canonical (i : Nat) (l : List (Nat × Nat)) {s : State} (h : MemoriesCanonical s) : MemoriesCanonical (writeRegs i l s) :=
  foldl_canonical (fun t (e : Nat × Nat) => writeReg i e.1 e.2 t) (fun _ e => writeReg_canonical i e.1 e.2) l s h

/-- An HSPI write reaches a memory through the window alone (R659). -/
theorem hspiStore_canonical (a : Nat) (b : Bytes) {s : State} (h : MemoriesCanonical s) : MemoriesCanonical (hspiStore a b s) := by
  unfold hspiStore
  split
  · exact canonical_of_outside (by simp [outside]) h
  split
  · exact canonical_of_outside (by simp [outside]) h
  split
  · exact windowWrite_canonical _ _ _ _ h
  · exact h

/-- The commit of an HSPI write keeps the memories canonical. -/
theorem hspiCommit_canonical {s : State} (h : MemoriesCanonical s) : MemoriesCanonical (hspiCommit s) := by
  unfold hspiCommit
  split
  · exact h
  · exact hspiStore_canonical _ _ h

/-- An HSPI read writes no memory but by the commit before it (R660). -/
theorem hspiRead_canonical (a n : Nat) (onTime : Bool) {s : State} (h : MemoriesCanonical s) : MemoriesCanonical (hspiRead a n onTime s) := by
  unfold hspiRead
  split
  · exact h
  · refine canonical_of_outside ?_ (hspiCommit_canonical h)
    simp [outside]

/-- Writing the board record keeps the memories canonical. -/
theorem writeBoard_canonical (b : Bytes) {s : State} (h : MemoriesCanonical s) : MemoriesCanonical (writeBoard b s) :=
  flashWrite_canonical _ _ _ (flashErase_canonical _ _ _ h)

/-! ### The Sprinile commands -/

/-- What a command answers keeps the memories canonical, and so do the events after its reply. -/
def Res.KeepsCanonical (q : Res) (s : State) : Prop :=
  (MemoriesCanonical s → MemoriesCanonical q.st) ∧ ∀ t, MemoriesCanonical t → MemoriesCanonical (q.after t)

/-- A command keeps them canonical, whether it is executed at once or armed. -/
def Cmd.KeepsCanonical (c : Cmd) : Prop :=
  (∀ x s, (c.body x s).KeepsCanonical s) ∧ ∀ f, c.arm = some f → ∀ x s, (f x s).KeepsCanonical s

/-- An answer that changes nothing of the memories keeps them canonical. -/
theorem Res.Keeps.keepsCanonical {q : Res} {s : State} (h : q.Keeps outside s) : q.KeepsCanonical s :=
  ⟨canonical_of_outside h.1, fun t => canonical_of_outside (h.2 t)⟩

/-- A command that changes nothing of the memories keeps them canonical. -/
theorem Cmd.Keeps.keepsCanonical {c : Cmd} (h : c.Keeps outside) : c.KeepsCanonical := by
  refine ⟨fun x s => (h.1 x s).keepsCanonical, fun f hf x s => ?_⟩
  have ha := h.2 x s
  rw [hf] at ha
  exact ha.keepsCanonical

/-- A refusal keeps the memories canonical. -/
theorem fail_keepsCanonical (st : Status) (data : Bytes) (s : State) : (fail st s data).KeepsCanonical s := ⟨id, fun _ => id⟩

/-- SYS.RESTART restarts Scribe, or has the reboot wait (R130). -/
theorem cmdRestart_keepsCanonical : cmdRestart.KeepsCanonical := by
  refine ⟨fun x s => ?_, nofun⟩
  simp only [cmdRestart]
  generalize 4 = cause, 9 = counter
  split
  · refine ⟨id, fun t ht => canonical_of_outside (s := t) ?_ ht⟩
    exact (rebootDue_rest outside rfl rfl _).trans (vellumCount_rest outside rfl _ t)
  · refine ⟨id, fun t ht => ?_⟩
    dsimp only
    exact scribeRestart_canonical cause counter ht

/-- SYS.BOARD_SET writes the board record (R677). -/
theorem cmdBoardSet_keepsCanonical : cmdBoardSet.KeepsCanonical :=
  ⟨fun _ _ => ⟨writeBoard_canonical _, fun _ => id⟩, nofun⟩

/-- SYS.GPIO_CONFIG writes the board record where it persists (R678). -/
theorem cmdGpioConfig_keepsCanonical : cmdGpioConfig.KeepsCanonical := by
  refine ⟨fun x s => ?_, nofun⟩
  simp only [cmdGpioConfig]
  split
  · exact fail_keepsCanonical _ _ s
  split
  · exact fail_keepsCanonical _ _ s
  split
  · exact fail_keepsCanonical _ _ s
  split
  · exact fail_keepsCanonical _ _ s
  · refine ⟨fun h => ?_, fun _ => id⟩
    have hpin : ∀ n p, MemoriesCanonical (setPin n p s) := fun n p => canonical_of_outside (by simp [outside]) h
    dsimp only
    split
    · exact writeBoard_canonical _ (hpin _ _)
    · exact hpin _ _

/-- SYS.FW_WRITE erases and writes the flash (R131). -/
theorem cmdFwWrite_keepsCanonical : cmdFwWrite.KeepsCanonical := by
  refine ⟨fun x s => ?_, nofun⟩
  simp only [cmdFwWrite]
  split
  · exact fail_keepsCanonical _ _ s
  · generalize hs2 : flashWrite _ _ _ = s2
    have h2 : MemoriesCanonical s → MemoriesCanonical s2 :=
      fun h => hs2 ▸ flashWrite_canonical _ _ _ (canonical_ite (flashErase_canonical _ _ _ h) h)
    split
    · split
      · exact ⟨fun h => canonical_of_outside (by simp [outside]) (h2 h), fun _ => id⟩
      · exact fail_keepsCanonical _ _ s
    · exact ⟨h2, fun _ => id⟩

/-- CB.RUN clears what it tests (R617). -/
theorem cmdCbRun_keepsCanonical : cmdCbRun.KeepsCanonical := by
  refine ⟨fun x s => ?_, nofun⟩
  simp only [cmdCbRun, cbRunBody]
  split
  · exact fail_keepsCanonical _ _ s
  split
  · exact fail_keepsCanonical _ _ s
  · exact ⟨cbStart_canonical _ _, fun _ => id⟩

/-- EXP.REG_WRITE is a burst of register writes (R242). -/
theorem cmdRegWrite_keepsCanonical : cmdRegWrite.KeepsCanonical :=
  ⟨fun _ _ => ⟨writeRegs_canonical _ _, fun _ => id⟩, nofun⟩

/-- A command that keeps the memories canonical does so when it is performed: arming changes none. -/
theorem perform_keepsCanonical (op : Nat) {c : Cmd} (x : Ctx) (s : State) (h : c.KeepsCanonical) : (perform op c x s).KeepsCanonical s := by
  unfold perform
  split
  · split
    · next f hf => exact h.2 f hf x s
    · obtain ⟨hst, hafter⟩ := h.1 { x with timed := false } s
      unfold armAction
      split
      · exact ⟨id, fun _ => id⟩
      · exact ⟨hst, hafter⟩
  · exact h.1 x s

/-- Allocating a sheet writes none. -/
theorem allocSheet_canonical (n : Nat) (p : Holder) {s : State} (h : MemoriesCanonical s) : MemoriesCanonical (allocSheet n p s).2 :=
  canonical_of_outside (by simp [outside]) h

/-- Placing a reply sheet writes into the sheet pool alone. -/
theorem placeSheet_canonical {n : Nat} {b : Option Bytes} {s t : State} {sh : Option (Nat × Nat)} (h : placeSheet n b s = some (sh, t))
    (hs : MemoriesCanonical s) : MemoriesCanonical t := by
  unfold placeSheet at h
  split at h
  · obtain ⟨-, rfl⟩ := h
    exact hs
  · split at h
    · next hsheet =>
      obtain ⟨-, rfl⟩ := h
      exact writeSheet_canonical _ _ _ (by simpa [hsheet] using allocSheet_canonical n (.client n) hs)
    · cases h

/-- Taking a request's sheet writes into the sheet pool at most. -/
theorem claimSheet_canonical (r : Request) {s : State} (h : MemoriesCanonical s) : MemoriesCanonical (claimSheet r s).2.2.2 := by
  have halloc := allocSheet_canonical r.client (.scribe r.client) h
  unfold claimSheet
  split
  · exact h
  split
  · split
    · next hsheet => exact writeSheet_canonical _ _ _ (by simpa [hsheet] using halloc)
    · next hsheet => simpa [hsheet] using halloc
  split
  · refine canonical_of_outside ?_ h
    dsimp only
    split <;> simp [outside]
  · exact h

/-- Executing a request keeps the memories canonical where its command does. -/
theorem execute_canonical (op : Nat) {c : Cmd} (r : Request) (x : Ctx) (crc : Word) (sheetOk poolOk : Bool) (sheet : Option Nat) {s : State}
    (hc : c.KeepsCanonical) (h : MemoriesCanonical s) : MemoriesCanonical (execute op c r x crc sheetOk poolOk sheet s) := by
  unfold execute
  extract_lets n s2 refuse q s3 ink l
  have h2 : MemoriesCanonical s2 := canonical_of_outside (by simp [s2, outside]) h
  have hrefuse : ∀ st d u, MemoriesCanonical u → MemoriesCanonical (refuse st d u) :=
    fun st d u => canonical_of_outside (by simp [refuse, outside])
  obtain ⟨hst, hafter⟩ : q.KeepsCanonical s2 := perform_keepsCanonical op x s2 hc
  split
  · exact hrefuse _ _ _ h2
  split
  · exact hrefuse _ _ _ h2
  split
  · refine hrefuse _ _ _ ?_
    split
    · exact hst h2
    · exact h2
  split
  · exact canonical_of_outside (by simp [s3, ink, outside]) (hst h2)
  split
  · exact hrefuse _ _ _ h2
  · next sh s3 hs3 =>
    have hreplied := fun a b d e => canonical_of_outside (t := releaseSheet n sheet (deliverReply n a b d (advanceSeq n e s3)))
      (by simp [outside]) (placeSheet_canonical hs3 (hst h2))
    exact canonical_of_outside (journal_rest outside rfl _ _ _ _ _) (hafter _ (hreplied _ _ _ _))

/-- A frame that does not fit changes only the lengths of its command. -/
theorem fitted_keepsCanonical (m : Bool) {c : Cmd} (h : c.KeepsCanonical) : (fitted m c).KeepsCanonical := by
  unfold fitted
  split
  · exact h
  · exact h

/-- Serving a request keeps the memories canonical where its command does. -/
theorem serveState_canonical (op : Nat) {c : Cmd} (r : Request) {s : State} (hc : c.KeepsCanonical) (h : MemoriesCanonical s) :
    MemoriesCanonical (serveState op c r s) := by
  unfold serveState
  extract_lets n s0 sheet crc
  have h0 : MemoriesCanonical s0 := canonical_of_outside (by simp [s0, outside]) h
  have h1 : MemoriesCanonical (claimSheet r s0).2.2.2 := claimSheet_canonical r h0
  split
  · exact h
  split
  · exact canonical_of_outside (by simp [outside]) h
  split
  · exact canonical_of_outside (by simp [outside]) h
  split
  · exact canonical_of_outside (by simp [outside]) h0
  dsimp only
  split
  · exact execute_canonical op r _ _ _ _ _ (fitted_keepsCanonical _ hc) h1
  all_goals exact canonical_of_outside (by simp [outside]) h1

/-- So it does as an outcome. -/
theorem serve_canonical {op : Nat} {c : Cmd} {r : Request} {s t : State} (hc : c.KeepsCanonical) (h : serve op c r s = .next t)
    (hs : MemoriesCanonical s) : MemoriesCanonical t := by
  unfold serve at h
  split at h
  · obtain rfl := Host.Outcome.next.inj h
    exact serveState_canonical op r hc hs
  · cases h

/-! ### The accesses of Feed -/

/-- Feed counts a collision of master `m` at the Exchange word at `a`, and keeps which it was (R547). -/
def noteCollision (m a : Nat) (s : State) : State :=
  modFeed (fun f => { f with collide := (f.collide + 1) % 2 ^ 32, exWord := a - 0x14000000, exMaster := m }) s

/-- Reading a word keeps the memories canonical: a collision writes what port 0 writes. -/
theorem readWord_canonical (q : FeedReq) (a n : Nat) {r : FeedRun} (h : MemoriesCanonical r.st) : MemoriesCanonical (readWord q a n r).st := by
  unfold readWord
  extract_lets s b s1
  have h1 : MemoriesCanonical s1 := canonical_of_outside (by simp only [s1]; split <;> simp [s, outside]) h
  split
  · exact canonical_of_outside (by simp [s, outside]) h
  split
  · exact (deliver_st _ _).symm ▸ portZero_canonical _ _ _ h1
  · exact (deliver_st _ _).symm ▸ h1

/-- Writing a word writes its bytes, or what port 0 writes. -/
theorem writeWord_canonical (q : FeedReq) (a : Nat) (b : Bytes) (en : List Bool) {r : FeedRun} (h : MemoriesCanonical r.st) :
    MemoriesCanonical (writeWord q a b en r).st := by
  unfold writeWord
  extract_lets s whole t s1 s2
  have h1 : MemoriesCanonical s1 := canonical_of_outside (by simp only [s1]; split <;> simp [s, outside]) h
  have h2 : MemoriesCanonical s2 := foldl_canonical _ (fun t e ht => canonical_ite (setByte_canonical _ _ t ht) ht) _ s1 h1
  split
  · exact (meets_st _ _ _).symm ▸ portZero_canonical _ _ _ h
  split
  · exact canonical_of_outside (by simp [s, outside]) h
  · exact canonical_ite h2 h2

/-- The words of an access keep the memories canonical one by one. -/
theorem memWords_canonical (q : FeedReq) (k a n : Nat) {r : FeedRun} (h : MemoriesCanonical r.st) : MemoriesCanonical (memWords q k a n r).st := by
  induction k generalizing a n r with
  | zero => exact h
  | succ k ih =>
    unfold memWords
    split
    · exact h
    · refine ih _ _ ?_
      split
      · exact writeWord_canonical _ _ _ _ h
      · exact readWord_canonical _ _ _ h

/-- A part at a register block is a register write or a read. -/
theorem regPart_canonical (q : FeedReq) (a n : Nat) {r : FeedRun} (h : MemoriesCanonical r.st) : MemoriesCanonical (regPart q a n r).st := by
  unfold regPart
  extract_lets i o p
  split
  · exact (meets_st _ _ _).symm ▸ h
  split
  · exact writeReg_canonical _ _ _ h
  · exact canonical_of_outside (by simp [p, outside]) h

/-- A part of an access keeps the memories canonical, whatever its region. -/
theorem feedPart_canonical (q : FeedReq) (a n : Nat) {r : FeedRun} (h : MemoriesCanonical r.st) : MemoriesCanonical (feedPart q a n r).st := by
  unfold feedPart
  split
  · exact (meets_st _ _ _).symm ▸ h
  split
  · exact (meets_st _ _ _).symm ▸ h
  split
  · exact canonical_of_outside (by simp [outside]) h
  · exact regPart_canonical _ _ _ h
  · exact memWords_canonical _ _ _ _ h

/-- The parts of an access keep them canonical one by one. -/
theorem feedParts_canonical (q : FeedReq) (k a n : Nat) {r : FeedRun} (h : MemoriesCanonical r.st) : MemoriesCanonical (feedParts q k a n r).st := by
  induction k generalizing a n r with
  | zero => exact h
  | succ k ih =>
    unfold feedParts
    split
    · exact h
    · exact ih _ _ (feedPart_canonical _ _ _ h)

/-- A Feed access keeps the memories canonical. -/
theorem feedAccess_canonical (q : FeedReq) {s : State} (h : MemoriesCanonical s) : MemoriesCanonical (feedAccess q s) := by
  unfold feedAccess
  extract_lets r s1 s2
  split
  · exact h
  · have hr : MemoriesCanonical r.st := feedParts_canonical _ _ _ _ (canonical_of_outside (by simp [outside]) h)
    refine canonical_of_outside ?_ hr
    simp only [s2, s1]
    split <;> split <;> simp [outside]

/-- An atomic writes its word, or what port 0 writes, or nothing. -/
theorem atomicWord_canonical (q : FeedAtomic) (g : Region) {s : State} (h : MemoriesCanonical s) : MemoriesCanonical (atomicWord q g s) := by
  unfold atomicWord
  extract_lets done old
  have hdone : ∀ code b t, MemoriesCanonical t → MemoriesCanonical (done code b t) := fun _ _ _ => id
  split
  · refine hdone _ _ _ (canonical_of_outside ?_ h)
    split <;> simp [outside]
  split
  · next v _ =>
    refine hdone _ _ _ (canonical_of_outside ?_ (portZero_canonical (q.addr / 8) v (noteCollision q.master q.addr s) h))
    exact (memFault_rest outside rfl rfl rfl _ _ _ _ _ _).trans ((vellumCount_rest outside rfl _ _).trans (respond_rest outside rfl _ _ _ _))
  split
  · exact hdone _ _ _ h
  · refine hdone _ _ _ (canonical_ite (canonical_of_outside (by simp [outside]) h) (memWords_canonical _ _ _ _ h))

/-- A Feed atomic keeps the memories canonical. -/
theorem feedAtomic_canonical (q : FeedAtomic) {s : State} (h : MemoriesCanonical s) : MemoriesCanonical (feedAtomic q s) := by
  unfold feedAtomic
  extract_lets stop
  have hstop : ∀ code, MemoriesCanonical (stop code) := fun code => canonical_of_outside (by simp [stop, outside]) h
  split
  · exact h
  split
  · exact hstop _
  split
  · exact hstop _
  split
  · exact hstop _
  split
  · exact hstop _
  · exact atomicWord_canonical _ _ h

/-! ### Every command -/

/-- Every command keeps the memories canonical: it writes none, or one of the operations above writes them. -/
theorem exec_canonical (c : Instr) {s t : State} (h : exec c s = .next t) (hs : MemoriesCanonical s) : MemoriesCanonical t := by
  cases c
  -- the Sprinile commands that write a memory: the flash, the TCM, or what Copybook tests
  case sysRestart r => exact serve_canonical cmdRestart_keepsCanonical h hs
  case sysFwWrite r => exact serve_canonical cmdFwWrite_keepsCanonical h hs
  case sysBoardSet r => exact serve_canonical cmdBoardSet_keepsCanonical h hs
  case sysGpioConfig r => exact serve_canonical cmdGpioConfig_keepsCanonical h hs
  case cbRun r => exact serve_canonical cmdCbRun_keepsCanonical h hs
  case expRegWrite r => exact serve_canonical cmdRegWrite_keepsCanonical h hs
  case msJoin r =>
    exact serve_canonical (cmdMsJoin_keeps outside rfl rfl rfl).keepsCanonical h (canonical_of_outside (msBegin_rest outside rfl s) hs)
  case msFlourish r =>
    exact serve_canonical (Cmd.Keeps.keepsCanonical (by simp [outside])) h (canonical_of_outside (msBegin_rest outside rfl s) hs)
  case unknownOpcodeRequest op r =>
    change execUnknownOpcodeRequest op r s = .next t at h
    unfold execUnknownOpcodeRequest at h
    split at h
    · exact Host.Outcome.next.inj h ▸ hs
    · exact serve_canonical (badOpcode_keeps outside).keepsCanonical h hs
  -- the others: only the sheet of the request and that of the reply are written
  case sysIdentityGet | sysCapsGet | sysRoleSet | sysGrantGet | sysGrantSet | sysClockGet | sysRateSet | sysSsiRealign | sysBootInfo |
      sysFwSelect | sysFwCommit | sysResumeSet | sysResumeSave | sysInkGet | sysInkClose | sysSubscribe | sysWarnGet | sysArmedGet |
      sysArmedCancel | sysMemStatusGet | sysCartStatusGet | lcStatusGet | lcNonceGet | lcProvision | lcDeploy | lcReturn | lcDebugUnlock | lcAttest |
      sysBoardGet | sysGpioGet | sysGpioSet | sysLtcConfig | sysLtcStatusGet | sysLinkGet | blStatusGet | blRefConfig |
      blSelect | blSteer | blPhaseStep | blOutConfig | blPolicySet | blRefClear | modeGet | modeSet | modeWakeConfig | netPortConfig |
      netPortStatusGet | netPtpConfig | netPtpStatusGet | netQuillConfig | netRxSet | netRxGet | netTxSet | netTxGet | netStatusGet | netNmosConfig |
      serConfig | serConfigGet | serStatusGet | serCountersGet | ligRouteSet | ligRouteGet | ligSinkConfig | ligGainSet | ligFallback | ligPatchSet |
      ligStatusGet | instCreate | instDelete | instSet | instGet | instList | instRename | progList | instCoefSet | instCoefGet | dxLoadGet |
      dxNibGet | dxConfig | sceneStore | sceneRecall | sceneDelete | sceneList | sceneExport | sceneImport | sceneSafeSet | sceneSafeGet | cueConfig |
      cueMapSet | cueMapGet | cueStatusGet | folioMap | folioRead | folioWrite | sheenConfig | sheenLoudReset | sheenSetDefine | sheenSetDelete |
      sheenSetRead | sheenStatusGet | sheenConfigGet | hushStatusGet | hushClear | hushConfig | hushConfigGet | twinStatusGet | twinConfig |
      twinPromote | twinResync | twinDissolve | msStatusGet | msConfig | msRosterSet | msLeave | msXbusSet | msMembersGet | sealRun | sealStatusGet |
      sealDigestGet | sealRegionRun | rtStatusGet | rtConfig | rtNibTest | rtMigrate | rtShedSet | rtShedGet | rtRepairGet | btStatusGet |
      rtRowRetire | btInject | cbList | cbAbort | cbResultGet | vlStatusGet | vlRead | vlExport | vlSave | expRegRead =>
    exact serve_canonical (Cmd.Keeps.keepsCanonical (by simp [outside])) h hs
  -- the register accesses, ticks, packets, pins and events that write a memory
  case scribeWatchdog =>
    exact Host.Outcome.next.inj h ▸ canonical_ite (scribeRestart_canonical _ _ hs) hs
  case lockstepMismatch =>
    exact Host.Outcome.next.inj h ▸ canonical_ite (scribeRestart_canonical _ _ (canonical_of_outside (by simp [outside]) hs)) hs
  case bar2Write via off data =>
    obtain rfl := Host.Outcome.next.inj h
    exact canonical_ite (windowWrite_canonical _ _ _ _ (canonical_of_outside (by simp [outside]) hs)) hs
  case hspiWriteCommit => exact Host.Outcome.next.inj h ▸ hspiCommit_canonical hs
  case hspiRead a n onTime => exact Host.Outcome.next.inj h ▸ hspiRead_canonical a n onTime hs
  case cbCtrlGo => exact Host.Outcome.next.inj h ▸ canonical_ite (cbGo_canonical hs) hs
  case feedAtomic q => exact Host.Outcome.next.inj h ▸ feedAtomic_canonical q hs
  case feedAccess q => exact Host.Outcome.next.inj h ▸ feedAccess_canonical q hs
  case ready | standbyEntryComplete | wakeComplete => exact Host.Outcome.next.inj h ▸ stepOrWait_canonical _ hs
  case porNAssert => exact Host.Outcome.next.inj h ▸ porReset_canonical hs
  case xoLoss => exact Host.Outcome.next.inj h ▸ xoStops_canonical hs
  case periodBoundary edge => exact Host.Outcome.next.inj h ▸ periodBoundary_canonical edge hs
  case zeroisation =>
    obtain rfl := Host.Outcome.next.inj h
    exact canonical_of_outside (zeroise_rest outside rfl rfl rfl rfl rfl rfl rfl rfl rfl rfl rfl rfl rfl rfl rfl rfl rfl rfl rfl rfl s) hs
  -- every other command may change no memory
  all_goals exact canonical_of_rest_eq rfl rfl rfl rfl (exec_rest _ s t h) hs

/-- Settles O6: a step idles or runs the front command, and no command leaves the canonical form. -/
theorem memoriesStayCanonical : Obligations.MemoriesStayCanonical := by
  intro s t hs h
  obtain ⟨-, rfl⟩ | ⟨c, rest, -, hc⟩ := step_next_cases h
  · exact hs
  · exact exec_canonical c hc hs

/-- Settles O5: every memory is empty at reset. -/
theorem resetMemoriesAreCanonical : Obligations.ResetMemoriesAreCanonical :=
  ⟨rfl, rfl, rfl, rfl, rfl, rfl, rfl, rfl, rfl⟩

end Sys2Proof.Machine

/-! The atomic that collides with port 0, and the empty Cartridge (R549, R552). -/

namespace Sys2Proof.Machine

/-! ### What leaves every byte of the map as it reads -/

/-- A change of Feed that keeps its memories and the size of XMI changes no byte of the map. -/
theorem memByte_modFeed {f : Feed → Feed} {s : State} (hmems : (f s.feed).mems = s.feed.mems) (hxmi : (f s.feed).xmiMib = s.feed.xmiMib) (a : Nat) :
    memByte (modFeed f s) a = memByte s a := by
  have hsize : xmiMib (modFeed f s) = xmiMib s := by simp only [xmiMib, modFeed_feed, modFeed_variant, hxmi]
  have hregion : regionOf (modFeed f s) a = regionOf s a := by
    unfold regionOf
    rw [hsize]
    rfl
  simp only [Feed.mems, Feed.mk.injEq] at hmems
  obtain ⟨-, htcm, hres, hexch, hbarrel, hstore, hxmiMem, -⟩ := hmems
  simp only [memByte, hregion, modFeed_feed, htcm, hres, hexch, hbarrel, hstore, hxmiMem]
  rfl

/-- A change of Vellum changes no byte of the map. -/
theorem memByte_vellumCount (k : Nat) (s : State) (a : Nat) : memByte (vellumCount k s) a = memByte s a := by
  obtain ⟨v, e⟩ := vellumCount_eq k s
  rw [e]
  rfl

/-- An event changes no byte of the map. -/
theorem memByte_raise (type : Nat) (payload : Bytes) (s : State) (a : Nat) : memByte (raise type payload s) a = memByte s a := by
  obtain ⟨i, h, e⟩ := raise_eq type payload s
  have hsheets : i.sheetMem = s.ink.sheetMem := by
    have := congrArg (fun x => x.ink.sheetMem) (raise_rest { ink := true, host := true } rfl rfl type payload s)
    simpa [e, State.rest] using this
  rw [e]
  simp only [memByte, hsheets]
  rfl

/-- A response changes no byte of the map. -/
theorem memByte_respond (code m x : Nat) (s : State) (a : Nat) : memByte (respond code m x s) a = memByte s a := by
  unfold respond
  dsimp only
  split
  case h_5 => exact memByte_modFeed rfl rfl a
  all_goals exact (memByte_modFeed rfl rfl a).trans (memByte_modFeed rfl rfl a)

/-- MEM_FAULT changes no byte of the map. -/
theorem memByte_memFault (kind unit master offset n : Nat) (s : State) (a : Nat) :
    memByte (memFault kind unit master offset n s) a = memByte s a := by
  unfold memFault
  dsimp only
  split
  · exact memByte_modFeed rfl rfl a
  · exact (memByte_raise _ _ _ a).trans (memByte_modFeed rfl rfl a)

/-! ### The collision -/

/-- A byte written through Feed and the count of a collision do not meet. -/
theorem setByte_noteCollision (a : Nat) (b : Byte) (m x : Nat) (s : State) :
    setByte a b (noteCollision m x s) = noteCollision m x (setByte a b s) := by
  have hregion : regionOf (noteCollision m x s) a = regionOf s a := rfl
  have hload : inLoadArea (noteCollision m x s) a = inLoadArea s a := rfl
  simp only [setByte, hregion, hload]
  repeat' split
  all_goals rfl

/-- Nor do what port 0 writes and the count. -/
theorem portZero_noteCollision (w v m x : Nat) (s : State) : portZero w v (noteCollision m x s) = noteCollision m x (portZero w v s) :=
  List.foldl_hom (noteCollision m x) (fun t _ => setByte_noteCollision _ _ m x t)

/-- An atomic whose write cycle meets a write of port 0 writes what port 0 writes, and answers the old value with WRITE_COLLIDED (R549). -/
theorem atomicWord_collides {q : FeedAtomic} {v : Nat} {s : State} (hpoison : poisoned s q.addr = false) (huncorr : q.uncorr = false)
    (hcollide : q.collide = some v) :
    atomicWord q .exch s =
      modFeed (fun f => { f with resp := 4, data := memBytes s q.addr 8 })
        (memFault 1 0 q.master (q.addr - 0x14000000) 1
          (vellumCount 46 (respond 4 q.master q.addr (portZero (q.addr / 8) v (noteCollision q.master q.addr s))))) := by
  unfold atomicWord
  simp only [hpoison, huncorr, hcollide]
  rfl

/-- An atomic that Feed permits, on an aligned word of the Exchange window, acts on the word (R538). -/
theorem feedAtomic_exch {q : FeedAtomic} {s : State} (hmaster : q.master < 10) (hkind : q.kind ≤ 2) (hregion : regionOf s q.addr = some .exch)
    (hpermitted : permitted s q.master true .exch q.addr = true) (haligned : q.addr % 8 = 0) : feedAtomic q s = atomicWord q .exch s := by
  have hport : feedPort .exch q.addr = 3 := rfl
  simp only [feedAtomic, hregion]
  rw [if_neg (by omega), if_neg (by simp [hpermitted]), if_neg (by simp [hport]), if_neg (by simp [haligned])]

/-- Settles O28: the colliding atomic writes port 0's bytes, and what it counts, raises and answers beside them changes no byte of the map. -/
theorem collidingAtomic : Obligations.CollidingAtomic := by
  intro q v s hmaster hkind hregion hpermitted haligned hpoison huncorr hcollide
  refine ⟨atomicWord q .exch s, congrArg _ (feedAtomic_exch hmaster hkind hregion hpermitted haligned), ?_⟩
  rw [atomicWord_collides hpoison huncorr hcollide]
  refine ⟨rfl, rfl, fun a => ?_⟩
  rw [memByte_modFeed rfl rfl, memByte_memFault, memByte_vellumCount, memByte_respond, portZero_noteCollision]
  exact memByte_modFeed rfl rfl a

/-! ### The Cartridge -/

/-- Settles O27: of what a read of a Cartridge can do, the case of no word. -/
theorem emptyCartridgeRead : Obligations.EmptyCartridgeRead := by
  intro n single bad s hpresent hempty
  have hread : cartRead n single bad s = modCart n (fun c => { c with out := {} }) s := by
    simp only [cartRead, hpresent, hempty, not_true, if_false]
  exact congrArg _ hread

end Sys2Proof.Machine

/-! The transfers of the HSPI target (R658 to R661). -/

namespace Sys2Proof.Machine

section
variable {s : State} (hup : s.host.hspiUp = true)
include hup

/-- A well-formed WRITE is taken into the free buffer (R659). -/
theorem hspiWrite_taken {a : Nat} {b : Bytes} (hfree : s.host.hspiBuf = none) (hok : hspiOk a b.length = true) :
    hspiWrite a b s = modHost (fun h => { h with hspiBuf := some (a, b) }) s := by
  simp only [hspiWrite, hup, hfree, hok, Option.isSome_none, not_true, Bool.false_eq_true, if_false]

/-- A WRITE while the buffer is busy sets bit 1 of HOST_ERR (R661). -/
theorem hspiWrite_busy {a : Nat} {b : Bytes} (hbusy : s.host.hspiBuf.isSome = true) : hspiWrite a b s = setHostErr 1 s := by
  simp only [hspiWrite, hup, hbusy, not_true, if_false, if_true]

/-- A malformed WRITE sets bit 3 of HOST_ERR (R659). -/
theorem hspiWrite_malformed {a : Nat} {b : Bytes} (hfree : s.host.hspiBuf = none) (hbad : hspiOk a b.length = false) :
    hspiWrite a b s = setHostErr 3 s := by
  simp only [hspiWrite, hup, hfree, hbad, Option.isSome_none, not_true, Bool.false_eq_true, not_false_iff, if_false, if_true]

/-- An aligned READ in time drives the data of its units (R660). -/
theorem hspiRead_served {a n : Nat} (haligned : a % 4 = 0) :
    hspiRead a n true s = hspiDrive ((hspiUnits 129 a n (hspiCommit s)).1.take n) (hspiUnits 129 a n (hspiCommit s)).2 := by
  simp only [hspiRead, hup, haligned, ne_eq, not_true, if_false]

/-- An aligned READ that is late drives nothing and sets bit 2 of HOST_ERR (R660; the judgement of its first unit is log 71). -/
theorem hspiRead_late {a n : Nat} (haligned : a % 4 = 0) : hspiRead a n false s = hspiDrive [] (setHostErr 2 (hspiCommit s)) := by
  simp only [hspiRead, hup, haligned, ne_eq, not_true, Bool.false_eq_true, not_false_iff, if_false, if_true]

/-- A misaligned READ drives nothing and sets bit 3 of HOST_ERR (R659). -/
theorem hspiRead_misaligned {a n : Nat} (onTime : Bool) (haligned : a % 4 ≠ 0) :
    hspiRead a n onTime s = hspiDrive [] (setHostErr 3 (hspiCommit s)) := by
  simp only [hspiRead, hup, haligned, ne_eq, not_true, not_false_iff, if_false, if_true]

/-- STATUS drives WR_BUSY, ERR and SERVING (R658). -/
theorem hspiStatus_driven :
    hspiStatus s = hspiDrive (le 1 (b2n s.host.hspiBuf.isSome + 2 * b2n (s.host.hostErr ≠ 0) + 4 * b2n s.boot.inkBasic)) s := by
  simp only [hspiStatus, hup, not_true, if_false]

end

/-- The commit carries out the transfer that waits in the buffer (R661). -/
theorem hspiCommit_stores {a : Nat} {b : Bytes} {s : State} (hbuf : s.host.hspiBuf = some (a, b)) :
    hspiCommit s = hspiStore a b (modHost (fun h => { h with hspiBuf := none }) s) := by
  simp only [hspiCommit, hbuf]

/-- Settles O33: each transfer is the case of its operation that its premises select. -/
theorem hspiTransfersComplete : Obligations.HspiTransfersComplete := by
  refine ⟨?taken, ?busy, ?malformed, ?commit, ?served, ?late, ?misaligned, ?status, ?unknown⟩
  case taken => exact fun a b s hup hfree hok => congrArg Host.Outcome.next (hspiWrite_taken hup hfree hok)
  case busy => exact fun a b s hup hbusy => congrArg Host.Outcome.next (hspiWrite_busy hup hbusy)
  case malformed => exact fun a b s hup hfree hbad => congrArg Host.Outcome.next (hspiWrite_malformed hup hfree hbad)
  case commit => exact fun a b s hbuf => congrArg Host.Outcome.next (hspiCommit_stores hbuf)
  case served => exact fun a n s hup haligned => congrArg Host.Outcome.next (hspiRead_served hup haligned)
  case late => exact fun a n s hup haligned => congrArg Host.Outcome.next (hspiRead_late hup haligned)
  case misaligned => exact fun a n onTime s hup haligned => congrArg Host.Outcome.next (hspiRead_misaligned hup onTime haligned)
  case status => exact fun s hup => congrArg Host.Outcome.next (hspiStatus_driven hup)
  case unknown => exact fun s hup => congrArg Host.Outcome.next (if_pos hup)

end Sys2Proof.Machine

/-! The frames of the twin link (R476, R480 to R486, R489, R497, R500). -/

namespace Sys2Proof.Machine

/-! ### Which frames are taken -/

/-- A frame of the pair acts on the state in which it has been counted (R480). -/
theorem withFrame_of_frameIn {h : TwinHead} {f : State → State} {s : State} (hin : FrameIn h s) : withFrame h f s = f (frameCounted s) := by
  obtain ⟨hpartner, hok⟩ := hin
  simp only [withFrame, hpartner, hok, not_true, if_false]
  rfl

/-- A frame that is not the pair's counts a link error (R480). -/
theorem withFrame_of_bad {h : TwinHead} {f : State → State} {s : State} (hpartner : isPartner s = true) (hbad : frameOk h s = false) :
    withFrame h f s = modTwin (fun w => { w with linkErr := w.linkErr + 1 }) s := by
  simp only [withFrame, hpartner, hbad, not_true, Bool.false_eq_true, not_false_iff, if_false, if_true]

/-- A frame of the pair acts while the link is up (R481). -/
theorem withLink_of_frameIn {h : TwinHead} {f : State → State} {s : State} (hin : FrameIn h s) (hlink : s.twin.linkUp = true) :
    withLink h f s = f (frameCounted s) :=
  (withFrame_of_frameIn hin).trans (if_pos hlink)

/-- Without a handover there is none to drop. -/
theorem dropHandover_of_none {s : State} (h : s.twin.handover = none) : dropHandover s = s := by
  simp only [dropHandover, h]

/-! ### What a frame does, once it is counted -/

/-- HELLO on a link that is up is judged (R476, R481). -/
theorem twinHelloRx_linked {h : TwinHead} {nonce : Nat} {peer : TwinPeer} {s : State} (hin : FrameIn h s) (hlink : s.twin.linkUp = true) :
    twinHelloRx h nonce peer s =
      judgePair (modTwin (fun w => { w with linkUp := true, silent := 0, nonce := nonce, hello := some peer }) (frameCounted s)) :=
  (withFrame_of_frameIn hin).trans (congrArg judgePair (if_pos hlink))

/-- A FAULTED unit without a handover keeps what STATUS says of its partner, and judges gates, claims and digests (R485, R496, R498). -/
theorem statusRx_faulted {f : TwinStatus} {s : State} (hin : FrameIn f.head s) (hlink : s.twin.linkUp = true) (hstate : s.twin.state = 4)
    (hnone : s.twin.handover = none) :
    statusRx f s = compareDigest f.period f.digest (bit f.flags 0) (unitsMeet f (claimGate f
      (modTwin (fun w => { w with heard := true, pState := f.state, partnerClaim := f.claim, pFlags := f.flags, partnerIp := f.ip, pGm := f.gm,
                                  pHeld := f.held, sole := w.sole && !(f.state = 2), snapSent := if f.state = 3 then w.snapSent else none })
        (frameCounted s)))) := by
  have hfaulted : (frameCounted s).twin.state = 4 := hstate
  have hfree : (frameCounted s).twin.handover = none := hnone
  rw [statusRx, withLink_of_frameIn hin hlink]
  simp [hfaulted, hfree]

/-- A WARM shadow replays the next entry of the journal in time, and acknowledges it (R483). -/
theorem journalRx_next {e : TwinEntry} {s : State} (hin : FrameIn e.head s) (hlink : s.twin.linkUp = true) (hstate : s.twin.state = 2)
    (hnext : e.jsn = s.twin.jsn + 1) (htime : s.stem.ssi + 16 ≤ e.applySsi) :
    journalRx e s = sendAck e.jsn (modTwin (fun w => { w with jsn := e.jsn }) (replay e (frameCounted s))) := by
  have hwarm : (frameCounted s).twin.state = 2 := hstate
  have hjsn : (frameCounted s).twin.jsn = s.twin.jsn := rfl
  have hssi : (frameCounted s).stem = s.stem := rfl
  rw [journalRx, withLink_of_frameIn hin hlink]
  dsimp only
  rw [if_neg (by simp [hwarm]), if_neg (by omega), if_neg (by omega), if_neg (by rw [hssi]; omega)]

/-- A gap in the journal makes a WARM shadow COLD (R483). -/
theorem journalRx_gap {e : TwinEntry} {s : State} (hin : FrameIn e.head s) (hlink : s.twin.linkUp = true) (hstate : s.twin.state = 2)
    (hgap : s.twin.jsn + 1 < e.jsn) : journalRx e s = becomeCold (frameCounted s) := by
  have hwarm : (frameCounted s).twin.state = 2 := hstate
  have hjsn : (frameCounted s).twin.jsn = s.twin.jsn := rfl
  rw [journalRx, withLink_of_frameIn hin hlink]
  dsimp only
  rw [if_neg (by simp [hwarm]), if_neg (by omega), if_pos (by omega)]

/-- GIVEUP gives a WARM shadow without a handover the claim from STOP_SSI on (R489). -/
theorem giveUpRx_warm {h : TwinHead} {stop : Nat} {s : State} (hin : FrameIn h s) (hlink : s.twin.linkUp = true) (hstate : s.twin.state = 2)
    (hnone : s.twin.handover = none) :
    giveUpRx h stop s =
      modTwin (fun w => { w with claim := w.cfg.claim, openAt := some stop, closeAt := none, serifAt := some (stop, true),
                                 actAt := some { at_ := nextBoundary s, state := 1, kind := 0, stop := stop } }) (frameCounted s) := by
  have hwarm : (frameCounted s).twin.state = 2 := hstate
  have hfree : (frameCounted s).twin.handover = none := hnone
  rw [giveUpRx, withLink_of_frameIn hin hlink, if_neg (by simp [hwarm]), dropHandover_of_none hfree]
  rfl

/-- HANDOVER arms the handover of a WARM shadow that has none (R497). -/
theorem handoverRx_warm {h : TwinHead} {point claim : Nat} {s : State} (hin : FrameIn h s) (hlink : s.twin.linkUp = true) (hstate : s.twin.state = 2)
    (hnone : s.twin.handover = none) :
    handoverRx h point claim s =
      modTwin (fun w => { w with handover := some { point := point, newClaim := claim, cmd := none, incoming := true } }) (frameCounted s) := by
  have hwarm : (frameCounted s).twin.state = 2 := hstate
  have hfree : (frameCounted s).twin.handover.isSome = false := congrArg Option.isSome hnone
  rw [handoverRx, withLink_of_frameIn hin hlink, if_neg (by simp [hfree]), if_pos hwarm]

/-- CHECK without a result has a WARM shadow check itself (R486). -/
theorem checkRx_begins {h : TwinHead} {period : Nat} {s : State} (hin : FrameIn h s) (hlink : s.twin.linkUp = true) (hstate : s.twin.state = 2) :
    checkRx h period 0 s = startCheck period (frameCounted s) := by
  have hwarm : (frameCounted s).twin.state = 2 := hstate
  rw [checkRx, withLink_of_frameIn hin hlink, if_neg (by simp [hwarm])]
  dsimp only
  split
  · exact if_pos rfl
  · rfl

/-- The first frame of a snapshot that more frames follow is kept (R500). -/
theorem snapRx_first {h : TwinHead} {at_ total : Nat} {data : Bytes} {s : State} (hin : FrameIn h s) (hlink : s.twin.linkUp = true)
    (hstate : s.twin.state = 3) (hasked : s.twin.snapReq = true) (hnone : s.twin.snap = none) (hmore : data.length < total) :
    snapRx h at_ 0 total data false s = modTwin (fun w => { w with snap := some (at_, data) }) (frameCounted s) := by
  have hcold : (frameCounted s).twin.state = 3 := hstate
  have hwanted : (frameCounted s).twin.snapReq = true := hasked
  have hfirst : (frameCounted s).twin.snap = none := hnone
  rw [snapRx, withLink_of_frameIn hin hlink]
  simp [hcold, hwanted, hfirst, hmore]

/-- Once the snapshot is loaded, a frame carries signal state (R500). -/
theorem snapRx_signals {h : TwinHead} {at_ total : Nat} {data : Bytes} {s : State} (hin : FrameIn h s) (hlink : s.twin.linkUp = true)
    (hstate : s.twin.state = 3) (hloaded : s.twin.snapReq = false) (hnone : s.twin.snap = none) :
    snapRx h at_ 0 total data false s = takeSignals (Config.signalsOf data) (frameCounted s) := by
  have hcold : (frameCounted s).twin.state = 3 := hstate
  have hdone : (frameCounted s).twin.snapReq = false := hloaded
  have hfirst : (frameCounted s).twin.snap = none := hnone
  rw [snapRx, withLink_of_frameIn hin hlink]
  simp [hcold, hdone, hfirst]

/-- The end of this unit's own check is sent and judged (R486). -/
theorem checkDone_judged {passed : Bool} {c : TwinCheck} {s : State} (hcheck : s.twin.check = some c) (hopen : c.own = none) :
    checkDone passed s =
      judgeCheck (twinSend 7 (le 8 c.period ++ le 1 (if passed then 1 else 2))
        (modTwin (fun w => { w with check := some { c with own := some (if passed then 1 else 2) } }) s)) := by
  simp only [checkDone, hcheck]
  exact if_neg (by simp [hopen])

/-- Settles O54: a frame of the pair is counted and then acts by the case of its type; one that is not the pair's counts an error. -/
theorem twinFramesComplete : Obligations.TwinFramesComplete := by
  refine ⟨?hello, ?bad, ?status, ?next, ?gap, ?ack, ?giveUp, ?handover, ?check, ?snapFirst, ?signals, ?checkDone, ?resend⟩
  case hello => exact fun h nonce peer s hin hlink => congrArg Host.Outcome.next (twinHelloRx_linked hin hlink)
  case bad => exact fun h nonce peer s hpartner hbad => congrArg Host.Outcome.next (withFrame_of_bad hpartner hbad)
  case status => exact fun f s hin hlink hstate hnone => congrArg Host.Outcome.next (statusRx_faulted hin hlink hstate hnone)
  case next => exact fun e s hin hlink hstate hnext htime => congrArg Host.Outcome.next (journalRx_next hin hlink hstate hnext htime)
  case gap => exact fun e s hin hlink hstate hgap => congrArg Host.Outcome.next (journalRx_gap hin hlink hstate hgap)
  case ack => exact fun h jsn s hin hlink => congrArg Host.Outcome.next (withLink_of_frameIn hin hlink)
  case giveUp => exact fun h cause stop s hin hlink hstate hnone => congrArg Host.Outcome.next (giveUpRx_warm hin hlink hstate hnone)
  case handover => exact fun h point claim s hin hlink hstate hnone => congrArg Host.Outcome.next (handoverRx_warm hin hlink hstate hnone)
  case check =>
    rintro h period _ s hin hlink hstate rfl
    exact congrArg Host.Outcome.next (checkRx_begins hin hlink hstate)
  case snapFirst =>
    exact fun h at_ total data s hin hlink hstate hasked hnone hmore =>
      congrArg Host.Outcome.next (snapRx_first hin hlink hstate hasked hnone hmore)
  case signals =>
    exact fun h at_ total data s hin hlink hstate hloaded hnone => congrArg Host.Outcome.next (snapRx_signals hin hlink hstate hloaded hnone)
  case checkDone => exact fun passed c s hcheck hopen => congrArg Host.Outcome.next (checkDone_judged hcheck hopen)
  case resend => exact fun s hpartner hstate hlink => congrArg Host.Outcome.next (if_pos ⟨hpartner, hstate, hlink⟩)

end Sys2Proof.Machine

/-! The give-up, the handover and the formation of a pair (R476, R478, R481, R487 to R493, R497). -/

namespace Sys2Proof.Machine

/-- A cause of giving up puts a shadow OUT (R490). -/
theorem giveUpCause_shadow {cause ns : Nat} {s : State} (hpartner : isPartner s = true) (hshadow : s.twin.state = 2 ∨ s.twin.state = 3) :
    giveUpCause cause ns s =
      twinState 4 cause (dropHandover (modTwin (fun w => { w with cause := cause, causeMs := s.stem.ms, causeMark := s.rt.passes }) s)) := by
  simp only [giveUpCause, hpartner]
  rw [if_neg (by simp; omega), if_neg (by omega), if_neg (by omega)]

/-- A cause of giving up makes an ACTIVE unit that holds the claim give its work to a WARM partner (R488). -/
theorem giveUpCause_active {cause ns : Nat} {s : State} (hpartner : isPartner s = true) (hactive : s.twin.state = 1) (hclaim : s.twin.claim ≠ 0)
    (hwarm : partnerWarm s = true) :
    giveUpCause cause ns s =
      giveUp cause (stopSsiAt s ns) (modTwin (fun w => { w with cause := cause, causeMs := s.stem.ms, causeMark := s.rt.passes }) s) := by
  simp only [giveUpCause, hpartner]
  rw [if_neg (by simp; omega), if_pos hactive, if_neg hclaim, if_pos hwarm]

section
variable {h : Handover} {s : State} (harmed : s.twin.handover = some h)
include harmed

/-- At its point an untimed handover opens the incoming unit's gates under the new claim (R497). -/
theorem handoverPoint_incoming (hnew : h.began = false) (hdue : h.point ≤ s.stem.ssi) (huntimed : h.timed = false) (hincoming : h.incoming = true) :
    (handoverPoint s).twin = { s.twin with claim := h.newClaim, openAt := some h.point, closeAt := none, serifAt := some (h.point, true),
                                           handover := some { h with began := true } } := by
  simp only [handoverPoint, harmed]
  rw [if_neg (by simp [hnew, hdue]), if_neg (by simp [huntimed]), if_pos hincoming]
  rfl

/-- At its point an untimed handover has the outgoing unit's gates close 8 samples on (R497). -/
theorem handoverPoint_outgoing (hnew : h.began = false) (hdue : h.point ≤ s.stem.ssi) (huntimed : h.timed = false) (houtgoing : h.incoming = false) :
    (handoverPoint s).twin = { s.twin with closeAt := some (h.point + 8), serifAt := some (h.point, false),
                                           handover := some { h with began := true } } := by
  simp only [handoverPoint, harmed]
  rw [if_neg (by simp [hnew, hdue]), if_neg (by simp [huntimed]), if_neg (by simp [houtgoing])]
  rfl

/-- Eight samples after its point a handover makes the incoming unit ACTIVE (R497). -/
theorem handoverEnd_incoming (hbegan : h.began = true) (hover : h.point + 8 ≤ s.stem.ssi) (hincoming : h.incoming = true) :
    handoverEnd s = takeClaim 2 h.newClaim h.point (modTwin (fun w => { w with pState := 2 }) s) := by
  simp only [handoverEnd, harmed]
  rw [if_neg (by simp [hbegan, hover]), if_pos hincoming]

/-- And the outgoing unit its WARM shadow (R497). -/
theorem handoverEnd_outgoing (hbegan : h.began = true) (hover : h.point + 8 ≤ s.stem.ssi) (houtgoing : h.incoming = false) :
    handoverEnd s = becomeShadow 2 0 (modTwin (fun w => { w with handover := none, handovers := w.handovers + 1, pState := 1 }) s) := by
  simp only [handoverEnd, harmed]
  rw [if_neg (by simp [hbegan, hover]), if_neg (by simp [houtgoing])]

end

/-- A WARM shadow whose link goes down is COLD (R481). -/
theorem twinLinkDown_warm {s : State} (hpartner : isPartner s = true) (hlink : s.twin.linkUp = true) (hsilent : 2 ≤ s.twin.silent)
    (hwarm : s.twin.state = 2) :
    twinLinkDown s = becomeCold (raise 0x0B05 (le 1 0 ++ le 1 0)
      (modTwin (fun w => { w with linkUp := false, heard := false, helloOk := false, unacked := [], snapSent := none }) s)) := by
  simp only [twinLinkDown]
  rw [if_neg (by simp [hpartner, hlink]; omega), if_pos hwarm]

/-- The wait for forming has ended for a unit that is still forming (R478). -/
abbrev FormWaitOver (s : State) : Prop :=
  isPartner s = true ∧ s.twin.forming = true ∧ s.twin.state = 3 ∧ s.twin.formMs + 100 * s.twin.cfg.wait ≤ s.stem.ms

/-- The wait for forming has not passed for nothing: the expiry acts. -/
theorem formWait_acts {s : State} (hover : FormWaitOver s) :
    ¬ (¬ isPartner s = true ∨ ¬ s.twin.forming = true ∨ s.twin.state ≠ 3 ∨ s.stem.ms < s.twin.formMs + 100 * s.twin.cfg.wait) := by
  obtain ⟨hpartner, hforming, hcold, htime⟩ := hover
  simp [hpartner, hforming, hcold, htime]

/-- A unit that has heard no partner on either channel takes the claim as the sole one (R478). -/
theorem formWaitExpiry_alone {s : State} (hover : FormWaitOver s) (hheard : s.twin.heard = false) (hlink : s.twin.linkUp = false)
    (hclaimIn : s.twin.claimInOk = false) :
    formWaitExpiry s = modTwin (fun w => { w with forming := false, actAt := some { at_ := nextBoundary s, state := 1, kind := 4 } }) s := by
  simp only [formWaitExpiry]
  rw [if_neg (formWait_acts hover), if_pos (by simp [hheard, hlink]), if_neg (by simp [hclaimIn])]

/-- A unit that is linked to an ACTIVE partner asks for a snapshot (R478, R500). -/
theorem formWaitExpiry_partnerActive {s : State} (hover : FormWaitOver s) (hlink : s.twin.linkUp = true) (hactive : s.twin.pState = 1) :
    formWaitExpiry s = modTwin (fun w => { w with forming := false, snapReq := true }) s := by
  simp only [formWaitExpiry]
  rw [if_neg (formWait_acts hover), if_neg (by simp [hlink]), if_pos hactive]

/-- Settles O55: each cause, point and timer is the case of its operation that its premises select. -/
theorem twinTimersComplete : Obligations.TwinTimersComplete := by
  refine ⟨?shadow, ?active, ?incoming, ?outgoing, ?endIncoming, ?endOutgoing, ?linkDown, ?death, ?alone, ?partner, ?retry, ?cleared⟩
  case shadow =>
    exact fun cause ns s hcause hpartner hshadow =>
      congrArg Host.Outcome.next ((if_pos hcause).trans (giveUpCause_shadow hpartner hshadow))
  case active =>
    exact fun cause ns s hcause hpartner hactive hclaim hwarm =>
      congrArg Host.Outcome.next ((if_pos hcause).trans (giveUpCause_active hpartner hactive hclaim hwarm))
  case incoming =>
    intro h s harmed hnew hdue huntimed hincoming
    refine ⟨handoverPoint s, rfl, ?_⟩
    rw [handoverPoint_incoming harmed hnew hdue huntimed hincoming]
    exact ⟨rfl, rfl, rfl, rfl⟩
  case outgoing =>
    intro h s harmed hnew hdue huntimed houtgoing
    refine ⟨handoverPoint s, rfl, ?_⟩
    rw [handoverPoint_outgoing harmed hnew hdue huntimed houtgoing]
    exact ⟨rfl, rfl, rfl, rfl⟩
  case endIncoming =>
    exact fun h s harmed hbegan hover hincoming => congrArg Host.Outcome.next (handoverEnd_incoming harmed hbegan hover hincoming)
  case endOutgoing =>
    exact fun h s harmed hbegan hover houtgoing => congrArg Host.Outcome.next (handoverEnd_outgoing harmed hbegan hover houtgoing)
  case linkDown => exact fun s hpartner hlink hsilent hwarm => congrArg Host.Outcome.next (twinLinkDown_warm hpartner hlink hsilent hwarm)
  case death =>
    exact fun s hpartner hshadow hactive hsilent hnoEdge hboundary =>
      congrArg Host.Outcome.next (if_pos ⟨hpartner, hshadow, hactive, hsilent, hnoEdge, hboundary⟩)
  case alone =>
    exact fun s hpartner hforming hcold htime hheard hlink hclaimIn =>
      congrArg Host.Outcome.next (formWaitExpiry_alone ⟨hpartner, hforming, hcold, htime⟩ hheard hlink hclaimIn)
  case partner =>
    exact fun s hpartner hforming hcold htime hlink hactive =>
      congrArg Host.Outcome.next (formWaitExpiry_partnerActive ⟨hpartner, hforming, hcold, htime⟩ hlink hactive)
  case retry =>
    exact fun s hpartner hcause hlink htime => congrArg Host.Outcome.next (if_pos ⟨hpartner, hcause, hlink, htime⟩)
  case cleared => exact fun s hpartner hfaulted hcleared => congrArg Host.Outcome.next (if_pos ⟨hpartner, hfaulted, hcleared⟩)

end Sys2Proof.Machine
